-- ==== Sys2Proof/Word.lean ====
section
/-! DEFINITION. The word types of the E128's host interface and their plainest operations. -/

namespace Sys2Proof

/-- A 32-bit parameter or result word of a command packet (R447, R452). -/
abbrev Word := BitVec 32

/-- One byte of host memory, DRAM or flash. -/
abbrev Byte := BitVec 8

/-- The field [hi:lo] of a word as a number, bit 0 least significant (R8). -/
def Word.field (w : Word) (hi lo : Nat) : Nat := (w.toNat / 2 ^ lo) % 2 ^ (hi + 1 - lo)

/-- One bit of a word. -/
def Word.bit (w : Word) (n : Nat) : Bool := w.getLsbD n

/-- Low and high word of a 64-bit result, low word first. -/
def Word.ofNat64 (n : Nat) : List Word := [BitVec.ofNat 32 n, BitVec.ofNat 32 (n / 2 ^ 32)]

end Sys2Proof
end

