-- ==== Sys2Proof/Syntax.lean ====
section
/-! DEFINITION. The commands of the opcode table and their operands. -/

namespace Sys2Proof

/-- A command packet as the host places it on a submission ring (R447), with its parameter words. -/
structure Cmd where
  ring : Nat
  fence : Bool
  envelope : Bool
  tag : Nat
  level : Nat
  dev : Nat
  tile : Nat
  lane : Nat
  commit : Nat
  arg : Nat
  words : List Word
deriving DecidableEq, Repr

/-- The four test codes of a converter in one guard, in conversion order (R176); a converter not named gave the exact levels. -/
structure LaneTest where
  tile : Nat
  lane : Nat
  codes : List Nat
deriving DecidableEq, Repr

/-- What a converter delivered in one readout: its codes in readout order, the eight conversions of the blank clamp (R171),
    and whether its FIFO reported an overflow or a sequence gap (R177). -/
structure LaneVideo where
  tile : Nat
  lane : Nat
  codes : List Nat
  blank : List Nat
  fifoFault : Bool
deriving DecidableEq, Repr

/-- A threshold crossing at a timing input (R88). -/
structure EdgeObs where
  input : Nat
  rising : Bool
  n : Nat
  f : Nat
  c1 : Nat
  c2 : Nat
deriving DecidableEq, Repr

/-- One encoder's sample: the converted tracks, and the comparators, or the digital tracks A and B (R68, R69). -/
structure EncSample where
  enc : Nat
  sin : Int
  cos : Int
  a : Bool
  b : Bool
deriving DecidableEq, Repr

/-- What an uncorrectable or corrected on-die error stood in (R26). -/
inductive EccKind where
  | corrected | imageWord | shadowWord | committedWord
deriving DecidableEq, Repr


/-- The commands and events of the E128, one constructor for each row of the table, in the table's order. The first operand
    of each is the instant at which it comes about (log entry 1). -/
inductive Instr where
  | sysNop (t : Nat) (c : Cmd)  -- SYS_NOP R453
  | sysInfo (t : Nat) (c : Cmd)  -- SYS_INFO R440
  | sysSet (t : Nat) (c : Cmd)  -- SYS_SET R471
  | evtRoute (t : Nat) (c : Cmd)  -- EVT_ROUTE R460
  | evtRead (t : Nat) (c : Cmd)  -- EVT_READ R460
  | sysStatus (t : Nat) (c : Cmd)  -- SYS_STATUS R442
  | sysCoreReset (t : Nat) (c : Cmd)  -- SYS_CORE_RESET R465
  | sysCountersClear (t : Nat) (c : Cmd)  -- SYS_COUNTERS_CLEAR R472
  | seqSet (t : Nat) (c : Cmd)  -- SEQ_SET R64
  | seqStatus (t : Nat) (c : Cmd)  -- SEQ_STATUS R65
  | seqBudget (t : Nat) (c : Cmd)  -- SEQ_BUDGET R42
  | groupBegin (t : Nat) (c : Cmd)  -- GROUP_BEGIN R60
  | groupEnd (t : Nat) (c : Cmd)  -- GROUP_END R61
  | seqCountersClear (t : Nat) (c : Cmd)  -- SEQ_COUNTERS_CLEAR R65
  | senGenSet (t : Nat) (c : Cmd)  -- SEN_GEN_SET R155
  | senWaveLoad (t : Nat) (c : Cmd)  -- SEN_WAVE_LOAD R157
  | senLaneSet (t : Nat) (c : Cmd)  -- SEN_LANE_SET R163
  | senGainSet (t : Nat) (c : Cmd)  -- SEN_GAIN_SET R166
  | senSubstLoad (t : Nat) (c : Cmd)  -- SEN_SUBST_LOAD R175
  | senLaneRestore (t : Nat) (c : Cmd)  -- SEN_LANE_RESTORE R182
  | senSpareForce (t : Nat) (c : Cmd)  -- SEN_SPARE_FORCE R16
  | senStatus (t : Nat) (c : Cmd)  -- SEN_STATUS R178
  | senSnapshot (t : Nat) (c : Cmd)  -- SEN_SNAPSHOT R176
  | senTrimRun (t : Nat) (c : Cmd)  -- SEN_TRIM_RUN R183
  | senCountersClear (t : Nat) (c : Cmd)  -- SEN_COUNTERS_CLEAR R185
  | corSet (t : Nat) (c : Cmd)  -- COR_SET R227
  | corSetLoad (t : Nat) (c : Cmd)  -- COR_SET_LOAD R203
  | corSetSwap (t : Nat) (c : Cmd)  -- COR_SET_SWAP R205
  | corSetCheck (t : Nat) (c : Cmd)  -- COR_SET_CHECK R204
  | corSetStore (t : Nat) (c : Cmd)  -- COR_SET_STORE R213
  | corSetRestore (t : Nat) (c : Cmd)  -- COR_SET_RESTORE R213
  | corCalRun (t : Nat) (c : Cmd)  -- COR_CAL_RUN R214
  | corCalAbort (t : Nat) (c : Cmd)  -- COR_CAL_ABORT R216
  | corCalStatus (t : Nat) (c : Cmd)  -- COR_CAL_STATUS R225
  | corStatus (t : Nat) (c : Cmd)  -- COR_STATUS R227
  | corCountersClear (t : Nat) (c : Cmd)  -- COR_COUNTERS_CLEAR R228
  | runOpen (t : Nat) (c : Cmd)  -- RUN_OPEN R267
  | runClose (t : Nat) (c : Cmd)  -- RUN_CLOSE R268
  | jobArm (t : Nat) (c : Cmd)  -- JOB_ARM R251
  | jobDisarm (t : Nat) (c : Cmd)  -- JOB_DISARM R258
  | capSet (t : Nat) (c : Cmd)  -- CAP_SET R233
  | capStatus (t : Nat) (c : Cmd)  -- CAP_STATUS R269
  | capCovRead (t : Nat) (c : Cmd)  -- CAP_COV_READ R260
  | capCountersClear (t : Nat) (c : Cmd)  -- CAP_COUNTERS_CLEAR R270
  | cmpSet (t : Nat) (c : Cmd)  -- CMP_SET R318
  | cmpRefCheck (t : Nat) (c : Cmd)  -- CMP_REF_CHECK R284
  | cmpHatchLoad (t : Nat) (c : Cmd)  -- CMP_HATCH_LOAD R301
  | cmpStatus (t : Nat) (c : Cmd)  -- CMP_STATUS R318
  | cmpCountersClear (t : Nat) (c : Cmd)  -- CMP_COUNTERS_CLEAR R319
  | queueSetup (t : Nat) (c : Cmd)  -- QUEUE_SETUP R325
  | queueDisable (t : Nat) (c : Cmd)  -- QUEUE_DISABLE R349
  | queueFlush (t : Nat) (c : Cmd)  -- QUEUE_FLUSH R348
  | queueStatus (t : Nat) (c : Cmd)  -- QUEUE_STATUS R324
  | streamSet (t : Nat) (c : Cmd)  -- STREAM_SET R340
  | hqSet (t : Nat) (c : Cmd)  -- HQ_SET R345
  | arenaSet (t : Nat) (c : Cmd)  -- ARENA_SET R355
  | arenaStatus (t : Nat) (c : Cmd)  -- ARENA_STATUS R354
  | histReplay (t : Nat) (c : Cmd)  -- HIST_REPLAY R362
  | histRelease (t : Nat) (c : Cmd)  -- HIST_RELEASE R366
  | bar2Map (t : Nat) (c : Cmd)  -- BAR2_MAP R368
  | hqCountersClear (t : Nat) (c : Cmd)  -- HQ_COUNTERS_CLEAR R371
  | lmpBarSet (t : Nat) (c : Cmd)  -- LMP_BAR_SET R109
  | lmpPhaseSet (t : Nat) (c : Cmd)  -- LMP_PHASE_SET R113
  | lmpPatternLoad (t : Nat) (c : Cmd)  -- LMP_PATTERN_LOAD R130
  | lmpPatternApply (t : Nat) (c : Cmd)  -- LMP_PATTERN_APPLY R131
  | lmpPatternRead (t : Nat) (c : Cmd)  -- LMP_PATTERN_READ R130
  | lmpDiagRun (t : Nat) (c : Cmd)  -- LMP_DIAG_RUN R142
  | lmpFaults (t : Nat) (c : Cmd)  -- LMP_FAULTS R139
  | lmpFaultClear (t : Nat) (c : Cmd)  -- LMP_FAULT_CLEAR R138
  | lmpStatus (t : Nat) (c : Cmd)  -- LMP_STATUS R151
  | lmpCountersClear (t : Nat) (c : Cmd)  -- LMP_COUNTERS_CLEAR R152
  | motAxisSet (t : Nat) (c : Cmd)  -- MOT_AXIS_SET R401
  | motProfileSet (t : Nat) (c : Cmd)  -- MOT_PROFILE_SET R381
  | motMove (t : Nat) (c : Cmd)  -- MOT_MOVE R382
  | motJog (t : Nat) (c : Cmd)  -- MOT_JOG R384
  | motStop (t : Nat) (c : Cmd)  -- MOT_STOP R384
  | motGear (t : Nat) (c : Cmd)  -- MOT_GEAR R386
  | motHome (t : Nat) (c : Cmd)  -- MOT_HOME R392
  | motAck (t : Nat) (c : Cmd)  -- MOT_ACK R390
  | motPosSet (t : Nat) (c : Cmd)  -- MOT_POS_SET R375
  | motPaceSet (t : Nat) (c : Cmd)  -- MOT_PACE_SET R393
  | motStatus (t : Nat) (c : Cmd)  -- MOT_STATUS R401
  | motCountersClear (t : Nat) (c : Cmd)  -- MOT_COUNTERS_CLEAR R402
  | posSet (t : Nat) (c : Cmd)  -- POS_SET R67
  | posStatus (t : Nat) (c : Cmd)  -- POS_STATUS R106
  | tdcInputSet (t : Nat) (c : Cmd)  -- TDC_INPUT_SET R89
  | tdcChannelSet (t : Nat) (c : Cmd)  -- TDC_CHANNEL_SET R93
  | tdcArm (t : Nat) (c : Cmd)  -- TDC_ARM R96
  | timeSet (t : Nat) (c : Cmd)  -- TIME_SET R99
  | timeStatus (t : Nat) (c : Cmd)  -- TIME_STATUS R100
  | posCountersClear (t : Nat) (c : Cmd)  -- POS_COUNTERS_CLEAR R107
  | auxSet (t : Nat) (c : Cmd)  -- AUX_SET R409
  | auxChSet (t : Nat) (c : Cmd)  -- AUX_CH_SET R408
  | auxLinLoad (t : Nat) (c : Cmd)  -- AUX_LIN_LOAD R415
  | auxInject (t : Nat) (c : Cmd)  -- AUX_INJECT R419
  | auxCal (t : Nat) (c : Cmd)  -- AUX_CAL R417
  | auxLoopCfg (t : Nat) (c : Cmd)  -- AUX_LOOP_CFG R424
  | auxStatus (t : Nat) (c : Cmd)  -- AUX_STATUS R427
  | auxCountersClear (t : Nat) (c : Cmd)  -- AUX_COUNTERS_CLEAR R428
  | secIdentity (t : Nat) (c : Cmd)  -- SEC_IDENTITY R481
  | secCertRead (t : Nat) (c : Cmd)  -- SEC_CERT_READ R488
  | secRoleKey (t : Nat) (c : Cmd)  -- SEC_ROLE_KEY R477
  | secRmk (t : Nat) (c : Cmd)  -- SEC_RMK R483
  | secPolicySet (t : Nat) (c : Cmd)  -- SEC_POLICY_SET R480
  | secAuditRead (t : Nat) (c : Cmd)  -- SEC_AUDIT_READ R494
  | secAuditSign (t : Nat) (c : Cmd)  -- SEC_AUDIT_SIGN R494
  | secMapSign (t : Nat) (c : Cmd)  -- SEC_MAP_SIGN R489
  | secFwWrite (t : Nat) (c : Cmd)  -- SEC_FW_WRITE R498
  | secFwVerify (t : Nat) (c : Cmd)  -- SEC_FW_VERIFY R497
  | secFwActivate (t : Nat) (c : Cmd)  -- SEC_FW_ACTIVATE R498
  | secSvnCommit (t : Nat) (c : Cmd)  -- SEC_SVN_COMMIT R498
  | secSelftest (t : Nat) (c : Cmd)  -- SEC_SELFTEST R503
  | secZeroise (t : Nat) (c : Cmd)  -- SEC_ZEROISE R504
  | secDebug (t : Nat) (c : Cmd)  -- SEC_DEBUG R505
  | secCosignKey (t : Nat) (c : Cmd)  -- SEC_COSIGN_KEY R497
  | secCountersClear (t : Nat) (c : Cmd)  -- SEC_COUNTERS_CLEAR R508
  | hltStatus (t : Nat) (c : Cmd)  -- HLT_STATUS R536
  | hltFaultRead (t : Nat) (c : Cmd)  -- HLT_FAULT_READ R520
  | hltFaultAck (t : Nat) (c : Cmd)  -- HLT_FAULT_ACK R515
  | hltSet (t : Nat) (c : Cmd)  -- HLT_SET R538
  | hltClassSet (t : Nat) (c : Cmd)  -- HLT_CLASS_SET R514
  | hltMonitorRead (t : Nat) (c : Cmd)  -- HLT_MONITOR_READ R524
  | hltTrimRun (t : Nat) (c : Cmd)  -- HLT_TRIM_RUN R533
  | hltTrimStore (t : Nat) (c : Cmd)  -- HLT_TRIM_STORE R534
  | hltTrimRead (t : Nat) (c : Cmd)  -- HLT_TRIM_READ R534
  | hltCountersRead (t : Nat) (c : Cmd)  -- HLT_COUNTERS_READ R537
  | hltCountersClear (t : Nat) (c : Cmd)  -- HLT_COUNTERS_CLEAR R539
  | askSet (t : Nat) (c : Cmd)  -- ASK_SET R542
  | askCal (t : Nat) (c : Cmd)  -- ASK_CAL R549
  | askStatus (t : Nat) (c : Cmd)  -- ASK_STATUS R561
  | askCountersClear (t : Nat) (c : Cmd)  -- ASK_COUNTERS_CLEAR R562
  | pwrStatus (t : Nat) (c : Cmd)  -- PWR_STATUS R581
  | pwrDomainSet (t : Nat) (c : Cmd)  -- PWR_DOMAIN_SET R567
  | pwrSafeExit (t : Nat) (c : Cmd)  -- PWR_SAFE_EXIT R573
  | pwrKeepAlive (t : Nat) (c : Cmd)  -- PWR_KEEP_ALIVE R579
  | pwrReset (t : Nat) (c : Cmd)  -- PWR_RESET R574
  | pwrCountersClear (t : Nat) (c : Cmd)  -- PWR_COUNTERS_CLEAR R582
  | submissionDoorbell (t : Nat) (ring : Nat) (value : Nat) (others : List (List Word))  -- SUBMISSION_DOORBELL R448
  | consumerIndexWrite (t : Nat) (ring : Nat) (value : Nat)  -- CONSUMER_INDEX_WRITE R445
  | ringEnable (t : Nat) (ring : Nat) (size : Nat)  -- RING_ENABLE R444
  | ringDisable (t : Nat) (ring : Nat)  -- RING_DISABLE R446
  | hqConsWrite (t : Nat) (q : Nat) (value : Nat)  -- HQ_CONS_WRITE R337
  | hqGrantWrite (t : Nat) (q : Nat) (blocks : Nat)  -- HQ_GRANT_WRITE R336
  | waitWindowRead (t : Nat) (q : Nat)  -- WAIT_WINDOW_READ R345
  | waitWindowRelease (t : Nat) (q : Nat)  -- WAIT_WINDOW_RELEASE R345
  | waitLimitExpiry (t : Nat) (q : Nat)  -- WAIT_LIMIT_EXPIRY R345
  | registerWrite (t : Nat) (off : Nat) (size : Nat) (value : Nat)  -- REGISTER_WRITE R439
  | barBadAccess (t : Nat) (write : Bool)  -- BAR_BAD_ACCESS R438
  | bar2Read (t : Nat) (off : Nat) (len : Nat)  -- BAR2_READ R368
  | bar2Write (t : Nat) (off : Nat) (data : List Byte)  -- BAR2_WRITE R368
  | functionLevelReset (t : Nat)  -- FUNCTION_LEVEL_RESET R470
  | hotReset (t : Nat)  -- HOT_RESET R469
  | pmRequest (t : Nat)  -- PM_REQUEST R433
  | sysLinkLost (t : Nat) (cause : Nat)  -- SYS_LINK_LOST R467
  | sysLinkRestored (t : Nat) (rate : Nat) (width : Nat) (msix : Bool)  -- SYS_LINK_RESTORED R468
  | hqSpillDrained (t : Nat)  -- HQ_SPILL_DRAINED R353
  | execBudgetExpiry (t : Nat) (cid : Nat)  -- EXEC_BUDGET_EXPIRY R456
  | dmaReadFail (t : Nat) (ring : Nat) (cmd : Option Nat)  -- DMA_READ_FAIL R456
  | completionWrite (t : Nat)  -- COMPLETION_WRITE R457
  | eventHoldoffExpiry (t : Nat) (src : Nat)  -- EVENT_HOLDOFF_EXPIRY R460
  | sysEvtDelayed (t : Nat)  -- SYS_EVT_DELAYED R462
  | irqHoldoffExpiry (t : Nat) (vec : Nat)  -- IRQ_HOLDOFF_EXPIRY R463
  | watchdogExpiry (t : Nat) (cores : Nat)  -- WATCHDOG_EXPIRY R465
  | sysWatchdog (t : Nat)  -- SYS_WATCHDOG R465
  | gridTick (t : Nat)  -- GRID_TICK R246
  | periodTick (t : Nat)  -- PERIOD_TICK R33
  | trigTick (t : Nat) (falling : Bool)  -- TRIG_TICK R32
  | askuriTick (t : Nat)  -- ASKURI_TICK R548
  | deferredTickServe (t : Nat)  -- DEFERRED_TICK_SERVE R51
  | phaseGuardStart (t : Nat) (p : Nat) (tests : List LaneTest)  -- PHASE_GUARD_START R36
  | lampStrobe (t : Nat) (bar : Nat) (p : Nat)  -- LAMP_STROBE R113
  | lampSyncInEdge (t : Nat)  -- LAMP_SYNC_IN_EDGE R117
  | lampSyncMissed (t : Nat)  -- LAMP_SYNC_MISSED R117
  | readoutEnd (t : Nat) (p : Nat) (video : List LaneVideo)  -- READOUT_END R36
  | imageLineEmit (t : Nat)  -- IMAGE_LINE_EMIT R241
  | lineCompare (t : Nat)  -- LINE_COMPARE R295
  | driftReady (t : Nat)  -- DRIFT_READY R298
  | cmpMarkMissing (t : Nat)  -- CMP_MARK_MISSING R275
  | timingInputEdge (t : Nat) (edge : EdgeObs)  -- TIMING_INPUT_EDGE R93
  | tdcOrderWindowExpiry (t : Nat) (ch : Nat)  -- TDC_ORDER_WINDOW_EXPIRY R95
  | tdcTimeout (t : Nat) (ch : Nat)  -- TDC_TIMEOUT R95
  | ppsEdge (t : Nat) (stamp : Nat)  -- PPS_EDGE R100
  | ppsHoldover (t : Nat)  -- PPS_HOLDOVER R101
  | holdoverAgeStep (t : Nat)  -- HOLDOVER_AGE_STEP R102
  | ageLearn (t : Nat)  -- AGE_LEARN R102
  | referenceMark (t : Nat) (enc : Nat)  -- REFERENCE_MARK R79
  | encDoubleChange (t : Nat) (x : EncSample)  -- ENC_DOUBLE_CHANGE R76
  | encAmplitude (t : Nat) (x : EncSample)  -- ENC_AMPLITUDE R74
  | encCorrLimit (t : Nat) (x : EncSample)  -- ENC_CORR_LIMIT R72
  | vwinBlockEnd (t : Nat) (enc : Nat)  -- VWIN_BLOCK_END R84
  | standstill (t : Nat) (enc : Nat)  -- STANDSTILL R84
  | posLogEntry (t : Nat)  -- POS_LOG_ENTRY R86
  | holdEnter (t : Nat)  -- HOLD_ENTER R49
  | flushRead (t : Nat) (tests : List LaneTest)  -- FLUSH_READ R50
  | idleEnter (t : Nat)  -- IDLE_ENTER R57
  | groupTimeout (t : Nat) (ring : Nat)  -- GROUP_TIMEOUT R62
  | proofPulse (t : Nat)  -- PROOF_PULSE R140
  | idleProofPulse (t : Nat)  -- IDLE_PROOF_PULSE R141
  | chainFrameLatch (t : Nat) (bar : Nat) (status : List Nat)  -- CHAIN_FRAME_LATCH R120
  | chainDiscovery (t : Nat) (bar : Nat) (delays : List Nat) (ids : List Nat)  -- CHAIN_DISCOVERY R127
  | patternUploadDone (t : Nat) (bar : Nat)  -- PATTERN_UPLOAD_DONE R131
  | lampBoostOvp (t : Nat) (bar : Nat) (volts : Nat)  -- LAMP_BOOST_OVP R137
  | lampTempInvalid (t : Nat) (bar : Nat)  -- LAMP_TEMP_INVALID R147
  | lmpDiagDone (t : Nat) (bar : Nat) (opens : List Nat) (shorts : List Nat) (leaks1 : List Nat) (leaks2 : List Nat)  -- LMP_DIAG_DONE R142
  | p64UploadDone (t : Nat) (bar : Nat)  -- P64_UPLOAD_DONE R148
  | corLoadDone (t : Nat)  -- COR_LOAD_DONE R204
  | corFactorsReady (t : Nat)  -- COR_FACTORS_READY R196
  | corStoreDone (t : Nat) (ok : Bool)  -- COR_STORE_DONE R213
  | calCaptureTick (t : Nat) (tests : List (List LaneTest)) (video : List (List LaneVideo))  -- CAL_CAPTURE_TICK R215
  | warmupSample (t : Nat)  -- WARMUP_SAMPLE R222
  | corCalDone (t : Nat)  -- COR_CAL_DONE R218
  | calCaptureFail (t : Nat) (cause : Nat)  -- CAL_CAPTURE_FAIL R216
  | refCheckDone (t : Nat)  -- REF_CHECK_DONE R284
  | hatchLoadDone (t : Nat)  -- HATCH_LOAD_DONE R301
  | capJobPartArrived (t : Nat)  -- CAP_JOB_PART_ARRIVED R254
  | capRunClosed (t : Nat)  -- CAP_RUN_CLOSED R268
  | replayCopyDone (t : Nat)  -- REPLAY_COPY_DONE R364
  | hqStale (t : Nat) (q : Nat)  -- HQ_STALE R347
  | trimRunDone (t : Nat) (ok : Bool)  -- TRIM_RUN_DONE R533
  | laneRestoreDone (t : Nat) (fails : List Nat)  -- LANE_RESTORE_DONE R182
  | auxScanTrigger (t : Nat)  -- AUX_SCAN_TRIGGER R409
  | auxScanStep (t : Nat) (nanovolts : List Int)  -- AUX_SCAN_STEP R410
  | muxAddressLoad (t : Nat)  -- MUX_ADDRESS_LOAD R411
  | auxScanEnd (t : Nat)  -- AUX_SCAN_END R412
  | auxCalCapture (t : Nat) (nanovolts : List Int)  -- AUX_CAL_CAPTURE R417
  | auxExcFault (t : Nat) (exc : Nat) (current : Nat)  -- AUX_EXC_FAULT R422
  | auxExcReduced (t : Nat) (exc : Nat)  -- AUX_EXC_REDUCED R407
  | excRestore (t : Nat) (exc : Nat)  -- EXC_RESTORE R407
  | loopReadback (t : Nat) (loop : Nat) (code : Nat) (atLimit : Bool)  -- LOOP_READBACK R426
  | loopFollowTimeout (t : Nat) (loop : Nat)  -- LOOP_FOLLOW_TIMEOUT R425
  | burinEvent (t : Nat) (axis : Nat)  -- BURIN_EVENT R379
  | motGearChanged (t : Nat) (axis : Nat)  -- MOT_GEAR_CHANGED R387
  | chopperTrip (t : Nat) (axis : Nat) (coil : Nat)  -- CHOPPER_TRIP R377
  | chopperOffEnd (t : Nat) (axis : Nat) (coil : Nat)  -- CHOPPER_OFF_END R377
  | holdCurrent (t : Nat) (axis : Nat)  -- HOLD_CURRENT R376
  | motLimit (t : Nat) (axis : Nat) (side : Nat)  -- MOT_LIMIT R388
  | limitRelease (t : Nat) (axis : Nat) (side : Nat)  -- LIMIT_RELEASE R390
  | paceEval (t : Nat)  -- PACE_EVAL R393
  | askuriFrameRx (t : Nat) (bytes : List Byte)  -- ASKURI_FRAME_RX R545
  | masterFrameOriginate (t : Nat)  -- MASTER_FRAME_ORIGINATE R545
  | tickInfo (t : Nat) (payload : List Byte)  -- TICK_INFO R553
  | timeFrame (t : Nat) (payload : List Byte)  -- TIME_FRAME R551
  | runFrame (t : Nat) (payload : List Byte)  -- RUN_FRAME R552
  | repeatFrame (t : Nat) (payload : List Byte)  -- REPEAT_FRAME R554
  | armFrame (t : Nat) (payload : List Byte)  -- ARM_FRAME R555
  | seamRecordRx (t : Nat) (payload : List Byte)  -- SEAM_RECORD_RX R313
  | calFrame (t : Nat) (payload : List Byte)  -- CAL_FRAME R549
  | askLinkUp (t : Nat)  -- ASK_LINK_UP R545
  | askLinkDown (t : Nat)  -- ASK_LINK_DOWN R545
  | askTimeMarkPulse (t : Nat)  -- ASK_TIME_MARK_PULSE R551
  | askCalPulse (t : Nat)  -- ASK_CAL_PULSE R549
  | askMasterLost (t : Nat)  -- ASK_MASTER_LOST R558
  | askMasterRestored (t : Nat)  -- ASK_MASTER_RESTORED R559
  | faultHandle (t : Nat)  -- FAULT_HANDLE R516
  | tempSample (t : Nat) (temps : List Int)  -- TEMP_SAMPLE R524
  | thermalStepDown (t : Nat)  -- THERMAL_STEP_DOWN R528
  | hltVoltage (t : Nat) (mon : Nat) (mv : Nat)  -- HLT_VOLTAGE R525
  | voltageFaultPersist (t : Nat) (mon : Nat)  -- VOLTAGE_FAULT_PERSIST R525
  | hltProcess (t : Nat) (tile : Nat) (dev : Int)  -- HLT_PROCESS R526
  | clockFault (t : Nat) (clk : Nat)  -- CLOCK_FAULT R527
  | dramEccError (t : Nat) (addr : Nat) (correctable : Bool)  -- DRAM_ECC_ERROR R522
  | sramEccError (t : Nat) (mem : Nat) (item : Nat) (kind : EccKind)  -- SRAM_ECC_ERROR R26
  | scrub (t : Nat)  -- SCRUB R523
  | safeCauseCleared (t : Nat)  -- SAFE_CAUSE_CLEARED R572
  | domainPowerGood (t : Nat) (dom : Nat)  -- DOMAIN_POWER_GOOD R568
  | pwrDomainFault (t : Nat) (dom : Nat)  -- PWR_DOMAIN_FAULT R568
  | vfieldRise (t : Nat)  -- VFIELD_RISE R571
  | vfieldFall (t : Nat)  -- VFIELD_FALL R571
  | rstNFall (t : Nat)  -- RST_N_FALL R574
  | rstNRise (t : Nat) (straps : Nat)  -- RST_N_RISE R577
  | pwrResetAct (t : Nat) (straps : Nat)  -- PWR_RESET_ACT R574
  | vcoreCollapse (t : Nat)  -- VCORE_COLLAPSE R571
  | pwrBootDone (t : Nat)  -- PWR_BOOT_DONE R577
  | selftestDue (t : Nat)  -- SELFTEST_DUE R499
  | entropyTestFail (t : Nat) (cause : Nat)  -- ENTROPY_TEST_FAIL R500
  | auditFlush (t : Nat) (ok : Bool)  -- AUDIT_FLUSH R493
  | positionSample (t : Nat) (samples : List EncSample)  -- POSITION_SAMPLE R68
  | clockRelock (t : Nat) (clk : Nat)  -- CLOCK_RELOCK R527
  | deferredWorkDone (t : Nat) (cid : Nat) (ok : Bool)  -- DEFERRED_WORK_DONE R456
  | selftestDone (t : Nat) (cause : Nat)  -- SELFTEST_DONE R503
  | corSettleExpiry (t : Nat)  -- COR_SETTLE_EXPIRY R220
  | boostOvpRelease (t : Nat) (bar : Nat) (volts : Nat)  -- BOOST_OVP_RELEASE R137
  | auxWireRestored (t : Nat) (ch : Nat)  -- AUX_WIRE_RESTORED R422
deriving DecidableEq, Repr

end Sys2Proof
end

