-- ==== Sys2Proof/WellFormed.lean ====
section
/-! DEFINITION. Which commands are well formed: every operand within the range its field or its table gives it. -/

namespace Sys2Proof

/-- A command packet whose header fields fit R447: a submission ring, and fields within their widths. -/
def Cmd.wf (c : Cmd) : Bool :=
  decide (c.ring < 4) && decide (c.tag < 65536) && decide (c.level < 4) && decide (c.dev < 8) && decide (c.tile < 16) &&
  decide (c.lane < 16) && decide (c.commit < 8) && decide (c.arg < 2 ^ 32) && decide (c.words.length < 256)

/-- A command whose operands all lie in their ranges. -/
def wellFormed (i : Instr) : Bool :=
  match i with
  | .sysNop _ c => c.wf
  | .sysInfo _ c => c.wf
  | .sysSet _ c => c.wf
  | .evtRoute _ c => c.wf
  | .evtRead _ c => c.wf
  | .sysStatus _ c => c.wf
  | .sysCoreReset _ c => c.wf
  | .sysCountersClear _ c => c.wf
  | .seqSet _ c => c.wf
  | .seqStatus _ c => c.wf
  | .seqBudget _ c => c.wf
  | .groupBegin _ c => c.wf
  | .groupEnd _ c => c.wf
  | .seqCountersClear _ c => c.wf
  | .senGenSet _ c => c.wf
  | .senWaveLoad _ c => c.wf
  | .senLaneSet _ c => c.wf
  | .senGainSet _ c => c.wf
  | .senSubstLoad _ c => c.wf
  | .senLaneRestore _ c => c.wf
  | .senSpareForce _ c => c.wf
  | .senStatus _ c => c.wf
  | .senSnapshot _ c => c.wf
  | .senTrimRun _ c => c.wf
  | .senCountersClear _ c => c.wf
  | .corSet _ c => c.wf
  | .corSetLoad _ c => c.wf
  | .corSetSwap _ c => c.wf
  | .corSetCheck _ c => c.wf
  | .corSetStore _ c => c.wf
  | .corSetRestore _ c => c.wf
  | .corCalRun _ c => c.wf
  | .corCalAbort _ c => c.wf
  | .corCalStatus _ c => c.wf
  | .corStatus _ c => c.wf
  | .corCountersClear _ c => c.wf
  | .runOpen _ c => c.wf
  | .runClose _ c => c.wf
  | .jobArm _ c => c.wf
  | .jobDisarm _ c => c.wf
  | .capSet _ c => c.wf
  | .capStatus _ c => c.wf
  | .capCovRead _ c => c.wf
  | .capCountersClear _ c => c.wf
  | .cmpSet _ c => c.wf
  | .cmpRefCheck _ c => c.wf
  | .cmpHatchLoad _ c => c.wf
  | .cmpStatus _ c => c.wf
  | .cmpCountersClear _ c => c.wf
  | .queueSetup _ c => c.wf
  | .queueDisable _ c => c.wf
  | .queueFlush _ c => c.wf
  | .queueStatus _ c => c.wf
  | .streamSet _ c => c.wf
  | .hqSet _ c => c.wf
  | .arenaSet _ c => c.wf
  | .arenaStatus _ c => c.wf
  | .histReplay _ c => c.wf
  | .histRelease _ c => c.wf
  | .bar2Map _ c => c.wf
  | .hqCountersClear _ c => c.wf
  | .lmpBarSet _ c => c.wf
  | .lmpPhaseSet _ c => c.wf
  | .lmpPatternLoad _ c => c.wf
  | .lmpPatternApply _ c => c.wf
  | .lmpPatternRead _ c => c.wf
  | .lmpDiagRun _ c => c.wf
  | .lmpFaults _ c => c.wf
  | .lmpFaultClear _ c => c.wf
  | .lmpStatus _ c => c.wf
  | .lmpCountersClear _ c => c.wf
  | .motAxisSet _ c => c.wf
  | .motProfileSet _ c => c.wf
  | .motMove _ c => c.wf
  | .motJog _ c => c.wf
  | .motStop _ c => c.wf
  | .motGear _ c => c.wf
  | .motHome _ c => c.wf
  | .motAck _ c => c.wf
  | .motPosSet _ c => c.wf
  | .motPaceSet _ c => c.wf
  | .motStatus _ c => c.wf
  | .motCountersClear _ c => c.wf
  | .posSet _ c => c.wf
  | .posStatus _ c => c.wf
  | .tdcInputSet _ c => c.wf
  | .tdcChannelSet _ c => c.wf
  | .tdcArm _ c => c.wf
  | .timeSet _ c => c.wf
  | .timeStatus _ c => c.wf
  | .posCountersClear _ c => c.wf
  | .auxSet _ c => c.wf
  | .auxChSet _ c => c.wf
  | .auxLinLoad _ c => c.wf
  | .auxInject _ c => c.wf
  | .auxCal _ c => c.wf
  | .auxLoopCfg _ c => c.wf
  | .auxStatus _ c => c.wf
  | .auxCountersClear _ c => c.wf
  | .secIdentity _ c => c.wf
  | .secCertRead _ c => c.wf
  | .secRoleKey _ c => c.wf
  | .secRmk _ c => c.wf
  | .secPolicySet _ c => c.wf
  | .secAuditRead _ c => c.wf
  | .secAuditSign _ c => c.wf
  | .secMapSign _ c => c.wf
  | .secFwWrite _ c => c.wf
  | .secFwVerify _ c => c.wf
  | .secFwActivate _ c => c.wf
  | .secSvnCommit _ c => c.wf
  | .secSelftest _ c => c.wf
  | .secZeroise _ c => c.wf
  | .secDebug _ c => c.wf
  | .secCosignKey _ c => c.wf
  | .secCountersClear _ c => c.wf
  | .hltStatus _ c => c.wf
  | .hltFaultRead _ c => c.wf
  | .hltFaultAck _ c => c.wf
  | .hltSet _ c => c.wf
  | .hltClassSet _ c => c.wf
  | .hltMonitorRead _ c => c.wf
  | .hltTrimRun _ c => c.wf
  | .hltTrimStore _ c => c.wf
  | .hltTrimRead _ c => c.wf
  | .hltCountersRead _ c => c.wf
  | .hltCountersClear _ c => c.wf
  | .askSet _ c => c.wf
  | .askCal _ c => c.wf
  | .askStatus _ c => c.wf
  | .askCountersClear _ c => c.wf
  | .pwrStatus _ c => c.wf
  | .pwrDomainSet _ c => c.wf
  | .pwrSafeExit _ c => c.wf
  | .pwrKeepAlive _ c => c.wf
  | .pwrReset _ c => c.wf
  | .pwrCountersClear _ c => c.wf
  | .submissionDoorbell _ ring _ _ => decide (ring < 6)
  | .consumerIndexWrite _ ring _ => decide (ring < 6)
  | .ringEnable _ ring _ => decide (ring < 6)
  | .ringDisable _ ring => decide (ring < 6)
  | .hqConsWrite _ q _ => decide (q < 65536)
  | .hqGrantWrite _ q _ => decide (q < 65536)
  | .waitWindowRead _ q => decide (q < 65536)
  | .waitWindowRelease _ q => decide (q < 65536)
  | .waitLimitExpiry _ q => decide (q < 65536)
  | .registerWrite _ _ _ _ => true
  | .barBadAccess _ _ => true
  | .bar2Read _ _ _ => true
  | .bar2Write _ _ _ => true
  | .functionLevelReset _ => true
  | .hotReset _ => true
  | .pmRequest _ => true
  | .sysLinkLost _ _ => true
  | .sysLinkRestored _ _ _ _ => true
  | .hqSpillDrained _ => true
  | .execBudgetExpiry _ _ => true
  | .dmaReadFail _ ring _ => decide (ring < 6)
  | .completionWrite _ => true
  | .eventHoldoffExpiry _ src => decide (src < 600)
  | .sysEvtDelayed _ => true
  | .irqHoldoffExpiry _ vec => decide (vec < 64)
  | .watchdogExpiry _ cores => decide (cores < 4)
  | .sysWatchdog _ => true
  | .gridTick _ => true
  | .periodTick _ => true
  | .trigTick _ _ => true
  | .askuriTick _ => true
  | .deferredTickServe _ => true
  | .phaseGuardStart _ p _ => decide (p < 6)
  | .lampStrobe _ bar p => decide (bar < 4) && decide (p < 6)
  | .lampSyncInEdge _ => true
  | .lampSyncMissed _ => true
  | .readoutEnd _ p _ => decide (p < 6)
  | .imageLineEmit _ => true
  | .lineCompare _ => true
  | .driftReady _ => true
  | .cmpMarkMissing _ => true
  | .timingInputEdge _ _ => true
  | .tdcOrderWindowExpiry _ ch => decide (ch < 8)
  | .tdcTimeout _ ch => decide (ch < 8)
  | .ppsEdge _ _ => true
  | .ppsHoldover _ => true
  | .holdoverAgeStep _ => true
  | .ageLearn _ => true
  | .referenceMark _ enc => decide (enc < 4)
  | .encDoubleChange _ _ => true
  | .encAmplitude _ _ => true
  | .encCorrLimit _ _ => true
  | .vwinBlockEnd _ enc => decide (enc < 4)
  | .standstill _ enc => decide (enc < 4)
  | .posLogEntry _ => true
  | .holdEnter _ => true
  | .flushRead _ _ => true
  | .idleEnter _ => true
  | .groupTimeout _ ring => decide (ring < 6)
  | .proofPulse _ => true
  | .idleProofPulse _ => true
  | .chainFrameLatch _ bar _ => decide (bar < 4)
  | .chainDiscovery _ bar _ _ => decide (bar < 4)
  | .patternUploadDone _ bar => decide (bar < 4)
  | .lampBoostOvp _ bar _ => decide (bar < 4)
  | .lampTempInvalid _ bar => decide (bar < 4)
  | .lmpDiagDone _ bar _ _ _ _ => decide (bar < 4)
  | .p64UploadDone _ bar => decide (bar < 4)
  | .corLoadDone _ => true
  | .corFactorsReady _ => true
  | .corStoreDone _ _ => true
  | .calCaptureTick _ _ _ => true
  | .warmupSample _ => true
  | .corCalDone _ => true
  | .calCaptureFail _ _ => true
  | .refCheckDone _ => true
  | .hatchLoadDone _ => true
  | .capJobPartArrived _ => true
  | .capRunClosed _ => true
  | .replayCopyDone _ => true
  | .hqStale _ q => decide (q < 65536)
  | .trimRunDone _ _ => true
  | .laneRestoreDone _ _ => true
  | .auxScanTrigger _ => true
  | .auxScanStep _ _ => true
  | .muxAddressLoad _ => true
  | .auxScanEnd _ => true
  | .auxCalCapture _ _ => true
  | .auxExcFault _ exc _ => decide (exc < 32)
  | .auxExcReduced _ exc => decide (exc < 32)
  | .excRestore _ exc => decide (exc < 32)
  | .loopReadback _ loop _ _ => decide (loop < 4)
  | .loopFollowTimeout _ loop => decide (loop < 4)
  | .burinEvent _ axis => decide (axis < 8)
  | .motGearChanged _ axis => decide (axis < 8)
  | .chopperTrip _ axis coil => decide (axis < 8) && decide (coil < 2)
  | .chopperOffEnd _ axis coil => decide (axis < 8) && decide (coil < 2)
  | .holdCurrent _ axis => decide (axis < 8)
  | .motLimit _ axis side => decide (axis < 8) && decide (side < 2)
  | .limitRelease _ axis side => decide (axis < 8) && decide (side < 2)
  | .paceEval _ => true
  | .askuriFrameRx _ _ => true
  | .masterFrameOriginate _ => true
  | .tickInfo _ _ => true
  | .timeFrame _ _ => true
  | .runFrame _ _ => true
  | .repeatFrame _ _ => true
  | .armFrame _ _ => true
  | .seamRecordRx _ _ => true
  | .calFrame _ _ => true
  | .askLinkUp _ => true
  | .askLinkDown _ => true
  | .askTimeMarkPulse _ => true
  | .askCalPulse _ => true
  | .askMasterLost _ => true
  | .askMasterRestored _ => true
  | .faultHandle _ => true
  | .tempSample _ _ => true
  | .thermalStepDown _ => true
  | .hltVoltage _ mon _ => decide (mon < 40)
  | .voltageFaultPersist _ mon => decide (mon < 40)
  | .hltProcess _ tile _ => decide (tile < 16)
  | .clockFault _ clk => decide (clk < 8)
  | .dramEccError _ _ _ => true
  | .sramEccError _ mem _ _ => decide (mem < 11)
  | .scrub _ => true
  | .safeCauseCleared _ => true
  | .domainPowerGood _ dom => decide (dom < 56)
  | .pwrDomainFault _ dom => decide (dom < 56)
  | .vfieldRise _ => true
  | .vfieldFall _ => true
  | .rstNFall _ => true
  | .rstNRise _ straps => decide (straps < 256)
  | .pwrResetAct _ straps => decide (straps < 256)
  | .vcoreCollapse _ => true
  | .pwrBootDone _ => true
  | .selftestDue _ => true
  | .entropyTestFail _ _ => true
  | .auditFlush _ _ => true
  | .positionSample _ _ => true
  | .clockRelock _ clk => decide (clk < 8)
  | .deferredWorkDone _ _ _ => true
  | .selftestDone _ _ => true
  | .corSettleExpiry _ => true
  | .boostOvpRelease _ bar _ => decide (bar < 4)
  | .auxWireRestored _ ch => decide (ch < 64)

end Sys2Proof
end

