-- ==== Sys2Proof/Config.lean ====
section
/-! DEFINITION. What one device has fixed, and the values the spec leaves open: opaque constants, so that nothing can be
proved about their values. -/

namespace Sys2Proof.Config

/-- A free value (log entry 3): the n-th value the spec leaves open in a run. -/
opaque free : Nat → Nat

/-- Whether a quotient that is not exact rounds up, at a place where the spec leaves the rounding open (log entry 12). -/
opaque roundsUp : Nat → Int → Nat → Bool

/-- true for ordering code QH-E128S-KGD (R1, R440 [8]). -/
opaque standardPackage : Bool

/-- Firmware version of the image in a slot, as R440 gives it: major, minor, build. -/
opaque firmwareVersion : Nat → Nat

/-- Byte i of SHA-384 of a byte string (R475, FIPS 180-4; the spec names the standard, log entry 6). -/
opaque sha384Byte : List Byte → Nat → Byte

/-- Byte i of HMAC-SHA-384 under a key (R475). -/
opaque hmacByte : List Byte → List Byte → Nat → Byte

/-- Byte i of HKDF-SHA-384 from input key, salt and info (R482). -/
opaque hkdfByte : List Byte → List Byte → List Byte → Nat → Byte

/-- Byte i of the GMAC of additional data under key and IV (R485). -/
opaque gmacByte : List Byte → List Byte → List Byte → Nat → Byte

/-- Byte i of the AES-256-GCM ciphertext followed by the tag: key, IV, plaintext, additional data (R483). -/
opaque gcmSealByte : List Byte → List Byte → List Byte → List Byte → Nat → Byte

/-- Whether the GCM check of ciphertext, tag and additional data passes under key and IV (R483). -/
opaque gcmOpens : List Byte → List Byte → List Byte → List Byte → List Byte → Bool

/-- Byte i of the GCM plaintext (R483). -/
opaque gcmOpenByte : List Byte → List Byte → List Byte → Nat → Byte

/-- Byte i of r ∥ s of an ECDSA P-384 signature: private key number, nonce number, hash (R476, R487). -/
opaque ecdsaByte : Nat → Nat → List Byte → Nat → Byte

/-- Whether an ECDSA P-384 signature verifies: public key, hash, signature (R479, R497). -/
opaque ecdsaVerifies : List Byte → List Byte → List Byte → Bool

/-- Byte i of the ECDH shared secret between a private key number and a public key (R483). -/
opaque ecdhByte : Nat → List Byte → Nat → Byte

/-- Byte i of the P-384 public key of a private key number (R476). -/
opaque publicKeyByte : Nat → Nat → Byte

/-- Whether 96 bytes are a point on P-384 (SEC_ROLE_KEY). -/
opaque onCurve : List Byte → Bool

/-- Byte i of the n-th secret drawn from the DRBG (R481). -/
opaque drbgByte : Nat → Nat → Byte

/-- SVN of the firmware image a slot was delivered with (log entry 15). -/
opaque shippedSvn : Nat → Nat

/-- Whether that image carries a co-signature under a customer key (log entry 15). -/
opaque shippedCosigned : Nat → List Byte → Bool

/-- DER certificates of the DIK and the intermediate, in that order (SEC_CERT_READ). -/
opaque certificates : List Byte

/-- The hash of the vendor firmware key in OTP (R497). -/
opaque vendorKeyHash : List Byte

/-- The vendor firmware public key whose hash is in OTP (R497). -/
opaque vendorKey : List Byte

/-- The 12-bit phase code of the sine and cosine samples corrected by offsets, gain ratio and quadrature error (R68, R71; the
    arithmetic of the correction and of the arctangent is open, log entry 7). -/
opaque phaseCode : Int → Int → List Int → Nat

/-- The track amplitude in mV peak-to-peak of the corrected samples (R74; converter scale open, log entry 7). -/
opaque trackAmplitude : Int → Int → List Int → Nat

/-- The estimates of one signal period from the extremes of both tracks (R71): 0 and 1 the offsets, 2 the gain ratio and 3 the
    quadrature error, in 1/65,536 (formula open, log entry 7). -/
opaque corrEstimate : List Int → Nat → Int

/-- Speed of an S-curve at a Burin event, 1/256 microstep/s, from the speed at the plan, the target and start speeds, the limits,
    core clocks since the plan and the distance planned (R380; the plan's arithmetic is open, log entry 14). -/
opaque sCurve : List Nat → Nat

/-- A live L8 value that no emitted line holds: its line and column (R287). -/
opaque missingL8 : Int → Int → Nat

/-- The median of an even number of values, from the two in the middle (R289 names no rule). -/
opaque evenMedian : Int → Int → Int

/-- The refinement in 1/16 where the curvature is zero (R287 divides by it). -/
opaque flatDelta : Int → Int → Int

/-- A result that the spec does not state for some operands, by site: a quotient by zero in a fit (R221, R223). -/
opaque unstated : Nat → List Int → Int

/-- CIEDE2000 with kL = kC = kH = 1 of two Lab means given in 1/65536 units, in 1/16 ΔE00 (R298). -/
opaque ciede2000 : Int → Int → Int → Int → Int → Int → Nat

/-- The element map and code a trim measurement chooses for a kind and instance, n-th run (R183, R533). -/
opaque trimChoice : Nat → Nat → Nat → Nat

/-- The factory trim record of a kind and instance held in OTP: element map, code, spares remaining, exhausted (R534). -/
opaque factoryTrim : Nat → Nat → Option (Nat × Nat × Nat × Bool)

end Sys2Proof.Config
end

