-- ==== Sys2Proof/Machine/Sparse.lean ====
section
/-! DEFINITION. A finite map keyed by numbers, in one canonical form: keys strictly rising, and no entry equal to what an
unlisted key reads as. Memories, parameters, counters and queues are such maps. -/

namespace Sys2Proof.Machine

/-- Key and value pairs; with bytes it is a list of Host.Cell. -/
abbrev Sparse (α : Type) := List (Nat × α)

/-- The value at a key; d is what an unlisted key reads as. -/
def Sparse.get {α : Type} (m : Sparse α) (d : α) (k : Nat) : α :=
  match m with
  | [] => d
  | (j, v) :: rest => if j = k then v else Sparse.get rest d k

/-- The map without a key. -/
def Sparse.drop {α : Type} (m : Sparse α) (k : Nat) : Sparse α :=
  match m with
  | [] => []
  | (j, v) :: rest => if j = k then Sparse.drop rest k else (j, v) :: Sparse.drop rest k

/-- The map with an entry put in at its place. -/
def Sparse.put {α : Type} (m : Sparse α) (k : Nat) (x : α) : Sparse α :=
  match m with
  | [] => [(k, x)]
  | (j, v) :: rest =>
    if j = k then (k, x) :: rest else if k < j then (k, x) :: (j, v) :: rest else (j, v) :: Sparse.put rest k x

/-- The map after a write: a value equal to what an unlisted key reads as removes the entry. -/
def Sparse.set {α : Type} [DecidableEq α] (m : Sparse α) (d : α) (k : Nat) (x : α) : Sparse α :=
  if x = d then Sparse.drop m k else Sparse.put m k x

/-- The canonical form: keys strictly rising from a bound, no entry equal to its key's unlisted value. -/
def Sparse.wfFrom {α : Type} [DecidableEq α] (dflt : Nat → α) : Nat → Sparse α → Bool
  | _, [] => true
  | lo, (k, v) :: rest => decide (lo ≤ k) && decide (v ≠ dflt k) && Sparse.wfFrom dflt (k + 1) rest

/-- The canonical form of a map whose unlisted key k reads as dflt k. -/
def Sparse.wf {α : Type} [DecidableEq α] (dflt : Nat → α) (m : Sparse α) : Bool := Sparse.wfFrom dflt 0 m

/-- n bytes from an address on; an unlisted byte reads 0 (log entry 5). -/
def Sparse.bytes (m : Sparse Byte) (a n : Nat) : List Byte := (List.range n).map (fun i => Sparse.get m 0 (a + i))

/-- Bytes stored from an address on. -/
def Sparse.write (m : Sparse Byte) (a : Nat) : List Byte → Sparse Byte
  | [] => m
  | b :: bs => Sparse.write (Sparse.set m 0 a b) (a + 1) bs

/-- A little-endian number of n bytes at an address (R9). -/
def Sparse.le (m : Sparse Byte) (a : Nat) : Nat → Nat
  | 0 => 0
  | n + 1 => (Sparse.get m 0 a).toNat + 256 * Sparse.le m (a + 1) n

end Sys2Proof.Machine
end

