-- ==== Sys2Proof/Machine/Names.lean ====
section
/-! DEFINITION. The names of the counters and of the events, with their places in the tables of the chapters. -/

namespace Sys2Proof.Machine

/-- The counters of the chapters' counter tables,
       in table order; the index letter of a counter with instances is left off. -/
inductive Ctr where
  | SEQ_TICKS_CAPTURED | SEQ_NOT_CAPTURED | SEQ_LATE_STARTS | SEQ_FLUSH_READS | SEQ_TICKS_DEFERRED | SEQ_SLIPS
  | SEQ_IDLE_RETRIES  -- R65
  | POS_RECONCILED | POS_DOUBLE_CHANGE | POS_AMP_INVALID | POS_REF_CORRECTIONS | TDC_DEADTIME_LOSS
  | TDC_ORPHAN_STOP | TDC_EXTRA_START | TDC_PPS_REJECTS  -- R107
  | LMP_CHAIN_ERRORS | LMP_CMD_ERRORS | LMP_LAT_DELAYED | LMP_PULSES_CLIPPED | LMP_SYNC_MISSED | LMP_SYNC_STRAY
  | LMP_PROOFS | LMP_UNDIAG_STRING_LINES | LMP_BOOST_AT_LIMIT  -- R152
  | SEN_EDGES_CLAMPED | SEN_SETTLING_PIXELS | SEN_CLAMP_SKIPPED | SEN_CLAMP_RANGE | SEN_TEST_FAILS
  | SEN_SUBLINES_LOST | SEN_SPARE_SWITCHES | SEN_BLIND_EVENTS  -- R185
  | COR_SAT_LOW | COR_SAT_HIGH | COR_TEMP_HOLD_LINES | COR_TEMP_CLAMPED_LINES | COR_DEFAULT_LINES
  | COR_LOAD_CRC_ERRORS  -- R228
  | CAP_LINES_EMITTED | CAP_TAGS_CLAMPED | CAP_LINEAR_LINES | CAP_INTERP_LANE_LINES | CAP_JOB_LATE_PARTS
  | CAP_JOB_NCMP_LINES | CAP_COV_ENTRIES | CAP_COV_EVICTIONS  -- R270
  | CMP_LINES_COMPARED | CMP_LINES_NOT_COMPARED | CMP_MARKS_STRAY | CMP_MARKS_MISSING | CMP_STRETCH_CLAMPED
  | CMP_PATCHES_INVALID | CMP_ROWS_FAILED | CMP_DISP_CLAMPED | CMP_FLAG_EXCLUDED | CMP_BLOBS_SPLIT
  | CMP_RUNS_DROPPED | CMP_BLOBS_CAPPED | CMP_SEAM_MERGES | CMP_LEARN_SKIPPED_LINES | CMP_LEARN_HOLES
  | CMP_REF_WRITES_BLOCKED  -- R319
  | HQ_PACKETS | HQ_DROPS | HQ_TILES_DROPPED | HQ_PADS | HQ_CREDIT_OVER | HQ_CONS_BAD | HQ_FLUSHED_PACKETS
  | HQ_QUEUE_FAULTS | HQ_WAIT_TIMEOUTS | HQ_SPILLED | HQ_SPILL_DROPS | HIS_LINES_WRITTEN | HIS_LINES_LOST
  | HIS_REPLAY_LOST | HIS_BAR2_BLOCKED  -- R371
  | MOT_LIM_TRIPS | MOT_LIM_CHATTER | MOT_SHORTS | MOT_GEAR_LAGS | MOT_PACE_STOPS | MOT_CEIL_ACTIVE  -- R402
  | AUX_SCANS | AUX_SCANS_MISSED | AUX_SCANS_CUT | AUX_RESTARTS | AUX_INJECT_REFUSED | AUX_WIRE_BREAKS
  | AUX_EXC_FAULTS | AUX_LOOP_OPENS | AUX_LIN_SATURATED  -- R428
  | SYS_DOORBELL_BAD | SYS_BAR_BAD | SYS_RING_ERRORS | SYS_DEFERRED | SYS_DMA_READ_FAILS | SYS_CPL_WAITS
  | SYS_EVT_DELAYED | SYS_WDT_RESETS | SYS_LINK_RETRAINS | SYS_LINK_DOWNS | SYS_PM_DECLINED | SYS_FLRS  -- R472
  | SEC_AUTH_FAILS | SEC_AUDIT_REFUSED | SEC_ERROR_ENTRIES | SEC_UNSIGNED_PACKETS | SEC_SELFTEST_RUNS  -- R508
  | HLT_FAULT_OVERFLOWS | HLT_SRAM_CE | HLT_SRAM_UE | HLT_DRAM_CE | HLT_DRAM_UE | HLT_SCRUB_FIXES
  | HLT_VOLT_EXCURSIONS | HLT_CLOCK_FAULTS | HLT_THERM_SHEDS  -- R539
  | ASK_FRAMES_BAD | ASK_TICKS_IGNORED | ASK_INDEX_RESOLVED | ASK_SEAMS_SENT | ASK_SEAMS_RECEIVED | ASK_SEAMS_LOST
  | ASK_LINES_LOST  -- R562
  | PWR_SAFE_ENTRIES | PWR_DOMAIN_FAULTS | PWR_RESETS  -- R582
deriving DecidableEq, Repr

/-- The counter tables of the chapters, by opcode group (R458). -/
def groupCtrs : Nat → List Ctr
  | 1 => [.SYS_DOORBELL_BAD, .SYS_BAR_BAD, .SYS_RING_ERRORS, .SYS_DEFERRED, .SYS_DMA_READ_FAILS, .SYS_CPL_WAITS,
       .SYS_EVT_DELAYED, .SYS_WDT_RESETS, .SYS_LINK_RETRAINS, .SYS_LINK_DOWNS, .SYS_PM_DECLINED, .SYS_FLRS]
  | 2 => [.SEQ_TICKS_CAPTURED, .SEQ_NOT_CAPTURED, .SEQ_LATE_STARTS, .SEQ_FLUSH_READS, .SEQ_TICKS_DEFERRED,
       .SEQ_SLIPS, .SEQ_IDLE_RETRIES]
  | 3 => [.SEN_EDGES_CLAMPED, .SEN_SETTLING_PIXELS, .SEN_CLAMP_SKIPPED, .SEN_CLAMP_RANGE, .SEN_TEST_FAILS,
       .SEN_SUBLINES_LOST, .SEN_SPARE_SWITCHES, .SEN_BLIND_EVENTS]
  | 4 => [.COR_SAT_LOW, .COR_SAT_HIGH, .COR_TEMP_HOLD_LINES, .COR_TEMP_CLAMPED_LINES, .COR_DEFAULT_LINES,
       .COR_LOAD_CRC_ERRORS]
  | 5 => [.CAP_LINES_EMITTED, .CAP_TAGS_CLAMPED, .CAP_LINEAR_LINES, .CAP_INTERP_LANE_LINES, .CAP_JOB_LATE_PARTS,
       .CAP_JOB_NCMP_LINES, .CAP_COV_ENTRIES, .CAP_COV_EVICTIONS]
  | 6 => [.CMP_LINES_COMPARED, .CMP_LINES_NOT_COMPARED, .CMP_MARKS_STRAY, .CMP_MARKS_MISSING, .CMP_STRETCH_CLAMPED,
       .CMP_PATCHES_INVALID, .CMP_ROWS_FAILED, .CMP_DISP_CLAMPED, .CMP_FLAG_EXCLUDED, .CMP_BLOBS_SPLIT,
       .CMP_RUNS_DROPPED, .CMP_BLOBS_CAPPED, .CMP_SEAM_MERGES, .CMP_LEARN_SKIPPED_LINES, .CMP_LEARN_HOLES,
       .CMP_REF_WRITES_BLOCKED]
  | 7 => [.HQ_PACKETS, .HQ_DROPS, .HQ_TILES_DROPPED, .HQ_PADS, .HQ_CREDIT_OVER, .HQ_CONS_BAD, .HQ_FLUSHED_PACKETS,
       .HQ_QUEUE_FAULTS, .HQ_WAIT_TIMEOUTS, .HQ_SPILLED, .HQ_SPILL_DROPS, .HIS_LINES_WRITTEN, .HIS_LINES_LOST,
       .HIS_REPLAY_LOST, .HIS_BAR2_BLOCKED]
  | 8 => [.LMP_CHAIN_ERRORS, .LMP_CMD_ERRORS, .LMP_LAT_DELAYED, .LMP_PULSES_CLIPPED, .LMP_SYNC_MISSED,
       .LMP_SYNC_STRAY, .LMP_PROOFS, .LMP_UNDIAG_STRING_LINES, .LMP_BOOST_AT_LIMIT]
  | 9 => [.MOT_LIM_TRIPS, .MOT_LIM_CHATTER, .MOT_SHORTS, .MOT_GEAR_LAGS, .MOT_PACE_STOPS, .MOT_CEIL_ACTIVE]
  | 10 => [.POS_RECONCILED, .POS_DOUBLE_CHANGE, .POS_AMP_INVALID, .POS_REF_CORRECTIONS, .TDC_DEADTIME_LOSS,
       .TDC_ORPHAN_STOP, .TDC_EXTRA_START, .TDC_PPS_REJECTS]
  | 11 => [.AUX_SCANS, .AUX_SCANS_MISSED, .AUX_SCANS_CUT, .AUX_RESTARTS, .AUX_INJECT_REFUSED, .AUX_WIRE_BREAKS,
       .AUX_EXC_FAULTS, .AUX_LOOP_OPENS, .AUX_LIN_SATURATED]
  | 12 => [.SEC_AUTH_FAILS, .SEC_AUDIT_REFUSED, .SEC_ERROR_ENTRIES, .SEC_UNSIGNED_PACKETS, .SEC_SELFTEST_RUNS]
  | 13 => [.HLT_FAULT_OVERFLOWS, .HLT_SRAM_CE, .HLT_SRAM_UE, .HLT_DRAM_CE, .HLT_DRAM_UE, .HLT_SCRUB_FIXES,
       .HLT_VOLT_EXCURSIONS, .HLT_CLOCK_FAULTS, .HLT_THERM_SHEDS]
  | 14 => [.ASK_FRAMES_BAD, .ASK_TICKS_IGNORED, .ASK_INDEX_RESOLVED, .ASK_SEAMS_SENT, .ASK_SEAMS_RECEIVED,
       .ASK_SEAMS_LOST, .ASK_LINES_LOST]
  | 15 => [.PWR_SAFE_ENTRIES, .PWR_DOMAIN_FAULTS, .PWR_RESETS]
  | _ => []

/-- The key of a counter in the counter store. -/
def Ctr.key (c : Ctr) (i : Nat) : Nat := c.ctorIdx + 512 * i

/-- The events of the chapters' event tables. -/
inductive Ev where
  | SYS_LINK_LOST | SYS_LINK_RESTORED | SYS_WATCHDOG | SYS_RING_ERROR | SYS_DOORBELL_BAD | SYS_EVT_DELAYED
  | SYS_PM_DECLINED
  | NOT_CAPTURED | HOLD_ENTER | HOLD_EXIT | IDLE_ENTER | GROUP_TIMEOUT | IDLE_RETRY
  | SEN_LANE_FAILED | SEN_SPARE_IN | SEN_BLIND | SEN_SPARE_FAILED | SEN_LANE_RESTORED | SEN_SETTLING
  | SEN_CLAMP_RANGE_EVT | SEN_EDGE_CLAMPED
  | COR_SATURATED | COR_TEMP_HOLD | COR_TEMP_CLAMPED | COR_DEFAULT_IN_USE | COR_LOAD_CRC | COR_CAL_DONE | COR_FLASH_FAIL
  | CAP_JOB_SWITCHED | CAP_JOB_PART_LATE | CAP_JOB_PART_ARRIVED | CAP_COV_OVERFLOW | CAP_RUN_CLOSED | CAP_TAG_CLAMPED
  | CMP_LOW_CONFIDENCE | CMP_MARK_MISSING | CMP_HALTED | CMP_STRETCH_LIMIT | CMP_DRIFT | CMP_ETCHER_FULL
  | CMP_LEARN_DONE | CMP_REF_FAULT | CMP_REGION_CAPPED | CMP_SEAM_SELF
  | HQ_DROP | HQ_STALE | QUEUE_FAULT | HQ_FLUSHED | HQ_CREDIT_OVER | HQ_SPILL_ENTER | HQ_SPILL_FULL
  | HQ_SPILL_DRAINED | HIS_HOLE | HIS_REPLAY_PARTIAL | HIS_BAR2_BLOCKED
  | LAMP_OPEN | LAMP_SHORT | LAMP_NEIGHBOUR | LAMP_CHAIN_LOST | LAMP_CHAIN_RESTORED | LAMP_BOOST_LIMIT
  | LAMP_BOOST_OVP | LAMP_DERATE | LAMP_SHUTDOWN | LAMP_TEMP_INVALID | LAMP_PULSE_CLIPPED | LAMP_SYNC_MISSED
  | LAMP_UNDIAGNOSED
  | MOT_MOVE_DONE | MOT_LIMIT | MOT_HOME_END | MOT_SHORT | MOT_GEAR_LAG | MOT_GEAR_CHANGED | MOT_PACE_STOPPED
  | MOT_PACE_RESUMED | MOT_CEILING
  | ENC_AMPLITUDE | ENC_DOUBLE_CHANGE | ENC_CORR_LIMIT | ENC_REF_CORRECTED | PPS_LOCKED | PPS_HOLDOVER | PPS_REJECT
  | TDC_ORPHAN
  | AUX_WIRE_BREAK | AUX_WIRE_RESTORED | AUX_EXC_FAULT | AUX_EXC_REDUCED | AUX_LOOP_OPEN | AUX_LOOP_RESTORED
  | AUX_TEMP_INVALID | AUX_CAL_DONE | AUX_SCAN_MISSED
  | SEC_ERROR_STATE | SEC_RECOVERED | SEC_AUTH_FAILED | SEC_AUDIT_FULL | SEC_BOOT_FALLBACK | SEC_ZEROISED
  | SEC_DEBUG_UNLOCKED
  | HLT_TEMP_WARN | HLT_SHED | HLT_COMPARE_OFF | HLT_THERMAL_NORMAL | HLT_VOLTAGE | HLT_CLOCK | HLT_PROCESS
  | HLT_ECC_CONFIG | HLT_DRAM_UE | HLT_DRAM_CE_RATE | TRIM_EXHAUSTED | TRIM_INVALID | HLT_COUNTER_SAT
  | HLT_SAFE_REQUEST | HLT_SHADOW_UE
  | ASK_LINK_UP | ASK_LINK_DOWN | ASK_MASTER_LOST | ASK_MASTER_RESTORED | ASK_RING_BROKEN | ASK_ROLE_CONFLICT
  | ASK_TIME_FAULT | ASK_ARM_UNMATCHED | ASK_CAL_DONE
  | PWR_SAFE_ENTER | PWR_SAFE_EXIT | PWR_DOMAIN_FAULT | PWR_BOOT_DONE | PWR_POWER_LOST
deriving DecidableEq, Repr

/-- The event ID (R12): group in [15:10], index in [9:0]. -/
def Ev.id : Ev → Nat
  | .SYS_LINK_LOST => 0x0401
  | .SYS_LINK_RESTORED => 0x0402
  | .SYS_WATCHDOG => 0x0403
  | .SYS_RING_ERROR => 0x0404
  | .SYS_DOORBELL_BAD => 0x0405
  | .SYS_EVT_DELAYED => 0x0406
  | .SYS_PM_DECLINED => 0x0407
  | .NOT_CAPTURED => 0x0801
  | .HOLD_ENTER => 0x0802
  | .HOLD_EXIT => 0x0803
  | .IDLE_ENTER => 0x0804
  | .GROUP_TIMEOUT => 0x0805
  | .IDLE_RETRY => 0x0806
  | .SEN_LANE_FAILED => 0x0C01
  | .SEN_SPARE_IN => 0x0C02
  | .SEN_BLIND => 0x0C03
  | .SEN_SPARE_FAILED => 0x0C04
  | .SEN_LANE_RESTORED => 0x0C05
  | .SEN_SETTLING => 0x0C06
  | .SEN_CLAMP_RANGE_EVT => 0x0C07
  | .SEN_EDGE_CLAMPED => 0x0C08
  | .COR_SATURATED => 0x1001
  | .COR_TEMP_HOLD => 0x1002
  | .COR_TEMP_CLAMPED => 0x1003
  | .COR_DEFAULT_IN_USE => 0x1004
  | .COR_LOAD_CRC => 0x1005
  | .COR_CAL_DONE => 0x1006
  | .COR_FLASH_FAIL => 0x1007
  | .CAP_JOB_SWITCHED => 0x1401
  | .CAP_JOB_PART_LATE => 0x1402
  | .CAP_JOB_PART_ARRIVED => 0x1403
  | .CAP_COV_OVERFLOW => 0x1404
  | .CAP_RUN_CLOSED => 0x1405
  | .CAP_TAG_CLAMPED => 0x1406
  | .CMP_LOW_CONFIDENCE => 0x1801
  | .CMP_MARK_MISSING => 0x1802
  | .CMP_HALTED => 0x1803
  | .CMP_STRETCH_LIMIT => 0x1804
  | .CMP_DRIFT => 0x1805
  | .CMP_ETCHER_FULL => 0x1806
  | .CMP_LEARN_DONE => 0x1807
  | .CMP_REF_FAULT => 0x1808
  | .CMP_REGION_CAPPED => 0x1809
  | .CMP_SEAM_SELF => 0x180A
  | .HQ_DROP => 0x1C01
  | .HQ_STALE => 0x1C02
  | .QUEUE_FAULT => 0x1C03
  | .HQ_FLUSHED => 0x1C04
  | .HQ_CREDIT_OVER => 0x1C05
  | .HQ_SPILL_ENTER => 0x1C06
  | .HQ_SPILL_FULL => 0x1C07
  | .HQ_SPILL_DRAINED => 0x1C08
  | .HIS_HOLE => 0x1C09
  | .HIS_REPLAY_PARTIAL => 0x1C0A
  | .HIS_BAR2_BLOCKED => 0x1C0B
  | .LAMP_OPEN => 0x2001
  | .LAMP_SHORT => 0x2002
  | .LAMP_NEIGHBOUR => 0x2003
  | .LAMP_CHAIN_LOST => 0x2004
  | .LAMP_CHAIN_RESTORED => 0x2005
  | .LAMP_BOOST_LIMIT => 0x2006
  | .LAMP_BOOST_OVP => 0x2007
  | .LAMP_DERATE => 0x2008
  | .LAMP_SHUTDOWN => 0x2009
  | .LAMP_TEMP_INVALID => 0x200A
  | .LAMP_PULSE_CLIPPED => 0x200B
  | .LAMP_SYNC_MISSED => 0x200C
  | .LAMP_UNDIAGNOSED => 0x200D
  | .MOT_MOVE_DONE => 0x2401
  | .MOT_LIMIT => 0x2402
  | .MOT_HOME_END => 0x2403
  | .MOT_SHORT => 0x2404
  | .MOT_GEAR_LAG => 0x2405
  | .MOT_GEAR_CHANGED => 0x2406
  | .MOT_PACE_STOPPED => 0x2407
  | .MOT_PACE_RESUMED => 0x2408
  | .MOT_CEILING => 0x2409
  | .ENC_AMPLITUDE => 0x2801
  | .ENC_DOUBLE_CHANGE => 0x2802
  | .ENC_CORR_LIMIT => 0x2803
  | .ENC_REF_CORRECTED => 0x2804
  | .PPS_LOCKED => 0x2805
  | .PPS_HOLDOVER => 0x2806
  | .PPS_REJECT => 0x2807
  | .TDC_ORPHAN => 0x2808
  | .AUX_WIRE_BREAK => 0x2C01
  | .AUX_WIRE_RESTORED => 0x2C02
  | .AUX_EXC_FAULT => 0x2C03
  | .AUX_EXC_REDUCED => 0x2C04
  | .AUX_LOOP_OPEN => 0x2C05
  | .AUX_LOOP_RESTORED => 0x2C06
  | .AUX_TEMP_INVALID => 0x2C07
  | .AUX_CAL_DONE => 0x2C08
  | .AUX_SCAN_MISSED => 0x2C09
  | .SEC_ERROR_STATE => 0x3001
  | .SEC_RECOVERED => 0x3002
  | .SEC_AUTH_FAILED => 0x3003
  | .SEC_AUDIT_FULL => 0x3004
  | .SEC_BOOT_FALLBACK => 0x3005
  | .SEC_ZEROISED => 0x3006
  | .SEC_DEBUG_UNLOCKED => 0x3007
  | .HLT_TEMP_WARN => 0x3401
  | .HLT_SHED => 0x3402
  | .HLT_COMPARE_OFF => 0x3403
  | .HLT_THERMAL_NORMAL => 0x3404
  | .HLT_VOLTAGE => 0x3405
  | .HLT_CLOCK => 0x3406
  | .HLT_PROCESS => 0x3407
  | .HLT_ECC_CONFIG => 0x3408
  | .HLT_DRAM_UE => 0x3409
  | .HLT_DRAM_CE_RATE => 0x340A
  | .TRIM_EXHAUSTED => 0x340B
  | .TRIM_INVALID => 0x340C
  | .HLT_COUNTER_SAT => 0x340E
  | .HLT_SAFE_REQUEST => 0x340F
  | .HLT_SHADOW_UE => 0x3410
  | .ASK_LINK_UP => 0x3801
  | .ASK_LINK_DOWN => 0x3802
  | .ASK_MASTER_LOST => 0x3803
  | .ASK_MASTER_RESTORED => 0x3804
  | .ASK_RING_BROKEN => 0x3805
  | .ASK_ROLE_CONFLICT => 0x3806
  | .ASK_TIME_FAULT => 0x3807
  | .ASK_ARM_UNMATCHED => 0x3808
  | .ASK_CAL_DONE => 0x3809
  | .PWR_SAFE_ENTER => 0x3C01
  | .PWR_SAFE_EXIT => 0x3C02
  | .PWR_DOMAIN_FAULT => 0x3C03
  | .PWR_BOOT_DONE => 0x3C04
  | .PWR_POWER_LOST => 0x3C05

end Sys2Proof.Machine
end

