-- ==== Sys2Proof/Machine/Bits.lean ====
section
/-! DEFINITION. Arithmetic the spec writes out: rounding, clamping, integer roots, the CRCs of R124, R202 and R544, byte
orders (R9), fields, and the binary32 arithmetic of R414 and R415. -/

namespace Sys2Proof.Machine

/-- Quotient rounded half towards +∞ (R172, R192, R240, R280); the divisor is positive. -/
def roundHalfUp (num : Int) (den : Nat) : Int := (2 * num + den) / (2 * den)

/-- Quotient rounded half away from zero (R415). -/
def roundHalfAway (num : Int) (den : Nat) : Int :=
  if num < 0 then - ((2 * (-num) + den) / (2 * den)) else (2 * num + den) / (2 * den)

/-- Quotient rounded up, of naturals. -/
def ceilDiv (a b : Nat) : Nat := (a + (b - 1)) / b

/-- The value limited to lo..hi. -/
def clampInt (lo hi x : Int) : Int := if x < lo then lo else if hi < x then hi else x

/-- The value limited to lo..hi, naturals. -/
def clampNat (lo hi x : Nat) : Nat := if x < lo then lo else if hi < x then hi else x

/-- Counter addition that stops at 0xFFFFFFFF (R537). -/
def satAdd32 (a b : Nat) : Nat := if a + b < 0xFFFFFFFF then a + b else 0xFFFFFFFF

/-- The n low bits of a number read as two's complement. -/
def toSigned (n x : Nat) : Int :=
  let y := x % 2 ^ n
  if 2 * y < 2 ^ n then (y : Int) else (y : Int) - 2 ^ n

/-- A signed number as n bits. -/
def ofSigned (n : Nat) (x : Int) : Nat := (x % (2 ^ n : Int)).toNat

/-- Bits [hi:lo] of a number. -/
def natField (x hi lo : Nat) : Nat := (x / 2 ^ lo) % 2 ^ (hi + 1 - lo)

/-- Bit n of a number. -/
def natBit (x n : Nat) : Bool := x.testBit n

/-- The numbers below n whose bit is set in a mask. -/
def maskList (n mask : Nat) : List Nat := (List.range n).filter (fun i => mask.testBit i)

/-- The mask with the bits of a list set. -/
def maskOf (l : List Nat) : Nat := l.foldl (fun m i => m ||| 2 ^ i) 0

/-- A Boolean as a bit. -/
def bitNat (b : Bool) : Nat := if b then 1 else 0

/-- A Boolean placed at a bit position. -/
def bitAt (b : Bool) (n : Nat) : Nat := if b then 2 ^ n else 0

/-- The largest r with r*r ≤ n. -/
def isqrt (n : Nat) : Nat :=
  (List.range (n.log2 / 2 + 1)).reverse.foldl
    (fun r b => if (r + 2 ^ b) * (r + 2 ^ b) ≤ n then r + 2 ^ b else r) 0

/-- The largest r with r*r*r ≤ n. -/
def icbrt (n : Nat) : Nat :=
  (List.range (n.log2 / 3 + 1)).reverse.foldl
    (fun r b => if (r + 2 ^ b) * (r + 2 ^ b) * (r + 2 ^ b) ≤ n then r + 2 ^ b else r) 0

/-- n bytes of a number, least significant first (R9). -/
def leBytes : Nat → Nat → List Byte
  | 0, _ => []
  | n + 1, x => BitVec.ofNat 8 x :: leBytes n (x / 256)

/-- The number of a little-endian byte string (R9). -/
def ofLe : List Byte → Nat
  | [] => 0
  | b :: bs => b.toNat + 256 * ofLe bs

/-- Four bytes of a word, least significant first. -/
def wordBytes (w : Word) : List Byte := leBytes 4 w.toNat

/-- The bytes of a list of words. -/
def wordsBytes (ws : List Word) : List Byte := ws.flatMap wordBytes

/-- Words of a byte list, four bytes each, the last one filled with zeros. -/
def bytesWords (n : Nat) (bs : List Byte) : List Word :=
  (List.range n).map (fun i => BitVec.ofNat 32 (ofLe ((bs.drop (4 * i)).take 4)))

/-- A list cut or filled to a length. -/
def fitList {α : Type} (n : Nat) (d : α) (l : List α) : List α := l.take n ++ List.replicate (n - l.length) d

/-- One step of the reflected CRC-32 register. -/
def crc32Bit (c : Nat) : Nat := if c % 2 = 1 then (c / 2) ^^^ 0xEDB88320 else c / 2

/-- One byte into the CRC-32 register. -/
def crc32Byte (c : Nat) (b : Byte) : Nat :=
  let x := c ^^^ b.toNat
  crc32Bit (crc32Bit (crc32Bit (crc32Bit (crc32Bit (crc32Bit (crc32Bit (crc32Bit x)))))))

/-- CRC-32 of R202: polynomial 0x04C11DB7 reflected, initial and final 0xFFFFFFFF. -/
def crc32 (bs : List Byte) : Nat := (bs.foldl crc32Byte 0xFFFFFFFF) ^^^ 0xFFFFFFFF

/-- One bit into a left-shifting CRC register of n bits. -/
def crcStep (n poly : Nat) (c : Nat) (bit : Bool) : Nat :=
  let top := c.testBit (n - 1)
  let c' := (2 * c) % 2 ^ n
  if top == bit then c' else c' ^^^ poly

/-- The bits of a number from bit n − 1 down. -/
def bitsDown (n x : Nat) : List Bool := (List.range n).reverse.map (fun i => x.testBit i)

/-- CRC-16 of R544: polynomial 0x1021, initial value 0xFFFF, no reflection, no final XOR. -/
def crc16 (bs : List Byte) : Nat :=
  (bs.flatMap (fun b => bitsDown 8 b.toNat)).foldl (crcStep 16 0x1021) 0xFFFF

/-- CRC-4 of R124: polynomial x⁴ + x + 1, initial value 0xF. -/
def crc4 (bits : List Bool) : Nat := bits.foldl (crcStep 4 0x3) 0xF

/-- A chain command word's CRC-4, over the 28 bits other than [19:16] (R124). -/
def chainCmdCrc (w : Nat) : Nat := crc4 (bitsDown 12 (w / 2 ^ 20) ++ bitsDown 16 w)

/-- A chain status word's CRC-4, over [31:28] and [23:0] (R126). -/
def chainStatusCrc (w : Nat) : Nat := crc4 (bitsDown 4 (w / 2 ^ 28) ++ bitsDown 24 w)

/-- An IEEE 754 binary32 value: a finite number ±mag·2^exp, an infinity or a NaN. -/
inductive B32 where
  | fin (neg : Bool) (mag : Nat) (exp : Int)
  | inf (neg : Bool)
  | nan
deriving DecidableEq, Repr

/-- A magnitude divided by 2^k, rounded to nearest, ties to even. -/
def shiftRoundEven (mag k : Nat) : Nat :=
  let d := 2 ^ k
  let q := mag / d
  let r := mag % d
  if d < 2 * r ∨ (2 * r = d ∧ q % 2 = 1) then q + 1 else q

/-- ±mag·2^exp rounded to binary32, nearest, ties to even. -/
def b32Round (neg : Bool) (mag : Nat) (exp : Int) : B32 :=
  if mag = 0 then .fin neg 0 0 else
  let top : Int := (mag.log2 : Int) + exp
  let qe : Int := if top - 23 < -149 then -149 else top - 23
  let m := if qe ≤ exp then mag * 2 ^ (exp - qe).toNat else shiftRoundEven mag (qe - exp).toNat
  if 128 ≤ (m.log2 : Int) + qe then .inf neg else .fin neg m qe

/-- The value of 32 bits read as binary32. -/
def b32OfBits (w : Nat) : B32 :=
  let neg := w.testBit 31
  let e := natField w 30 23
  let f := natField w 22 0
  if e = 255 then (if f = 0 then .inf neg else .nan)
  else if e = 0 then .fin neg f (-149)
  else .fin neg (f + 2 ^ 23) ((e : Int) - 150)

/-- A signed integer times 2^exp as binary32. -/
def b32OfInt (x : Int) (exp : Int) : B32 := b32Round (decide (x < 0)) x.natAbs exp

/-- Product, rounded (R415). -/
def B32.mul : B32 → B32 → B32
  | .nan, _ => .nan
  | _, .nan => .nan
  | .inf a, .inf b => .inf (a != b)
  | .inf a, .fin b m _ => if m = 0 then .nan else .inf (a != b)
  | .fin a m _, .inf b => if m = 0 then .nan else .inf (a != b)
  | .fin a m e, .fin b n f => b32Round (a != b) (m * n) (e + f)

/-- Sum, rounded (R415). -/
def B32.add : B32 → B32 → B32
  | .nan, _ => .nan
  | _, .nan => .nan
  | .inf a, .inf b => if a = b then .inf a else .nan
  | .inf a, .fin _ _ _ => .inf a
  | .fin _ _ _, .inf b => .inf b
  | .fin a m e, .fin b n f =>
    let q : Int := if e < f then e else f
    let x : Int := (if a then -(m : Int) else m) * 2 ^ (e - q).toNat
    let y : Int := (if b then -(n : Int) else n) * 2 ^ (f - q).toNat
    let z := x + y
    if z = 0 then .fin (a && b) 0 0 else b32Round (decide (z < 0)) z.natAbs q

/-- A finite binary32 times 65,536 rounded, ties away from zero (R415); none for an infinity or a NaN. -/
def B32.toFixed16 : B32 → Option Int
  | .fin neg m e =>
    let k := e + 16
    let v : Int := if 0 ≤ k then (m : Int) * 2 ^ k.toNat else roundHalfAway (m : Int) (2 ^ (-k).toNat)
    some (if neg then -v else v)
  | _ => none

end Sys2Proof.Machine
end

