-- ==== Sys2Proof/Machine/Param.lean ====
section
/-! DEFINITION. The writable parameters of every block: names, widths, reset values, commit points and ranges, one row for
each row of the parameter tables R64, R106, R151, R184, R227, R269, R318, R369, R370, R401, R427, R471, R507, R538, R561 and
R581. The per-queue parameters of R369 live in the queue records instead. -/

namespace Sys2Proof.Machine

/-- The commit points of R52, in the coding of R447 byte 8. -/
inductive Pt where
  | immediate | tick | rept | position | idle
deriving DecidableEq, Repr

/-- A writable parameter; per-instance parameters carry their instance number beside the name. -/
inductive Par where
  | SEQ_TICK_SRC | SEQ_POS_SRC | SEQ_TRIG_EDGE | SEQ_PERIOD | SEQ_NUM_PHASES | SEQ_GUARD | SEQ_EXP | SEQ_SPREAD
  | SEQ_HOLD_LIMIT | SEQ_IDLE_DWELL | SEQ_GROUP_TIMEOUT
  | POS_MODE | POS_DIR | POS_CORR_EN | POS_CORR_SHIFT | POS_AMP_LO | POS_AMP_HI | POS_REF_MODE | POS_REF_VALUE | POS_REF_PERIOD
  | POS_COUNT_LEN | POS_VWIN | POS_STILL_TIME | POS_LOG_PERIOD | TDC_THRESH | TDC_HYST | TDC_HOLDOFF | TDC_MODE
  | TDC_START | TDC_STOP | TDC_EDGE | TDC_ENC | TDC_REARM | TDC_TIMEOUT | TDC_ORDER_WINDOW | TDC_FREQ_PPB | TDC_AGE_PPB_DAY
  | TDC_AGE_LEARN | TDC_PPS_MODE | TDC_PPS_KP | TDC_PPS_KI | TDC_SLEW_MAX | TDC_LOCK_WIN | TDC_PPS_REJECT
  | LMP_MODE | LMP_CHIPS | LMP_CLK_DIV | LMP_PULSE | LMP_DELAY | LMP_SYNC_MODE | LMP_PROOF_EVERY | LMP_HR_TARGET
  | LMP_HR_HYST | LMP_BOOST_STEP_DN | LMP_BOOST_MIN | LMP_BOOST_MAX | LMP_BOOST_FREQ | LMP_BOOST_ILIM | LMP_FB_RATIO
  | LMP_TEMP_CH | LMP_DERATE_T0 | LMP_DERATE_T1 | LMP_DERATE_TSHUT | LMP_DERATE_MIN | LMP_SHORT_V | LMP_DIAG_I | LMP_P64_MAP
  | LMP_CHAIN_RETRY
  | SEN_GEN_EN | SEN_PCLK_DIV | SEN_SCLK_HIGH | SEN_SCLK_FREE | SEN_VID_LAT | SEN_CDS_MODE | SEN_CDS_RST | SEN_CDS_SIG
  | SEN_RO_CLK | SEN_LANE_EN | SEN_GEN | SEN_COL_BASE | SEN_LEAD | SEN_BLACK_N | SEN_GAP | SEN_ACTIVE | SEN_REV
  | SEN_CLAMP_MODE | SEN_CLAMP_SHIFT | SEN_PEDESTAL | SEN_BLACK_NOM | SEN_BLACK_TOL | SEN_GAIN | SEN_TEST_TOL
  | COR_MODE | COR_TEMP_BAR | COR_CAL_LINES | COR_CAL_PERIOD | COR_WHITE_TARGET | COR_LEVEL | COR_TILE_AXIS | COR_TILE_IN
  | COR_TILE_PARK | COR_SETTLE | COR_WU_INTERVAL | COR_WU_MAX | COR_WU_STABLE | COR_WU_STABLE_TIME
  | CAP_GRID_PITCH | CAP_ORIGIN_MODE | CAP_ORIGIN | CAP_RESAMPLE | CAP_AXIS_SCALE | CAP_COV_SIZE | CAP_COV_LIVE
  | CMP_ENABLE | CMP_REPEAT_MODE | CMP_REPEAT_LINES | CMP_MARK_CH | CMP_MARK_WIN | CMP_MARK_MISS_MAX | CMP_X0 | CMP_SEARCH_X
  | CMP_SEARCH_Y | CMP_SAD_MAX | CMP_CURV_MIN | CMP_ROW_MIN | CMP_OUTLIER | CMP_BLEND | CMP_FLAG_MASK | CMP_SUMMARY_QUEUE
  | CMP_SEAM_WAIT | CMP_LEARN_K | CMP_LEARN_FLOOR | CMP_EDGE_GRAD | CMP_EDGE_RADIUS | CMP_EDGE_ADD | CMP_M
  | HQ_WAIT_LIMIT | HQ_STR_EN | HQ_STR_COL0 | HQ_STR_COL1 | HQ_STR_PH | HQ_STR_FMT | HQ_STR_FLAGS | HQ_STR_LINES
  | HIS_REF_SLOTS | HIS_REF_SLOT_SIZE | HIS_SHD_SLOTS | HIS_SPILL | HIS_SCRATCH | HIS_HIST | HIS_BAR2_BASE
  | MOT_EN | MOT_USTEP | MOT_IRUN | MOT_IHOLD | MOT_HOLD_DELAY | MOT_TOFF | MOT_TBLANK | MOT_SLOW | MOT_PROFILE
  | MOT_VSTART | MOT_VMAX | MOT_ACCEL | MOT_DECEL | MOT_JERK | MOT_LIM_EN | MOT_LIM_POL | MOT_LIM_DECEL | MOT_LIM_RELEASE
  | MOT_STALL_LEVEL | MOT_LOG_EN | MOT_PACE_AXES | MOT_PACE_SMASK | MOT_PACE_Q | MOT_PACE_LOW | MOT_PACE_HIGH | MOT_PACE_FMIN
  | MOT_PACE_STOP | MOT_PACE_CEIL | MOT_PACE_LOOP
  | AUX_CONFIG | AUX_TRIG | AUX_SCAN_PERIOD | AUX_TICK_DIV | AUX_SCAN_MASK | AUX_MUX_SETTLE | AUX_OPEN_COUNT | AUX_CAL_SAMPLES
  | AUX_RANGE | AUX_REF | AUX_FAULT | AUX_EXC_PIN | AUX_TARE | AUX_SPAN | AUX_SPAN_TARGET | AUX_LIN_ORDER | AUX_LIN_TCH
  | AUX_LIN_TDEF | AUX_EXC | AUX_EXC_IMIN | AUX_EXC_IMAX | AUX_LOOP_MODE | AUX_LOOP_SET | AUX_LOOP_CH | AUX_LOOP_VLO
  | AUX_LOOP_VHI | AUX_LOOP_FMODE | AUX_LOOP_FAULT
  | SYS_EXEC_BUDGET | SYS_BULK_WEIGHT | SYS_EVT_HOLDOFF | SYS_IRQ_HOLDOFF | SYS_WDT_PERIOD | SYS_SVC_SHARE | EVT_VEC
  | EVT_EN
  | SEC_SELFTEST_PERIOD
  | HLT_CLASS | HLT_CE_LIMIT | HLT_SCRUB_PERIOD | HLT_PM_LIMIT
  | ASK_ROLE | ASK_DEVICES | ASK_HOP_W
  | PWR_SLICE_REQ
deriving DecidableEq, Repr

/-- The values a parameter accepts. -/
inductive Range where
  | between (lo hi : Nat)
  | zeroOr (lo hi : Nat)
  | upToOr (hi other : Nat)
  | oneOf (vs : List Nat)
  | signedWithin (lim : Nat)
  | gain
  | linOrder
deriving DecidableEq, Repr

/-- One row of a parameter table. -/
structure ParRow where
  bits : Nat
  reset : Nat
  commit : List Pt
  range : Range
deriving DecidableEq, Repr

/-- Whether a raw value of a given width lies in a range. -/
def Range.ok (bits : Nat) : Range → Nat → Bool
  | .between lo hi, v => decide (lo ≤ v) && decide (v ≤ hi)
  | .zeroOr lo hi, v => decide (v = 0) || (decide (lo ≤ v) && decide (v ≤ hi))
  | .upToOr hi other, v => decide (v ≤ hi) || decide (v = other)
  | .oneOf vs, v => vs.contains v
  | .signedWithin lim, v => decide ((toSigned bits v).natAbs ≤ lim)
  | .gain, v => decide (v / 4 ≤ 64)
  | .linOrder, v => decide (v % 8 ≤ 5) && decide (v / 8 ≤ 2)

/-- The parameter tables (R64, R106, R151, R184, R227, R269, R318, R369, R370, R401, R427, R471, R507, R538, R561, R581). -/
def Par.row : Par → ParRow
  | .SEQ_TICK_SRC => ⟨2, 0, [.idle], .between 0 3⟩
  | .SEQ_POS_SRC => ⟨4, 0, [.idle], .oneOf [0, 1, 2, 3, 4, 8, 9, 10, 11, 12, 13, 14, 15]⟩
  | .SEQ_TRIG_EDGE => ⟨1, 0, [.idle], .between 0 1⟩
  | .SEQ_PERIOD => ⟨32, 100000, [.tick, .idle], .between 1000 4294967295⟩
  | .SEQ_NUM_PHASES => ⟨3, 1, [.rept, .position, .idle], .between 1 6⟩
  | .SEQ_GUARD => ⟨16, 200, [.tick, .rept, .position, .idle], .between 200 65535⟩
  | .SEQ_EXP => ⟨16, 1000, [.tick, .rept, .position, .idle], .between 50 65535⟩
  | .SEQ_SPREAD => ⟨1, 1, [.idle], .between 0 1⟩
  | .SEQ_HOLD_LIMIT => ⟨17, 1000, [.idle], .between 10 100000⟩
  | .SEQ_IDLE_DWELL => ⟨10, 20, [.immediate], .between 1 1000⟩
  | .SEQ_GROUP_TIMEOUT => ⟨16, 100, [.immediate], .between 1 65535⟩
  | .POS_MODE => ⟨1, 0, [.idle], .between 0 1⟩
  | .POS_DIR => ⟨1, 0, [.idle], .between 0 1⟩
  | .POS_CORR_EN => ⟨1, 1, [.idle], .between 0 1⟩
  | .POS_CORR_SHIFT => ⟨4, 4, [.idle], .between 0 15⟩
  | .POS_AMP_LO => ⟨12, 500, [.idle], .between 0 4095⟩
  | .POS_AMP_HI => ⟨12, 1400, [.idle], .between 0 4095⟩
  | .POS_REF_MODE => ⟨2, 0, [.idle], .between 0 2⟩
  | .POS_REF_VALUE => ⟨32, 0, [.idle], .between 0 4294967295⟩
  | .POS_REF_PERIOD => ⟨32, 0, [.idle], .between 0 4294967295⟩
  | .POS_COUNT_LEN => ⟨32, 320000, [.idle], .between 0 4294967295⟩
  | .POS_VWIN => ⟨11, 100, [.tick, .idle], .between 1 1024⟩
  | .POS_STILL_TIME => ⟨16, 100, [.idle], .between 1 65535⟩
  | .POS_LOG_PERIOD => ⟨16, 0, [.tick, .idle], .zeroOr 10 65535⟩
  | .TDC_THRESH => ⟨8, 120, [.tick, .idle], .between 0 255⟩
  | .TDC_HYST => ⟨5, 4, [.tick, .idle], .between 0 19⟩
  | .TDC_HOLDOFF => ⟨16, 0, [.tick, .idle], .between 0 65535⟩
  | .TDC_MODE => ⟨2, 0, [.tick, .idle], .between 0 2⟩
  | .TDC_START => ⟨4, 0, [.tick, .idle], .between 0 9⟩
  | .TDC_STOP => ⟨4, 0, [.tick, .idle], .between 0 9⟩
  | .TDC_EDGE => ⟨2, 0, [.tick, .idle], .between 0 3⟩
  | .TDC_ENC => ⟨2, 0, [.tick, .idle], .between 0 3⟩
  | .TDC_REARM => ⟨1, 1, [.tick, .idle], .between 0 1⟩
  | .TDC_TIMEOUT => ⟨32, 0, [.tick, .idle], .between 0 4294967295⟩
  | .TDC_ORDER_WINDOW => ⟨16, 1000, [.tick, .idle], .between 0 65535⟩
  | .TDC_FREQ_PPB => ⟨32, 0, [.tick, .idle], .between 0 4294967295⟩
  | .TDC_AGE_PPB_DAY => ⟨16, 0, [.tick, .idle], .between 0 65535⟩
  | .TDC_AGE_LEARN => ⟨1, 1, [.tick, .idle], .between 0 1⟩
  | .TDC_PPS_MODE => ⟨2, 0, [.tick, .idle], .between 0 2⟩
  | .TDC_PPS_KP => ⟨4, 1, [.tick, .idle], .between 0 15⟩
  | .TDC_PPS_KI => ⟨4, 4, [.tick, .idle], .between 0 15⟩
  | .TDC_SLEW_MAX => ⟨16, 10000, [.tick, .idle], .between 0 65535⟩
  | .TDC_LOCK_WIN => ⟨16, 512, [.tick, .idle], .between 0 65535⟩
  | .TDC_PPS_REJECT => ⟨32, 51200, [.tick, .idle], .between 0 4294967295⟩
  | .LMP_MODE => ⟨2, 0, [.idle], .between 0 2⟩
  | .LMP_CHIPS => ⟨7, 0, [.idle], .between 0 64⟩
  | .LMP_CLK_DIV => ⟨8, 24, [.idle], .between 24 255⟩
  | .LMP_PULSE => ⟨16, 0, [.tick, .rept, .position, .idle], .zeroOr 50 65535⟩
  | .LMP_DELAY => ⟨16, 10, [.tick, .rept, .position, .idle], .between 10 65535⟩
  | .LMP_SYNC_MODE => ⟨1, 0, [.idle], .between 0 1⟩
  | .LMP_PROOF_EVERY => ⟨16, 256, [.tick, .idle], .between 0 65535⟩
  | .LMP_HR_TARGET => ⟨8, 20, [.tick, .idle], .between 0 255⟩
  | .LMP_HR_HYST => ⟨8, 10, [.tick, .idle], .between 0 255⟩
  | .LMP_BOOST_STEP_DN => ⟨8, 5, [.tick, .idle], .between 0 255⟩
  | .LMP_BOOST_MIN => ⟨10, 80, [.idle], .between 80 1023⟩
  | .LMP_BOOST_MAX => ⟨10, 240, [.idle], .between 0 600⟩
  | .LMP_BOOST_FREQ => ⟨8, 50, [.idle], .between 20 200⟩
  | .LMP_BOOST_ILIM => ⟨8, 100, [.idle], .between 0 255⟩
  | .LMP_FB_RATIO => ⟨16, 12800, [.idle], .between 0 65535⟩
  | .LMP_TEMP_CH => ⟨7, 127, [.idle], .upToOr 63 127⟩
  | .LMP_DERATE_T0 => ⟨8, 60, [.idle], .between 0 255⟩
  | .LMP_DERATE_T1 => ⟨8, 80, [.idle], .between 0 255⟩
  | .LMP_DERATE_TSHUT => ⟨8, 95, [.idle], .between 0 255⟩
  | .LMP_DERATE_MIN => ⟨8, 128, [.idle], .between 0 255⟩
  | .LMP_SHORT_V => ⟨8, 120, [.idle], .between 0 255⟩
  | .LMP_DIAG_I => ⟨12, 256, [.idle], .between 0 4095⟩
  | .LMP_P64_MAP => ⟨6, 8, [.idle], .between 0 63⟩
  | .LMP_CHAIN_RETRY => ⟨4, 3, [.idle], .between 1 15⟩
  | .SEN_GEN_EN => ⟨1, 0, [.idle], .between 0 1⟩
  | .SEN_PCLK_DIV => ⟨10, 8, [.idle], .between 8 1000⟩
  | .SEN_SCLK_HIGH => ⟨10, 4, [.idle], .between 1 999⟩
  | .SEN_SCLK_FREE => ⟨1, 0, [.idle], .between 0 1⟩
  | .SEN_VID_LAT => ⟨4, 0, [.idle], .between 0 15⟩
  | .SEN_CDS_MODE => ⟨1, 0, [.idle], .between 0 1⟩
  | .SEN_CDS_RST => ⟨5, 2, [.tick, .rept, .position, .idle], .between 0 29⟩
  | .SEN_CDS_SIG => ⟨5, 10, [.tick, .rept, .position, .idle], .between 2 31⟩
  | .SEN_RO_CLK => ⟨11, 1024, [.tick, .rept, .position, .idle], .between 1 1536⟩
  | .SEN_LANE_EN => ⟨1, 0, [.idle], .between 0 1⟩
  | .SEN_GEN => ⟨1, 0, [.idle], .between 0 1⟩
  | .SEN_COL_BASE => ⟨20, 0, [.idle], .between 0 1048575⟩
  | .SEN_LEAD => ⟨11, 0, [.idle], .between 0 2047⟩
  | .SEN_BLACK_N => ⟨7, 0, [.idle], .between 0 64⟩
  | .SEN_GAP => ⟨11, 0, [.idle], .between 0 2047⟩
  | .SEN_ACTIVE => ⟨11, 0, [.idle], .between 0 1024⟩
  | .SEN_REV => ⟨1, 0, [.idle], .between 0 1⟩
  | .SEN_CLAMP_MODE => ⟨2, 0, [.idle], .between 0 2⟩
  | .SEN_CLAMP_SHIFT => ⟨3, 0, [.tick, .rept, .position, .idle], .between 0 7⟩
  | .SEN_PEDESTAL => ⟨12, 512, [.idle], .between 0 4095⟩
  | .SEN_BLACK_NOM => ⟨14, 1024, [.idle], .between 0 16383⟩
  | .SEN_BLACK_TOL => ⟨14, 16383, [.idle], .between 0 16383⟩
  | .SEN_GAIN => ⟨9, 0, [.tick, .rept, .position, .idle], .gain⟩
  | .SEN_TEST_TOL => ⟨6, 24, [.idle], .between 4 63⟩
  | .COR_MODE => ⟨1, 0, [.idle], .between 0 1⟩
  | .COR_TEMP_BAR => ⟨3, 7, [.idle], .upToOr 3 7⟩
  | .COR_CAL_LINES => ⟨13, 256, [.idle], .between 16 4096⟩
  | .COR_CAL_PERIOD => ⟨32, 10000, [.idle], .between 0 4294967295⟩
  | .COR_WHITE_TARGET => ⟨16, 49152, [.idle], .between 0 65535⟩
  | .COR_LEVEL => ⟨9, 0, [.idle], .between 0 256⟩
  | .COR_TILE_AXIS => ⟨4, 15, [.idle], .upToOr 7 15⟩
  | .COR_TILE_IN => ⟨32, 0, [.idle], .between 0 4294967295⟩
  | .COR_TILE_PARK => ⟨32, 0, [.idle], .between 0 4294967295⟩
  | .COR_SETTLE => ⟨16, 200, [.idle], .between 0 65535⟩
  | .COR_WU_INTERVAL => ⟨16, 1000, [.idle], .between 100 60000⟩
  | .COR_WU_MAX => ⟨10, 256, [.idle], .between 8 1023⟩
  | .COR_WU_STABLE => ⟨8, 4, [.idle], .between 0 255⟩
  | .COR_WU_STABLE_TIME => ⟨8, 60, [.idle], .between 10 255⟩
  | .CAP_GRID_PITCH => ⟨32, 0, [.idle], .zeroOr 256 4294967295⟩
  | .CAP_ORIGIN_MODE => ⟨1, 0, [.idle], .between 0 1⟩
  | .CAP_ORIGIN => ⟨32, 0, [.idle], .between 0 4294967295⟩
  | .CAP_RESAMPLE => ⟨1, 1, [.idle], .between 0 1⟩
  | .CAP_AXIS_SCALE => ⟨32, 65536, [.idle], .between 0 4294967295⟩
  | .CAP_COV_SIZE => ⟨11, 32, [.idle], .between 1 1024⟩
  | .CAP_COV_LIVE => ⟨1, 1, [.idle], .between 0 1⟩
  | .CMP_ENABLE => ⟨1, 0, [.rept, .position, .idle], .between 0 1⟩
  | .CMP_REPEAT_MODE => ⟨2, 0, [.rept, .position, .idle], .between 0 2⟩
  | .CMP_REPEAT_LINES => ⟨24, 0, [.rept, .position, .idle], .zeroOr 256 16777215⟩
  | .CMP_MARK_CH => ⟨3, 0, [.rept, .position, .idle], .between 0 7⟩
  | .CMP_MARK_WIN => ⟨8, 8, [.rept, .position, .idle], .between 1 255⟩
  | .CMP_MARK_MISS_MAX => ⟨8, 3, [.rept, .position, .idle], .between 1 255⟩
  | .CMP_X0 => ⟨16, 0, [.rept, .position, .idle], .signedWithin 3968⟩
  | .CMP_SEARCH_X => ⟨4, 4, [.rept, .position, .idle], .between 1 8⟩
  | .CMP_SEARCH_Y => ⟨3, 2, [.rept, .position, .idle], .between 1 4⟩
  | .CMP_SAD_MAX => ⟨8, 12, [.rept, .position, .idle], .between 0 255⟩
  | .CMP_CURV_MIN => ⟨8, 4, [.rept, .position, .idle], .between 0 255⟩
  | .CMP_ROW_MIN => ⟨5, 8, [.rept, .position, .idle], .between 1 16⟩
  | .CMP_OUTLIER => ⟨8, 24, [.rept, .position, .idle], .between 0 255⟩
  | .CMP_BLEND => ⟨8, 16, [.rept, .position, .idle], .between 0 255⟩
  | .CMP_FLAG_MASK => ⟨4, 0, [.rept, .position, .idle], .between 0 15⟩
  | .CMP_SUMMARY_QUEUE => ⟨16, 68, [.rept, .position, .idle], .between 64 65535⟩
  | .CMP_SEAM_WAIT => ⟨8, 8, [.rept, .position, .idle], .between 1 255⟩
  | .CMP_LEARN_K => ⟨8, 48, [.rept, .position, .idle], .between 0 255⟩
  | .CMP_LEARN_FLOOR => ⟨8, 16, [.rept, .position, .idle], .between 0 255⟩
  | .CMP_EDGE_GRAD => ⟨8, 24, [.rept, .position, .idle], .between 0 255⟩
  | .CMP_EDGE_RADIUS => ⟨2, 1, [.rept, .position, .idle], .between 0 3⟩
  | .CMP_EDGE_ADD => ⟨8, 16, [.rept, .position, .idle], .between 0 255⟩
  | .CMP_M => ⟨16, 0, [.rept, .position, .idle], .between 0 65535⟩
  | .HQ_WAIT_LIMIT => ⟨7, 50, [.immediate], .between 1 100⟩
  | .HQ_STR_EN => ⟨1, 0, [.tick, .rept, .position, .idle], .between 0 1⟩
  | .HQ_STR_COL0 => ⟨20, 0, [.tick, .rept, .position, .idle], .between 0 1048575⟩
  | .HQ_STR_COL1 => ⟨20, 0, [.tick, .rept, .position, .idle], .between 0 1048575⟩
  | .HQ_STR_PH => ⟨6, 1, [.tick, .rept, .position, .idle], .between 1 63⟩
  | .HQ_STR_FMT => ⟨1, 0, [.tick, .rept, .position, .idle], .between 0 1⟩
  | .HQ_STR_FLAGS => ⟨1, 0, [.tick, .rept, .position, .idle], .between 0 1⟩
  | .HQ_STR_LINES => ⟨11, 32, [.tick, .rept, .position, .idle], .between 1 1024⟩
  | .HIS_REF_SLOTS => ⟨7, 0, [.idle], .between 0 64⟩
  | .HIS_REF_SLOT_SIZE => ⟨12, 1, [.idle], .between 1 4095⟩
  | .HIS_SHD_SLOTS => ⟨9, 16, [.idle], .between 0 256⟩
  | .HIS_SPILL => ⟨11, 64, [.idle], .between 0 1024⟩
  | .HIS_SCRATCH => ⟨11, 2, [.idle], .between 1 1024⟩
  | .HIS_HIST => ⟨12, 3072, [.idle], .between 0 3072⟩
  | .HIS_BAR2_BASE => ⟨8, 0, [.immediate], .between 0 255⟩
  | .MOT_EN => ⟨1, 0, [.idle], .between 0 1⟩
  | .MOT_USTEP => ⟨4, 8, [.idle], .between 0 8⟩
  | .MOT_IRUN => ⟨8, 0, [.tick, .idle], .between 0 255⟩
  | .MOT_IHOLD => ⟨8, 0, [.tick, .idle], .between 0 255⟩
  | .MOT_HOLD_DELAY => ⟨16, 200, [.tick, .idle], .between 0 65535⟩
  | .MOT_TOFF => ⟨6, 20, [.tick, .idle], .between 1 63⟩
  | .MOT_TBLANK => ⟨4, 3, [.tick, .idle], .between 0 15⟩
  | .MOT_SLOW => ⟨5, 8, [.tick, .idle], .between 0 16⟩
  | .MOT_PROFILE => ⟨1, 0, [.tick, .idle], .between 0 1⟩
  | .MOT_VSTART => ⟨32, 1000, [.tick, .idle], .between 1 4294967295⟩
  | .MOT_VMAX => ⟨32, 100000, [.tick, .idle], .between 0 4294967295⟩
  | .MOT_ACCEL => ⟨32, 1000000, [.tick, .idle], .between 1 4294967295⟩
  | .MOT_DECEL => ⟨32, 1000000, [.tick, .idle], .between 1 4294967295⟩
  | .MOT_JERK => ⟨32, 100000000, [.tick, .idle], .between 1 4294967295⟩
  | .MOT_LIM_EN => ⟨2, 0, [.idle], .between 0 3⟩
  | .MOT_LIM_POL => ⟨2, 0, [.idle], .between 0 3⟩
  | .MOT_LIM_DECEL => ⟨32, 10000000, [.tick, .idle], .between 0 4294967295⟩
  | .MOT_LIM_RELEASE => ⟨10, 5, [.tick, .idle], .between 1 1000⟩
  | .MOT_STALL_LEVEL => ⟨4, 10, [.tick, .idle], .between 1 15⟩
  | .MOT_LOG_EN => ⟨1, 0, [.tick, .idle], .between 0 1⟩
  | .MOT_PACE_AXES => ⟨8, 0, [.idle], .between 0 255⟩
  | .MOT_PACE_SMASK => ⟨32, 0, [.tick, .idle], .between 0 4294967295⟩
  | .MOT_PACE_Q => ⟨16, 0, [.tick, .idle], .between 0 65535⟩
  | .MOT_PACE_LOW => ⟨8, 64, [.tick, .idle], .between 0 255⟩
  | .MOT_PACE_HIGH => ⟨8, 192, [.tick, .idle], .between 0 255⟩
  | .MOT_PACE_FMIN => ⟨8, 32, [.tick, .idle], .between 1 255⟩
  | .MOT_PACE_STOP => ⟨16, 0, [.tick, .idle], .between 0 65535⟩
  | .MOT_PACE_CEIL => ⟨1, 1, [.idle], .between 0 1⟩
  | .MOT_PACE_LOOP => ⟨3, 7, [.idle], .upToOr 3 7⟩
  | .AUX_CONFIG => ⟨1, 0, [.idle], .between 0 1⟩
  | .AUX_TRIG => ⟨2, 0, [.tick, .idle], .between 0 3⟩
  | .AUX_SCAN_PERIOD => ⟨20, 1000, [.tick, .idle], .between 100 1000000⟩
  | .AUX_TICK_DIV => ⟨16, 1024, [.tick, .idle], .between 1 65535⟩
  | .AUX_SCAN_MASK => ⟨32, 0, [.tick, .idle], .between 0 4294967295⟩
  | .AUX_MUX_SETTLE => ⟨8, 10, [.tick, .idle], .between 1 255⟩
  | .AUX_OPEN_COUNT => ⟨4, 2, [.tick, .idle], .between 1 15⟩
  | .AUX_CAL_SAMPLES => ⟨11, 256, [.tick, .idle], .between 16 1024⟩
  | .AUX_RANGE => ⟨2, 0, [.tick, .idle], .between 0 3⟩
  | .AUX_REF => ⟨1, 0, [.idle], .between 0 1⟩
  | .AUX_FAULT => ⟨2, 0, [.idle], .between 0 3⟩
  | .AUX_EXC_PIN => ⟨5, 0, [.idle], .upToOr 15 31⟩
  | .AUX_TARE => ⟨16, 0, [.rept, .idle], .between 0 65535⟩
  | .AUX_SPAN => ⟨16, 16384, [.rept, .idle], .between 1 65535⟩
  | .AUX_SPAN_TARGET => ⟨16, 0, [.idle], .between 0 65535⟩
  | .AUX_LIN_ORDER => ⟨5, 1, [.tick, .idle], .linOrder⟩
  | .AUX_LIN_TCH => ⟨7, 127, [.tick, .idle], .upToOr 63 127⟩
  | .AUX_LIN_TDEF => ⟨16, 400, [.tick, .idle], .between 0 65535⟩
  | .AUX_EXC => ⟨2, 0, [.idle], .between 0 2⟩
  | .AUX_EXC_IMIN => ⟨8, 5, [.idle], .between 0 255⟩
  | .AUX_EXC_IMAX => ⟨8, 250, [.idle], .between 0 255⟩
  | .AUX_LOOP_MODE => ⟨2, 0, [.idle], .between 0 2⟩
  | .AUX_LOOP_SET => ⟨16, 10923, [.tick, .idle], .between 9831 62805⟩
  | .AUX_LOOP_CH => ⟨6, 0, [.tick, .idle], .between 0 63⟩
  | .AUX_LOOP_VLO => ⟨32, 0, [.tick, .idle], .between 0 4294967295⟩
  | .AUX_LOOP_VHI => ⟨32, 134217728, [.tick, .idle], .between 0 4294967295⟩
  | .AUX_LOOP_FMODE => ⟨2, 1, [.tick, .idle], .between 0 3⟩
  | .AUX_LOOP_FAULT => ⟨16, 9831, [.tick, .idle], .between 9831 62805⟩
  | .SYS_EXEC_BUDGET => ⟨14, 50, [.immediate], .between 10 10000⟩
  | .SYS_BULK_WEIGHT => ⟨8, 4, [.immediate], .between 1 255⟩
  | .SYS_EVT_HOLDOFF => ⟨16, 100, [.immediate], .between 0 65535⟩
  | .SYS_IRQ_HOLDOFF => ⟨10, 10, [.immediate], .between 0 1000⟩
  | .SYS_WDT_PERIOD => ⟨10, 100, [.immediate], .between 10 1000⟩
  | .SYS_SVC_SHARE => ⟨7, 60, [.immediate], .between 25 90⟩
  | .EVT_VEC => ⟨6, 1, [.immediate], .between 1 63⟩
  | .EVT_EN => ⟨1, 1, [.immediate], .between 0 1⟩
  | .SEC_SELFTEST_PERIOD => ⟨8, 24, [.immediate], .between 0 255⟩
  | .HLT_CLASS => ⟨3, 0, [.immediate], .upToOr 3 7⟩
  | .HLT_CE_LIMIT => ⟨16, 1000, [.immediate], .between 1 65535⟩
  | .HLT_SCRUB_PERIOD => ⟨8, 24, [.immediate], .between 0 255⟩
  | .HLT_PM_LIMIT => ⟨8, 50, [.immediate], .between 1 255⟩
  | .ASK_ROLE => ⟨2, 0, [.idle], .between 0 2⟩
  | .ASK_DEVICES => ⟨4, 2, [.idle], .between 2 8⟩
  | .ASK_HOP_W => ⟨8, 16, [.idle], .between 1 255⟩
  | .PWR_SLICE_REQ => ⟨4, 15, [.rept, .idle], .between 0 15⟩

/-- The event source number of an event ID (R459). -/
def srcOf (ev : Nat) : Nat := 40 * (ev / 1024 - 1) + ev % 1024 - 1

/-- The event ID of a source (R459). -/
def evOf (src : Nat) : Nat := 1024 * (src / 40 + 1) + src % 40 + 1

/-- The sources of reset class CRITICAL, by event ID (R513, R563, R583). -/
def criticalEvents : List Nat :=
  [0x3001, 0x3408, 0x340F, 0x3C01]

/-- The sources of reset class MAJOR, by event ID (R513, R563, R583). -/
def majorEvents : List Nat :=
  [0x0401, 0x0403, 0x0C03, 0x1007, 0x1404, 0x1803, 0x1C03, 0x1C07, 0x2004, 0x2007,
   0x2009, 0x2404, 0x3004, 0x3005, 0x3403, 0x3405, 0x3406, 0x3409, 0x3410, 0x3802,
   0x3803, 0x3805, 0x3806, 0x3C03, 0x3C05]

/-- The sources of reset class MINOR, by event ID (R513, R563, R583). -/
def minorEvents : List Nat :=
  [0x0404, 0x0801, 0x0C01, 0x0C04, 0x1005, 0x1806, 0x1808, 0x1C09, 0x2001, 0x2002,
   0x2003, 0x200A, 0x2801, 0x2802, 0x2C01, 0x2C03, 0x2C05, 0x3402, 0x340A, 0x340B,
   0x340C, 0x3807, 0x3808]

/-- The sources of reset class NOTICE, by event ID (R513, R563, R583). -/
def noticeEvents : List Nat :=
  [0x0C07, 0x1002, 0x2402, 0x2806, 0x3401, 0x3407, 0x340E]

/-- The severity class of a source at reset (R513, R563, R583): 7 NONE where no table names it. -/
def classReset (src : Nat) : Nat :=
  let ev := evOf src
  if criticalEvents.contains ev then 3 else if majorEvents.contains ev then 2
  else if minorEvents.contains ev then 1 else if noticeEvents.contains ev then 0 else 7

/-- The reset value of a parameter instance. -/
def Par.resetOf (p : Par) (i : Nat) : Nat :=
  match p with
  | .HLT_CLASS => classReset i
  | .COR_LEVEL => if i = 0 then 256 else 0
  | .AUX_EXC_PIN => if i < 16 then i else 31
  | _ => p.row.reset

/-- The key of a parameter instance in the parameter store. -/
def Par.key (p : Par) (i : Nat) : Nat := p.ctorIdx + 512 * i

/-- A value for one parameter instance. -/
structure ParWrite where
  par : Par
  inst : Nat
  val : Nat
deriving DecidableEq, Repr

/-- The value of a parameter instance in a store: its reset value where nothing is listed. -/
def parGet (m : Sparse Nat) (p : Par) (i : Nat) : Nat := Sparse.get m (p.resetOf i) (p.key i)

/-- A store after one write. -/
def parSet (m : Sparse Nat) (w : ParWrite) : Sparse Nat := Sparse.set m (w.par.resetOf w.inst) (w.par.key w.inst) w.val

/-- A store after writes, in order. -/
def parSets (m : Sparse Nat) (ws : List ParWrite) : Sparse Nat := ws.foldl parSet m

end Sys2Proof.Machine
end

