-- ==== Sys2Proof/Machine/DataHost.lean ====
section
/-! DEFINITION. What the host attachment, the event engine, the fault queue and the cores hold (chapters 12 and 14). -/

namespace Sys2Proof.Machine

/-- Ring state of R441: DISABLED, RUNNING, ERROR. -/
inductive RingSt where
  | disabled | running | error
deriving DecidableEq, Repr

/-- The register block of a ring (R441); phase is true for 1 (R444). -/
structure Ring where
  base : Nat
  size : Nat
  st : RingSt
  err : Nat
  host : Nat
  dev : Nat
  phase : Bool
deriving DecidableEq, Repr

/-- A fetched command until its final reply has been written (R457), with what its audit entry needs (R491). -/
structure Outst where
  cid : Nat
  ring : Nat
  tag : Nat
  opcode : Nat
  slot : Nat
  fence : Bool
  first : Bool
  final : Bool
  aborted : Bool
  role : Nat
  key : Nat
  counter : Nat
  commit : Nat
  arg : Nat
  words : List Word
deriving DecidableEq, Repr

/-- A reply in the completion store (R452, R457). -/
structure Cpl where
  cid : Nat
  ring : Nat
  tag : Nat
  opcode : Nat
  slot : Nat
  status : Nat
  detail : Nat
  words : List Word
  final : Bool
  waited : Bool
deriving DecidableEq, Repr

/-- What the event engine gathers for a source (R460). -/
structure EvSrc where
  count : Nat
  holding : Bool
  until_ : Nat
  batch : Nat
  firstTime : Nat
  lastTime : Nat
  firstDetail : Nat
  lastDetail : Nat
  waiting : Bool
deriving DecidableEq, Repr

/-- A source that has never raised. -/
def EvSrc.idle : EvSrc := ⟨0, false, 0, 0, 0, 0, 0, 0, false⟩

/-- An MSI-X table entry with its pending bit and the state of its vector (R463). -/
structure MsixVec where
  addr : Nat
  data : Nat
  ctrl : Nat
  pendingBit : Bool
  holding : Bool
  until_ : Nat
  dirty : Bool
deriving DecidableEq, Repr

/-- A write that waits in the link spill area (R352, R467), with the packet it publishes. -/
inductive SpillItem where
  | packet (q blk size : Nat) (writes : List (Nat × List Byte)) (done : Bool)
  | entry (addr : Nat) (bytes : List Byte) (vec : Nat)
deriving DecidableEq, Repr

/-- The state of a fault-queue entry (R515). -/
inductive FaultSt where
  | queued | handling | awaitAck
deriving DecidableEq, Repr

/-- A live fault-queue entry (R515, R520). -/
structure FaultEnt where
  slot : Nat
  src : Nat
  cls : Nat
  st : FaultSt
  reps : Nat
  firstTime : Nat
  lastTime : Nat
  firstDetail : Nat
  lastDetail : Nat
deriving DecidableEq, Repr

/-- The link of R442 and R466; lostAt is the loss whose end has not been reported, backAt the instant of a return whose spill still
    drains (R468). -/
structure Link where
  field : Nat
  adapterUp : Bool
  busMaster : Bool
  d0 : Bool
  rate : Nat
  width : Nat
  lostAt : Option Nat
  lostCause : Nat
  msixEnable : Bool
  backAt : Option Nat
deriving DecidableEq, Repr

/-- A host read and the bytes that answered it (R438, R345, R368); none while a wait-window read is stalled. poison tells that the
    completion carries poisoned data (R522). -/
structure HostRead where
  off : Nat
  data : List Byte
  poison : Bool
deriving DecidableEq, Repr

/-- A stalled wait-window read (R345); due once a flush, reset or disable of its queue has completed. -/
structure WaitRead where
  q : Nat
  at_ : Nat
  due : Bool
deriving DecidableEq, Repr

/-- The host attachment (chapter 12). -/
structure HostSt where
  rings : List Ring
  nextCid : Nat
  outst : List Outst
  store : List Cpl
  events : Sparse EvSrc
  evWait : List Nat
  evFull : Bool
  vecs : List MsixVec
  link : Link
  coresDown : Option Nat
  coreCause : Nat
  coreReset : Option Nat
  heartbeat : Nat
  beatAt : Nat
  bulkTurn : Nat
  lastRead : HostRead
  waits : List WaitRead
  spill : List SpillItem
  spillUsed : Nat
  spillDropping : Bool
deriving DecidableEq, Repr

/-- A ring after reset: DISABLED, phase 1 (R444; the phase before ENABLE is the model's, log entry 4). -/
def Ring.reset : Ring := ⟨0, 0, .disabled, 0, 0, 0, true⟩

/-- A vector after reset: masked, as PCI Express resets Vector Control (log entry 8). -/
def MsixVec.reset : MsixVec := ⟨0, 0, 1, false, false, 0, false⟩

/-- The link after reset: not trained, Bus Master Enable 0, function in D0 (R469). -/
def Link.reset : Link := ⟨2, false, false, true, 0, 0, none, 0, false, none⟩

/-- The host attachment after reset. -/
def HostSt.reset : HostSt :=
  ⟨List.replicate 6 Ring.reset, 0, [], [], [], [], false, List.replicate 64 MsixVec.reset, Link.reset, none, 0, none, 0, 0, 0,
   ⟨0, [], false⟩, [], [], 0, false⟩

end Sys2Proof.Machine
end

