-- ==== Sys2Proof/Machine/DataAsk.lean ====
section
/-! DEFINITION. What the cascade port holds (chapter 15). -/

namespace Sys2Proof.Machine

/-- A payload that waits for a frame (R545, R546). -/
structure AskPay where
  typ : Nat
  seg : Nat
  src : Nat
  dest : Nat
  broadcast : Bool
  body : List Byte
deriving DecidableEq, Repr

/-- An ASK_CAL that runs (R549): its command with the detail bits of its completion, the first pulse's instant, the intervals measured in glints; not running once a captured
    tick has cut it, until the next IDLE (R57). -/
structure AskCal where
  cid : Nat
  flags : Nat
  startAt : Nat
  intervals : List Nat
  running : Bool
deriving DecidableEq, Repr

/-- A seam record being put together: source, segments, frames since the first (R557). -/
structure SeamIn where
  src : Nat
  segs : List (Nat × List Byte)
  age : Nat
deriving DecidableEq, Repr

/-- A tick pulse whose index has not come (R553): the instant of raising and the stream's position there. -/
structure AskTick where
  at_ : Nat
  x : Int
deriving DecidableEq, Repr

/-- The cascade port. samples are the stream's glint stamps and positions in 1/256 count, newest first; tx is the last frame sent;
    mark a member's stamp of the last time mark; run the identifier of the last RUN frame with its instant; unmatched the line of an
    ARM frame without its JOB_ARM, with its job identifier; master the originator of MASTER frames; gap the first line that MASTER_LOST
    has cost, until the next index comes (R559). -/
structure AskSt where
  up : Bool
  wasUp : Bool
  good : Nat
  bad : Nat
  broken : Bool
  conflict : Bool
  calibrated : Bool
  lost : Bool
  align : Nat
  path : Nat
  timeErr : Int
  frameNo : Nat
  own : List AskPay
  relay : List AskPay
  seamSeg : Nat
  tx : List Byte
  samples : List (Nat × Int)
  tick : Option AskTick
  tickBad : Nat
  lastTick : Nat
  mark : Option Nat
  run : Option (Nat × Nat)
  runWait : Bool
  cal : Option AskCal
  seamsIn : List SeamIn
  unmatched : Option (Nat × Nat)
  master : Nat
  gap : Option Nat
deriving DecidableEq, Repr

/-- The port after reset (R542, R561): STANDALONE, nothing received. -/
def AskSt.reset : AskSt where
  up := false
  wasUp := false
  good := 0
  bad := 0
  broken := false
  conflict := false
  calibrated := false
  lost := false
  align := 0
  path := 0
  timeErr := 0
  frameNo := 0
  own := []
  relay := []
  seamSeg := 0
  tx := []
  samples := []
  tick := none
  tickBad := 0
  lastTick := 0
  mark := none
  run := none
  runWait := false
  cal := none
  seamsIn := []
  unmatched := none
  master := 0
  gap := none

end Sys2Proof.Machine
end

