-- ==== Sys2Proof/Machine/DataAuxm.lean ====
section
/-! DEFINITION. What the auxiliary measurement block holds (chapter 11). -/

namespace Sys2Proof.Machine

/-- One result (R412): channel, range, ratiometric, flags, code, glint stamp of its sample, linearised value in 1/65,536. -/
structure AuxRes where
  ch : Nat
  range : Nat
  ratio : Bool
  flags : Nat
  code : Int
  stamp : Nat
  value : Int
deriving DecidableEq, Repr

/-- A scan that runs (R409 to R411): instant, stamp and line of its trigger, steps done, the running step restarted (R419). -/
structure AuxScan where
  at_ : Nat
  stamp : Nat
  line : Nat
  steps : Nat
  restarted : Bool
  results : List AuxRes
deriving DecidableEq, Repr

/-- A channel: its latest valid result (stamp and value), the next result flagged SETTLING, wire break, excitation fault, burn-out
    scans in a row, a missing temperature already reported, coefficients a_ij at 6j + i (R415). -/
structure AuxCh where
  last : Option (Nat × Int)
  latestOk : Bool
  settling : Bool
  wire : Bool
  exc : Bool
  openRun : Nat
  tempBad : Bool
  coeffs : List Nat
deriving DecidableEq, Repr

/-- AUX_LOOP_STATE (R427). -/
inductive LoopSt where
  | off | running | open_ | fault
deriving DecidableEq, Repr

/-- A loop output: the setpoint it stands at, the readback, since when its readback tells of an open or a closed loop (R426). -/
structure AuxLoop where
  out : Nat
  rb : Nat
  st : LoopSt
  openSince : Option Nat
  goodSince : Option Nat
deriving DecidableEq, Repr

/-- A queued injection: its command and the channels it names (R419, R420). -/
structure AuxInj where
  cid : Nat
  chans : List (Nat × Nat)
  delayed : Bool
deriving DecidableEq, Repr

/-- An AUX_CAL whose capture waits (R417), with the number of queued injections ahead of it (R420). -/
structure AuxCalRun where
  cid : Nat
  ch : Nat
  span : Bool
  ahead : Nat
deriving DecidableEq, Repr

/-- The auxiliary measurement block. -/
structure AuxSt where
  chans : List AuxCh
  scan : Option AuxScan
  scanNo : Nat
  missed : Nat
  due : Nat
  ticks : Nat
  tickDue : Bool
  muxAddr : Nat
  inject : List AuxInj
  cal : Option AuxCalRun
  lockUntil : Nat
  reduced : List Bool
  loops : List AuxLoop
deriving DecidableEq, Repr

/-- A channel after reset: a10 = 2,048.0, every other coefficient 0 (R415). -/
def AuxCh.reset : AuxCh :=
  ⟨none, false, false, false, false, 0, false, [0, 0x45000000, 0, 0, 0, 0, 0, 0, 0, 0, 0, 0, 0, 0, 0, 0, 0, 0]⟩

/-- The block after reset (R427). -/
def AuxSt.reset : AuxSt where
  chans := List.replicate 64 AuxCh.reset
  scan := none
  scanNo := 0
  missed := 0
  due := 0
  ticks := 0
  tickDue := false
  muxAddr := 0
  inject := []
  cal := none
  lockUntil := 0
  reduced := List.replicate 16 false
  loops := List.replicate 4 ⟨0, 0, .off, none, none⟩

end Sys2Proof.Machine
end

