-- ==== Sys2Proof/Machine/DataCap.lean ====
section
/-! DEFINITION. What the capture block holds: the run, the grid, the resample buffer, the armed job, the coverage map (chapter 7). -/

namespace Sys2Proof.Machine

/-- CAP_RUN_STATE (R269). -/
inductive RunSt where
  | closed | open_ | closing
deriving DecidableEq, Repr

/-- A lane's corrected pixels of one sub-line: tile, lane place, first column, codes, and flags of R188 per pixel. -/
structure Seg where
  tile : Nat
  lane : Nat
  col0 : Nat
  codes : List Nat
  flags : List Nat
deriving DecidableEq, Repr

/-- A lane's part of a sub-line, with whether it was lost (R178, R189) or BLIND (R180) and the detail of the failure. -/
structure LaneSub where
  seg : Seg
  lost : Bool
  blind : Bool
  cause : Nat
deriving DecidableEq, Repr

/-- A sub-line in the resample buffer: its slot's line, phase, tag in 1/256 count, lanes, SATURATED set in it. -/
structure SubLine where
  line : Nat
  phase : Nat
  tag : Int
  lanes : List LaneSub
deriving DecidableEq, Repr

/-- A captured line that waits for its emission (R241): index, grid position in 1/256 count, stamp, phases, phases read, the job in
    effect, and columns that other rules keep from comparison (R146, R191, R207). -/
structure LineRec where
  line : Nat
  x : Int
  stamp : Nat
  phases : Nat
  read : Nat
  job : Nat
  skip : List (Nat × Nat)
deriving DecidableEq, Repr

/-- An emitted image line on its way to Mirror: for each phase the lanes' segments; the columns of BLIND lanes (R244) and those
    kept from comparison. -/
structure ImgLine where
  line : Nat
  x : Int
  stamp : Nat
  phases : List (List Seg)
  job : Nat
  blind : List (Nat × Nat)
  skip : List (Nat × Nat)
deriving DecidableEq, Repr

/-- The branches whose reports the coverage map keeps apart (R19, R263). -/
inductive Branch where
  | capture | mirror | streams | regions | security
deriving DecidableEq, Repr

/-- An open coverage-map entry (R262, R263). -/
structure CovEnt where
  branch : Branch
  first : Nat
  count : Nat
  col0 : Nat
  col1 : Nat
  state : Nat
  queue : Nat
  cause : Nat
  detail : Nat
  items : Nat
deriving DecidableEq, Repr

/-- A sealed map (R266): its area, length, header flags, entry count. -/
structure Sealed where
  area : Nat
  length : Nat
  flags : Nat
  entries : Nat
deriving DecidableEq, Repr

/-- The coverage map of the present run (R260 to R266); unreadable once an uncorrectable error lies in it (R522). -/
structure CovMap where
  area : Nat
  present : Bool
  written : Nat
  opens : List CovEnt
  overflow : Option Nat
  noSlots : Bool
  sealedMap : Option Sealed
  unreadable : Bool
deriving DecidableEq, Repr

/-- A JOB_ARM that waits for its arming instant (R251 to R257); held until the group it is a member of arrives (R61). -/
structure JobArm where
  cid : Nat
  job : Nat
  parts : Nat
  slot : Nat
  learn : Bool
  repeats : Nat
  tiles : Nat
  bars : Nat
  point : Pt
  arg : Nat
  arrival : Nat
  flags : Nat
  target : Option Nat
  gid : Option Nat
  held : Bool
deriving DecidableEq, Repr

/-- A job in effect with parts that have not switched (R254): the tiles whose halves were late, and the instants at which late parts
    have become resident. -/
structure JobLate where
  slot : Nat
  learn : Bool
  repeats : Nat
  tiles : Nat
  bars : Nat
  await : Nat
  lateTiles : Nat
  arrived : List (Nat × Nat)
deriving DecidableEq, Repr

/-- A closing run and the RUN_CLOSE that closes it (R268). -/
structure Closing where
  cid : Nat
  line : Nat
  flags : Nat
deriving DecidableEq, Repr

/-- The capture block. -/
structure CapSt where
  run : RunSt
  runId : Nat
  runCount : Nat
  openAt : Nat
  openStamp : Nat
  extBase : Int
  g0 : Int
  high : Int
  jobId : Nat
  jobSlot : Nat
  arm : Option JobArm
  late : Option JobLate
  lineRecs : List LineRec
  buffer : List SubLine
  prevTags : List (Option Int)
  tagRaised : Bool
  lastSegs : List (List Seg)
  mirrorIn : List ImgLine
  cov : CovMap
  captured : Nat
  capLine : Option Nat
  closing : Option Closing
deriving DecidableEq, Repr

/-- The capture block after reset (R269). -/
def CapSt.reset : CapSt where
  run := .closed
  runId := 0
  runCount := 0
  openAt := 0
  openStamp := 0
  extBase := 0
  g0 := 0
  high := -1
  jobId := 0
  jobSlot := 0
  arm := none
  late := none
  lineRecs := []
  buffer := []
  prevTags := [none, none, none, none, none, none]
  tagRaised := false
  lastSegs := []
  mirrorIn := []
  cov := ⟨1, false, 0, [], none, false, none, false⟩
  captured := 0
  capLine := none
  closing := none

end Sys2Proof.Machine
end

