-- ==== Sys2Proof/Machine/DataCmp.lean ====
section
/-! DEFINITION. What Mirror, Etcher and the Hatch table hold (chapter 8). -/

namespace Sys2Proof.Machine

/-- A Hatch entry (R299); attr is the word at offset 20. -/
structure HatchEnt where
  col0 : Nat
  col1 : Nat
  line0 : Nat
  line1 : Nat
  queue : Nat
  tag : Nat
  attr : Nat
  minArea : Nat
  drift : Nat
  cap : Nat
deriving DecidableEq, Repr

/-- What changes on the image side at an image line besides parameters (R52, R253, R254, R257). -/
inductive ImgAct where
  | compareCommit (restart : Bool)
  | refSwitch (slot : Nat)
  | learnStart (slot n : Nat)
  | hatchSwitch (table : List HatchEnt)
  | late (parts tiles : Nat)
  | lateEnd
  | jobStart
deriving DecidableEq, Repr

/-- A repeat boundary at its tick (R272 to R276): line, tick instant, repeat number, φ in 2⁻¹⁶ lines, s_y 2.30 with whether it was
    clamped, whether it follows a missing mark, halts the comparison, or stands in for a lost REPEAT frame (R554), and whether a comparison
    may start at it (R277). -/
structure Boundary where
  line : Nat
  at_ : Nat
  number : Nat
  phi : Int
  sy : Nat
  clamped : Bool
  missing : Bool
  halt : Bool
  lost : Bool
  counts : Bool
deriving DecidableEq, Repr

/-- The next boundary (R272 to R275): its index, or with ticks that have no grid the position it lies at in 1/65,536 count; φ, the
    instant of the stamp entry, and the flags of the boundary. -/
structure NextBound where
  line : Nat
  pos : Option Int
  phi : Int
  since : Nat
  missing : Bool
  halt : Bool
  lost : Bool
deriving DecidableEq, Repr

/-- The repeat structure at the sequencer (R272 to R278). Marks are in 1/256 count, the last length too. -/
structure RepTrack where
  next : Option NextBound
  last : Option Nat
  fixedArm : Bool
  lastMark : Option Int
  markReal : Bool
  lastLen : Option Int
  openWin : Bool
  missRun : Nat
  phi : Int
  sy : Nat
  count : Nat
  halted : Bool
deriving DecidableEq, Repr

/-- A node of a fine field: a patch's centre column and its total displacement, 1/16 (R289). -/
structure Node where
  col : Nat
  dx : Int
  dy : Int
deriving DecidableEq, Repr

/-- The displacement in effect (R286, R289, R291): the field before and after a change and the line the change starts from. -/
structure Disp where
  old : List Node
  cur : List Node
  since : Nat
deriving DecidableEq, Repr

/-- A line kept for patches and centroids: its index, first column, L8 values, coarse mapping, displacement and coarse x. -/
structure LiveLine where
  line : Nat
  col0 : Nat
  l8 : List Nat
  disp : Disp
  xc : Int
deriving DecidableEq, Repr

/-- A run of defect pixels (R303). -/
structure Run where
  line : Nat
  col0 : Nat
  col1 : Nat
deriving DecidableEq, Repr

/-- A blob (R303 to R308, R313). Live and reference sums are of L8, a8, b8; kinds is the mask DARK, LIGHT, CHROMA in [2:0],
    LOW_CONFIDENCE [7], FLAGGED_PIXELS [8] and the closing flags as R308 places them; left and right are the first and last lines
    touching the device's first and last column. -/
structure Blob where
  slice : Nat
  region : Nat
  repeatNo : Nat
  runs : List Run
  line0 : Nat
  line1 : Nat
  stamp : Nat
  yi : Nat
  col0 : Nat
  col1 : Nat
  area : Nat
  peak : Nat
  sumE : Nat
  minL : Int
  maxL : Int
  live : List Nat
  ref : List Nat
  sumCol : Nat
  sumLine : Nat
  flags : Nat
  left : Option (Nat × Nat)
  right : Option (Nat × Nat)
deriving DecidableEq, Repr

/-- A closed blob that touches the last column and waits for a seam record (R313). -/
structure SeamWait where
  blob : Blob
  until_ : Nat
deriving DecidableEq, Repr

/-- A seam record on its way to the left neighbour, with the blob it stands for (R312, R314). -/
structure SeamOut where
  blob : Blob
  record : List Byte
deriving DecidableEq, Repr

/-- The repeat being compared (R298, R305, R311). Records and drift sums are keyed by region, capped regions with the first line marked; drift by 8 × region + item: 0 to 2 live,
    3 to 5 reference, 6 pixels. -/
structure Rep where
  number : Nat
  line : Nat
  phi : Int
  sy : Nat
  flags : Nat
  learnIdx : Nat
  row : Nat
  rowsValid : Nat
  rowsSeen : Nat
  fellBack : Bool
  lastRow : Option (List Node)
  recorded : Nat
  small : Nat
  capped : Nat
  records : Sparse Nat
  cappedRegions : List (Nat × Nat)
  drift : Sparse Nat
deriving DecidableEq, Repr

/-- A summary that waits for its drift values (R298, R311): the repeat, its length, and the line of the boundary that ends it. -/
structure Summary where
  rep : Rep
  xc : Int
  length : Nat
  due : Nat
  table : List HatchEnt
deriving DecidableEq, Repr

/-- A reference check that runs (R284). -/
structure RefCheck where
  cid : Nat
  slot : Nat
  headerOnly : Bool
deriving DecidableEq, Repr

/-- A Hatch load that runs (R301). -/
structure HatchLoad where
  cid : Nat
  addr : Nat
deriving DecidableEq, Repr

/-- A learn in progress (R315 to R317): slot, N, repeats begun, φ of the first, the next reference line to finalise. -/
structure Learn where
  slot : Nat
  n : Nat
  idx : Nat
  phi1 : Int
  next : Nat
deriving DecidableEq, Repr

/-- Mirror, Etcher and the Hatch table. -/
structure CmpSt where
  track : RepTrack
  bounds : List Boundary
  started : Bool
  halted : Bool
  refNow : Nat
  refSlot : Nat
  resident : List Nat
  ready : List Nat
  checks : List RefCheck
  refUe : List Nat
  hatch : List HatchEnt
  hatchPend : Option (List HatchEnt)
  hatchLoad : Option HatchLoad
  staged : List ParWrite
  late : Option (Nat × Nat)
  rep : Option Rep
  xc : Int
  disp : Option Disp
  carry : Option (List Node)
  recent : List LiveLine
  mats : List (Nat × List (List Int))
  busy : List Nat
  blobs : List Blob
  seams : List SeamWait
  seamOut : List SeamOut
  summaries : List Summary
  learn : Option Learn
  thermalWait : Bool
  sliceWait : Nat
  slicesUp : Nat
  fullLine : Option Nat
deriving DecidableEq, Repr

/-- The repeat structure after reset. -/
def RepTrack.reset : RepTrack where
  next := none
  last := none
  fixedArm := false
  lastMark := none
  markReal := false
  lastLen := none
  openWin := true
  missRun := 0
  phi := 0
  sy := 0x40000000
  count := 0
  halted := false

/-- Mirror after reset (R318): off, slot 0, s_y 1.0, no table, nothing resident. -/
def CmpSt.reset : CmpSt where
  track := RepTrack.reset
  bounds := []
  started := false
  halted := false
  refNow := 0
  refSlot := 0
  resident := []
  ready := []
  checks := []
  refUe := []
  hatch := []
  hatchPend := none
  hatchLoad := none
  staged := []
  late := none
  rep := none
  xc := 0
  disp := none
  carry := none
  recent := []
  mats := []
  busy := [0, 0, 0, 0]
  blobs := []
  seams := []
  seamOut := []
  summaries := []
  learn := none
  thermalWait := false
  sliceWait := 0
  slicesUp := 0
  fullLine := none

end Sys2Proof.Machine
end

