-- ==== Sys2Proof/Machine/DataCor.lean ====
section
/-! DEFINITION. What the correction pipeline and the calibration hold (chapter 6). -/

namespace Sys2Proof.Machine

/-- A lane's record in a shading half (R200, R201): the pixel entries as 48-bit and the segment entries as 64-bit numbers. -/
structure ShadeRec where
  lane : Nat
  phases : Nat
  pixels : Nat
  px : List Nat
  segs : List Nat
deriving DecidableEq, Repr

/-- A half of a tile's shading store (R203): the set's identifier, phase count and temperatures (four to a phase, 1/16 °C), the
    lanes' records, an uncorrectable error found in it (R209), and the temperature its factors stand for (R196; none: T_a). -/
structure Half where
  loaded : Bool
  id : Nat
  phases : Nat
  temps : List Int
  recs : List (Option ShadeRec)
  ecc : Bool
  evalT : List (Option Int)
deriving DecidableEq, Repr

/-- The two halves of a tile. -/
structure TileCor where
  act : Half
  pend : Half
deriving DecidableEq, Repr

/-- A load into pending halves that runs (R203). -/
structure CorLoad where
  cid : Nat
  slot : Nat
  tiles : Nat
  at_ : Nat
deriving DecidableEq, Repr

/-- A store to flash or a restore from it that runs (R213). -/
structure CorStore where
  cid : Nat
  slot : Nat
  flash : Nat
  restore : Bool
deriving DecidableEq, Repr

/-- A temperature whose factors are evaluated and wait for a tick (R196). -/
structure TempEval where
  temp : Int
  due : Nat
  ready : Bool
deriving DecidableEq, Repr

/-- What a capture does now (R219 to R224); while its store runs: entries at a limit and phases not fitted (R218). -/
inductive CalPhase where
  | moving | settling | capturing | parking | finished
  | storing (limits unfit : Nat)
deriving DecidableEq, Repr

/-- One warm-up sample (R222): instant, the phases' temperatures, and sums of 4x − O per segment. -/
structure WuSample where
  at_ : Nat
  temps : List (Option Int)
  sums : Sparse Int
deriving DecidableEq, Repr

/-- A running capture (R214 to R224). Sums are keyed by level, phase, lane and pixel or segment. -/
structure Cal where
  cid : Nat
  kind : Nat
  slot : Nat
  flash : Nat
  apply : Bool
  tiles : Nat
  addr : Nat
  startAt : Nat
  st : CalPhase
  settleDue : Option Nat
  nextTick : Nat
  level : Nat
  lines : Nat
  taken : Nat
  sums : Sparse Int
  squares : Sparse Int
  tSum : List Int
  tCount : List Nat
  samples : List WuSample
  nextSample : Nat
  badSince : List (Option Nat)
  loadedSet : List Nat
deriving DecidableEq, Repr

/-- The correction pipeline. -/
structure CorSt where
  tiles : List TileCor
  loads : List CorLoad
  store : Option CorStore
  cal : Option Cal
  calCount : List Nat
  calTime : List Nat
  lastT : List (Option Int)
  srcValid : List Bool
  evals : List (Option TempEval)
  clampOn : List Bool
  defLine : Option Nat
  defLanes : List Nat
  holdLine : Option Nat
  clampLine : Option Nat
  defRaised : Bool
deriving DecidableEq, Repr

/-- A half that has never been loaded. -/
def Half.empty : Half :=
  ⟨false, 0, 0, List.replicate 24 0, List.replicate 8 none, false, List.replicate 6 none⟩

/-- The pipeline after reset: no set in any half (R227). -/
def CorSt.reset : CorSt where
  tiles := List.replicate 16 ⟨Half.empty, Half.empty⟩
  loads := []
  store := none
  cal := none
  calCount := [0, 0, 0]
  calTime := [0, 0, 0]
  lastT := List.replicate 6 none
  srcValid := List.replicate 6 false
  evals := List.replicate 6 none
  clampOn := List.replicate 96 false
  defLine := none
  defLanes := []
  holdLine := none
  clampLine := none
  defRaised := false

end Sys2Proof.Machine
end

