-- ==== Sys2Proof/Machine/DataHlt.lean ====
section
/-! DEFINITION. What the health monitors hold (chapter 14). -/

namespace Sys2Proof.Machine

/-- A window of a voltage monitor (R525): whether an excursion beyond it runs, samples in a row that speak against that, and since when
    the present condition holds. -/
structure VoltWin where
  out : Bool
  run : Nat
  since : Nat
deriving DecidableEq, Repr

/-- A voltage monitor (R525): the last sample, its warning and its fault window. -/
structure VoltMon where
  mv : Nat
  warn : VoltWin
  fault : VoltWin
deriving DecidableEq, Repr

/-- Corrections of one DRAM channel in the second that runs (R522). -/
structure CeWindow where
  since : Nat
  count : Nat
  raised : Bool
deriving DecidableEq, Repr

/-- A trim in effect (R532, R534). -/
structure Trim where
  map : Nat
  code : Nat
  spares : Nat
  exhausted : Bool
deriving DecidableEq, Repr

/-- A trim run until its commit (R183, R533): the command, its trims as kind and instance, whether it is SEN_TRIM_RUN, which measures at
    IDLE, and holds its trims to the next repeat boundary; the commit point; whether it measures now; the detail bits of its completion. -/
structure TrimRun where
  cid : Nat
  targets : List (Nat × Nat)
  sen : Bool
  hold : Bool
  point : Pt
  running : Bool
  flags : Nat
deriving DecidableEq, Repr

/-- The health monitors. -/
structure HltSt where
  faults : List FaultEnt
  temps : List Int
  tempMax : Int
  therm : Nat
  belowSince : Option Nat
  safeRequest : Bool
  volts : List VoltMon
  proc : List Int
  procRaised : List Bool
  clocks : List Bool
  ce : List CeWindow
  trims : Sparse Trim
  trimRun : Option TrimRun
  trimRuns : Nat
  trimTime : Nat
  scrubDue : Nat
deriving DecidableEq, Repr

/-- The trim of a kind for which no record is valid: the middle code, every element in service (R532, R535). -/
def Trim.middle (kind : Nat) : Trim :=
  ⟨0, if kind = 3 ∨ kind = 6 ∨ kind = 7 ∨ kind = 8 then 0x8000 else 0,
   if kind = 1 then 2 else if kind = 2 then 6 else if kind = 4 then 4 else if kind = 5 then 4 else 0, false⟩

/-- The monitors after reset: nothing sampled yet, every clock good (log entry 4). -/
def HltSt.reset : HltSt where
  faults := []
  temps := List.replicate 24 0
  tempMax := 0
  therm := 0
  belowSince := none
  safeRequest := false
  volts := List.replicate 40 ⟨0, ⟨false, 0, 0⟩, ⟨false, 0, 0⟩⟩
  proc := List.replicate 16 0
  procRaised := List.replicate 16 false
  clocks := List.replicate 6 true
  ce := List.replicate 8 ⟨0, 0, false⟩
  trims := []
  trimRun := none
  trimRuns := 0
  trimTime := 0
  scrubDue := 0

end Sys2Proof.Machine
end

