-- ==== Sys2Proof/Machine/DataHq.lean ====
section
/-! DEFINITION. What the queue engine and the history manager hold (chapter 9). -/

namespace Sys2Proof.Machine

/-- HQ_STATE_q (R369). -/
inductive QSt where
  | disabled | enabled | flushing | faulted
deriving DecidableEq, Repr

/-- The packet types of R327. -/
inductive PktType where
  | pad | record | tile | band
deriving DecidableEq, Repr

/-- A packet between its admission and its publication or completion (R331, R332): its block, its lines and columns for a
    footprint (R338), the body bytes written, and whether it is published. -/
structure Pkt where
  blk : Nat
  blocks : Nat
  typ : PktType
  len : Nat
  written : Nat
  published : Bool
  line0 : Nat
  line1 : Nat
  items : Nat
deriving DecidableEq, Repr

/-- A packet below the producer index whose blocks the host has not released, for the footprint of a flush (R348). -/
structure PktSpan where
  blk : Nat
  blocks : Nat
  typ : PktType
  line0 : Nat
  line1 : Nat
  col0 : Nat
  col1 : Nat
  /-- The runs (first line, lines) of a band's emitted lines, newest first. -/
  rows : List (Nat × Nat)
deriving DecidableEq, Repr

/-- A queue (R324, R336, R350, R369). -/
structure Queue where
  base : Nat
  size : Nat
  cut : Nat
  stale : Nat
  autogrant : Bool
  gmac : Bool
  cons : Nat
  credit : Nat
  prod : Nat
  pub : Nat
  recPub : Nat
  split : Bool
  seq : Nat
  drops : Nat
  dropsBefore : Nat
  dropRaised : Bool
  st : QSt
  open_ : List Pkt
  spans : List PktSpan
  flushed : Bool
  fault : Bool
  staleBit : Bool
  faultBit : Bool
  staleSince : Option Nat
  staleFired : Bool
  handed : Nat
deriving DecidableEq, Repr

/-- A queue after reset (R369). -/
def Queue.reset : Queue :=
  ⟨0, 4, 0, 0, false, false, 0, 0, 0, 0, 0, false, 1, 0, 0, false, .disabled, [], [], false, false, false, false, none, false, 0⟩

/-- The open band of a stream (R340 to R342); refused, with the cause, it loses the lines it would have held. -/
structure Band where
  refused : Option Ev
  blk : Nat
  first : Nat
  last : Nat
  present : Nat
  planned : Nat
  col0 : Nat
  col1 : Nat
  phases : Nat
  fmt : Nat
  flagRows : Bool
  stride : Nat
  number : Nat
  handed : Nat
  header : List Byte
  body : List Byte
deriving DecidableEq, Repr

/-- A retained history line (R359, R360): its index entry, its index-ring slot and what a replay needs to find it. run is the
    ordinal of its run. -/
structure HistLine where
  line : Nat
  off : Nat
  units : Nat
  hole : Bool
  x : Int
  run : Nat
  phases : Nat
  col0 : Nat
  width : Nat
  slot : Nat
deriving DecidableEq, Repr

/-- A pending replay (R362 to R366): the lines of its range that were retained at acceptance, and what it has lost since. -/
structure Replay where
  cid : Nat
  handle : Nat
  expose : Bool
  fmt : Nat
  lines : List Nat
  run : Nat
  lost : Nat
  holes : Nat
  col0 : Nat
  col1 : Nat
  addr : Nat
  size : Nat
deriving DecidableEq, Repr

/-- The queue engine and the history manager. -/
structure HqSt where
  queues : Sparse Queue
  bands : Sparse (Option Band)
  bandNo : Sparse Nat
  spillRaised : Bool
  spillFullRaised : Bool
  draining : Bool
  hist : List HistLine
  histNext : Nat
  histCount : Nat
  closeX : Int
  replays : List Replay
  nextHandle : Nat
deriving DecidableEq, Repr

/-- The queue engine after reset. -/
def HqSt.reset : HqSt := ⟨[], [], [], false, false, false, [], 0, 0, 0, [], 1⟩

end Sys2Proof.Machine
end

