-- ==== Sys2Proof/Machine/DataLamp.lean ====
section
/-! DEFINITION. What the lamp controller holds (chapter 4). -/

namespace Sys2Proof.Machine

/-- A chain frame: command words for chips, NOP for every chip not named (R120, R121), and whether it belongs to an upload. -/
structure ChainFrame where
  words : List (Nat × Nat)
  upload : Bool
deriving DecidableEq, Repr

/-- An upload of the staged mirror into the spare set (R131, R148): when it began and, once complete, when it ended. -/
structure Upload where
  at_ : Nat
  doneAt : Option Nat
deriving DecidableEq, Repr

/-- A LMP_BAR_SET whose chain discovery runs (R127): its command, commit line and flags, and the writes it makes. -/
structure Discovery where
  cid : Option Nat
  line : Nat
  flags : Nat
  writes : List ParWrite
deriving DecidableEq, Repr

/-- A LMP_PATTERN_READ whose READ frames run. -/
structure PatRead where
  cid : Nat
  bank : Nat
  set : Nat
  first : Nat
  count : Nat
  got : List (Nat × Nat)
deriving DecidableEq, Repr

/-- A LMP_DIAG_RUN that runs (R142). -/
structure LampDiag where
  cid : Nat
  flags : Nat
  line : Nat
  detail : Nat
  running : Bool
deriving DecidableEq, Repr

/-- A bar (R109 to R150). Mirrors are keyed by 4096 × bank + string; masks and status words by chip; the setpoint is in 10 mV. -/
structure Bar where
  chips : Nat
  known : Bool
  diDly : Nat
  boost : Nat
  hrMin : Nat
  ovp : Bool
  derate : Nat
  derateNext : Option Nat
  derateSent : Bool
  shut : Bool
  shutNext : Bool
  relight : Bool
  lost : Bool
  badRun : Nat
  goodRun : Nat
  resetSeen : List Nat
  setIdx : Nat
  active : Sparse Nat
  staged : Sparse Nat
  diag6 : Sparse Nat
  opens : Sparse Nat
  shorts : Sparse Nat
  pairs : Sparse Nat
  status : Sparse Nat
  ids : List Nat
  work : List ChainFrame
  inFlight : Option ChainFrame
  upload : Option Upload
  disc : Option Discovery
  diag : Option LampDiag
  temp : Option Int
  tempValid : Bool
  tempSince : Nat
  tempRaised : Bool
  proofPhase : Nat
  stbUntil : Nat
deriving DecidableEq, Repr

/-- A strobe of a phase in the running slot (R113, R116): instants of its edges. -/
structure Strobe where
  bar : Nat
  phase : Nat
  rise : Nat
  fall : Nat
deriving DecidableEq, Repr

/-- A LMP_PATTERN_APPLY, committed, whose P64 bars still send their streams (R148, R150): the command, its line and flags, the bars left, the
    upload time so far in µs. -/
structure LampApply where
  cid : Nat
  line : Nat
  flags : Nat
  bars : Nat
  took : Nat
deriving DecidableEq, Repr

/-- The lamp controller. -/
structure LampSt where
  bars : List Bar
  strobes : List Strobe
  reads : List (Nat × PatRead)
  applies : List LampApply
  clipRaised : Bool
  undiagRaised : Bool
  proofCount : Nat
  proofDue : Bool
  idleProofAt : Nat
  syncAt : Option Nat
deriving DecidableEq, Repr

/-- A bar after reset: off, full-scale code 255, headroom 0xFF (R151). -/
def Bar.reset : Bar where
  chips := 0
  known := false
  diDly := 0
  boost := 0
  hrMin := 255
  ovp := false
  derate := 255
  derateNext := none
  derateSent := false
  shut := false
  shutNext := false
  relight := false
  lost := false
  badRun := 0
  goodRun := 0
  resetSeen := []
  setIdx := 0
  active := []
  staged := []
  diag6 := []
  opens := []
  shorts := []
  pairs := []
  status := []
  ids := []
  work := []
  inFlight := none
  upload := none
  disc := none
  diag := none
  temp := none
  tempValid := true
  tempSince := 0
  tempRaised := false
  proofPhase := 0
  stbUntil := 0

/-- The lamp controller after reset. -/
def LampSt.reset : LampSt where
  bars := List.replicate 4 Bar.reset
  strobes := []
  reads := []
  applies := []
  clipRaised := false
  undiagRaised := false
  proofCount := 0
  proofDue := false
  idleProofAt := 0
  syncAt := none

end Sys2Proof.Machine
end

