-- ==== Sys2Proof/Machine/DataMot.lean ====
section
/-! DEFINITION. What the motion controller holds (chapter 10). -/

namespace Sys2Proof.Machine

/-- MOT_STATE_a (R401). -/
inductive AxisSt where
  | off | rest | moving | jog | geared | homing | fault
deriving DecidableEq, Repr

/-- What an axis in motion is heading for: a position, a signed speed, or rest at a deceleration. -/
inductive Goal where
  | target (p : Int)
  | speed (v : Int)
  | halt (d : Nat)
deriving DecidableEq, Repr

/-- An axis carried along by the lead axis of an interpolated move (R385): its distance, direction, accumulator, and microsteps
    below a whole grain. -/
structure Follower where
  axis : Nat
  dist : Nat
  dir : Int
  acc : Nat
  part : Nat
deriving DecidableEq, Repr

/-- A homing run (R392): sums of on-times of the running full step, the means of the reference steps, low steps in a row. -/
structure Homing where
  dir : Int
  speed : Nat
  home : Int
  backoff : Nat
  maxTravel : Nat
  travelled : Nat
  atSpeed : Bool
  inStep : Nat
  sum : Nat
  count : Nat
  refs : List (Nat × Nat)
  lows : Nat
  backing : Bool
  ending : Option Nat
deriving DecidableEq, Repr

/-- A scheduled ratio change (R387). -/
structure GearChange where
  q : Int
  ratio : Int
  ramp : Nat
  side : Bool
deriving DecidableEq, Repr

/-- An engaged axis (R386, R387): encoder, the base point of the running law (master counts, slave in 1/65,536), the ratio before
    and after the ramp, and a change that waits. -/
structure Gear where
  enc : Nat
  base : Int
  slave : Int
  ratioOld : Int
  ratioNew : Int
  ramp : Nat
  change : Option GearChange
  lagging : Bool
deriving DecidableEq, Repr

/-- What the chopper of a coil does (R377). -/
inductive CoilPhase where
  | on_ | off_ | hold
deriving DecidableEq, Repr

/-- A coil (R376, R377): phase, sign, when the phase began, when an off phase turns to slow decay and ends, on phases in a row whose
    comparator was high at the end of blanking. -/
structure Coil where
  phase : CoilPhase
  neg : Bool
  since : Nat
  slowAt : Nat
  endAt : Nat
  early : Nat
deriving DecidableEq, Repr

/-- An axis. pos is the commanded position in microsteps, not wrapped; v is in 1/256 microstep/s; hist holds glint stamps and
    positions of microstep instants, newest first. -/
structure Axis where
  st : AxisSt
  pos : Int
  dir : Int
  rem : Int
  v : Nat
  next : Option Nat
  goal : Goal
  after : Option Goal
  planAt : Nat
  planV : Nat
  planRem : Int
  lims : Option (List Nat)
  follows : Option Nat
  followers : List Follower
  latched : List Bool
  input : List Bool
  acked : List Bool
  quiet : List Nat
  home : Option Homing
  homeResult : Nat
  gear : Option Gear
  restAt : Nat
  held : Bool
  coils : List Coil
  hist : List (Nat × Int)
deriving DecidableEq, Repr

/-- The motion controller. -/
structure MotSt where
  axes : List Axis
  paceF : Nat
  paceHeld : Bool
  paceDue : Nat
  ceilWas : Bool
  ceilVmax : Option Nat
deriving DecidableEq, Repr

/-- An axis after reset: OFF at position 0 (R401). -/
def Axis.reset : Axis where
  st := .off
  pos := 0
  dir := 1
  rem := 0
  v := 0
  next := none
  goal := .target 0
  after := none
  planAt := 0
  planV := 0
  planRem := 0
  lims := none
  follows := none
  followers := []
  latched := [false, false]
  input := [false, false]
  acked := [false, false]
  quiet := [0, 0]
  home := none
  homeResult := 0
  gear := none
  restAt := 0
  held := false
  coils := [⟨.hold, false, 0, 0, 0, 0⟩, ⟨.hold, false, 0, 0, 0, 0⟩]
  hist := []

/-- The motion controller after reset. -/
def MotSt.reset : MotSt := ⟨List.replicate 8 Axis.reset, 256, false, 0, false, none⟩

end Sys2Proof.Machine
end

