-- ==== Sys2Proof/Machine/DataPos.lean ====
section
/-! DEFINITION. What the position and time unit holds (chapter 3). -/

namespace Sys2Proof.Machine

/-- Running error correction of an encoder (R71), in 1/65,536: offsets of both tracks, gain ratio, quadrature error. -/
structure EncCorr where
  offS : Int
  offC : Int
  gain : Int
  quad : Int
deriving DecidableEq, Repr

/-- Extremes of both tracks over the signal period that runs (R71). -/
structure EncExtremes where
  minS : Int
  maxS : Int
  minC : Int
  maxC : Int
  since : Nat
  startPos : Int
  valid : Bool
deriving DecidableEq, Repr

/-- An encoder input (R67 to R85). pos is the position in counts since boot, not wrapped; its low 32 bits are
    POS_COUNT_k. hist holds position samples, newest first: glint stamp and position. off: position less phase code, none until the
    next sample (R67). -/
structure Enc where
  pos : Int
  off : Option Int
  phase : Nat
  a : Bool
  b : Bool
  amp : Nat
  ampInvalid : Bool
  corr : EncCorr
  corrLimit : Bool
  ext : EncExtremes
  refSeen : Bool
  refArmed : Bool
  anchor : Option Int
  refLatch : Nat
  still : Bool
  lastChange : Nat
  hist : List (Nat × Int)
  doubles : Nat
  vwinAt : Nat
  vwinPos : Int
  speedW : Int
  speedP : Int
  cellBase : Option Int
  lastCross : Nat
deriving DecidableEq, Repr

/-- A stamped edge: glint stamp, position of the channel's encoder in 1/256 count, line index, flags' causes (R93, R94). -/
structure Edge where
  stamp : Nat
  pos : Int
  line : Nat
  doubles : Nat
  ampInvalid : Bool
deriving DecidableEq, Repr

/-- A Glint channel (R93 to R97). -/
structure TdcChan where
  armed : Bool
  start : Option Edge
  startedAt : Nat
  early : Option Edge
  earlyAt : Nat
  stopNext : Bool
deriving DecidableEq, Repr

/-- A timing input (R89 to R91): the last stamp and the end of the hold-off, in tenths of a glint. -/
structure TdcIn where
  last : Option Nat
  holdUntil : Nat
deriving DecidableEq, Repr

/-- A TIME_SET load that waits (R99), with the line, flags and detail of its commit once it is committed. -/
structure TimeLoad where
  cid : Nat
  secs : Nat
  committed : Bool
  line : Nat
  flags : Nat
deriving DecidableEq, Repr

/-- The states of TDC_PPS_STATE (R101). -/
inductive PpsSt where
  | free | acquiring | locked | holdover
deriving DecidableEq, Repr

/-- The time base (R98 to R104): the count is num / 240,000,000,000 at the instant at_, and advances from there at the rate of
    16·10⁹ plus the summed correction in 1/16 ppb; slew ends at slewEnd. -/
structure TimeBase where
  at_ : Nat
  num : Int
  slew : Int
  slewEnd : Nat
  st : PpsSt
  since : Nat
  good : Nat
  rejects : Nat
  stepped : Bool
  lastEdge : Option Nat
  lastErr : Int
  load : Option TimeLoad
  ageAcc : Int
  ageDue : Nat
  learnDue : Nat
  learned : List Int
deriving DecidableEq, Repr

/-- The position and time unit. -/
structure PosSt where
  encs : List Enc
  ins : List TdcIn
  chans : List TdcChan
  tb : TimeBase
  logDue : Option Nat
deriving DecidableEq, Repr

/-- An encoder input after reset (R106; the values without a stated reset: log entry 4). -/
def Enc.reset : Enc where
  pos := 0
  off := some 0
  phase := 0
  a := false
  b := false
  amp := 0
  ampInvalid := false
  corr := ⟨0, 0, 65536, 0⟩
  corrLimit := false
  ext := ⟨0, 0, 0, 0, 0, 0, false⟩
  refSeen := false
  refArmed := true
  anchor := none
  refLatch := 0
  still := false
  lastChange := 0
  hist := []
  doubles := 0
  vwinAt := 0
  vwinPos := 0
  speedW := 0
  speedP := 0
  cellBase := none
  lastCross := 0

/-- The unit after reset. -/
def PosSt.reset : PosSt where
  encs := List.replicate 4 Enc.reset
  ins := List.replicate 10 ⟨none, 0⟩
  chans := List.replicate 8 ⟨false, none, 0, none, 0, false⟩
  tb := ⟨0, 0, 0, 0, .free, 0, 0, 0, false, none, 0, none, 0, 0, 0, []⟩
  logDue := none

end Sys2Proof.Machine
end

