-- ==== Sys2Proof/Machine/DataPwr.lean ====
section
/-! DEFINITION. What the power controller holds (chapter 16). -/

namespace Sys2Proof.Machine

/-- The device states of R570. -/
inductive DevState where
  | off | keepAlive | boot | ready | armed | running | hold | safe
deriving DecidableEq, Repr

/-- A domain that powers up (R568), and the PWR_DOMAIN_SET that asked for it, if one did. -/
structure DomainUp where
  dom : Nat
  since : Nat
  cid : Option Nat
deriving DecidableEq, Repr

/-- A PWR_DOMAIN_SET whose domains are not all ready (R568), with its line and detail. -/
structure DomainCmd where
  cid : Nat
  line : Nat
  flags : Nat
  failed : Bool
deriving DecidableEq, Repr

/-- The power controller. -/
structure PwrSt where
  st : DevState
  safeCause : Nat
  clearSince : Option Nat
  cleared : Bool
  domains : Nat
  powering : List DomainUp
  cmds : List DomainCmd
  straps : Nat
  prepared : Bool
  lost : Bool
  bootAt : Nat
  bootMs : Nat
  bootBad : Bool
  channels : Nat
  gib : Nat
  maxRate : Nat
  subsystem : Nat
  resetAt : Option Nat
  vfieldMv : Nat
deriving DecidableEq, Repr

/-- The domains that are always on (R566). -/
def alwaysOn : Nat := 2 ^ 44 + 2 ^ 45 + 2 ^ 46 + 2 ^ 50 + 2 ^ 52 + 2 ^ 53 + 2 ^ 54 + 2 ^ 55

/-- The power controller right after reset: BOOT (R577, R581); straps 0 (log entry 4). -/
def PwrSt.reset : PwrSt where
  st := .boot
  safeCause := 0
  clearSince := none
  cleared := false
  domains := alwaysOn
  powering := []
  cmds := []
  straps := 0
  prepared := false
  lost := false
  bootAt := 0
  bootMs := 0
  bootBad := false
  channels := 0
  gib := 0
  maxRate := 0
  subsystem := 0
  resetAt := none
  vfieldMv := 0

end Sys2Proof.Machine
end

