-- ==== Sys2Proof/Machine/DataSec.lean ====
section
/-! DEFINITION. What the security module holds (chapter 13). -/

namespace Sys2Proof.Machine

/-- SEC_STATE (R507). -/
inductive SecMode where
  | selfTest | operational | error
deriving DecidableEq, Repr

/-- An episode of the error state within one run (R502): lines captured, and the UNSIGNED packets sent. -/
structure SecEpisode where
  cause : Nat
  firstLine : Option Nat
  lastLine : Option Nat
  minIdx : Option Nat
  maxIdx : Option Nat
  packets : Nat
deriving DecidableEq, Repr

/-- An audit entry in the buffer (R491): device-generated or not, and its 128 bytes. -/
structure AuditEnt where
  device : Bool
  bytes : List Byte
deriving DecidableEq, Repr

/-- Self-tests that run (R499, R503): at boot, by the period, or by a command. -/
inductive SelfTest where
  | boot | periodic
  | command (cid : Nat)
deriving DecidableEq, Repr

/-- The security module. written tells for each firmware slot whether SEC_FW_WRITE has erased the image it was delivered with (log entry
    15); customer is the customer public key whose hash stands in OTP. -/
structure SecSt where
  mode : SecMode
  cause : Nat
  permanent : Bool
  svnOtp : Nat
  svnRun : Nat
  bootSlot : Nat
  nextSlot : Nat
  fallback : Bool
  debug : Bool
  draws : Nat
  dkk : Nat
  rmk : List Byte
  recKey : Option (List Byte)
  gmacKey : Option (List Byte)
  salt : Option (List Byte)
  roleKeys : Sparse (List Byte)
  envCounters : List Nat
  policy : List (Nat × Nat)
  coInstall : Bool
  customer : Option (List Byte)
  verified : List Bool
  auditSeq : Nat
  chain : List Byte
  auditBuf : List AuditEnt
  auditOldest : Nat
  auditFail : Bool
  test : Option SelfTest
  testDue : Nat
  testWaits : Bool
  written : List Bool
  recoveries : Nat
  episode : Option SecEpisode
deriving DecidableEq, Repr

/-- The module right after reset: its self-tests run (R499, R507); the key store's contents are log entry 11. -/
def SecSt.reset : SecSt where
  mode := .selfTest
  cause := 0
  permanent := false
  svnOtp := 0
  svnRun := 0
  bootSlot := 0
  nextSlot := 0
  fallback := false
  debug := false
  draws := 2
  dkk := 1
  rmk := []
  recKey := none
  gmacKey := none
  salt := none
  roleKeys := []
  envCounters := [0, 0, 0]
  policy := []
  coInstall := true
  customer := none
  verified := [false, false]
  auditSeq := 0
  chain := []
  auditBuf := []
  auditOldest := 0
  auditFail := false
  test := some .boot
  testDue := 0
  testWaits := false
  written := [false, false]
  recoveries := 0
  episode := none

end Sys2Proof.Machine
end

