-- ==== Sys2Proof/Machine/DataSen.lean ====
section
/-! DEFINITION. What the timing generators and the lanes hold (chapter 5). Converters are numbered 9t + l, l = 8 the spare;
lane places are numbered 8t + l. -/

namespace Sys2Proof.Machine

/-- SEN_LANE_STATE (R184). -/
inductive LaneSt where
  | off | inService | replaced | blind | spareReady | spareInUse | spareFailed
deriving DecidableEq, Repr

/-- A converter with its front end: state, last failed check, gain last applied, settling time of the running phase, clamp
    states M_p, where sub-lines were lost or became BLIND, the last test codes and black level. -/
structure Lane where
  st : LaneSt
  lastKind : Nat
  gain : Nat
  settle : Nat
  clamp : List (Option Int)
  lostLine : Option (Nat × Nat)
  blinds : List (Nat × Nat × Option Nat)
  forced : Bool
  codes : List Nat
  black : Nat
deriving DecidableEq, Repr

/-- A tile's spare: the lane it serves, the lane it is claimed for until the next tick, black levels taken for that lane. -/
structure Spare where
  serves : Option Nat
  claimed : Option Nat
  seeds : List (Option Nat)
deriving DecidableEq, Repr

/-- One edge of a generator signal in the running slot (R157 to R159): instant, generator, signal, level. -/
structure GenEdge where
  at_ : Nat
  gen : Nat
  sig : Nat
  level : Bool
deriving DecidableEq, Repr

/-- A SEN_SNAPSHOT that waits for its sub-line. -/
structure Snapshot where
  cid : Nat
  tile : Nat
  lane : Nat
  phase : Nat
  addr : Nat
deriving DecidableEq, Repr

/-- A SEN_LANE_RESTORE whose tests run (R182). -/
structure Restore where
  cid : Nat
  conv : Nat
  line : Nat
  flags : Nat
deriving DecidableEq, Repr

/-- The timing generators and the lanes. -/
structure SenSt where
  waves : Sparse (List Nat)
  levels : List (List Bool)
  edges : List GenEdge
  lanes : List Lane
  spares : List Spare
  substs : Sparse (List Nat)
  snaps : List Snapshot
  restore : List Restore
  settleRaised : Bool
  clampRaised : Bool
deriving DecidableEq, Repr

/-- A converter after power-up: off, ×1, nothing seeded (R167, R184). -/
def Lane.reset : Lane := ⟨.off, 0, 0, 0, [none, none, none, none, none, none], none, [], false, [0, 0, 0, 0], 0⟩

/-- The generators and lanes after reset. -/
def SenSt.reset : SenSt where
  waves := []
  levels := List.replicate 32 [false, false, false, false]
  edges := []
  lanes := List.replicate 144 Lane.reset
  spares := List.replicate 16 ⟨none, none, [none, none, none, none, none, none]⟩
  substs := []
  snaps := []
  restore := []
  settleRaised := false
  clampRaised := false

end Sys2Proof.Machine
end

