-- ==== Sys2Proof/Machine/DataSeq.lean ====
section
/-! DEFINITION. What the line sequencer holds: the running slot, HOLD and IDLE, the pending commits and the groups (chapter 2). -/

namespace Sys2Proof.Machine

/-- A change that a commit makes besides parameter writes. -/
inductive Act where
  | waveLoad (gen phase sig : Nat) (words : List Nat)
  | substLoad (lane : Nat) (entries : List Nat)
  | laneRestore (conv : Nat)
  | spareForce (lane : Nat) (on : Bool)
  | trimRun
  | corSwap (tiles : Nat)
  | patternApply (bars : Nat)
  | barMode (bar : Nat) (writes : List ParWrite) (changed : Bool)
  | diagRun (bar flags : Nat)
  | faultClear (bar chips : Nat)
  | streamNeed (q : Nat)
  | runOpen (id : Nat)
  | runClose
  | timeLoad (secs : Nat)
  | tdcArm (arm disarm : Nat)
  | motMove (axes : List Nat) (targets : List Nat) (relative : Bool)
  | motJog (axis : Nat) (speed : Int)
  | motStop (mask : Nat) (limit : Bool)
  | motGear (axis enc op q ratio ramp : Nat)
  | motHome (axis : Nat) (negative : Bool) (words : List Nat)
  | motAck (mask : Nat)
  | motPosSet (axis value : Nat)
  | auxCalDone (ch : Nat)
  | auxLin (ch : Nat) (coeffs : List Nat)
  | askSet
  | askCal
  | domains (mask vals : Nat)
deriving DecidableEq, Repr

/-- A command waiting for its commit point (R52 to R58): arrival is none until its preparatory work ends (R61), target the line a POSITION
    commit resolves to, superseded the commands it has replaced (R54), extra its result words from word 2 on, status that of its completion. -/
structure Pend where
  cid : Nat
  gid : Option Nat
  point : Pt
  arg : Nat
  arrival : Option Nat
  writes : List ParWrite
  acts : List Act
  flags : Nat
  target : Option Nat
  superseded : List Nat
  extra : List Word
  status : Nat
deriving DecidableEq, Repr

/-- A group of R60: member commands, validation failures, and GROUP_END once it has come. -/
structure Group where
  gid : Nat
  ring : Nat
  point : Pt
  arg : Nat
  begun : Nat
  members : List Nat
  failed : Nat
  immediate : Bool
  preparing : List Nat
  ended : Option Nat
deriving DecidableEq, Repr

/-- The instants of one phase slot (R36): guard start, window open, transfer, readout end. -/
structure PhasePlan where
  guardAt : Nat
  openAt : Nat
  transferAt : Nat
  endAt : Nat
deriving DecidableEq, Repr

/-- A line slot (R36, R40, R48): its line, tick instant, start, what of its phases is still to come, and the parameters it runs with
    (R47). -/
structure Slot where
  line : Nat
  tickAt : Nat
  x : Int
  start : Nat
  spread : Bool
  plans : List PhasePlan
  guardsDone : Nat
  readsDone : Nat
  par : Sparse Nat
deriving DecidableEq, Repr

/-- A captured tick held during a flush read (R51). -/
structure HeldTick where
  line : Nat
  tickAt : Nat
  x : Int
deriving DecidableEq, Repr

/-- The line sequencer (chapter 2). -/
structure SeqSt where
  lineIndex : Nat
  slotMin : Nat
  darkMax : Nat
  lastCap : Option Nat
  tRef : Option Nat
  lastTick : Option Nat
  lastX : Option Int
  periodDue : Option Nat
  slot : Option Slot
  nextSlot : Option HeldTick
  hold : Bool
  afterHold : Bool
  idle : Bool
  quietSince : Nat
  flushUntil : Option Nat
  deferred : Option HeldTick
  tickOutUntil : Nat
  pends : List Pend
  groups : List Group
  nextGid : Nat
deriving DecidableEq, Repr

/-- The sequencer after reset (R64). -/
def SeqSt.reset : SeqSt :=
  ⟨0, 0, 0, none, none, none, none, none, none, none, false, false, false, 0, none, none, 0, [], [], 0⟩

end Sys2Proof.Machine
end

