-- ==== Sys2Proof/Machine/State.lean ====
section
/-! DEFINITION. The whole state of the block, and the state right after reset. -/

namespace Sys2Proof.Machine

/-- Image-side writes that take effect from an image line on (R52). -/
structure ImgBatch where
  line : Nat
  writes : List ParWrite
  acts : List ImgAct
deriving DecidableEq, Repr

/-- The state. Instants are in units of 1/768 ns (log entry 1). -/
structure State where
  /-- The present instant. -/
  now : Nat
  /-- Commands that wait, first in, first out. -/
  pending : List Instr
  /-- How many free values have been taken (log entry 3). -/
  freeCount : Nat
  /-- Parameters in effect on the sensor side and in every block without a line pipeline (R52). -/
  par : Sparse Nat
  /-- Parameters in effect on the image side (R52). -/
  imgPar : Sparse Nat
  /-- Image-side changes that wait for their image line, oldest first (R52). -/
  imgQueue : List ImgBatch
  /-- Counters (R537). -/
  cnt : Sparse Nat
  /-- Host memory as the device has written it (R443); an unlisted byte reads 0 (log entry 5). -/
  hostMem : Sparse Byte
  /-- DRAM (R354). -/
  dram : Sparse Byte
  /-- Boot flash (R495). -/
  flash : Sparse Byte
  host : HostSt
  seq : SeqSt
  pos : PosSt
  lamp : LampSt
  sen : SenSt
  cor : CorSt
  cap : CapSt
  cmp : CmpSt
  hq : HqSt
  mot : MotSt
  aux : AuxSt
  sec : SecSt
  hlt : HltSt
  ask : AskSt
  pwr : PwrSt
deriving DecidableEq, Repr

/-- Reasons for which the block stops. There is none: every command the table lists completes in a next state. -/
inductive Fault where
  /-- Raised by nothing (safe). -/
  | impossible
deriving DecidableEq, Repr

/-- Reasons for which the model refuses a command. -/
inductive Refusal where
  /-- The command has no meaning in the model yet; safe, since the model says nothing of it. -/
  | notModelled (mnemonic : String)
deriving DecidableEq, Repr

/-- The block right after reset: RST_N has risen and boot runs (R577, R581). -/
def State.reset : State where
  now := 0
  pending := []
  freeCount := 0
  par := []
  imgPar := []
  imgQueue := []
  cnt := []
  hostMem := []
  dram := []
  flash := []
  host := HostSt.reset
  seq := SeqSt.reset
  pos := PosSt.reset
  lamp := LampSt.reset
  sen := SenSt.reset
  cor := CorSt.reset
  cap := CapSt.reset
  cmp := CmpSt.reset
  hq := HqSt.reset
  mot := MotSt.reset
  aux := AuxSt.reset
  sec := SecSt.reset
  hlt := HltSt.reset
  ask := AskSt.reset
  pwr := PwrSt.reset

end Sys2Proof.Machine
end

