-- ==== Sys2Proof/Machine/Ops.lean ====
section
/-! DEFINITION. The named operations every command uses: instants and the glint count, parameters, counters, rings, events,
interrupts, replies, the audit log, free values. -/

namespace Sys2Proof.Machine

/-- n nanoseconds in the unit of instants (log entry 1). -/
def ns (n : Nat) : Nat := 768 * n
/-- n microseconds. -/
def us (n : Nat) : Nat := 768000 * n
/-- n milliseconds. -/
def ms (n : Nat) : Nat := 768000000 * n
/-- n seconds. -/
def secs (n : Nat) : Nat := 768000000000 * n

/-- A list with one element changed. -/
def upd {α : Type} (l : List α) (i : Nat) (f : α → α) : List α :=
  match l, i with
  | [], _ => []
  | a :: as, 0 => f a :: as
  | a :: as, j + 1 => a :: upd as j f

/-- The state at a later instant; instants never go back (log entry 1). -/
def State.advance (s : State) (t : Nat) : State := { s with now := max s.now t }

/-- A parameter in effect, instance i. -/
def State.p (s : State) (p : Par) (i : Nat := 0) : Nat := parGet s.par p i

/-- A parameter in effect on the image side. -/
def State.ip (s : State) (p : Par) (i : Nat := 0) : Nat := parGet s.imgPar p i

/-- Parameters in effect after writes, with no other effect. -/
def State.setPars (s : State) (ws : List ParWrite) : State := { s with par := parSets s.par ws }

/-- The next free value (log entry 3). -/
def State.takeFree (s : State) : Nat × State := (Config.free s.freeCount, { s with freeCount := s.freeCount + 1 })

/-- A quotient whose rounding the spec leaves open: the floor, or one more where it is not exact (log entry 12). -/
def openDiv (site : Nat) (num : Int) (den : Nat) : Int :=
  let q := num / den
  if num % den = 0 then q else if Config.roundsUp site num den then q + 1 else q

/-! ### The glint count (R98) -/

/-- TDC_PPS_MODE as it acts: a member ignores it (R543). -/
def State.ppsMode (s : State) : Nat := if s.p .ASK_ROLE = 2 then 0 else s.p .TDC_PPS_MODE

/-- The correction in force without slew, 1/16 ppb (R98, R100). -/
def State.baseRate (s : State) : Int :=
  let f := toSigned 32 (s.p .TDC_FREQ_PPB)
  if s.ppsMode = 0 then f
  else clampInt (-(16 * s.p .TDC_SLEW_MAX : Int)) (16 * s.p .TDC_SLEW_MAX) f

/-- The correction in force while the loop slews, 1/16 ppb (R100), or while a member follows the time marks, at 200 ppm at most (R551). -/
def State.slewRate (s : State) : Int :=
  if s.p .ASK_ROLE = 2 then s.baseRate + clampInt (-3200000) 3200000 s.pos.tb.slew
  else if s.ppsMode = 0 then s.baseRate
  else clampInt (-(16 * s.p .TDC_SLEW_MAX : Int)) (16 * s.p .TDC_SLEW_MAX) (toSigned 32 (s.p .TDC_FREQ_PPB) + s.pos.tb.slew)

/-- The count at an instant, as the numerator of 1/240,000,000,000 glint. -/
def State.glintNum (s : State) (t : Nat) : Int :=
  let tb := s.pos.tb
  let d : Int := (t : Int) - tb.at_
  let sl : Int := if tb.slewEnd ≤ tb.at_ ∨ d ≤ 0 then 0 else min d ((tb.slewEnd : Int) - tb.at_)
  tb.num + sl * (16000000000 + s.slewRate) + (d - sl) * (16000000000 + s.baseRate)

/-- TDC_TIME at an instant: the 64-bit glint count (R98, R99); in KEEP_ALIVE in steps of 1,024 glints (R104). -/
def State.glintAt (s : State) (t : Nat) : Nat :=
  let g := (s.glintNum t / 240000000000).toNat % 2 ^ 64
  if s.pwr.st = .keepAlive then g / 1024 * 1024 else g

/-- TDC_TIME now. -/
def State.glint (s : State) : Nat := s.glintAt s.now

/-- The time base carried to the present instant, before its rates change. -/
def State.rebase (s : State) : State :=
  { s with pos := { s.pos with tb := { s.pos.tb with num := s.glintNum s.now, at_ := s.now } } }

/-! ### Rings (R441 to R446) -/

/-- Ring r. -/
def State.ring (s : State) (r : Nat) : Ring := s.host.rings.getD r Ring.reset

/-- Ring r changed. -/
def State.updRing (s : State) (r : Nat) (f : Ring → Ring) : State :=
  { s with host := { s.host with rings := upd s.host.rings r f } }

/-- The slot size of a ring (R443). -/
def slotBytes (r : Nat) : Nat := if r = 5 then 32 else 64

/-- Free slots of a completion or event ring (R443). -/
def Ring.room (r : Ring) : Nat := 2 ^ r.size - (r.dev + 65536 - r.host) % 65536

/-- A ring whose device index has moved on by n slots, with the phase of R444. -/
def Ring.forward (r : Ring) (n : Nat) : Ring :=
  { r with dev := (r.dev + n) % 65536,
           phase := if 2 ^ r.size ≤ r.dev % 2 ^ r.size + n then !r.phase else r.phase }

/-- Whether the link is active (R466). -/
def Link.active (l : Link) : Bool := l.adapterUp && l.busMaster && l.d0

/-- Whether the link is active. -/
def State.linkUp (s : State) : Bool := s.host.link.active

/-- Whether the management cores run (R465). -/
def State.coresUp (s : State) : Bool := s.host.coresDown.isNone

/-- Bytes written to host memory. -/
def State.hostWrite (s : State) (addr : Nat) (bs : List Byte) : State := { s with hostMem := Sparse.write s.hostMem addr bs }

/-! ### MSI-X (R463) -/

/-- An MSI-X message on a vector, or its pending bit where the vector is masked. -/
def State.sendMsix (s : State) (v : Nat) : State :=
  let e := s.host.vecs.getD v MsixVec.reset
  let hold := us (s.p .SYS_IRQ_HOLDOFF)
  if e.ctrl % 2 = 1 then
    { s with host := { s.host with vecs := upd s.host.vecs v (fun e => { e with pendingBit := true, dirty := false }) } }
  else
    let s := s.hostWrite e.addr (leBytes 4 e.data)
    { s with host := { s.host with
        vecs := upd s.host.vecs v (fun e => { e with holding := decide (0 < hold), until_ := s.now + hold, dirty := false }) } }

/-- Whether writes to the completion and event rings go to the spill area (R467, R468). -/
def State.entriesSpill (s : State) : Bool :=
  !s.linkUp || s.host.spill.any (fun i => match i with | .entry _ _ _ => true | .packet .. => false)

/-- An entry has been written that vector v signals (R463, R467). -/
def State.signal (s : State) (v : Nat) : State :=
  let e := s.host.vecs.getD v MsixVec.reset
  if !s.host.link.msixEnable then s
  else if e.holding || s.entriesSpill then
    { s with host := { s.host with vecs := upd s.host.vecs v (fun e => { e with dirty := true }) } }
  else s.sendMsix v

/-- Whether the spill area has room for n bytes of an entry, where entries go there (R352, R467). -/
def State.spillTakes (s : State) (n : Nat) : Bool :=
  !s.entriesSpill || decide (s.host.spillUsed + n ≤ 67108864 * s.p .HIS_SPILL)

/-- One write of an entry, to host memory or to the spill area. -/
def State.entryWrite (s : State) (addr : Nat) (bs : List Byte) (vec : Nat) : State :=
  if s.entriesSpill then
    { s with host := { s.host with spill := s.host.spill ++ [.entry addr bs vec], spillUsed := s.host.spillUsed + bs.length } }
  else s.hostWrite addr bs

/-- An entry written slot by slot from the ring's device index on, wrapping at the ring's end (R443, R452). -/
def State.slotsWrite (s : State) (r : Nat) (vec : Nat) : Nat → List Byte → State
  | 0, _ => s
  | n + 1, bs =>
    let ring := s.ring r
    let sz := slotBytes r
    let s := s.entryWrite (ring.base + sz * (ring.dev % 2 ^ ring.size)) (bs.take sz) vec
    State.slotsWrite (s.updRing r (fun x => x.forward 1)) r vec n (bs.drop sz)

/-! ### Events (R459 to R462) -/

/-- The record of a source. -/
def State.evSrc (s : State) (src : Nat) : EvSrc := Sparse.get s.host.events EvSrc.idle src

/-- The record of a source changed. -/
def State.updEv (s : State) (src : Nat) (f : EvSrc → EvSrc) : State :=
  { s with host := { s.host with events := Sparse.set s.host.events EvSrc.idle src (f (s.evSrc src)) } }

/-- The 32 bytes of an event entry (R461). -/
def eventBytes (src : Nat) (e : EvSrc) (delayed phase : Bool) : List Byte :=
  leBytes 2 (evOf src) ++ leBytes 2 (bitNat delayed + bitAt phase 15) ++ leBytes 4 e.batch ++ leBytes 8 e.firstTime ++
  leBytes 8 e.lastTime ++ leBytes 4 e.firstDetail ++ leBytes 4 e.lastDetail

/-- Whether the event ring can take an entry (R446, R462, R467). -/
def State.eventRoom (s : State) : Bool :=
  let r := s.ring 5
  decide (r.st = .running) && decide (1 ≤ r.room) && s.spillTakes 32

/-- The batch of a source written as one entry; the hold-off starts. -/
def State.writeEvent (s : State) (src : Nat) (delayed : Bool) : State :=
  let vec := s.p .EVT_VEC src
  let s := s.slotsWrite 5 vec 1 (eventBytes src (s.evSrc src) delayed (s.ring 5).phase)
  let hold := us (s.p .SYS_EVT_HOLDOFF)
  let s := s.updEv src (fun e => { e with batch := 0, waiting := false, holding := decide (0 < hold), until_ := s.now + hold })
  s.signal vec

/-- A batch that is ready: written at once, or kept waiting for ring room (R462). -/
def State.readyEvent (s : State) (src : Nat) : State :=
  if s.eventRoom && s.host.evWait.isEmpty then s.writeEvent src false
  else
    let s := s.updEv src (fun e => { e with waiting := true, holding := false })
    { s with host := { s.host with
        evFull := s.host.evFull || src != srcOf Ev.SYS_EVT_DELAYED.id, evWait := s.host.evWait ++ [src] } }

/-- One more raise in the batch of a source. -/
def EvSrc.gather (e : EvSrc) (now detail : Nat) : EvSrc :=
  if e.batch = 0 then { e with batch := 1, firstTime := now, lastTime := now, firstDetail := detail, lastDetail := detail }
  else { e with batch := satAdd32 e.batch 1, lastTime := now, lastDetail := detail }

/-- The event engine's part of a raise (R460). -/
def State.raiseEvent (s : State) (src detail : Nat) : State :=
  let s := s.updEv src (fun e => { e with count := satAdd32 e.count 1 })
  if s.p .EVT_EN src = 0 then s
  else
    let e := s.evSrc src
    let s' := s.updEv src (fun e => e.gather s.glint detail)
    if e.holding || e.waiting then s' else s'.readyEvent src

/-! ### The fault queue (R515 to R518) -/

/-- The lowest free slot a class may use. -/
def freeSlot (faults : List FaultEnt) (cls : Nat) : Option Nat :=
  (List.range (if cls = 3 then 64 else 56)).find? (fun i => faults.all (fun f => f.slot != i))

/-- A counter without the event of its saturation. -/
def State.bump (s : State) (c : Ctr) (i n : Nat) : State :=
  { s with cnt := Sparse.set s.cnt 0 (c.key i) (satAdd32 (Sparse.get s.cnt 0 (c.key i)) n) }

/-- The fault queue's part of a raise. -/
def State.raiseFault (s : State) (src detail : Nat) : State :=
  let cls := s.p .HLT_CLASS src
  if cls = 7 then s
  else if s.hlt.faults.any (fun f => f.src == src) then
    { s with hlt := { s.hlt with faults := s.hlt.faults.map (fun f =>
        if f.src = src then { f with reps := satAdd32 f.reps 1, lastTime := s.glint, lastDetail := detail } else f) } }
  else match freeSlot s.hlt.faults cls with
    | some i => { s with hlt := { s.hlt with
        faults := s.hlt.faults ++ [⟨i, src, cls, .queued, 0, s.glint, s.glint, detail, detail⟩] } }
    | none => s.bump .HLT_FAULT_OVERFLOWS 0 1

/-- A raise of an event with a 32-bit detail. -/
def State.raise (s : State) (e : Ev) (detail : Nat := 0) : State :=
  (s.raiseEvent (srcOf e.id) (detail % 2 ^ 32)).raiseFault (srcOf e.id) (detail % 2 ^ 32)

/-! ### Counters (R537) -/

/-- The instances of a counter. -/
def Ctr.insts : Ctr → Nat
  | .POS_RECONCILED | .POS_DOUBLE_CHANGE | .POS_AMP_INVALID | .POS_REF_CORRECTIONS => 4
  | .LMP_CHAIN_ERRORS | .LMP_CMD_ERRORS | .LMP_PROOFS | .LMP_BOOST_AT_LIMIT => 4
  | .MOT_LIM_TRIPS | .MOT_LIM_CHATTER | .MOT_SHORTS | .MOT_GEAR_LAGS => 8
  | .HLT_SRAM_CE => 11
  | .HLT_DRAM_CE | .HLT_DRAM_UE => 8
  | _ => 1

/-- The counters of a group in the numbering of R537: counter and instance. -/
def groupIndex (g : Nat) : List (Ctr × Nat) := (groupCtrs g).flatMap (fun c => (List.range c.insts).map (fun i => (c, i)))

/-- The value of a counter. -/
def State.cntOf (s : State) (c : Ctr) (i : Nat := 0) : Nat := Sparse.get s.cnt 0 (c.key i)

/-- The group of a counter and its index there (R537). -/
def ctrPlace (c : Ctr) (i : Nat) : Nat :=
  match (List.range 16).find? (fun g => (groupCtrs g).contains c) with
  | some g => g + 256 * ((groupIndex g).findIdx (fun x => x == (c, i)))
  | none => 0

/-- A counter advances by n; reaching 0xFFFFFFFF raises HLT_COUNTER_SAT (R537). -/
def State.count (s : State) (c : Ctr) (i : Nat := 0) (n : Nat := 1) : State :=
  let s' := s.bump c i n
  if s.cntOf c i < 0xFFFFFFFF ∧ s'.cntOf c i = 0xFFFFFFFF then s'.raise .HLT_COUNTER_SAT (ctrPlace c i) else s'

/-- The counters a clear command's mask names, all instances of each together. -/
def State.clearCounters (s : State) (g mask : Nat) : State :=
  let hit := ((groupCtrs g).zipIdx).filter (fun x => mask.testBit x.2)
  { s with cnt := hit.foldl (fun m x => (List.range x.1.insts).foldl (fun m i => Sparse.drop m (x.1.key i)) m) s.cnt }

/-! ### The audit log (R490 to R493) -/

/-- Bytes of a hash (R475). -/
def sha384 (bs : List Byte) : List Byte := (List.range 48).map (fun i => Config.sha384Byte bs i)

/-- Bytes of the DIK public key (R481). -/
def dikPublic : List Byte := (List.range 96).map (fun i => Config.publicKeyByte 0 i)

/-- The device fingerprint (R481). -/
def fingerprint : List Byte := (sha384 dikPublic).take 16

/-- The read-only opcodes of R490. -/
def readOnlyOpcodes : List Nat :=
  [0x0101, 0x0102, 0x0106, 0x0202, 0x0203, 0x0308, 0x0309, 0x0404, 0x0409, 0x040A, 0x0506, 0x0507, 0x0604, 0x0704, 0x0708,
   0x0709, 0x070A, 0x0805, 0x0807, 0x0809, 0x090B, 0x0A02, 0x0A07, 0x0B04, 0x0B07, 0x0C01, 0x0C02, 0x0C06, 0x0C0A]

/-- Whether R490 logs a command that completes. -/
def audited (opcode : Nat) (words : List Word) : Bool :=
  !readOnlyOpcodes.contains opcode && !(opcode == 0x0105 && !(words.getD 0 0).bit 31)

/-- One entry appended to the chain and the buffer (R491, R492). -/
def State.auditAppend (s : State) (device : Bool) (opcode who status counter line : Nat) (hdr : List Byte) (words : List Word) :
    State :=
  let run := if s.cap.run = .closed then 0 else s.cap.runId
  let head := leBytes 8 s.sec.auditSeq ++ leBytes 8 s.glint ++ leBytes 8 line ++ leBytes 2 opcode ++ leBytes 1 who ++
    leBytes 1 status ++ leBytes 4 run ++ leBytes 8 counter ++ fitList 8 0 hdr ++ (sha384 (wordsBytes words)).take 32
  let prev := if s.sec.auditSeq = 0 then sha384 fingerprint else s.sec.chain
  let c := sha384 (prev ++ head)
  { s with sec := { s.sec with auditSeq := s.sec.auditSeq + 1, chain := c, auditBuf := s.sec.auditBuf ++ [⟨device, head ++ c⟩] } }

/-- A device-generated entry: the event and its detail (R490, R491). -/
def State.auditDevice (s : State) (event detail : Nat) : State :=
  s.auditAppend true 0x0C00 7 0 (event % 65536 + 65536 * (detail % 2 ^ 32)) s.seq.lineIndex [] []

/-! ### Replies (R452 to R457) -/

/-- The fetched command of a number. -/
def State.outOf (s : State) (cid : Nat) : Option Outst := s.host.outst.find? (fun o => o.cid == cid)

/-- A reply put into the completion store; an audit entry with it where R490 asks for one. line is the audit entry's. -/
def State.replyAt (s : State) (cid status detail : Nat) (ws : List Word) (line : Nat) : State :=
  match s.outOf cid with
  | none => s
  | some o =>
    if o.final || o.aborted then s else
    let final := !(status == 1 || status == 2)
    let s := { s with host := { s.host with
      outst := s.host.outst.map (fun x => if x.cid = cid then { x with first := true, final := final } else x),
      store := s.host.store ++ [⟨cid, o.ring, o.tag, o.opcode, o.slot, status, detail % 2 ^ 24, ws, final, false⟩] } }
    if final && ((status == 0 || status == 3) && audited o.opcode o.words || (status == 0x20 || status == 0x21)) then
      s.auditAppend false o.opcode (o.role + 16 * o.key) status o.counter line
        (leBytes 1 o.commit ++ leBytes 3 0 ++ leBytes 4 o.arg) o.words
    else s

/-- A reply outside any commit. -/
def State.reply (s : State) (cid status : Nat) (detail : Nat := 0) (ws : List Word := []) : State :=
  s.replyAt cid status detail ws s.seq.lineIndex

/-- DONE with result words. -/
def State.done (s : State) (cid : Nat) (ws : List Word := []) : State := s.reply cid 0 0 ws

/-- DONE of a command that took effect at IMMEDIATE: result words 0 and 1 hold SEQ_LINE_INDEX (R58). -/
def State.doneNow (s : State) (cid : Nat) (more : List Word := []) : State :=
  s.reply cid 0 0 (Word.ofNat64 s.seq.lineIndex ++ more)

/-- ACCEPTED (R453). -/
def State.accept (s : State) (cid : Nat) : State := s.reply cid 1

/-- DEFERRED (R453, R456). -/
def State.defer (s : State) (cid : Nat) : State := (s.reply cid 2).count .SYS_DEFERRED

/-- A number as a result word. -/
def w32 (n : Nat) : Word := BitVec.ofNat 32 n

/-- A signed number as a result word. -/
def wInt (x : Int) : Word := BitVec.ofNat 32 (ofSigned 32 x)

end Sys2Proof.Machine
end

