-- ==== Sys2Proof/Machine/Coverage.lean ====
section
/-! DEFINITION. The arena (R354), packets and service records (R326 to R339), and the coverage map (R259 to R265). -/

namespace Sys2Proof.Machine

/-! ### The arena -/

/-- One unit of the arena, 64 MiB (R354). -/
def arenaUnit : Nat := 67108864

/-- The sizes of the five partitions in units: reference, shading, spill, scratch, history (R354, R355). -/
def State.arenaSizes (s : State) : List Nat :=
  let a := s.p .HIS_REF_SLOTS * s.p .HIS_REF_SLOT_SIZE
  let b := ceilDiv (s.p .HIS_SHD_SLOTS * 5) 64
  [a, b, s.p .HIS_SPILL, s.p .HIS_SCRATCH, s.p .HIS_HIST]

/-- The DRAM offset of partition i in units. -/
def State.arenaBase (s : State) (i : Nat) : Nat := (s.arenaSizes.take i).foldl (· + ·) 0

/-- The byte offset of partition i. -/
def State.arenaByte (s : State) (i : Nat) : Nat := arenaUnit * s.arenaBase i

/-- The bytes of partition i. -/
def State.arenaSize (s : State) (i : Nat) : Nat := arenaUnit * s.arenaSizes.getD i 0

/-- A DRAM offset as a BAR2 offset against the window in effect (R368), modulo the 64 GiB of the window where it lies below it. -/
def State.bar2Of (s : State) (dramOff : Nat) : Nat := (dramOff + 2 ^ 64 - s.p .HIS_BAR2_BASE * 2 ^ 30) % 2 ^ 64

/-- Bytes written to DRAM. -/
def State.dramWrite (s : State) (a : Nat) (bs : List Byte) : State := { s with dram := Sparse.write s.dram a bs }

/-! ### Columns -/

/-- The enabled lanes, numbered 8t + l. -/
def State.lanesOn (s : State) : List Nat := (List.range 128).filter (fun l => s.p .SEN_LANE_EN l == 1)

/-- First and last column of lane l (R165). -/
def State.laneCols (s : State) (l : Nat) : Nat × Nat := (s.p .SEN_COL_BASE l, s.p .SEN_COL_BASE l + s.p .SEN_ACTIVE l - 1)

/-- First and last column of some lanes; 0 and 0 where there is none. -/
def State.colsOf (s : State) (ls : List Nat) : Nat × Nat :=
  match ls with
  | [] => (0, 0)
  | l :: rest => rest.foldl (fun c m => (min c.1 (s.laneCols m).1, max c.2 (s.laneCols m).2)) (s.laneCols l)

/-- First and last column of the device. -/
def State.devCols (s : State) : Nat × Nat := s.colsOf s.lanesOn

/-- First and last column of a tile's enabled lanes. -/
def State.tileCols (s : State) (t : Nat) : Nat × Nat := s.colsOf (s.lanesOn.filter (fun l => l / 8 == t))

/-- Whether a tile has an enabled lane. -/
def State.tileOn (s : State) (t : Nat) : Bool := s.lanesOn.any (fun l => l / 8 == t)

/-! ### Queues and packets -/

/-- Queue q. -/
def State.queue (s : State) (q : Nat) : Queue := Sparse.get s.hq.queues Queue.reset q

/-- Queue q changed. -/
def State.updQueue (s : State) (q : Nat) (f : Queue → Queue) : State :=
  { s with hq := { s.hq with queues := Sparse.set s.hq.queues Queue.reset q (f (s.queue q)) } }

/-- The ring size of a queue in blocks (R323). -/
def Queue.ring (q : Queue) : Nat := 2 ^ q.size

/-- Blocks between consumer and producer. -/
def Queue.used (q : Queue) : Nat := (q.prod + 65536 - q.cons) % 65536

/-- Free blocks (R336). -/
def Queue.free (q : Queue) : Nat := q.ring - q.used

/-- Whether the queue is empty (R324). -/
def Queue.isEmpty (q : Queue) : Bool := q.pub == q.cons

/-- Blocks a packet of body length len occupies (R326). -/
def pktBlocks (len : Nat) : Nat := ceilDiv len 256 + 1

/-- The number of R327 byte 14. -/
def PktType.code : PktType → Nat
  | .pad => 0
  | .record => 1
  | .tile => 2
  | .band => 3

/-- A packet header (R327) with VALID set. -/
def pktHeader (len seq valid q : Nat) (typ : PktType) (flags drops source line time run job : Nat) : List Byte :=
  leBytes 8 (len % 2 ^ 32 + 2 ^ 32 * (seq % 2 ^ 31) + 2 ^ 63) ++ leBytes 4 valid ++ leBytes 2 q ++ leBytes 1 typ.code ++
  leBytes 1 flags ++ leBytes 4 drops ++ leBytes 4 source ++ leBytes 8 line ++ leBytes 8 time ++ leBytes 4 run ++
  leBytes 4 job ++ leBytes 16 0

/-- The next sequence number (R328). -/
def nextSeq (n : Nat) : Nat := if n = 2 ^ 31 - 1 then 1 else n + 1

/-- A record's tag (R484). -/
def hmacTag (key input : List Byte) : List Byte := (List.range 16).map (fun i => Config.hmacByte key input i)

/-- A tile's or band's tag (R485). -/
def gmacTag (key : List Byte) (time q : Nat) (input : List Byte) : List Byte :=
  (List.range 16).map (fun i => Config.gmacByte key (leBytes 8 time ++ leBytes 2 q ++ leBytes 2 0) input i)

/-- Whether a packet would carry a tag (R329, R482). -/
def State.tagged (s : State) (q : Nat) (typ : PktType) : Bool :=
  s.sec.salt.isSome && (typ == .record || (typ != .pad && (s.queue q).gmac))

/-- The tag of a packet from its final header and body: zeros in the error state (R329, R484, R485, R501). -/
def State.tagOf (s : State) (q : Nat) (typ : PktType) (time : Nat) (input : List Byte) : List Byte :=
  if s.sec.mode = .error then List.replicate 16 0
  else if typ = .record then hmacTag (s.sec.recKey.getD []) input
  else gmacTag (s.sec.gmacKey.getD []) time q input

/-- Whether packets of a queue go to the spill area (R352). -/
def State.spills (s : State) (q : Nat) : Bool :=
  !s.linkUp || s.host.spill.any (fun i => match i with | .packet q' _ _ _ _ => q' == q | .entry .. => false)

/-- Bytes of a packet, to its place in host memory or to the spill area (R352). -/
def State.pktWrite (s : State) (q blk off : Nat) (bs : List Byte) : State :=
  if s.host.spill.any (fun i => match i with | .packet q' b' _ _ _ => q' == q && b' == blk | .entry .. => false) then
    { s with host := { s.host with spill := s.host.spill.map (fun i => match i with
      | .packet q' b' n ws d => if q' = q ∧ b' = blk then .packet q' b' n (ws ++ [(off, bs)]) d else i
      | .entry .. => i) } }
  else
    let qq := s.queue q
    s.hostWrite (qq.base + 256 * (blk % qq.ring) + off) bs

/-- Whether a packet still lies in the spill area. -/
def State.inSpill (s : State) (q blk : Nat) : Bool :=
  s.host.spill.any (fun i => match i with | .packet q' b' _ _ _ => q' == q && b' == blk | .entry .. => false)

/-- Whether a packet may be published by itself (R330, R331, R333). -/
def pktReady (cut : Nat) (p : Pkt) : Bool :=
  p.written == p.len || ((p.typ == .tile || p.typ == .band) && cut != 0 && decide (cut * 4096 < p.len) && decide (cut * 4096 ≤ p.written))

/-- The open packets after publication from the front on: the packets left open, the published index, packets published. -/
def publishRun (cut : Nat) (spilled : Nat → Bool) : List Pkt → Nat → Nat → List Pkt × Nat × Nat
  | [], pub, n => ([], pub, n)
  | p :: ps, pub, n =>
    if p.published then
      let r := publishRun cut spilled ps pub n
      (if p.written == p.len then r.1 else p :: r.1, r.2)
    else if pktReady cut p && !spilled p.blk then
      let r := publishRun cut spilled ps ((p.blk + p.blocks) % 65536) (if p.typ == .pad then n else n + 1)
      (if p.written == p.len then r.1 else { p with published := true } :: r.1, r.2)
    else (p :: ps, pub, n)

/-- Publication of what may be published (R332); the stale watch starts when the queue becomes non-empty (R347). -/
def State.publish (s : State) (q : Nat) : State :=
  let qq := s.queue q
  let r := publishRun qq.cut (fun b => s.inSpill q b) qq.open_ qq.pub 0
  let s' := s.updQueue q (fun x => { x with
    open_ := r.1, pub := r.2.1, recPub := r.2.1,
    staleSince := if x.pub = x.cons ∧ r.2.1 ≠ x.cons then some s.now else x.staleSince })
  s'.count .HQ_PACKETS 0 r.2.2

/-- What the queue engine answers to an admission (R334, R353). -/
inductive Admit where
  | placed | noCredit | spillFull
deriving DecidableEq, Repr

/-- The pad of R334. -/
def Queue.padFor (q : Queue) (need : Nat) : Nat :=
  let room := q.ring - q.prod % q.ring
  if room < need then room else 0

/-- Whether a packet of need blocks is admitted (R334, R353). -/
def State.admits (s : State) (q need : Nat) : Admit :=
  let qq := s.queue q
  if qq.st ≠ .enabled ∨ qq.credit < qq.padFor need + need then .noCredit
  else if s.spills q && decide (s.arenaSize 2 < s.host.spillUsed + 256 * need + (if qq.padFor need = 0 then 0 else 64)) then .spillFull
  else .placed

/-- Room taken in the spill area for a packet of n bytes (R352, R353). -/
def State.takeSpill (s : State) (q blk n : Nat) : State :=
  if !s.spills q then s else
  let s := { s with host := { s.host with spill := s.host.spill ++ [SpillItem.packet q blk n [] false], spillUsed := s.host.spillUsed + n } }
  let s := s.count .HQ_SPILLED
  if s.hq.spillRaised then s else
    let s := s.raise .HQ_SPILL_ENTER q
    { s with hq := { s.hq with spillRaised := true } }

/-- The PAD of R333. -/
def State.writePad (s : State) (q pad : Nat) : State :=
  if pad = 0 then s else
  let qq := s.queue q
  let len := (pad - 1) * 256
  let s := s.takeSpill q qq.prod 64
  let s := s.pktWrite q qq.prod 0
    (pktHeader len qq.seq len q .pad 0 0 0 s.seq.lineIndex s.glint s.cap.runId s.cap.jobId)
  let s := s.updQueue q (fun x => { x with
    prod := (x.prod + pad) % 65536, credit := x.credit - pad,
    open_ := x.open_ ++ [⟨x.prod, pad, .pad, len, len, false, 0, 0, 0⟩] })
  s.count .HQ_PADS

/-- A drop counted (R338, R339). -/
def State.countDrop (s : State) (q n : Nat) : State :=
  let first := !(s.queue q).dropRaised
  let s := s.updQueue q (fun x => { x with drops := satAdd32 x.drops n, dropsBefore := satAdd32 x.dropsBefore n, dropRaised := true })
  let s := s.count .HQ_DROPS 0 n
  if first then s.raise .HQ_DROP q else s

/-- A drop for want of spill room (R353). -/
def State.countSpillDrop (s : State) (q : Nat) : State :=
  let s := (s.countDrop q 1).count .HQ_SPILL_DROPS
  if s.hq.spillFullRaised then s else
    let s := s.raise .HQ_SPILL_FULL q
    { s with hq := { s.hq with spillFullRaised := true } }

/-- An UNSIGNED packet counted, and entered in the episode of the open run (R501, R502). -/
def State.countUnsigned (s : State) (line : Nat) : State :=
  let s := s.count .SEC_UNSIGNED_PACKETS
  match s.sec.episode with
  | none => s
  | some e =>
    if s.cap.run = .closed then s else
    { s with sec := { s.sec with episode := some { e with
        minIdx := some (match e.minIdx with
        | none => line | some m => min m line),
        maxIdx := some (match e.maxIdx with | none => line | some m => max m line), packets := e.packets + 1 } } }

/-- A whole packet placed at the producer index of an admitted queue, its body and tag written, and published (R326 to R334). -/
def State.place (s : State) (q : Nat) (typ : PktType) (source line line1 col0 col1 items tilesDropped : Nat) (body : List Byte) : State :=
  let need := pktBlocks body.length
  let s := s.writePad q ((s.queue q).padFor need)
  let qq := s.queue q
  let tagged := s.tagged q typ
  let unsigned := tagged && s.sec.mode == .error
  let time := max s.glint (qq.handed + 1)
  let flags := bitAt tagged 0 + bitAt unsigned 1 + bitAt (qq.dropsBefore != 0) 2 + bitAt (tilesDropped != 0) 3
  let hdr := pktHeader body.length qq.seq body.length q typ flags qq.dropsBefore source line time s.cap.runId s.cap.jobId
  let s := s.takeSpill q qq.prod (256 * need)
  let s := s.pktWrite q qq.prod 64 body
  let s := if tagged then s.pktWrite q qq.prod (64 + 16 * ceilDiv body.length 16) (s.tagOf q typ time (hdr ++ body)) else s
  let s := s.pktWrite q qq.prod 0 hdr
  let s := s.updQueue q (fun x => { x with
    prod := (x.prod + need) % 65536, credit := x.credit - need, seq := nextSeq x.seq, dropsBefore := 0, dropRaised := false, handed := time,
    open_ := x.open_ ++ [⟨x.prod, need, typ, body.length, body.length, false, line, line1, items⟩],
    spans := x.spans ++ [⟨x.prod, need, typ, line, line1, col0, col1, []⟩] })
  let s := if unsigned then s.countUnsigned line else s
  s.publish q

/-- The bytes an item takes of the spill area. -/
def SpillItem.bytes : SpillItem → Nat
  | .packet _ _ n _ _ => n
  | .entry _ bs _ => bs.length

/-- A queue's packets leave the spill area. -/
def State.dropSpilled (s : State) (q : Nat) : State :=
  let items := s.host.spill.filter (fun i => match i with
    | .packet q' _ _ _ _ => q' != q
    | .entry .. => true)
  { s with host := { s.host with spill := items, spillUsed := items.foldl (fun (n : Nat) i => n + i.bytes) 0 } }

/-- Stalled reads of a queue's wait window become due: a flush, reset or disable has completed (R345). -/
def State.waitsDue (s : State) (q : Nat) : State :=
  { s with host := { s.host with waits := s.host.waits.map (fun (w : WaitRead) => if w.q = q then { w with due := true } else w) } }

/-- Protection of the indices (R350): the two copies differ, so the queue alone takes the recorded published index. The footprint
    of the packets it drops is the caller's. -/
def State.resetQueue (s : State) (q : Nat) : State :=
  let qq := s.queue q
  let lost := (qq.open_.filter (fun p => !p.published && p.typ != .pad)).length
  let s := (s.dropSpilled q).waitsDue q
  let s := qq.open_.foldl (fun s p =>
    if p.published && (p.typ == .tile || p.typ == .band) then
      let a := qq.base + 256 * (p.blk % qq.ring) + 15
      s.hostWrite a [Sparse.get s.hostMem 0 a ||| 16]
    else s) s
  let s := s.updQueue q (fun x =>
    let y := { x with
                      pub := x.recPub, prod := x.recPub, split := false, open_ := [], fault := true, faultBit := true,
                      spans := x.spans.filter (fun p => (p.blk + 65536 - x.cons) % 65536 < (x.recPub + 65536 - x.cons) % 65536) }
    { y with credit := y.free })
  let s := if lost = 0 then s else s.countDrop q lost
  (s.count .HQ_QUEUE_FAULTS).raise .QUEUE_FAULT q

/-- A service entry as a RECORD packet (R322); without credit it is dropped and counted, with no coverage entry (R338). -/
def State.serviceRecord (s : State) (q : Nat) (body : List Byte) : State :=
  let s := if (s.queue q).split then s.resetQueue q else s
  match s.admits q (pktBlocks body.length) with
  | .placed => s.place q .record q s.seq.lineIndex s.seq.lineIndex 0 0 1 0 body
  | .noCredit => s.countDrop q 1
  | .spillFull => s.countSpillDrop q

/-! ### The coverage map -/

/-- The byte offset of a coverage area (R260). -/
def State.covBase (s : State) (area : Nat) : Nat := s.arenaByte 3 + area * s.p .CAP_COV_SIZE * 2 ^ 20

/-- Entry slots of an area (R260). -/
def State.covSlots (s : State) : Nat := (s.p .CAP_COV_SIZE * 2 ^ 20 - 240) / 32

/-- The 32 bytes of a STATE entry (R262). -/
def CovEnt.bytes (e : CovEnt) : List Byte :=
  leBytes 8 e.first ++ leBytes 4 e.count ++ leBytes 4 e.col0 ++ leBytes 4 e.col1 ++ leBytes 4 (e.state + 65536 * e.queue) ++
  leBytes 4 (e.cause + 65536 * (e.detail % 65536)) ++ leBytes 4 (min e.items 0xFFFFFFFF)

/-- Entry bytes written to the map, and sent to queue 0x0043 (R263, R265). -/
def State.covWrite (s : State) (bs : List Byte) : State :=
  let s := s.dramWrite (s.covBase s.cap.cov.area + 96 + 32 * s.cap.cov.written) bs
  let s := { s with cap := { s.cap with cov := { s.cap.cov with written := s.cap.cov.written + 1 } } }
  let s := s.count .CAP_COV_ENTRIES
  if s.p .CAP_COV_LIVE = 1 then s.serviceRecord 0x43 bs else s

/-- An open entry closed and written. -/
def State.covClose (s : State) (e : CovEnt) : State :=
  let s := { s with cap := { s.cap with cov := { s.cap.cov with opens := s.cap.cov.opens.erase e } } }
  s.covWrite e.bytes

/-- Whether a report extends an open entry (R263). -/
def CovEnt.extendedBy (e r : CovEnt) : Bool :=
  e.branch == r.branch && r.first == e.first + e.count && e.col0 == r.col0 && e.col1 == r.col1 && e.state == r.state &&
  e.queue == r.queue && e.cause == r.cause && e.detail == r.detail && decide (e.count + r.count < 2 ^ 32)

/-- One report: it extends an open entry, opens a new one, or finds no slot (R263, R264). -/
def State.covReport (s : State) (r : CovEnt) : State :=
  let m := s.cap.cov
  if s.cap.run = .closed then s
  else match m.opens.find? (fun e => e.extendedBy r) with
  | some e =>
    { s with cap := { s.cap with cov := { m with
        opens := m.opens.map (fun x => if x = e then { x with count := x.count + r.count, items := x.items + r.items } else x) } } }
  | none =>
    if m.noSlots || decide (s.covSlots ≤ m.written + m.opens.length + 257) then
      { s with cap := { s.cap with cov := { m with
          noSlots := true,
          overflow := match m.overflow with | none => some r.first | some l => some (min l r.first) } } }
    else
      let s := if m.opens.length < 256 then s else
        match m.opens with
        | [] => s
        | e :: _ => (s.covClose e).count .CAP_COV_EVICTIONS
      { s with cap := { s.cap with cov := { s.cap.cov with opens := s.cap.cov.opens ++ [r] } } }

/-- A branch has handled lines up to one: its open entries that end before it close (R263). -/
def State.covPass (s : State) (b : Branch) (line : Nat) : State :=
  (s.cap.cov.opens.filter (fun e => e.branch == b && decide (e.first + e.count ≤ line))).foldl (fun s e => s.covClose e) s

/-- A state over one line and columns, with the event of its cause and its detail; no queue, n items. -/
def State.covLine (s : State) (b : Branch) (line : Nat) (cols : Nat × Nat) (state : Nat) (cause : Ev) (detail items : Nat) : State :=
  s.covReport ⟨b, line, 1, cols.1, cols.2, state, 0xFFFF, cause.id, detail % 65536, items⟩

/-- The same over several lines. -/
def State.covLines (s : State) (b : Branch) (line n : Nat) (cols : Nat × Nat) (state : Nat) (cause : Ev) (detail items : Nat) : State :=
  if n = 0 then s else s.covReport ⟨b, line, n, cols.1, cols.2, state, 0xFFFF, cause.id, detail % 65536, items⟩

/-- A JOB entry (R253, R262, R267). -/
def State.covJob (s : State) (line job slot : Nat) (learn : Bool) (late : Nat) : State :=
  let c := s.devCols
  s.covWrite (leBytes 8 line ++ leBytes 4 1 ++ leBytes 4 c.1 ++ leBytes 4 c.2 ++ leBytes 4 (256 + 65536 * 0xFFFF) ++ leBytes 4 job ++
    leBytes 4 (slot + bitAt learn 8 + 65536 * late))

end Sys2Proof.Machine
end

