-- ==== Sys2Proof/Machine/Operands.lean ====
section
/-! DEFINITION. Command packets: the header (R447), the signed envelope (R478 to R480), the status order (R455), the commit
point (R59), group membership (R60), and the one path by which a host command is fetched, checked and run. -/

namespace Sys2Proof

open Sys2Proof.Machine

/-! ### Parameter words -/

/-- Word i of a command; a word that is not there reads 0. -/
def Cmd.w (c : Cmd) (i : Nat) : Nat := (c.words.getD i 0).toNat

/-- Field [hi:lo] of word i. -/
def Cmd.f (c : Cmd) (i hi lo : Nat) : Nat := natField (c.w i) hi lo

/-- Bit n of word i. -/
def Cmd.b (c : Cmd) (i n : Nat) : Bool := (c.w i).testBit n

/-- Two words as a 64-bit number, low word first. -/
def Cmd.w64 (c : Cmd) (i : Nat) : Nat := c.w i + 2 ^ 32 * c.w (i + 1)

/-- The inner parameter words of a packet (R478). -/
def Cmd.inner (c : Cmd) : List Word := if c.envelope then (c.words.drop 7).take (c.f 0 23 16) else c.words

/-- The words a command is judged and run by: an enveloped command's inner words (R479). -/
def Cmd.opened (c : Cmd) : Cmd := { c with words := c.inner }

/-- What a parameter word past the packet's count reads as: the spec refuses no short count and states no value, so the rest of the
    packet's slot counts, which nothing has written. DESIGN CHOICE (notes/assumptions/16.md). -/
def absentWord : Word := 0

/-- A command with the words that its definition reads and its packet lacks. -/
def Cmd.padded (c : Cmd) (need : Nat) : Cmd := { c with words := c.words ++ List.replicate (need - c.words.length) absentWord }

/-- The 16 header bytes of a packet (R447). -/
def Cmd.header (c : Cmd) (op : Nat) : List Byte :=
  leBytes 2 op ++ leBytes 1 (bitNat c.fence + bitAt c.envelope 1) ++ leBytes 1 c.words.length ++ leBytes 2 c.tag ++
  leBytes 2 (c.level + 4 * c.dev + 32 * c.tile + 512 * c.lane) ++ leBytes 1 c.commit ++ leBytes 3 0 ++ leBytes 4 c.arg

end Sys2Proof

namespace Sys2Proof.Machine

/-- A field of a set command: word, low bit, parameter; its width is the parameter's. -/
structure SetField where
  word : Nat
  lo : Nat
  par : Par
  inst : Nat
deriving DecidableEq, Repr

/-- The writes of a set command, each with its word: the fields whose words the mask names. -/
def setWrites (c : Cmd) (fields : List SetField) (written : Nat → Bool) : List (Nat × ParWrite) :=
  (fields.filter (fun x => written x.word)).map (fun x => (x.word, ⟨x.par, x.inst, c.f x.word (x.lo + x.par.row.bits - 1) x.lo⟩))

/-- A shadow view: committed parameters with every pending write over them, in order of arrival (R43, R54). -/
def State.shadow (s : State) : Sparse Nat :=
  s.seq.pends.foldl (fun m p => parSets m p.writes) s.par

/-- The shadow configuration: what open groups hold has not reached the sequencer and is no part of it (R54, R60, R61). -/
def State.shadowConfig (s : State) : Sparse Nat :=
  (s.seq.pends.filter (fun p => p.gid.isNone || p.arrival.isSome)).foldl (fun m p => parSets m p.writes) s.par

/-! ### The definition of a command -/

/-- Parameters that take effect on their write whatever point the header names (R59). -/
def ParWrite.atOnce (w : ParWrite) : Bool := w.par.row.commit == [.immediate]

/-- What a command's definition says of commit points (R447). -/
inductive Points where
  /-- It names none and writes no shadowed parameter: bytes 8 to 15 are ignored. -/
  | ignored
  /-- IMMEDIATE only. -/
  | immediate
  /-- One point, which fixes it. -/
  | fixed (p : Pt)
  /-- Several: the header chooses among them. -/
  | among (ps : List Pt)
  /-- It names none: the header's point, checked against every parameter written (R59). -/
  | header
deriving DecidableEq, Repr

/-- What a command runs with: its commit point and argument, and the parameter writes of its fields. -/
structure Ctx where
  point : Pt
  arg : Nat
  writes : List ParWrite
deriving DecidableEq, Repr

/-- Whether all that is written takes effect on its write, so that nothing follows the header's commit point (R59). -/
def Ctx.onceOnly (c : Ctx) : Bool := !c.writes.isEmpty && c.writes.all ParWrite.atOnce

/-- A command's definition: opcode, target levels accepted, commit points, words needed, parameter writes, the specific
    checks that fail, as statuses and details, and the effect once every check has passed. -/
structure CmdDef where
  op : Nat
  levels : List Nat := [0]
  points : Points := .ignored
  need : Cmd → Nat := fun _ => 0
  writes : State → Cmd → List (Nat × ParWrite) := fun _ _ => []
  fails : State → Cmd → Ctx → List (Nat × Nat) := fun _ _ _ => []
  run : State → Nat → Cmd → Ctx → State

/-- The commit point of a header code (R447). -/
def ptOf : Nat → Option Pt
  | 0 => some .immediate
  | 1 => some .tick
  | 2 => some .rept
  | 3 => some .position
  | 4 => some .idle
  | _ => none

/-! ### Fetching (R448 to R451, R457) -/

/-- Slots of a packet with n parameter words (R447). -/
def cmdSlots (n : Nat) : Nat := ceilDiv (16 + 4 * n) 64

/-- Whether the device answers commands at all (R570, R572). -/
def State.answers (s : State) : Bool :=
  match s.pwr.st with
  | .off | .keepAlive | .boot => false
  | .safe => s.pwr.safeCause != 4 && s.pwr.safeCause != 5
  | _ => true

/-- Slots the host has written to a submission ring and the device has not fetched. -/
def State.waiting (s : State) (r : Nat) : Nat := ((s.ring r).host + 65536 - (s.ring r).dev) % 65536

/-- Whether a ring has a command waiting that nothing of its own ring may hold back. -/
def State.served (s : State) (r : Nat) : Bool :=
  decide ((s.ring r).st = .running) && s.waiting r != 0 && s.host.outst.all (fun o => o.ring != r || o.final)

/-- Whether the arbiter of R449 lets a ring go first. -/
def State.turn (s : State) (r : Nat) : Bool :=
  match r with
  | 0 => true
  | 1 => !s.served 0 && (decide (s.host.bulkTurn < s.p .SYS_BULK_WEIGHT) || !s.served 2)
  | 2 => !s.served 0 && (decide (s.p .SYS_BULK_WEIGHT ≤ s.host.bulkTurn) || !s.served 1)
  | _ => true

/-- Whether a command at the head of its ring may be fetched and started. -/
def State.fetchable (s : State) (c : Cmd) : Bool :=
  s.answers && s.linkUp && s.coresUp && decide (c.ring < 4) && decide ((s.ring c.ring).st = .running) &&
  decide (cmdSlots c.words.length ≤ s.waiting c.ring) && decide (s.host.outst.length < 512) &&
  s.host.outst.all (fun o => o.ring != c.ring || o.first) &&
  (!c.fence || s.host.outst.all (fun o => o.ring != c.ring || o.final)) && s.turn c.ring

/-- The model's own number for the next fetched command: above every number still in use. -/
def State.freshCid (s : State) : Nat :=
  (s.host.outst.map Outst.cid ++ s.seq.pends.map Pend.cid).foldl (fun (n : Nat) c => max n (c + 1)) s.host.nextCid

/-- The fetch: the device index passes the slots, and the command is outstanding (R448, R457). -/
def State.fetch (s : State) (op : Nat) (c : Cmd) : State :=
  let slot := (s.ring c.ring).dev
  let s := s.updRing c.ring (fun r => { r with dev := (r.dev + cmdSlots c.words.length) % 65536 })
  let turn := if c.ring = 1 then s.host.bulkTurn + 1 else if c.ring = 2 then 0 else s.host.bulkTurn
  let o : Outst := ⟨s.freshCid, c.ring, c.tag, op, slot, c.fence, false, false, false,
    if c.envelope then c.f 0 1 0 else 0, if c.envelope then c.f 0 5 4 else 0, if c.envelope then c.w64 1 else 0, c.commit, c.arg, c.inner⟩
  { s with host := { s.host with
      bulkTurn := turn, nextCid := s.freshCid + 1, outst := s.host.outst ++ [o] } }

/-! ### Signed envelopes (R477 to R480) -/

/-- The fixed protected commands and the role they need (R480); SEC_DEBUG is protected when it unlocks. -/
def fixedRole (op : Nat) (words : List Word) : Option Nat :=
  if op = 0x0C03 ∨ op = 0x0C04 ∨ op = 0x0C05 ∨ op = 0x0C0B ∨ op = 0x0C0C ∨ op = 0x0C0E ∨ op = 0x0C10 then some 2
  else if op = 0x0C0F ∧ (words.getD 0 0).bit 0 then some 3
  else none

/-- Whether a role may use an opcode (R480). -/
def State.permits (s : State) (op role : Nat) (words : List Word) : Bool :=
  match fixedRole op words with
  | some r => role == r
  | none =>
    match s.sec.policy.find? (fun e => e.1 == op) with
    | some e => e.2.testBit role
    | none => true

/-- Whether SEC_ROLE_KEY may come without an envelope, once (R504). -/
def State.firstOfficer (s : State) (op : Nat) (words : List Word) : Bool :=
  s.sec.coInstall && op == 0x0C03 && (words.getD 0 0).field 1 0 == 2 && !(words.getD 0 0).bit 8

/-- Whether a command needs an envelope (R480). -/
def State.needsEnvelope (s : State) (op : Nat) (words : List Word) : Bool :=
  ((fixedRole op words).isSome && !s.firstOfficer op words) || s.sec.policy.any (fun e => e.1 == op)

/-- The key of a role's slot, empty where there is none (R477). -/
def State.roleKey (s : State) (role slot : Nat) : List Byte := Sparse.get s.sec.roleKeys [] (4 * role + slot)

/-- The envelope check in the order of R479: the first failure. -/
def State.envelopeFail (s : State) (op : Nat) (c : Cmd) : Option (Nat × Nat) :=
  let role := c.f 0 1 0
  let n := c.f 0 23 16
  let key := s.roleKey role (c.f 0 5 4)
  let signed := c.header op ++ wordsBytes (c.words.take (7 + n))
  if c.words.length ≠ 31 + n ∨ role = 0 then some (0x11, 0xFF)
  else if c.ring ≠ 3 then some (0x13, 0)
  else if s.sec.mode = .error then some (0x21, 1)
  else if key = [] then some (0x21, 4)
  else if wordsBytes ((c.words.drop 3).take 4) ≠ fingerprint then some (0x21, 3)
  else if c.w64 1 ≤ s.sec.envCounters.getD (role - 1) 0 then some (0x21, 2)
  else if !Config.ecdsaVerifies key (sha384 signed) (wordsBytes (c.words.drop (7 + n))) then some (0x21, 1)
  else if !s.permits op role c.inner then some (0x21, 5)
  else none

/-- An envelope refused: counted, raised, answered; it enters the audit log whatever its status (R479). -/
def State.refuseEnvelope (s : State) (op : Nat) (c : Cmd) (cid : Nat) (f : Nat × Nat) : State :=
  let s := (s.count .SEC_AUTH_FAILS).raise .SEC_AUTH_FAILED f.2
  let s := s.reply cid f.1 f.2
  if f.1 = 0x21 then s
  else s.auditAppend false op (c.f 0 1 0 + 16 * c.f 0 5 4) f.1 (c.w64 1) s.seq.lineIndex
    (leBytes 1 c.commit ++ leBytes 3 0 ++ leBytes 4 c.arg) c.inner

/-! ### The checks of R455 -/

/-- The commit points a parameter takes under R59; one that takes IMMEDIATE alone is exempt. -/
def takesPoint (p : Pt) (w : ParWrite) : Bool := w.par.row.commit == [.immediate] || w.par.row.commit.contains p

/-- The open group of a ring (R60). -/
def State.groupOn (s : State) (r : Nat) : Option Group :=
  s.seq.groups.find? (fun g => g.ring == r && g.ended.isNone)

/-- The commit point a command takes effect at: its definition's, the header's, or its group's (R59, R60, R447). -/
def State.pointOf (s : State) (d : CmdDef) (c : Cmd) : Option Pt :=
  match s.groupOn c.ring, d.points with
  | _, .ignored => some .immediate
  | some g, _ => some g.point
  | none, .immediate => some .immediate
  | none, .fixed p => some p
  | none, .among _ => ptOf c.commit
  | none, .header => ptOf c.commit

/-- Whether a definition takes a point. -/
def Points.takes : Points → Pt → Bool
  | .ignored, _ => true
  | .immediate, p => p == .immediate
  | .fixed q, p => p == q
  | .among ps, p => ps.contains p
  | .header, _ => true

/-- The failures every command shares: header fields, commit point, ranges, R56, R235. -/
def State.commonFails (s : State) (d : CmdDef) (c : Cmd) (ws : List (Nat × ParWrite)) : List (Nat × Nat) :=
  let grp := (s.groupOn c.ring).isSome
  let pt := s.pointOf d c
  let once := d.points == .header && !grp && !ws.isEmpty && ws.all (fun w => w.2.atOnce)
  (if 248 < c.words.length then [(0x11, 0xFF)] else []) ++
  (match pt with
   | none => [(0x11, 0xFF)]
   | some p =>
     (if grp && d.points == .immediate then [] else
      (if d.points.takes p && ws.all (fun w => d.points != .header || takesPoint p w.2) then [] else [(0x11, 0xFF)]) ++
      (if d.points != .ignored && !once && p == .rept && s.p .CMP_REPEAT_MODE == 0 then [(0x13, 0)] else []) ++
      (if d.points != .ignored && !once && p == .position && s.cap.run != .open_ && !grp then [(0x13, 0)] else []))) ++
  ((ws.filter (fun w => !w.2.par.row.range.ok w.2.par.row.bits w.2.val)).map (fun w => (0x11, w.1))) ++
  (if !d.levels.contains c.level || c.dev != natField s.pwr.straps 3 1 ||
      (c.level == 2 && decide (8 < c.lane)) then [(0x12, 0)] else [])

/-- The first status that applies, in the order of R454: the least code, the first of its failures. -/
def firstFail : List (Nat × Nat) → Option (Nat × Nat)
  | [] => none
  | f :: fs =>
    match firstFail fs with
    | none => some f
    | some g => if g.1 < f.1 then some g else some f

/-- Whether the audit buffer has no room for another command's entry (R493). -/
def State.auditFull (s : State) : Bool :=
  decide (960 ≤ (s.sec.auditBuf.filter (fun e => !e.device)).length +
    (s.host.outst.filter (fun o => !o.final && audited o.opcode o.words)).length - 1)

/-! ### The path of a host command -/

/-- Which commands act on a group without being members (R60). -/
def groupOp (op : Nat) : Bool := op == 0x0204 || op == 0x0205

/-- A group's member counted (R60 to R62). -/
def State.joinGroup (s : State) (g : Group) (cid : Nat) (failed immediate : Bool) : State :=
  { s with seq := { s.seq with groups := s.seq.groups.map (fun x => if x.gid = g.gid then
      { x with members := x.members ++ [cid], failed := x.failed + bitNat failed, immediate := x.immediate || immediate } else x) } }

/-- The checks and the effect of a fetched command, past its envelope. -/
def State.judge (s : State) (d : CmdDef) (cid : Nat) (c₀ : Cmd) (enveloped : Bool) : State :=
  let c := c₀.padded (d.need c₀)
  let ws := d.writes s c
  let grp := if groupOp d.op then none else s.groupOn c.ring
  let ctx : Ctx := ⟨(s.pointOf d c).getD .immediate, match grp with | some g => g.arg | none => c.arg, ws.map (·.2)⟩
  let ringFail := if d.op / 256 = 0x0C ∧ c.ring ≠ 3 then [(0x13, 0)] else []
  let auth := if !enveloped && s.needsEnvelope d.op c.words then [(0x20, 0)] else []
  let full := if audited d.op c.words && s.auditFull then [(0x14, 0)] else []
  let own := firstFail (s.commonFails d c ws ++ ringFail ++ d.fails s c ctx ++ auth)
  match firstFail (own.toList ++ full) with
  | some f =>
    let s := if own ≠ some f then (s.count .SEC_AUDIT_REFUSED).raise .SEC_AUDIT_FULL else s
    let s := match grp with | some g => s.joinGroup g cid true false | none => s
    s.reply cid f.1 f.2
  | none =>
    match grp with
    | none => d.run s cid c ctx
    | some g =>
      let s := s.joinGroup g cid false (d.points == .immediate)
      if d.points == .immediate then s.accept cid else d.run s cid c ctx

/-- A host command: nothing happens while it cannot be fetched; then fetch, envelope, checks and effect. -/
def runHost (d : CmdDef) (t : Nat) (c : Cmd) (s : State) : State :=
  let s := s.advance t
  if !s.fetchable c then s else
  let cid := s.freshCid
  let s := s.fetch d.op c
  if !c.envelope then s.judge d cid c false
  else match s.envelopeFail d.op c with
    | some f => s.refuseEnvelope d.op c cid f
    | none =>
      let s := { s with sec := { s.sec with envCounters := upd s.sec.envCounters (c.f 0 1 0 - 1) (fun _ => c.w64 1) } }
      s.judge d cid c.opened true

end Sys2Proof.Machine
end

