-- ==== Sys2Proof/Machine/SenOps.lean ====
section
/-! DEFINITION. The timing generators and the lanes: readout times and the layout of a line slot (R36 to R42, R155 to R160), gain
and settling (R166 to R168), the clamp, reversal and substitution (R171 to R175), lane checks and the spare (R176 to R181). -/

namespace Sys2Proof.Machine

/-! ### The layout of a line slot, from a parameter store -/

/-- The generator lane l follows (R17, R184). -/
def genOf (m : Sparse Nat) (l : Nat) : Nat := 2 * (l / 8) + parGet m .SEN_GEN l

/-- The enabled lanes of a store. -/
def lanesIn (m : Sparse Nat) : List Nat := (List.range 128).filter (fun l => parGet m .SEN_LANE_EN l == 1)

/-- Readout of phase p on generator g, ns (R156). -/
def genReadout (m : Sparse Nat) (g p : Nat) : Nat := parGet m .SEN_RO_CLK (6 * g + p) * parGet m .SEN_PCLK_DIV g

/-- t_RO(p), ns: the longest over the enabled generators with an enabled lane (R36, R156). -/
def readoutNs (m : Sparse Nat) (p : Nat) : Nat :=
  (lanesIn m).foldl (fun n l => let g := genOf m l; if parGet m .SEN_GEN_EN g = 1 then max n (genReadout m g p) else n) 0

/-- A phase of the packed layout, ns after the slot start: guard start, transfer, readout end, stall (R36 to R38, R42). -/
structure PhaseNs where
  guardAt : Nat
  transfer : Nat
  stop : Nat
  stall : Nat
deriving DecidableEq, Repr

/-- The packed layout of phases p to the last (R42). -/
def packedFrom (m : Sparse Nat) : Nat → Nat → Nat → Nat → List PhaseNs
  | 0, _, _, _ => []
  | n + 1, p, slot, roPrev =>
    let ro := readoutNs m p
    let room := if p = 0 then parGet m .SEQ_GUARD 0 else parGet m .SEQ_GUARD p + roPrev
    let stall := parGet m .SEQ_EXP p - room
    let dur := max 1000 (parGet m .SEQ_GUARD p + stall + ro)
    ⟨slot, slot + dur - ro, slot + dur, stall⟩ :: packedFrom m n (p + 1) (slot + dur) ro

/-- The packed layout of a store (R42). -/
def packed (m : Sparse Nat) : List PhaseNs := packedFrom m (parGet m .SEQ_NUM_PHASES 0) 0 24 0

/-- t_SLOT_MIN, ns (R42). -/
def slotMinNs (m : Sparse Nat) : Nat := (packed m).foldl (fun _ x => x.stop) 24

/-- The longest dark window of the packed slot, ns: gaps between the exposure windows, the slot's start and its end (R39). -/
def darkFrom (m : Sparse Nat) : List PhaseNs → Nat → Nat → Nat → Nat
  | [], _, lit, best => max best (slotMinNs m - lit)
  | x :: xs, p, lit, best => darkFrom m xs (p + 1) (max lit x.transfer) (max best (x.transfer - parGet m .SEQ_EXP p - lit))

/-- SEQ_DARK_MAX of a store (R39). -/
def darkMaxNs (m : Sparse Nat) : Nat := darkFrom m (packed m) 0 0 0

/-- The spread layout for an interval T_REF in ns, its delays scaled by num/den (R40, R41). -/
def spreadFrom (m : Sparse Nat) (tRef num den : Nat) : List PhaseNs → Nat → Nat → Nat → List PhaseNs
  | [], _, _, _ => []
  | x :: xs, p, free, lastX =>
    let want := max x.guardAt (p * tRef / parGet m .SEQ_NUM_PHASES 0)
    let st := if p = 0 then x.guardAt else max free (x.guardAt + (want - x.guardAt) * num / den)
    let ro := readoutNs m p
    let room := if p = 0 then parGet m .SEQ_GUARD 0 else parGet m .SEQ_GUARD p + (st - lastX)
    let stall := parGet m .SEQ_EXP p - room
    let dur := max 1000 (parGet m .SEQ_GUARD p + stall + ro)
    ⟨st, st + dur - ro, st + dur, stall⟩ :: spreadFrom m tRef num den xs (p + 1) (st + dur) (st + dur - ro)

/-- The layout of a slot, ns after its start: spread where R40 asks for it and R41 allows it, else packed. -/
def layoutNs (m : Sparse Nat) (tRef : Option Nat) (packOnly : Bool) : Bool × List PhaseNs :=
  let pk := packed m
  let sm := slotMinNs m
  match tRef with
  | none => (false, pk)
  | some t =>
    if packOnly || parGet m .SEQ_SPREAD 0 = 0 || 2 * sm < t then (false, pk) else
    let full := spreadFrom m t 1 1 pk 0 0 0
    let lastStop := full.foldl (fun _ x => x.stop) 0
    let bound := sm + 3 * (t - sm) / 4
    if lastStop ≤ bound then (true, full) else
    let d := (List.range pk.length).foldl
      (fun a p => let g := (pk.getD p ⟨0, 0, 0, 0⟩).guardAt; max g (p * t / parGet m .SEQ_NUM_PHASES 0) - g + 0 * a) 0
    if d = 0 then (true, full) else (true, spreadFrom m t (3 * (t - sm)) (4 * d) pk 0 0 0)

/-- The lanes' and the slot's derived values (R39, R42). -/
def State.recomputeSlot (s : State) : State :=
  { s with seq := { s.seq with slotMin := slotMinNs s.par, darkMax := darkMaxNs s.par } }

/-- R164 over a store: every enabled lane follows an enabled generator and fits its readouts. -/
def lanesFit (m : Sparse Nat) : Bool :=
  (lanesIn m).all (fun l =>
    let g := genOf m l
    parGet m .SEN_GEN_EN g == 1 &&
    (List.range (parGet m .SEQ_NUM_PHASES 0)).all (fun p =>
      decide (parGet m .SEN_VID_LAT g + parGet m .SEN_LEAD l + parGet m .SEN_BLACK_N l + parGet m .SEN_GAP l + parGet m .SEN_ACTIVE l
        ≤ parGet m .SEN_RO_CLK (6 * g + p))))

/-- R165 over a store: the columns of the enabled lanes are disjoint and form one range. -/
def columnsFit (m : Sparse Nat) : Bool :=
  let rs := (lanesIn m).map (fun l => (parGet m .SEN_COL_BASE l, parGet m .SEN_ACTIVE l))
  match rs with
  | [] => true
  | (b, _) :: _ =>
    let lo := rs.foldl (fun a r => min a r.1) b
    let hi := rs.foldl (fun a r => max a (r.1 + r.2)) 0
    decide (hi - lo = rs.foldl (fun a r => a + r.2) 0) &&
    (List.range rs.length).all (fun i => (List.range i).all (fun j =>
      let x := rs.getD i (0, 0)
      let y := rs.getD j (0, 0)
      decide (x.1 + x.2 ≤ y.1) || decide (y.1 + y.2 ≤ x.1)))

/-! ### Waveforms (R157 to R160) -/

/-- The 16 edge words of a program: generator, phase, signal. -/
def State.wave (s : State) (g p sig : Nat) : List Nat := Sparse.get s.sen.waves [] (24 * g + 4 * p + sig)

/-- The offset of an edge word, ns (R158). -/
def edgeOffset (w : Nat) : Int := toSigned 22 w

/-- The edges of one program in a slot: instants W, X and E in the unit of instants, and the earliest instant allowed (R157, R160). -/
def progEdges (g sig : Nat) (words : List Nat) (w x e floor : Int) : List (GenEdge × Bool) :=
  (words.filter (fun wd => wd.testBit 25)).map (fun wd =>
    let anchor := match natField wd 23 22 with
      | 0 => w
      | 1 => x
      | _ => e
    let at_ : Int := anchor + 768 * edgeOffset wd
    (⟨(max at_ floor).toNat, g, sig, wd.testBit 24⟩, decide (at_ < floor)))

/-- The edges of a phase on every enabled generator; SCLK programs act only while SEN_SCLK_FREE_g is 0 (R158). -/
def State.phaseEdges (s : State) (p : Nat) (x : Nat) (floor : Nat) : List (GenEdge × Bool) :=
  ((List.range 32).filter (fun g => s.p .SEN_GEN_EN g == 1)).flatMap (fun g =>
    let w : Int := (x : Int) - ns (s.p .SEQ_EXP p)
    let e : Int := (x : Int) + ns (genReadout s.par g p)
    (List.range 4).flatMap (fun sig =>
      if sig = 3 ∧ s.p .SEN_SCLK_FREE g = 1 then [] else progEdges g sig (s.wave g p sig) w x e floor))

/-- Signal levels after every edge up to an instant has run; the later edge in the list holds where two fall together (R159). -/
def settleLevels (levels : List (List Bool)) (edges : List GenEdge) (t : Nat) : List (List Bool) :=
  ((edges.filter (fun e => decide (e.at_ ≤ t))).mergeSort (fun a b => decide (a.at_ ≤ b.at_))).foldl
    (fun ls e => upd ls e.gen (fun l => upd l e.sig (fun _ => e.level))) levels

/-- The programs of a slot set running: edges already past take effect, moved edges are counted, and SEN_EDGE_CLAMPED is
    raised once per commit (R159, R160). -/
def State.runWaves (s : State) (xs : List (Nat × Nat)) (floor : Nat) : State :=
  let es := xs.flatMap (fun px => s.phaseEdges px.1 px.2 floor)
  let moved := (es.filter (fun e => e.2)).length
  let s := { s with sen := { s.sen with
      levels := settleLevels s.sen.levels s.sen.edges s.now,
      edges := s.sen.edges.filter (fun e => decide (s.now < e.at_)) ++ es.map (·.1) } }
  if moved = 0 then s else
  let s := s.count .SEN_EDGES_CLAMPED 0 moved
  if s.sen.clampRaised then s else
  let s := s.raise .SEN_EDGE_CLAMPED
  { s with sen := { s.sen with clampRaised := true } }

/-- The level of a generator signal at an instant of the running slot: 0 SSP, 1 STG, 2 SAUX, 3 SCLK outside readouts. -/
def State.signalLevel (s : State) (g sig t : Nat) : Bool :=
  ((settleLevels s.sen.levels s.sen.edges t).getD g []).getD sig false

/-! ### Lanes -/

/-- Converter i, 9t + l. -/
def State.lane (s : State) (i : Nat) : Lane := s.sen.lanes.getD i Lane.reset

/-- Converter i changed. -/
def State.updLane (s : State) (i : Nat) (f : Lane → Lane) : State :=
  { s with sen := { s.sen with lanes := upd s.sen.lanes i f } }

/-- The spare of tile t. -/
def State.spare (s : State) (t : Nat) : Spare := s.sen.spares.getD t ⟨none, none, []⟩

/-- The spare of tile t changed. -/
def State.updSpare (s : State) (t : Nat) (f : Spare → Spare) : State :=
  { s with sen := { s.sen with spares := upd s.sen.spares t f } }

/-- The converter number of a lane place 8t + l. -/
def convOf (l : Nat) : Nat := 9 * (l / 8) + l % 8

/-- The converter that serves a lane place: the spare, once it has taken over, or the lane's own (R16). -/
def State.serving (s : State) (l : Nat) : Nat :=
  if (s.spare (l / 8)).serves = some (l % 8) ∧ (s.spare (l / 8)).claimed ≠ some (l % 8) then 9 * (l / 8) + 8 else convOf l

/-- The number of SEN_LANE_STATE (R184). -/
def LaneSt.code : LaneSt → Nat
  | .off => 0
  | .inService => 1
  | .replaced => 2
  | .blind => 3
  | .spareReady => 4
  | .spareInUse => 5
  | .spareFailed => 6

/-- The settling time after a gain change, ns (R167). -/
def settleNs (old new : Nat) : Nat :=
  let d := (old % 4 - new % 4) + (new % 4 - old % 4)
  if old = new then 0 else if d = 0 then 40 else if d = 1 then 180 else if d = 2 then 260 else 340

/-- Gains applied at the guard of phase p (R166, R167): every enabled lane, and the spare in the place it serves. -/
def State.applyGains (s : State) (p : Nat) : State :=
  s.lanesOn.foldl (fun s l =>
    let g := s.p .SEN_GAIN (6 * l + p)
    let s := s.updLane (s.serving l) (fun x => { x with gain := g, settle := settleNs x.gain g })
    if (s.spare (l / 8)).claimed = some (l % 8) then s.updLane (convOf l) (fun x => { x with gain := g, settle := settleNs x.gain g }) else s) s

/-- The two levels of the test in a guard (R176). -/
def testLevels (p : Nat) : Nat × Nat := if p % 2 = 0 then (0x0AAA, 0x3555) else (0x1333, 0x2CCC)

/-- The four levels in conversion order. -/
def exactCodes (p : Nat) : List Nat := [(testLevels p).1, (testLevels p).2, (testLevels p).1, (testLevels p).2]

/-- The check a converter fails in the test, 0 for none (R177). -/
def testKind (tol p : Nat) (codes : List Nat) : Nat :=
  let c := fun i => codes.getD i 0
  if (List.zip codes (exactCodes p)).any (fun x => decide (tol < (x.1 - x.2) + (x.2 - x.1))) then 1
  else if (c 0 ^^^ c 1) % 16384 ≠ 16383 ∨ (c 2 ^^^ c 3) % 16384 ≠ 16383 then 2
  else 0

/-- The event detail of a lane (R186). -/
def laneDetail (t l kind : Nat) : Nat := t + 16 * l + 256 * kind

/-- A lane made BLIND from a sub-line on (R180). -/
def State.blindLane (s : State) (t l line p : Nat) : State :=
  let s := s.updLane (9 * t + l) (fun x => { x with st := .blind, blinds := x.blinds ++ [(line, p, none)] })
  (s.count .SEN_BLIND_EVENTS).raise .SEN_BLIND (laneDetail t l 0)

/-- A failed check counted and reported (R177, R185, R186). -/
def State.checkFailed (s : State) (t l kind : Nat) : State :=
  let s := s.updLane (9 * t + l) (fun x => { x with lastKind := kind })
  (s.count .SEN_TEST_FAILS).raise .SEN_LANE_FAILED (laneDetail t l kind)

/-- The spare of a tile fails (R181): the lane it serves or is claimed for becomes BLIND. -/
def State.failSpare (s : State) (t kind line p : Nat) : State :=
  let s := s.checkFailed t 8 kind
  let sp := s.spare t
  let s := s.updLane (9 * t + 8) (fun x => { x with st := .spareFailed })
  let s := s.raise .SEN_SPARE_FAILED (laneDetail t 8 0)
  let s := s.updSpare t (fun x => { x with serves := none, claimed := none })
  match sp.serves with
  | none => s
  | some l =>
    let own := (s.lane (9 * t + l)).lostLine
    match sp.claimed, own with
    | some _, some (k, q) => s.blindLane t l k q
    | _, _ => s.blindLane t l line p

/-- A lane in service fails from phase p of a line on (R178, R180): the spare is claimed, or the lane becomes BLIND. In a flush
    read no sub-line is lost. -/
def State.failLane (s : State) (t l kind line p : Nat) (flush : Bool) : State :=
  let s := s.checkFailed t l kind
  let sp := s.lane (9 * t + 8)
  if sp.st = .spareReady then
    let s := s.updLane (9 * t + l) (fun x => { x with
                                                      st := .replaced, forced := false,
                                                      lostLine := if flush then none else some (line, p) })
    let s := s.updLane (9 * t + 8) (fun x => { x with st := .spareInUse })
    s.updSpare t (fun x => { x with serves := some l, claimed := some l, seeds := [none, none, none, none, none, none] })
  else if (s.spare t).serves = some l ∧ (s.spare t).claimed = none then s.updLane (9 * t + l) (fun x => { x with st := .replaced, forced := false })
  else s.blindLane t l line p

/-- The converters of a tile that run the test: enabled lanes in service, and the spare unless it has failed or is off (R176). -/
def State.tested (s : State) (t : Nat) : List Nat :=
  (List.range 9).filter (fun l =>
    let x := s.lane (9 * t + l)
    if l = 8 then x.st == .spareReady || x.st == .spareInUse else x.st == .inService)

/-- Failures of one tile, spare first, then lanes in rising number (R180, R181). -/
def State.failTile (s : State) (t line p : Nat) (flush : Bool) (kinds : List (Nat × Nat)) : State :=
  let s := match kinds.find? (fun k => k.1 == 8) with
    | some k => s.failSpare t k.2 line p
    | none => s
  (kinds.filter (fun k => k.1 != 8)).foldl (fun s k => s.failLane t k.1 k.2 line p flush) s

/-- The lane tests of a guard (R176 to R181). -/
def State.laneTests (s : State) (p line : Nat) (flush : Bool) (tests : List LaneTest) : State :=
  (List.range 16).foldl (fun s t =>
    let kinds := (s.tested t).map (fun l =>
      let codes := match tests.find? (fun x => x.tile == t && x.lane == l) with
        | some x => x.codes
        | none => exactCodes p
      (l, testKind (s.p .SEN_TEST_TOL) p codes, codes))
    let s := kinds.foldl (fun s k => s.updLane (9 * t + k.1) (fun x => { x with codes := k.2.2 })) s
    s.failTile t line p flush ((kinds.filter (fun k => k.2.1 != 0)).map (fun k => (k.1, k.2.1)))) s

/-- The spares claimed before this tick take over their lanes' places (R178). -/
def State.spareTakeover (s : State) : State :=
  (List.range 16).foldl (fun s t =>
    match (s.spare t).claimed with
    | none => s
    | some l =>
      let own := s.lane (9 * t + l)
      let seeds := (s.spare t).seeds
      let s := s.updLane (9 * t + 8) (fun x => { x with gain := own.gain, clamp := seeds.map (fun b => b.map (fun v => 256 * (v : Int))) })
      let s := s.updSpare t (fun x => { x with claimed := none })
      (s.count .SEN_SPARE_SWITCHES).raise .SEN_SPARE_IN (laneDetail t l 0)) s

/-! ### The lane pipeline (R162 to R175) -/

/-- The instant of pixel k's signal sample after the transfer, in the unit of instants (R162). -/
def sampleAfter (m : Sparse Nat) (g k : Nat) : Nat :=
  ns ((k + parGet m .SEN_VID_LAT g) * parGet m .SEN_PCLK_DIV g) + parGet m .SEN_CDS_SIG g * parGet m .SEN_PCLK_DIV g * 48

/-- The black level of a sub-line and whether a black sample falls inside the settling time (R171 to R173); none in mode OFF. -/
def State.blackOf (s : State) (l : Nat) (v : LaneVideo) (guardAt transfer settle : Nat) : Option (Nat × Bool) :=
  let g := genOf s.par l
  let until_ := guardAt + ns settle
  match s.p .SEN_CLAMP_MODE l with
  | 1 =>
    let n := s.p .SEN_BLACK_N l
    let lead := s.p .SEN_LEAD l
    let sum : Nat := ((v.codes.drop lead).take n).foldl (· + ·) 0
    some ((roundHalfUp sum (max n 1)).toNat, decide (transfer + sampleAfter s.par g lead < until_))
  | 2 =>
    let sum : Nat := (v.blank.take 8).foldl (· + ·) 0
    some ((roundHalfUp sum 8).toNat, decide (transfer < until_ + ns 64))
  | _ => none

/-- The clamp state after a sub-line (R172). -/
def clampStep (m : Option Int) (b n : Nat) : Int :=
  match m with
  | none => 256 * b
  | some x => if n = 0 then 256 * b else x + (256 * (b : Int) - x + 2 ^ (n - 1)) / 2 ^ n

/-- A clamped code (R172). -/
def clampCode (code : Nat) (m : Int) (pedestal : Nat) : Nat := (clampInt 0 16383 ((code : Int) - (m + 128) / 256 + pedestal)).toNat

/-- The nearest unlisted index from one down (left) or up (right). -/
def unlistedLeft (listed : List Nat) : Nat → Option Nat
  | 0 => if listed.contains 0 then none else some 0
  | n + 1 => if listed.contains (n + 1) then unlistedLeft listed n else some (n + 1)

/-- The nearest unlisted index at or above one, within n more. -/
def unlistedRight (listed : List Nat) : Nat → Nat → Option Nat
  | 0, _ => none
  | n + 1, i => if listed.contains i then unlistedRight listed n (i + 1) else some i

/-- A substituted pixel (R175). -/
def substPixel (codes : List Nat) (listed : List Nat) (entry : Nat) : Nat :=
  let i := entry % 1024
  let left := unlistedLeft listed i
  let right := unlistedRight listed (codes.length - i) i
  let c := fun j => codes.getD j 0
  match natField entry 11 10, left, right with
  | _, none, none => 0
  | _, some a, none => c a
  | _, none, some b => c b
  | 0, some a, some b => (c a + c b + 1) / 2
  | 1, some a, some _ => c a
  | _, some _, some b => c b

/-- The substitution list applied: codes and which pixels were replaced (R175). -/
def substitute (codes : List Nat) (entries : List Nat) : List (Nat × Bool) :=
  let es := entries.filter (fun e => decide (e % 1024 < codes.length))
  let listed := es.map (fun e => e % 1024)
  codes.zipIdx.map (fun x =>
    match es.find? (fun e => e % 1024 == x.2) with
    | some e => (substPixel codes listed e, true)
    | none => (x.1, false))

/-- What a lane put out for a sub-line: the words of R170, the settling pixels, the black level. -/
structure LaneOut where
  words : List Nat
  settling : Nat
  black : Option Nat
deriving DecidableEq, Repr

/-- The lane's pipeline for lane place l from the converter's video (R163 to R175); the clamp of phase p moves with it. -/
def State.lanePixels (s : State) (l p : Nat) (v : LaneVideo) (guardAt transfer : Nat) : LaneOut × State :=
  let c := s.serving l
  let x := s.lane c
  let g := genOf s.par l
  let skip := s.p .SEN_LEAD l + s.p .SEN_BLACK_N l + s.p .SEN_GAP l
  let n := s.p .SEN_ACTIVE l
  let active := (v.codes.drop skip).take n
  let until_ := guardAt + ns x.settle
  let marks := (List.range n).map (fun j => decide (transfer + sampleAfter s.par g (skip + j) < until_))
  let settling := (marks.filter id).length
  let b := s.blackOf l v guardAt transfer x.settle
  let held := x.clamp.getD p none
  let nom := s.p .SEN_BLACK_NOM l
  let range := match b with
    | some (bv, _) => decide (s.p .SEN_BLACK_TOL l < (bv - nom) + (nom - bv))
    | none => false
  let next : Option Int := match b with
    | none => held
    | some (bv, inside) => if inside || range then held else some (clampStep held bv (s.p .SEN_CLAMP_SHIFT l))
  let used : Int := next.getD (256 * nom)
  let s := s.updLane c (fun y => { y with clamp := upd y.clamp p (fun _ => next), black := match b with | some (bv, _) => bv | none => y.black })
  let s := match b with
    | some (_, true) => s.count .SEN_CLAMP_SKIPPED
    | some (_, false) => if range then (s.count .SEN_CLAMP_RANGE).raise .SEN_CLAMP_RANGE_EVT (laneDetail (l / 8) (l % 8) 0) else s
    | none => s
  let s := if settling = 0 then s else s.count .SEN_SETTLING_PIXELS 0 settling
  let clamped := active.map (fun code => if b.isNone then code else clampCode code used (s.p .SEN_PEDESTAL l))
  let rev := s.p .SEN_REV l = 1
  let codes := if rev then clamped.reverse else clamped
  let marks := if rev then marks.reverse else marks
  let sub := substitute codes (Sparse.get s.sen.substs [] l)
  let words := (List.zip sub marks).map (fun y => y.1.1 % 16384 + bitAt y.2 14 + bitAt y.1.2 15)
  (⟨words, settling, b.map (·.1)⟩, s)

/-- Clamps made unseeded: all phases of a converter. -/
def State.unseed (s : State) (c : Nat) : State := s.updLane c (fun x => { x with clamp := [none, none, none, none, none, none] })

/-- Every clamp of every converter unseeded (R172, at HOLD exit). -/
def State.unseedAll (s : State) : State := { s with sen := { s.sen with lanes := s.sen.lanes.map (fun x => { x with clamp := [none, none, none, none, none, none] }) } }

/-- The parameters of a lane whose change moves its black level (R172). -/
def blackPars : List Par := [.SEN_CLAMP_MODE, .SEN_LEAD, .SEN_BLACK_N, .SEN_GAP, .SEN_GEN]

/-- What a commit does to the lanes besides the parameters (R172, R178, R184): lanes enabled or disabled, clamps unseeded, the
    once-per-commit reports rearmed. old is the store before. -/
def State.lanesCommitted (s : State) (old : Sparse Nat) (ws : List ParWrite) : State :=
  let changed := fun (p : Par) (i : Nat) => parGet old p i != s.p p i
  let s := (List.range 128).foldl (fun (s : State) (l : Nat) =>
    let c := convOf l
    let g := genOf s.par l
    let s := if changed .SEN_LANE_EN l then
        if s.p .SEN_LANE_EN l = 1 then (s.unseed c).updLane c (fun x => { x with st := .inService, forced := false })
        else
          let s := s.updLane c (fun x => { x with
            st := .off, forced := false, lostLine := none,
            blinds := x.blinds.map (fun b => (b.1, b.2.1, some (b.2.2.getD s.seq.lineIndex))) })
          if (s.spare (l / 8)).serves = some (l % 8) then
            (s.updSpare (l / 8) (fun x => { x with serves := none, claimed := none })).updLane (9 * (l / 8) + 8) (fun x =>
              { x with st := if x.st = .spareInUse then .spareReady else x.st })
          else s
      else s
    let own := s.serving l
    let s := if blackPars.any (fun p => changed p l) || [Par.SEN_CDS_MODE, .SEN_CDS_RST, .SEN_CDS_SIG].any (fun p => changed p g) then s.unseed own else s
    (List.range 6).foldl (fun (s : State) (p : Nat) => if changed .SEN_GAIN (6 * l + p) then s.updLane own (fun x => { x with clamp := upd x.clamp p (fun _ => none) }) else s) s) s
  let s := (List.range 16).foldl (fun (s : State) (t : Nat) =>
    s.updLane (9 * t + 8) (fun x => { x with st := if x.st = .off ∧ s.tileOn t then .spareReady else if !s.tileOn t ∧ x.st = .spareReady then .off else x.st })) s
  if ws.isEmpty then s else { s with sen := { s.sen with settleRaised := false, clampRaised := false } }

/-- Power-up of a tile: converters as after power-up (R167, R568). -/
def State.lanesPowered (s : State) (t : Nat) : State :=
  (List.range 9).foldl (fun s l => s.updLane (9 * t + l) (fun x => { x with gain := 0, settle := 0, clamp := [none, none, none, none, none, none] })) s

end Sys2Proof.Machine
end

