-- ==== Sys2Proof/Machine/CorOps.lean ====
section
/-! DEFINITION. Shading sets (R199 to R204), halves, loads and swaps (R205 to R209), the temperature term (R194 to R198), the
correction of a sub-line (R187 to R193), library and flash (R210 to R213). -/

namespace Sys2Proof.Machine

/-! ### Reading a set -/

/-- A set's bytes come from DRAM or flash at a base. -/
abbrev SetMem := Sparse Byte × Nat

/-- A little-endian field of a set. -/
def setLe (m : SetMem) (off n : Nat) : Nat := Sparse.le m.1 (m.2 + off) n

/-- Whether a header is good (R204). -/
def headerOk (m : SetMem) : Bool :=
  setLe m 0 4 == 0x53484431 && setLe m 4 2 == 1 && decide (1 ≤ setLe m 6 1) && decide (setLe m 6 1 ≤ 6) &&
  setLe m 124 4 == crc32 (Sparse.bytes m.1 m.2 124)

/-- Length of a record of a pixel and a phase count (R200). -/
def recordLen (npx nph : Nat) : Nat :=
  let body := 16 + 6 * npx * nph + 8 * (ceilDiv npx 32) * nph
  4 * ceilDiv body 4 + 4

/-- A record as found: its lane by the mask, its offset and stated length, and whether it is good. -/
structure FoundRec where
  lane : Nat
  off : Nat
  len : Nat
  good : Bool
deriving DecidableEq, Repr

/-- The records of a set for the lanes of its mask, located one after another (R204); lost: their places are unknown. -/
def findRecords (m : SetMem) (nph total : Nat) : List Nat → Nat → Bool → List FoundRec
  | [], _, _ => []
  | l :: ls, off, lost =>
    if lost then ⟨l, off, 0, false⟩ :: findRecords m nph total ls off true else
    let npx := setLe m (off + 2) 2
    let len := setLe m (off + 4) 4
    let badLen := len != recordLen npx nph || decide (1024 < npx) || decide (total < off + len)
    let good := !badLen && setLe m off 1 == l && setLe m (off + 1) 1 == nph &&
      setLe m (off + len - 4) 4 == crc32 (Sparse.bytes m.1 (m.2 + off) (len - 4))
    ⟨l, off, len, good⟩ :: findRecords m nph total ls (off + len) (len != recordLen npx nph || decide (total < off + len))

/-- All records of a set with a good header. -/
def setRecords (m : SetMem) : List FoundRec :=
  findRecords m (setLe m 6 1) (setLe m 8 4) (maskList 128 (setLe m 16 16)) 128 false

/-- A good record, read. -/
def readRecord (m : SetMem) (r : FoundRec) : ShadeRec :=
  let nph := setLe m (r.off + 1) 1
  let npx := setLe m (r.off + 2) 2
  let segs := ceilDiv npx 32
  ⟨r.lane, nph, npx, (List.range (npx * nph)).map (fun i => setLe m (r.off + 16 + 6 * i) 6),
   (List.range (segs * nph)).map (fun i => setLe m (r.off + 16 + 6 * npx * nph + 8 * i) 8)⟩

/-- The temperatures of a header: for each phase T_ref, T_lo, T_hi, T_a (R199). -/
def headerTemps (m : SetMem) : List Int := (List.range 24).map (fun i => toSigned 16 (setLe m (64 + 2 * i) 2))

/-- The bytes of a record (R200). -/
def recordBytes (r : ShadeRec) (colBase : Nat) : List Byte :=
  let body := leBytes 1 r.lane ++ leBytes 1 r.phases ++ leBytes 2 r.pixels ++ leBytes 4 (recordLen r.pixels r.phases) ++
    leBytes 4 colBase ++ leBytes 4 0 ++ r.px.flatMap (leBytes 6) ++ r.segs.flatMap (leBytes 8)
  let padded := body ++ List.replicate (recordLen r.pixels r.phases - 4 - body.length) 0
  padded ++ leBytes 4 (crc32 padded)

/-- The bytes of a header (R199). -/
def headerBytes (nph total id mask : Nat) (times : List Nat) (temps : List Int) : List Byte :=
  let h := leBytes 4 0x53484431 ++ leBytes 2 1 ++ leBytes 1 nph ++ leBytes 1 0 ++ leBytes 4 total ++ leBytes 4 id ++
    leBytes 16 mask ++ (List.range 3).flatMap (fun i => leBytes 8 (times.getD i 0)) ++ leBytes 8 0 ++
    (List.range 24).flatMap (fun i => leBytes 2 (ofSigned 16 (temps.getD i 0))) ++ leBytes 12 0
  h ++ leBytes 4 (crc32 h)

/-- A library slot (R210). -/
def State.librarySlot (s : State) (slot : Nat) : SetMem := (s.dram, s.arenaByte 1 + slot * 5242880)

/-- The address of a flash slot (R211). -/
def flashSlotAddr (f : Nat) : Nat := 0x2020000 + f * 0x500000

/-! ### Halves -/

/-- The halves of tile t. -/
def State.tileCor (s : State) (t : Nat) : TileCor := s.cor.tiles.getD t ⟨Half.empty, Half.empty⟩

/-- The halves of tile t changed. -/
def State.updTile (s : State) (t : Nat) (f : TileCor → TileCor) : State :=
  { s with cor := { s.cor with tiles := upd s.cor.tiles t f } }

/-- The record of lane place l (0 to 7) in a half that fits the lane's active pixels (R207). -/
def Half.fit (h : Half) (l active : Nat) : Option ShadeRec :=
  if !h.loaded then none else
  match h.recs.getD l none with
  | some r => if r.pixels = active then some r else none
  | none => none

/-- Enabled lanes of a half's tile that would use default entries in some phase (R204, R207). -/
def State.defaultLanes (s : State) (t : Nat) (h : Half) : List Nat :=
  (s.lanesOn.filter (fun l => l / 8 == t)).filter (fun l =>
    match h.fit (l % 8) (s.p .SEN_ACTIVE l) with
    | none => true
    | some _ => decide (h.phases < s.p .SEQ_NUM_PHASES))

/-- A set's records copied into a tile's pending half (R203, R204, R196); the half's factors stand for the last valid readings. -/
def State.loadHalf (s : State) (m : SetMem) (t : Nat) : State :=
  let rs := setRecords m
  let recs := (List.range 8).map (fun l =>
    match rs.find? (fun r => r.lane == 8 * t + l && r.good && s.hlt.clocks.getD 4 true) with
    | some r => some (readRecord m r)
    | none => none)
  s.updTile t (fun x => { x with
    pend := ⟨true, setLe m 12 4, setLe m 6 1, headerTemps m, recs, false, s.cor.lastT⟩ })

/-- Bad records of the named tiles, counted and reported (R204). -/
def State.badRecords (s : State) (rs : List FoundRec) : State :=
  rs.foldl (fun s r => (s.count .COR_LOAD_CRC_ERRORS).raise .COR_LOAD_CRC r.lane) s

/-- The swap of a tile (R205): the next default line is reported again (R207). -/
def State.swapTile (s : State) (t : Nat) : State :=
  let s := s.updTile t (fun x => ⟨x.pend, x.act⟩)
  { s with cor := { s.cor with defRaised := false } }

/-- Lanes whose SEN_ACTIVE an IDLE commit changed lose their records in both halves (R208). -/
def State.activeChanged (s : State) (l : Nat) : State :=
  s.updTile (l / 8) (fun x =>
    let f := fun (h : Half) => { h with recs := upd h.recs (l % 8) (fun _ => none) }
    ⟨f x.act, f x.pend⟩)

/-! ### The temperature term (R194 to R198) -/

/-- The temperatures of phase p in a half: T_ref, T_lo, T_hi, T_a. -/
def Half.temp (h : Half) (p i : Nat) : Int := h.temps.getD (4 * p + i) 0

/-- k(T) in 2^-14 from a segment entry and the phase's temperatures (R194). -/
def segFactor (entry : Nat) (tref tlo thi t : Int) : Nat :=
  let d := clampInt tlo thi t - tref
  let c0 : Int := (natField entry 15 0 : Nat)
  let c := fun i => toSigned 16 (natField entry (16 * i + 15) (16 * i))
  (clampInt 0 65535 (roundHalfUp (c0 * 2 ^ 30 + c 1 * d * 2 ^ 20 + c 2 * d * d * 2 ^ 10 + c 3 * d * d * d) (2 ^ 30))).toNat

/-- Whether phase p has a temperature source (R195). -/
def State.hasSource (s : State) (p : Nat) : Bool :=
  let b := s.p .COR_TEMP_BAR p
  b != 7 && s.p .LMP_TEMP_CH b != 127

/-- The temperature for which a half's factors of phase p stand (R195, R197). -/
def State.halfTemp (s : State) (h : Half) (p : Nat) : Int :=
  if s.hasSource p then (h.evalT.getD p none).getD (h.temp p 3) else h.temp p 3

/-- The factor of a segment in a half. -/
def State.factorOf (s : State) (h : Half) (r : ShadeRec) (p seg : Nat) : Nat :=
  segFactor (r.segs.getD (p * ceilDiv r.pixels 32 + seg) 0) (h.temp p 0) (h.temp p 1) (h.temp p 2) (s.halfTemp h p)

/-- A new valid reading of bar b, 1/16 °C: its phases' factors are evaluated within 2 µs (R196). -/
def State.newReading (s : State) (b : Nat) (temp : Int) : State :=
  let mine := fun p => s.p .COR_TEMP_BAR p == b && s.hasSource p
  { s with cor := { s.cor with
      lastT := s.cor.lastT.zipIdx.map (fun x => if mine x.2 then some temp else x.1),
      srcValid := s.cor.srcValid.zipIdx.map (fun x => if mine x.2 then true else x.1),
      evals := s.cor.evals.zipIdx.map (fun x => if mine x.2 then some ⟨temp, s.now + us 2, false⟩ else x.1) } }

/-- A bar's reading becomes invalid: its phases hold their factors and COR_TEMP_HOLD is raised (R197). -/
def State.lostReading (s : State) (b : Nat) : State :=
  let hit := (List.range 6).any (fun p => s.p .COR_TEMP_BAR p == b && s.hasSource p && s.cor.srcValid.getD p false)
  let s' := { s with cor := { s.cor with
      srcValid := s.cor.srcValid.zipIdx.map (fun x => if s.p .COR_TEMP_BAR x.2 == b then false else x.1) } }
  if hit then s'.raise .COR_TEMP_HOLD else s'

/-- The phases whose source changed by a commit start afresh (R196, R197). -/
def State.sourceChanged (s : State) (p : Nat) : State :=
  let clr := fun (h : Half) => { h with evalT := upd h.evalT p (fun _ => none) }
  { s with cor := { s.cor with
      lastT := upd s.cor.lastT p (fun _ => none), srcValid := upd s.cor.srcValid p (fun _ => false),
      evals := upd s.cor.evals p (fun _ => none),
      tiles := s.cor.tiles.map (fun x => ⟨clr x.act, clr x.pend⟩) } }

/-- Whether tile t clamps phase p in its active set (R198). -/
def State.clamps (s : State) (t p : Nat) : Bool :=
  let h := (s.tileCor t).act
  h.loaded && decide (p < h.phases) && s.hasSource p &&
  (match h.evalT.getD p none with
   | some x => decide (x < h.temp p 1) || decide (h.temp p 2 < x)
   | none => false)

/-- The clamp conditions judged again; a phase that enters one raises COR_TEMP_CLAMPED (R198). -/
def State.judgeClamps (s : State) : State :=
  (List.range 96).foldl (fun (s : State) i =>
    let t := i / 6
    let p := i % 6
    let on := s.clamps t p && decide (p < s.p .SEQ_NUM_PHASES)
    let was := s.cor.clampOn.getD i false
    let s := { s with cor := { s.cor with clampOn := upd s.cor.clampOn i (fun _ => on) } }
    if on && !was then s.raise .COR_TEMP_CLAMPED (p + 16 * t) else s) s

/-- At a tick: factors whose evaluation is complete apply in every half (R196), and the clamps are judged. -/
def State.applyFactors (s : State) : State :=
  let go := fun (h : Half) => { h with evalT := h.evalT.zipIdx.map (fun (x : Option Int × Nat) =>
    match s.cor.evals.getD x.2 none with
    | some e => if e.ready then some e.temp else x.1
    | none => x.1) }
  let s := { s with cor := { s.cor with
      tiles := s.cor.tiles.map (fun (x : TileCor) => ⟨go x.act, go x.pend⟩),
      evals := s.cor.evals.map (fun (e : Option TempEval) => match e with | some x => if x.ready then none else e | none => none) } }
  s.judgeClamps

/-- Counts of a captured line for held and clamped temperatures (R197, R198). -/
def State.countTemps (s : State) : State :=
  let held := (List.range (s.p .SEQ_NUM_PHASES)).any (fun p => s.hasSource p && !s.cor.srcValid.getD p false)
  let s := if held then s.count .COR_TEMP_HOLD_LINES else s
  if s.cor.clampOn.any id then s.count .COR_TEMP_CLAMPED_LINES else s

/-! ### Correction (R187 to R193) -/

/-- The arithmetic of R192: code, and whether it was clamped low or high. -/
def correctPixel (x entry k : Nat) : Nat × Bool × Bool :=
  let o : Int := (natField entry 15 0 : Nat)
  let g : Int := (natField entry 31 16 : Nat)
  let a2 := toSigned 8 (natField entry 39 32)
  let a3 := toSigned 8 (natField entry 47 40)
  let d : Int := 4 * x - o
  let y0 : Int := (d * g + 256) / 512
  let q : Int := clampInt 0 65535 (y0 / 16)
  let p : Int := a2 * q + a3 * q * q / 65536
  let y1 : Int := y0 + (y0 * p + 2 ^ 25) / 2 ^ 26
  let y2 : Int := (y1 * (k : Int) + 2 ^ 13) / 2 ^ 14
  let r : Int := (y2 + 8) / 16
  ((clampInt 0 65535 r).toNat, decide (r < 0), decide (65535 < r))

/-- The default pixel entry of a lane (R207): O = 4 × pedestal, G = 1.0. -/
def defaultEntry (pedestal : Nat) : Nat := 4 * pedestal % 65536 + 65536 * 0x0800

/-- A corrected sub-line of a lane: codes, flags (0 SETTLING, 1 SUBSTITUTED, 2 SATURATED), pixels clamped low and high, and
    whether default entries were used. -/
structure Corrected where
  codes : List Nat
  flags : List Nat
  low : Nat
  high : Nat
  dflt : Bool
deriving DecidableEq, Repr

/-- The lane words of R170 through the pipeline (R187 to R192) with the active half of the lane's tile. -/
def State.correct (s : State) (l p : Nat) (words : List Nat) : Corrected :=
  let side := fun w => bitNat (natBit w 14) + bitAt (natBit w 15) 1
  if s.p .COR_MODE (l / 8) = 1 then
    ⟨words.map (fun w => 4 * (w % 16384)), words.map side, 0, 0, false⟩
  else
    let h := (s.tileCor (l / 8)).act
    let rec_ := match h.fit (l % 8) (s.p .SEN_ACTIVE l) with
      | some r => if p < h.phases then some r else none
      | none => none
    let out := words.zipIdx.map (fun x =>
      match rec_ with
      | some r => correctPixel (x.1 % 16384) (r.px.getD (p * r.pixels + x.2) 0) (s.factorOf h r p (x.2 / 32))
      | none => correctPixel (x.1 % 16384) (defaultEntry (s.p .SEN_PEDESTAL l)) 16384)
    ⟨out.map (·.1), (List.zip words out).map (fun x => side x.1 + bitAt (x.2.2.1 || x.2.2.2) 2),
     (out.filter (fun o => o.2.1)).length, (out.filter (fun o => o.2.2)).length, rec_.isNone⟩

/-- Counts of saturation (R193). -/
def State.countSat (s : State) (c : Corrected) : State :=
  let s := if c.low = 0 then s else s.count .COR_SAT_LOW 0 c.low
  if c.high = 0 then s else (s.count .COR_SAT_HIGH 0 c.high).raise .COR_SATURATED

/-- Default entries used for a lane in a captured line (R207): the columns marked, the line counted, the event once per swap or
    commit. -/
def State.countDefault (s : State) (l line : Nat) : State :=
  let s := if s.cor.defLine = some line then s else
    let s := s.count .COR_DEFAULT_LINES
    { s with cor := { s.cor with defLine := some line, defLanes := [] } }
  let s := if l ∈ s.cor.defLanes then s else
    let s := s.covLine .capture line (s.laneCols l) 1 .COR_DEFAULT_IN_USE (l / 8) 0
    { s with cor := { s.cor with defLanes := s.cor.defLanes ++ [l] } }
  if s.cor.defRaised then s else
    let s := s.raise .COR_DEFAULT_IN_USE (l / 8)
    { s with cor := { s.cor with defRaised := true } }

/-! ### The flash directory (R212) -/

/-- The address of directory copy i. -/
def dirAddr (i : Nat) : Nat := 0x2000000 + 0x10000 * i

/-- The sequence number of a valid directory copy. -/
def State.dirSeq (s : State) (i : Nat) : Option Nat :=
  let a := dirAddr i
  if Sparse.le s.flash a 4 = 0x53484444 ∧ Sparse.le s.flash (a + 140) 4 = crc32 (Sparse.bytes s.flash a 140)
  then some (Sparse.le s.flash (a + 4) 4) else none

/-- The copy in use. -/
def State.dirCopy (s : State) : Option Nat :=
  match s.dirSeq 0, s.dirSeq 1 with
  | none, none => none
  | some _, none => some 0
  | none, some _ => some 1
  | some a, some b => some (if a < b then 1 else 0)

/-- The entry of flash slot f: identifier, length, header CRC, valid. -/
def State.dirEntry (s : State) (f : Nat) : List Nat :=
  match s.dirCopy with
  | none => [0, 0, 0, 0]
  | some i => (List.range 4).map (fun k => Sparse.le s.flash (dirAddr i + 8 + 16 * f + 4 * k) 4)

/-- The directory updated (R212): the copy with the lower sequence number takes the new contents. -/
def State.dirUpdate (s : State) (entry : Option (Nat × List Nat)) : State :=
  let es := (List.range 6).flatMap (fun f => match entry with
    | some (g, e) => if f = g then e else s.dirEntry f
    | none => s.dirEntry f)
  let seqs := (s.dirSeq 0, s.dirSeq 1)
  let top := max (seqs.1.getD 0) (seqs.2.getD 0)
  let target := match s.dirCopy with | some i => 1 - i | none => 0
  let body := leBytes 4 0x53484444 ++ leBytes 4 (top + 1) ++ es.flatMap (leBytes 4) ++
    (List.range 3).flatMap (fun k => leBytes 4 (s.cor.calCount.getD k 0) ++ leBytes 8 (s.cor.calTime.getD k 0))
  { s with flash := Sparse.write s.flash (dirAddr target) (body ++ leBytes 4 (crc32 body)) }

/-- The directory read at boot (R212, R225). -/
def State.dirBoot (s : State) : State :=
  match s.dirCopy with
  | none =>
    let s := { s with cor := { s.cor with calCount := [0, 0, 0], calTime := [0, 0, 0] } }
    s.raise .COR_FLASH_FAIL
  | some i =>
    { s with cor := { s.cor with
        calCount := (List.range 3).map (fun k => Sparse.le s.flash (dirAddr i + 104 + 12 * k) 4),
        calTime := (List.range 3).map (fun k => Sparse.le s.flash (dirAddr i + 108 + 12 * k) 8) } }

/-- A library slot copied to a flash slot, and the directory updated (R213). -/
def State.storeSet (s : State) (slot f : Nat) : State :=
  let m := s.librarySlot slot
  let len := setLe m 8 4
  let s := { s with flash := Sparse.write s.flash (flashSlotAddr f) (Sparse.bytes m.1 m.2 len) }
  s.dirUpdate (some (f, [setLe m 12 4, len, setLe m 124 4, 1]))

/-- A flash slot copied to a library slot as it stands (R213). -/
def State.restoreSet (s : State) (slot f : Nat) : State :=
  let len := (s.dirEntry f).getD 1 0
  s.dramWrite (s.librarySlot slot).2 (Sparse.bytes s.flash (flashSlotAddr f) len)

/-- Whether the shading library exists, and whether a slot lies in it (R210). -/
def State.slotFails (s : State) (slot : Nat) : List (Nat × Nat) :=
  if s.p .HIS_SHD_SLOTS = 0 then [(0x30, 0)] else if s.p .HIS_SHD_SLOTS ≤ slot then [(0x11, 0)] else []

end Sys2Proof.Machine
end

