-- ==== Sys2Proof/Machine/LampOps.lean ====
section
/-! DEFINITION. The lamp controller: chain words (R124 to R126), frames and their status (R120, R128, R129, R139), mirrors and
uploads (R130, R131, R148), strobes and the centroid (R113 to R117), boost tracking (R136), proof pulses (R140, R141), derating
and shutdown (R144 to R147). -/

namespace Sys2Proof.Machine

/-- Bar b. -/
def State.bar (s : State) (b : Nat) : Bar := s.lamp.bars.getD b Bar.reset

/-- Bar b changed. -/
def State.updBar (s : State) (b : Nat) (f : Bar → Bar) : State :=
  { s with lamp := { s.lamp with bars := upd s.lamp.bars b f } }

/-- Whether bar b runs in native mode, and in P64 mode. -/
def State.native (s : State) (b : Nat) : Bool := s.p .LMP_MODE b == 1
/-- Whether bar b runs in P64 mode. -/
def State.p64 (s : State) (b : Nat) : Bool := s.p .LMP_MODE b == 2

/-- A bar's chain length once it is known: found by discovery, or stated for a P64 bar. -/
def State.chainLen (s : State) (b : Nat) : Option Nat :=
  if s.p64 b then some (s.p .LMP_CHIPS b) else if s.native b && (s.bar b).known then some (s.bar b).chips else none

/-! ### Chain words -/

/-- A command word with its CRC (R124). -/
def cmdWord (op set bank str data : Nat) : Nat :=
  let w := 2 ^ 28 * op + 2 ^ 27 * set + 2 ^ 24 * bank + 2 ^ 20 * str + data % 65536
  w + 65536 * chainCmdCrc w

/-- NOP. -/
def nopWord : Nat := cmdWord 0 0 0 0 0

/-- The opcode of a command word. -/
def wordOp (w : Nat) : Nat := natField w 31 28

/-- Whether a status word has its marker and CRC (R126). -/
def statusOk (w : Nat) : Bool := natField w 31 28 == 10 && natField w 27 24 == chainStatusCrc w

/-- The word a frame sends to a chip. -/
def ChainFrame.wordOf (f : ChainFrame) (c : Nat) : Nat :=
  match f.words.find? (fun x => x.1 == c) with
  | some x => x.2
  | none => nopWord

/-- A frame that sends one word to every chip of a chain. -/
def frameAll (n w : Nat) : ChainFrame := ⟨(List.range n).map (fun c => (c, w)), false⟩

/-! ### Mirrors and uploads -/

/-- A pattern word of a mirror. -/
def patWord (m : Sparse Nat) (bank str : Nat) : Nat := Sparse.get m 0 (4096 * bank + str)

/-- The frames that carry a mirror's six banks into a set (R131). -/
def uploadFrames (m : Sparse Nat) (n set : Nat) : List ChainFrame :=
  (List.range 6).flatMap (fun bank => (List.range 16).map (fun str =>
    ⟨(List.range n).map (fun c => (c, cmdWord 1 set bank str (patWord m bank (16 * c + str)))), true⟩))

/-- The upload of a bar's staged mirror begins (R131, R148). -/
def State.startUpload (s : State) (b : Nat) : State :=
  let x := s.bar b
  let frames := if s.p64 b then [] else
    uploadFrames x.staged x.chips (1 - x.setIdx) ++
      [⟨(List.range x.chips).map (fun c => (c, cmdWord 3 0 0 0 (1 - x.setIdx))), true⟩]
  s.updBar b (fun y => { y with work := y.work ++ frames, upload := some ⟨s.now, none⟩ })

/-- Whether all frames of a bar's upload have been latched and answered. -/
def Bar.uploadSent (x : Bar) : Bool :=
  x.work.all (fun f => !f.upload) && (match x.inFlight with | some f => !f.upload | none => true) && !x.lost

/-- The upload of a bar ends unused: a cancelled job (R258) or apply. -/
def State.dropUpload (s : State) (b : Nat) : State :=
  s.updBar b (fun y => { y with work := y.work.filter (fun f => !f.upload), upload := none })

/-- A SYNC on the native bars, at a tick only (R123). -/
def State.syncPulse (s : State) : State :=
  if s.seq.lastTick = some s.now then { s with lamp := { s.lamp with syncAt := some s.now } } else s

/-- SYNC with an armed select (R123, R131): the sets and mirrors swap, and the staged mirror takes the active one's contents
    (R130). -/
def State.syncSelect (s : State) (b : Nat) : State :=
  (if s.native b then s.syncPulse else s).updBar b (fun y => { y with
    setIdx := if s.p64 b then y.setIdx else 1 - y.setIdx, active := y.staged, upload := none })

/-- The frames that rewrite one chip from the mirrors, one word per latch (R128). -/
def State.rewriteChip (s : State) (b c : Nat) : List ChainFrame :=
  let x := s.bar b
  let one := fun w => (⟨[(c, w)], false⟩ : ChainFrame)
  let write := fun (m : Sparse Nat) (set : Nat) => (List.range 6).flatMap (fun bank => (List.range 16).map (fun str =>
    one (cmdWord 1 set bank str (patWord m bank (16 * c + str)))))
  write x.active x.setIdx ++ write x.staged (1 - x.setIdx) ++
  [one (cmdWord 4 0 0 0 x.setIdx), one (cmdWord 9 0 0 0 (s.p .LMP_SHORT_V b)), one (cmdWord 10 0 0 0 x.derate)] ++
  (match x.upload with
   | some u => if u.doneAt.isSome then [one (cmdWord 3 0 0 0 (1 - x.setIdx))] else []
   | none => [])

/-! ### Lit bars and the centroid -/

/-- Enabled strings of a bank in a bar's active mirror, within its chain. -/
def State.litStrings (s : State) (b bank : Nat) : Nat :=
  let x := s.bar b
  let n := 16 * (s.chainLen b).getD 0
  (x.active.filter (fun e => e.1 / 4096 == bank && decide (e.1 % 4096 < n) && e.2.testBit 15 &&
    (s.native b || decide (e.2 % 4096 ≠ 0)))).length

/-- The pulse of bar b in phase p after clipping: delay and width; none where the bar gives no pulse (R113, R114, R146, R149).
    With LAMP_SYNC_IN the delay plays no part (R117). -/
def State.pulseOf (s : State) (b p : Nat) : Option (Nat × Nat) :=
  let w := s.p .LMP_PULSE (6 * b + p)
  let d := if s.p .LMP_SYNC_MODE = 1 then 0 else s.p .LMP_DELAY (6 * b + p)
  let e := s.p .SEQ_EXP p
  let served := s.native b && (s.bar b).known ||
    (s.p64 b && (natField (s.p .LMP_P64_MAP b) 2 0 == p || natField (s.p .LMP_P64_MAP b) 5 3 == p))
  if w = 0 ∨ !served ∨ (s.bar b).shut ∨ e ≤ d then none else some (d, min w (e - d))

/-- Whether the pulse of bar b in phase p is clipped, or suppressed (R114). -/
def State.clipped (s : State) (b p : Nat) : Bool :=
  let w := s.p .LMP_PULSE (6 * b + p)
  s.p .LMP_MODE b != 0 && w != 0 && s.p .LMP_SYNC_MODE == 0 && decide (s.p .SEQ_EXP p < s.p .LMP_DELAY (6 * b + p) + w)

/-- Whether bar b is lit in phase p (R116). -/
def State.barLit (s : State) (b p : Nat) : Bool := (s.pulseOf b p).isSome && decide (0 < s.litStrings b p)

/-- A strobe recorded: the edges of bar b in phase p. -/
def State.strobe (s : State) (b p rise fall : Nat) : State :=
  let e : Strobe := ⟨b, p, rise, fall⟩
  let s := { s with lamp := { s.lamp with strobes := s.lamp.strobes ++ [e] } }
  s.updBar b (fun y => { y with stbUntil := fall })

/-- The centroid instant of a phase, doubled: rising plus falling edge of the lit bars (R116), or the exposure window's edges where
    none is lit (R237). -/
def State.centroid2 (s : State) (p openAt transfer : Nat) : Nat :=
  let lit := s.lamp.strobes.filter (fun x => x.phase == p && decide (0 < s.litStrings x.bar p))
  match lit with
  | [] => openAt + transfer
  | x :: xs => xs.foldl (fun (r : Nat) (y : Strobe) => min r y.rise) x.rise + xs.foldl (fun (f : Nat) (y : Strobe) => max f y.fall) x.fall

/-! ### Boost (R135 to R137) -/

/-- The boost loop at a good frame (R136); h is the least headroom. -/
def State.boostStep (s : State) (b h : Nat) : State :=
  let x := s.bar b
  let target := s.p .LMP_HR_TARGET b
  let v := if h = 255 then x.boost
    else if h < target then x.boost + (target - h) * 5
    else if target + s.p .LMP_HR_HYST b < h then x.boost - min (s.p .LMP_BOOST_STEP_DN b) ((h - target) * 5)
    else x.boost
  let v := clampNat (10 * s.p .LMP_BOOST_MIN b) (10 * s.p .LMP_BOOST_MAX b) v
  let s := s.updBar b (fun y => { y with boost := v, hrMin := h })
  if v = 10 * s.p .LMP_BOOST_MAX b ∧ h < target then (s.count .LMP_BOOST_AT_LIMIT b).raise .LAMP_BOOST_LIMIT b else s

/-! ### Faults (R139, R142) -/

/-- The event detail of a string. -/
def stringDetail (b c str : Nat) : Nat := b + 4 * c + 256 * str

/-- New bits of a chip's fault mask: kind 0 open, 1 short, 2 shorted pair. -/
def State.newFaults (s : State) (b c kind mask : Nat) : State :=
  let x := s.bar b
  let m := match kind with | 0 => x.opens | 1 => x.shorts | _ => x.pairs
  let old := Sparse.get m 0 c
  let fresh := (maskList 16 mask).filter (fun i => !old.testBit i)
  let now' := Sparse.set m 0 c (old ||| mask % 65536)
  let s := s.updBar b (fun y => match kind with
    | 0 => { y with opens := now' } | 1 => { y with shorts := now' } | _ => { y with pairs := now' })
  let ev := match kind with | 0 => Ev.LAMP_OPEN | 1 => Ev.LAMP_SHORT | _ => Ev.LAMP_NEIGHBOUR
  fresh.foldl (fun s i => s.raise ev (stringDetail b c i)) s

/-- Shorted pairs from the leak masks of the two passes (R142): s and s + 1 when s + 1 leaks in the first or s in the second. -/
def pairMask (pass1 pass2 : Nat) : Nat :=
  maskOf ((List.range 15).filter (fun i => pass1.testBit (i + 1) || pass2.testBit i))

/-- Leak bits read outside the two passes: an odd string as in the first pass, an even one as in the second. -/
def leakPairs (mask : Nat) : Nat := pairMask (mask &&& 0xAAAA) (mask &&& 0x5555)

/-! ### The chain (R120 to R129) -/

/-- The answer of one chip to its word of the frame before: masks read, pattern words read, RESET_SEEN, new fault flags. -/
def State.chipAnswer (s : State) (b c word st : Nat) : State :=
  let x := s.bar b
  let was := Sparse.get x.status 0 c
  let s := s.updBar b (fun y => { y with status := Sparse.set y.status 0 c st })
  let pay := st % 65536
  let s := match wordOp word with
    | 2 => { s with lamp := { s.lamp with reads := s.lamp.reads.map (fun r =>
        if r.1 = b ∧ natField word 27 27 = (if r.2.set = 0 then x.setIdx else 1 - x.setIdx) ∧ natField word 26 24 = r.2.bank
        then (r.1, { r.2 with got := r.2.got ++ [(16 * c + natField word 23 20, pay)] }) else r) } }
    | 5 => s.newFaults b c 0 pay
    | 6 => s.newFaults b c 1 pay
    | 7 => s.newFaults b c 2 (leakPairs pay)
    | _ => s
  let fresh := fun i => st.testBit i && !was.testBit i
  let s := if fresh 22 || fresh 21 || fresh 20 then
      s.updBar b (fun y => { y with
        work := [(⟨[(c, cmdWord 5 0 0 0 0)], false⟩ : ChainFrame), ⟨[(c, cmdWord 6 0 0 0 0)], false⟩,
          ⟨[(c, cmdWord 7 0 0 0 0)], false⟩] ++ y.work })
    else s
  if st.testBit 16 then
    if x.lost then s.updBar b (fun y => { y with resetSeen := y.resetSeen.filter (fun k => k != c) ++ [c] })
    else (s.updBar b (fun y => { y with work := s.rewriteChip b c ++ y.work })).raise .LAMP_CHAIN_LOST (b + 4096)
  else s

/-- A good frame of status words (R128, R129, R136, R139). -/
def State.goodFrame (s : State) (b : Nat) (answered : ChainFrame) (status : List Nat) : State :=
  let n := (s.bar b).chips
  let s := s.updBar b (fun y => { y with badRun := 0, goodRun := y.goodRun + 1 })
  let errs := (status.filter (fun w => w.testBit 23)).length
  let s := if errs = 0 then s else
    (s.count .LMP_CMD_ERRORS b errs).updBar b (fun y => { y with work := answered :: y.work })
  let s := (List.range n).foldl (fun s c => s.chipAnswer b c (answered.wordOf c) (status.getD c 0)) s
  let heads := ((List.range n).filter (fun c => !([2, 5, 6, 7, 11].contains (wordOp (answered.wordOf c))))).map (fun c => status.getD c 0 % 256)
  let s := if (s.bar b).lost then s else
    match heads with
    | [] => s
    | h :: hs => s.boostStep b (hs.foldl min h)
  let x := s.bar b
  if x.lost ∧ 16 ≤ x.goodRun then
    let again := x.resetSeen.flatMap (fun c => s.rewriteChip b c)
    let s := s.updBar b (fun y => { y with lost := false, goodRun := 0, resetSeen := [], work := again ++ y.work })
    s.raise .LAMP_CHAIN_RESTORED b
  else s

/-- A bad frame (R128). -/
def State.badFrame (s : State) (b : Nat) (answered : ChainFrame) : State :=
  let s := s.count .LMP_CHAIN_ERRORS b
  let s := s.updBar b (fun y => { y with badRun := y.badRun + 1, goodRun := 0, work := if y.lost then y.work else answered :: y.work })
  let x := s.bar b
  if !x.lost && decide (s.p .LMP_CHAIN_RETRY ≤ x.badRun) then
    (s.updBar b (fun y => { y with lost := true, resetSeen := [] })).raise .LAMP_CHAIN_LOST b
  else s

/-- The frame a bar shifts next: a waiting one, or NOP; in CHAIN_LOST only NOP (R121, R128). -/
def Bar.nextFrame (x : Bar) : ChainFrame :=
  if x.lost then ⟨[], false⟩ else x.work.headD ⟨[], false⟩

/-- A frame ends with its latch (R120 to R122): the status words that came out answer the frame before it. -/
def State.frameLatch (s : State) (b : Nat) (status : List Nat) : State :=
  let x := s.bar b
  let sent := x.nextFrame
  let s := s.updBar b (fun y => { y with inFlight := some sent, work := if y.lost then y.work else y.work.drop 1 })
  let s := if s.now < x.stbUntil then s.count .LMP_LAT_DELAYED else s
  let s := if sent.words.any (fun w => wordOp w.2 == 10) then s.updBar b (fun y => { y with derateSent := true }) else s
  match x.inFlight with
  | none => s
  | some f =>
    let st := status.take x.chips
    if st.length = x.chips && st.all statusOk then s.goodFrame b f st else s.badFrame b f

/-- The centre of the widest run of delays that answered (R127); of two centres, and of equal runs, either (log entry 12). -/
def widestRun (delays : List Nat) : Nat :=
  let runAt := fun i => ((List.range 32).takeWhile (fun k => delays.contains (i + k))).length
  let best := (List.range 32).foldl (fun (b : Nat × Nat) i => if b.2 < runAt i then (i, runAt i) else b) (0, 0)
  best.1 + (openDiv 1 ((best.2 : Int) - 1) 2).toNat

/-! ### Proof pulses (R140, R141) -/

/-- The phases of R140 on a bar: short pulses with enabled strings in their bank. -/
def State.proofPhases (s : State) (b : Nat) : List Nat :=
  if !s.native b then [] else
  (List.range (s.p .SEQ_NUM_PHASES)).filter (fun p =>
    decide (1 ≤ s.p .LMP_PULSE (6 * b + p)) && decide (s.p .LMP_PULSE (6 * b + p) ≤ 1999) && decide (0 < s.litStrings b p))

/-- Whether proof pulses run in captured lines (R141). -/
def State.proofsInLine (s : State) : Bool := decide (2100 ≤ s.seq.darkMax) && s.p .LMP_PROOF_EVERY != 0

/-- One proof pulse on every bar that has a phase to serve, the next in rotation (R140). -/
def State.proofPulse (s : State) : State :=
  (List.range 4).foldl (fun (s : State) b =>
    match s.proofPhases b with
    | [] => s
    | ps =>
      let i := (s.bar b).proofPhase
      let p := match ps.find? (fun p => decide (i ≤ p)) with | some p => p | none => ps.headD 0
      (s.updBar b (fun y => { y with proofPhase := p + 1 })).count .LMP_PROOFS b) s

/-- What a captured line adds for proof pulses (R140, R141). -/
def State.proofLine (s : State) : State :=
  if s.proofsInLine then
    let n := s.lamp.proofCount + 1
    if s.p .LMP_PROOF_EVERY ≤ n then { s with lamp := { s.lamp with proofCount := 0, proofDue := true } }
    else { s with lamp := { s.lamp with proofCount := n } }
  else
    let k := (List.range 4).foldl (fun a b => (s.proofPhases b).foldl (fun a p => a + s.litStrings b p) a) 0
    if k = 0 then s else
    let s := s.count .LMP_UNDIAG_STRING_LINES 0 k
    if s.lamp.undiagRaised then s else
    let s := s.raise .LAMP_UNDIAGNOSED
    { s with lamp := { s.lamp with undiagRaised := true } }

/-! ### Temperature (R144 to R147) -/

/-- The full-scale code of a temperature in 1/16 °C; none in shutdown (R144). -/
def State.derateCode (s : State) (b : Nat) (t : Int) : Option Nat :=
  let t0 := 16 * toSigned 8 (s.p .LMP_DERATE_T0 b)
  let t1 := 16 * toSigned 8 (s.p .LMP_DERATE_T1 b)
  let ts := 16 * toSigned 8 (s.p .LMP_DERATE_TSHUT b)
  let m := s.p .LMP_DERATE_MIN b
  if ts ≤ t then none else if t1 ≤ t then some m else if t < t0 then some 255
  else some (((255 * (t1 - t) + m * (t - t0)) / (t1 - t0)).toNat)

/-- A full-scale code wanted: sent as an armed FULLSCALE (R145). -/
def State.wantDerate (s : State) (b f : Nat) : State :=
  let x := s.bar b
  if (x.derateNext.getD x.derate) = f then s
  else s.updBar b (fun y => { y with
    derateNext := some f, derateSent := false, work := y.work ++ [frameAll y.chips (cmdWord 10 0 0 0 (256 + f))] })

/-- A valid temperature of bar b (R144, R146); derating codes only in native mode (R150). -/
def State.lampReading (s : State) (b : Nat) (t : Int) : State :=
  let s := s.updBar b (fun y => { y with temp := some t, tempValid := true, tempSince := s.now, tempRaised := false })
  let ts := 16 * toSigned 8 (s.p .LMP_DERATE_TSHUT b)
  let s := if ts ≤ t then s.updBar b (fun y => { y with shutNext := !y.shut, relight := false })
    else s.updBar b (fun y => { y with shutNext := false, relight := y.shut && (y.relight || decide (t < ts - 80)) })
  match s.derateCode b t with
  | some f => if s.native b then s.wantDerate b f else s
  | none => s

/-- A bar's temperature becomes invalid (R147). -/
def State.lampInvalid (s : State) (b : Nat) : State :=
  if (s.bar b).tempRaised || s.p .LMP_TEMP_CH b == 127 || s.p .LMP_MODE b == 0 then s else
  let s := s.updBar b (fun y => { y with tempValid := false, tempRaised := true })
  let s := s.raise .LAMP_TEMP_INVALID b
  if s.native b then s.wantDerate b (s.p .LMP_DERATE_MIN b) else s

/-- At a tick (boundary: a repeat boundary, or no repeat structure active): armed full-scale codes take effect, bars shut down and
    light again (R145, R146). -/
def State.lampTick (s : State) (line : Nat) (boundary : Bool) : State :=
  (List.range 4).foldl (fun (s : State) b =>
    let x := s.bar b
    let s := if x.shutNext then
        (s.updBar b (fun y => { y with shut := true, shutNext := false, relight := false })).raise .LAMP_SHUTDOWN b
      else s
    let s := if boundary && x.relight && x.shut then s.updBar b (fun y => { y with shut := false, relight := false }) else s
    match x.derateNext with
    | some f =>
      if boundary && x.derateSent then
        (s.syncPulse.updBar b (fun y => { y with derate := f, derateNext := none, derateSent := false })).raise .LAMP_DERATE
          (b + 256 * f + 65536 * (line % 65536))
      else s
    | none => s) s

/-- The coverage of a captured line with bars in shutdown (R146). -/
def State.shutLine (s : State) (line : Nat) : State :=
  (List.range 4).foldl (fun (s : State) b =>
    if (s.bar b).shut && s.p .LMP_MODE b != 0 then s.covLine .capture line s.devCols 1 .LAMP_SHUTDOWN b 0 else s) s

/-- A bar's mode switched on or off by a commit (R127, R135): native after its discovery. -/
def State.barMode (s : State) (b : Nat) (found : Option (Nat × Nat × List Nat)) : State :=
  if s.p .LMP_MODE b = 0 then
    s.updBar b (fun y => { Bar.reset with setIdx := y.setIdx, active := y.active, staged := y.staged, opens := y.opens, shorts := y.shorts, pairs := y.pairs })
  else
    let s := s.updBar b (fun y => { y with boost := 10 * s.p .LMP_BOOST_MAX b, tempSince := s.now, tempRaised := false })
    match found with
    | none => s
    | some f =>
      s.updBar b (fun y => { y with
        chips := f.1, known := true, diDly := f.2.1, ids := f.2.2, lost := false, badRun := 0, goodRun := 0, inFlight := none,
        work := [frameAll f.1 (cmdWord 9 0 0 0 (s.p .LMP_SHORT_V b))] })

end Sys2Proof.Machine
end

