-- ==== Sys2Proof/Machine/PosOps.lean ====
section
/-! DEFINITION. Position and time: encoder samples (R67 to R77), reference marks (R79, R80), speeds (R84, R85), the position at an
instant (R94), timing inputs and channels (R88 to R97), the alignment loop and holdover (R100 to R102). -/

namespace Sys2Proof.Machine

/-- Glints in a second (R8). -/
def glintsPerSec : Nat := 51200000000

/-- A quotient rounded to the nearest, a tie either way (log entry 12). -/
def openRound (site : Nat) (num : Int) (den : Nat) : Int :=
  if 2 * (num % den) < den then num / den else if (den : Int) < 2 * (num % den) then num / den + 1 else openDiv site num den

/-- Encoder k. -/
def State.enc (s : State) (k : Nat) : Enc := s.pos.encs.getD k Enc.reset

/-- Encoder k changed. -/
def State.updEnc (s : State) (k : Nat) (f : Enc → Enc) : State :=
  { s with pos := { s.pos with encs := upd s.pos.encs k f } }

/-- The sign of motion of input k (R70). -/
def State.encSign (s : State) (k : Nat) : Int := if s.p .POS_DIR k = 1 then -1 else 1

/-! ### Motion (R84, R85) -/

/-- The period estimate of 16·n counts in dt glints, 16.16 counts per µs (R85); its rounding is open. -/
def periodSpeed (n : Int) (dt : Nat) : Int := openDiv 2 (16 * n * 65536 * 51200) dt

/-- The position moved: standstill ends, and cell boundaries crossed give the period estimate (R85). -/
def State.moved (s : State) (k : Nat) (old new : Int) : State :=
  if old = new then s else
  let g := s.glint
  s.updEnc k (fun e =>
    let e := { e with lastChange := s.now, still := false }
    match e.cellBase with
    | none => { e with cellBase := some new, lastCross := g }
    | some base =>
      let n := (new - base) / 16 - (old - base) / 16
      if n = 0 ∨ g ≤ e.lastCross then e else { e with speedP := periodSpeed n (g - e.lastCross), lastCross := g })

/-- POS_SPEED_P: reduced while no crossing occurs (R85). -/
def State.speedP (s : State) (k : Nat) : Int :=
  let e := s.enc k
  let dt := s.glint - e.lastCross
  if dt = 0 then e.speedP else
  let lim := periodSpeed 1 dt
  clampInt (-lim) lim e.speedP

/-- A sample taken into the history of positions: newest first, those older than 140 µs let go. -/
def Enc.record (e : Enc) (g : Nat) : Enc :=
  { e with hist := (g, e.pos) :: e.hist.takeWhile (fun x => decide (g ≤ x.1 + 7168000)) }

/-! ### Samples (R68 to R78) -/

/-- The place of two comparators in their cycle: phase rises 0, 1, 2, 3 (R68; the order of digital A and B is that of the pairs that
    carry them, log entry 13). -/
def quadrant (a b : Bool) : Nat := match a, b with | true, true => 0 | true, false => 1 | false, false => 2 | false, true => 3

/-- Quadrants moved by one change: 0, 1 or −1; 2 for a double change. -/
def quadStep (a b a' b' : Bool) : Int :=
  match (quadrant a' b' + 4 - quadrant a b) % 4 with
  | 0 => 0
  | 1 => 1
  | 3 => -1
  | _ => 2

/-- The corrections a sample uses (R71). -/
def State.corrList (s : State) (k : Nat) : List Int :=
  let c := (s.enc k).corr
  if s.p .POS_CORR_EN k = 1 then [c.offS, c.offC, c.gain, c.quad] else [0, 0, 65536, 0]

/-- One running correction moved towards an estimate and limited (R71, R72): value and whether it saturated. -/
def corrStep (cur est lo hi : Int) (shift : Nat) : Int × Bool :=
  let v := cur + openDiv 3 (est - cur) (2 ^ shift)
  (clampInt lo hi v, decide (v < lo) || decide (hi < v))

/-- The end of a full signal period: the estimates enter the running correction (R71, R72). -/
def State.corrPeriod (s : State) (k : Nat) : State :=
  let e := s.enc k
  let x := e.ext
  let ok := x.valid && !e.ampInvalid && decide (s.now ≤ x.since + ms 100)
  let fresh : EncExtremes := ⟨0, 0, 0, 0, s.now, e.pos, true⟩
  let s := s.updEnc k (fun e => { e with ext := fresh })
  if !ok ∨ s.p .POS_CORR_EN k = 0 then s else
  let est := fun i => Config.corrEstimate [x.minS, x.maxS, x.minC, x.maxC] i
  let sh := s.p .POS_CORR_SHIFT k
  let limS := 65536 * (x.maxS - x.minS) / 10
  let limC := 65536 * (x.maxC - x.minC) / 10
  let a := corrStep e.corr.offS (est 0) (-limS) limS sh
  let b := corrStep e.corr.offC (est 1) (-limC) limC sh
  let c := corrStep e.corr.gain (est 2) 52429 81920 sh
  let d := corrStep e.corr.quad (est 3) (-655360) 655360 sh
  let sat := a.2 || b.2 || c.2 || d.2
  let s := s.updEnc k (fun y => { y with corr := ⟨a.1, b.1, c.1, d.1⟩, corrLimit := sat })
  if sat && !e.corrLimit then s.raise .ENC_CORR_LIMIT k else s

/-- The extremes of the running period take a sample in; a period of 4,096 counts ends (R71). -/
def State.extremes (s : State) (k : Nat) (x : EncSample) : State :=
  let s := s.updEnc k (fun e =>
    let m := e.ext
    let first := m.minS = 0 ∧ m.maxS = 0 ∧ m.minC = 0 ∧ m.maxC = 0
    { e with ext := if first then { m with minS := x.sin, maxS := x.sin, minC := x.cos, maxC := x.cos, valid := m.valid && !e.ampInvalid }
      else { m with
                    minS := min m.minS x.sin, maxS := max m.maxS x.sin, minC := min m.minC x.cos, maxC := max m.maxC x.cos,
                    valid := m.valid && !e.ampInvalid } })
  let e := s.enc k
  if 4096 ≤ (e.pos - e.ext.startPos).natAbs then s.corrPeriod k else s

/-- A double change that the position cannot follow (R76, R77). -/
def State.doubleChange (s : State) (k : Nat) : State :=
  let s := s.updEnc k (fun e => { e with doubles := e.doubles + 1 })
  (s.count .POS_DOUBLE_CHANGE k).raise .ENC_DOUBLE_CHANGE k

/-- The position nearest the present one that a phase code allows (R68, R75). -/
def nearestPos (pos off : Int) (sign : Int) (phase : Nat) : Int :=
  let d := (sign * (phase : Int) + off - pos) % 4096
  if 2048 < d then pos + d - 4096 else pos + d

/-- A sample in sine/cosine mode (R68, R74 to R76). -/
def State.sineSample (s : State) (x : EncSample) : State :=
  let k := x.enc
  let e := s.enc k
  let cs := s.corrList k
  let amp := Config.trackAmplitude x.sin x.cos cs % 4096
  let bad := decide (amp < s.p .POS_AMP_LO) || decide (s.p .POS_AMP_HI < amp)
  let s := s.updEnc k (fun e => { e with amp := amp, ampInvalid := bad, a := x.a, b := x.b })
  let s := if bad && !e.ampInvalid then (s.count .POS_AMP_INVALID k).raise .ENC_AMPLITUDE k else s
  let step := quadStep e.a e.b x.a x.b
  let s := if bad then
      if step = 2 then s.doubleChange k
      else s.updEnc k (fun y => { y with pos := y.pos + s.encSign k * 1024 * step })
    else
      let s := if step = 2 then s.count .POS_RECONCILED k else s
      let ph := Config.phaseCode x.sin x.cos cs % 4096
      s.updEnc k (fun y => match y.off with
        | none => { y with phase := ph, off := some (y.pos - s.encSign k * (ph : Int)) }
        | some o => { y with phase := ph, pos := nearestPos y.pos o (s.encSign k) ph })
  s.extremes k x

/-- A sample in digital A/B mode (R69, R77). -/
def State.digitalSample (s : State) (x : EncSample) : State :=
  let k := x.enc
  let e := s.enc k
  let step := quadStep e.a e.b x.a x.b
  let s := s.updEnc k (fun y => { y with a := x.a, b := x.b, ampInvalid := false })
  if step = 2 then s.doubleChange k else s.updEnc k (fun y => { y with pos := y.pos + s.encSign k * 1024 * step })

/-- One encoder sample. -/
def State.encSample (s : State) (x : EncSample) : State :=
  if 4 ≤ x.enc then s else
  let old := (s.enc x.enc).pos
  let s := if s.p .POS_MODE x.enc = 1 then s.digitalSample x else s.sineSample x
  let s := s.moved x.enc old (s.enc x.enc).pos
  s.updEnc x.enc (fun e => e.record s.glint)

/-- The position of input k set: by a reference mark; everything that follows it takes the step (R79, R80). -/
def State.setPos (s : State) (k : Nat) (v : Int) : State :=
  let old := (s.enc k).pos
  let s := s.updEnc k (fun e => { e with pos := v, off := match e.off with | some o => some (o + (v - old)) | none => none })
  (s.moved k old v).updEnc k (fun e => e.record s.glint)

/-- A reference mark (R79, R80). -/
def State.refMark (s : State) (k : Nat) : State :=
  let e := s.enc k
  let s := s.updEnc k (fun y => { y with refLatch := ofSigned 32 y.pos, refSeen := true })
  match s.p .POS_REF_MODE k with
  | 1 =>
    if !e.refArmed then s else
    let v := e.pos + toSigned 32 (ofSigned 32 ((s.p .POS_REF_VALUE k : Int) - e.pos))
    (s.setPos k v).updEnc k (fun y => { y with refArmed := false })
  | 2 =>
    match e.anchor with
    | none => s.updEnc k (fun y => { y with anchor := some y.pos })
    | some a =>
      let period := s.p .POS_REF_PERIOD k
      let want := a + period * openRound 4 (e.pos - a) period
      let d := want - e.pos
      if 2048 < d.natAbs then s.raise .ENC_REF_CORRECTED (k + 4)
      else
        let s := (s.setPos k want).count .POS_REF_CORRECTIONS k
        if d = 0 then s else s.raise .ENC_REF_CORRECTED k
  | _ => s

/-- A commit that changes POS_MODE or POS_DIR of input k (R67, R70): the count makes no jump. old is the store before. -/
def State.encCommitted (s : State) (old : Sparse Nat) (k : Nat) : State :=
  let s := if parGet old .POS_MODE k ≠ s.p .POS_MODE k then s.updEnc k (fun e => { e with off := none, ampInvalid := false }) else s
  if parGet old .POS_DIR k ≠ s.p .POS_DIR k then
    s.updEnc k (fun e => { e with off := match e.off with | some _ => some (e.pos - s.encSign k * (e.phase : Int)) | none => none })
  else s

/-- A commit that writes a reference parameter of input k arms it again (R79). -/
def State.refArm (s : State) (k : Nat) : State := s.updEnc k (fun e => { e with refArmed := true, anchor := none })

/-! ### The position at an instant (R94) -/

/-- Position in 1/256 count at a glint stamp: the samples that bracket it; the last sample where none has come after it. -/
def posAtFrom (hist : List (Nat × Int)) (stamp : Nat) (exact : Bool) : Option (Nat × Int) → Int
  | later =>
    match hist with
    | [] => match later with | some y => 256 * y.2 | none => 0
    | x :: rest =>
      if x.1 ≤ stamp then
        match later with
        | some y => if exact ∨ y.1 ≤ x.1 then 256 * x.2
                    else 256 * x.2 + openRound 5 (256 * (y.2 - x.2) * ((stamp : Int) - x.1)) (y.1 - x.1)
        | none => 256 * x.2
      else posAtFrom rest stamp exact (some x)

/-- The position of encoder k at a glint stamp, 1/256 count (R94). -/
def State.encAt (s : State) (k stamp : Nat) : Int :=
  let e := s.enc k
  if e.hist.isEmpty then 256 * e.pos else posAtFrom e.hist stamp (s.p .POS_MODE k == 1) none

/-- Whether the device is a cascade member, whose position and boundaries come from the master (R278, R543). -/
def State.member (s : State) : Bool := s.p .ASK_ROLE == 2

/-- The master's position at a glint stamp, 1/256 count: linear between the samples that bracket it (R551). -/
def State.streamAt (s : State) (stamp : Nat) : Int :=
  match s.ask.samples with
  | [] => 0
  | p :: _ => if p.1 ≤ stamp then p.2 else posAtFrom s.ask.samples stamp false none

/-! ### Timing inputs (R88 to R92) -/

/-- The stamp of an edge from its codes (R88); a rounding tie either way. none where the two codes are equal. -/
def edgeStamp (e : EdgeObs) : Option Nat :=
  let p : Int := (e.c2 : Int) - e.c1
  if p = 0 then none else
  let o : Int := (e.c1 : Int) - p
  some (ofSigned 64 (32 * (e.n : Int) - openRound 6 (32 * ((e.f : Int) - o) * (if p < 0 then -1 else 1)) p.natAbs))

/-- An edge admitted by hold-off and dead time (R90, R91). -/
def State.admitEdge (s : State) (i stamp : Nat) : Bool × State :=
  let x := s.pos.ins.getD i ⟨none, 0⟩
  if 10 * stamp < x.holdUntil then (false, s) else
  let close := match x.last with | some l => decide (10 * (stamp - l) < 2048) && decide (l ≤ stamp) | none => false
  if close then (false, s.count .TDC_DEADTIME_LOSS)
  else (true, { s with pos := { s.pos with
    ins := upd s.pos.ins i (fun _ => ⟨some stamp, 10 * stamp + 512 * s.p .TDC_HOLDOFF i⟩) } })

/-! ### Channels (R93 to R97) -/

/-- Channel j. -/
def State.chan (s : State) (j : Nat) : TdcChan := s.pos.chans.getD j ⟨false, none, 0, none, 0, false⟩

/-- Channel j changed. -/
def State.updChan (s : State) (j : Nat) (f : TdcChan → TdcChan) : State :=
  { s with pos := { s.pos with chans := upd s.pos.chans j f } }

/-- An edge with its latched position (R92, R94); on a member the position is the master's (R551). -/
def State.latchEdge (s : State) (j stamp : Nat) : Edge :=
  if s.member then ⟨stamp, s.streamAt stamp, s.seq.lineIndex, 0, false⟩ else
  let k := s.p .TDC_ENC j
  let e := s.enc k
  ⟨stamp, s.encAt k stamp, s.seq.lineIndex, e.doubles, e.ampInvalid⟩

/-- The flags of R97 besides those of one case: AMP_INVALID, HOLDOVER, DOUBLE_CHANGE. -/
def State.edgeFlags (s : State) (j : Nat) (a b : Edge) : Nat :=
  let pps := s.ppsMode != 0 && s.pos.tb.st != .locked
  bitAt (a.ampInvalid || b.ampInvalid) 4 + bitAt pps 5 + bitAt (a.doubles != b.doubles) 6 + 0 * j

/-- An entry to queue 0x0041 (R97); the channel disarms after it unless it rearms (R96). -/
def State.tdcEntry (s : State) (j kind flags : Nat) (start : Edge) (interval : Int) (stopPos : Int) : State :=
  let s := s.serviceRecord 0x41 (leBytes 4 (j + 256 * kind + 65536 * flags) ++ leBytes 4 (s.p .TDC_ENC j) ++ leBytes 8 start.stamp ++
    leBytes 8 (ofSigned 64 interval) ++ leBytes 8 (ofSigned 40 start.pos) ++ leBytes 8 (ofSigned 40 stopPos) ++ leBytes 8 start.line)
  s.updChan j (fun c => { c with armed := c.armed && s.p .TDC_REARM j == 1 })

/-- A stop discarded or ignored (R95, R108). -/
def State.orphanStop (s : State) : State := (s.count .TDC_ORPHAN_STOP).raise .TDC_ORPHAN

/-- The entry of a completed pair (R95). -/
def State.tdcPair (s : State) (j : Nat) (a b : Edge) (order : Bool) : State :=
  let d : Int := (b.stamp : Int) - a.stamp
  let s := s.updChan j (fun c => { c with start := none, early := none, stopNext := false })
  if d.natAbs ≤ 1 then s.tdcEntry j 2 (1 + s.edgeFlags j a b) a 0 b.pos
  else s.tdcEntry j 2 (bitAt order 1 + s.edgeFlags j a b) a d b.pos

/-- A start edge on an armed channel in INTERVAL mode. -/
def State.tdcStart (s : State) (j : Nat) (e : Edge) : State :=
  let c := s.chan j
  if c.start.isSome then s.count .TDC_EXTRA_START
  else match c.early with
    | some b => s.tdcPair j e b true
    | none => s.updChan j (fun c => { c with start := some e, startedAt := s.now, stopNext := true })

/-- A stop edge on a channel in INTERVAL mode. -/
def State.tdcStop (s : State) (j : Nat) (e : Edge) : State :=
  let c := s.chan j
  if !c.armed then s.orphanStop
  else match c.start with
    | some a => s.tdcPair j a e false
    | none =>
      if c.early.isSome then s.orphanStop
      else s.updChan j (fun c => { c with early := some e, earlyAt := s.now })

/-- One qualified edge served by channel j (R93, R95); the answer holds the edge where the channel stamped it in STAMP mode. -/
def State.tdcEdge (s : State) (j input stamp : Nat) (rising : Bool) : Option Edge × State :=
  let pol := fun i => (if (s.p .TDC_EDGE j).testBit i then !rising else rising)
  let c := s.chan j
  let isStart := s.p .TDC_START j == input && pol 0
  let isStop := s.p .TDC_STOP j == input && pol 1
  match s.p .TDC_MODE j with
  | 1 =>
    if isStart && c.armed then
      let e := s.latchEdge j stamp
      (some e, s.tdcEntry j 1 (s.edgeFlags j e e) e 0 e.pos)
    else (none, s)
  | 2 =>
    let e := s.latchEdge j stamp
    if s.p .TDC_START j = s.p .TDC_STOP j then
      if c.stopNext then (none, if isStop then s.tdcStop j e else s)
      else if isStart && c.armed then (none, s.tdcStart j e)
      else if isStop && !c.armed then (none, s.orphanStop) else (none, s)
    else if isStart && c.armed then (none, s.tdcStart j e)
    else if isStop then (none, s.tdcStop j e)
    else (none, s)
  | _ => (none, s)

/-- A stamped edge served by all channels (R92): the stamped entries of STAMP channels. -/
def State.tdcEdges (s : State) (input stamp : Nat) (rising : Bool) : List (Nat × Edge) × State :=
  (List.range 8).foldl (fun (r : List (Nat × Edge) × State) j =>
    let x := r.2.tdcEdge j input stamp rising
    ((match x.1 with | some e => r.1 ++ [(j, e)] | none => r.1), x.2)) ([], s)

/-- A measurement in progress ends with an ABORTED entry (R96). -/
def State.tdcAbort (s : State) (j : Nat) : State :=
  let c := s.chan j
  match c.start with
  | some a =>
    let s := s.updChan j (fun c => { c with start := none, early := none, stopNext := false })
    s.tdcEntry j 2 (8 + s.edgeFlags j a a) a 0 0
  | none =>
    match c.early with
    | some b =>
      let s := s.updChan j (fun c => { c with start := none, early := none, stopNext := false })
      s.tdcEntry j 2 8 { b with stamp := 0, pos := 0 } 0 b.pos
    | none => s

/-! ### The time base (R98 to R104) -/

/-- The time base changed at the present instant, the count carried up to it. -/
def State.updTb (s : State) (f : TimeBase → TimeBase) : State :=
  let s := s.rebase
  { s with pos := { s.pos with tb := f s.pos.tb } }

/-- The state of the alignment loop changed. -/
def State.ppsState (s : State) (st : PpsSt) : State :=
  s.updTb (fun t => { t with st := st, since := s.now, good := 0, rejects := 0, stepped := false })

/-- The count stepped by d glints. -/
def State.stepCount (s : State) (d : Int) : State :=
  s.updTb (fun t => { t with num := (t.num + d * 240000000000) % (240000000000 * 2 ^ 64) })

/-- The phase error of a stamp (R100); a tie between two multiples either way. -/
def phaseError (stamp : Nat) : Int := (stamp : Int) - glintsPerSec * openRound 7 stamp glintsPerSec

/-- The integral frequency moved, 1/16 ppb. -/
def State.setFreq (s : State) (f : Int) : State :=
  let s := s.rebase
  s.setPars [⟨.TDC_FREQ_PPB, 0, ofSigned 32 (clampInt (-2147483648) 2147483647 f)⟩]

/-- The updates of R100 for a phase error. -/
def State.loopUpdate (s : State) (e : Int) : State :=
  let f := toSigned 32 (s.p .TDC_FREQ_PPB) - openDiv 8 (5 * e) (16 * 2 ^ s.p .TDC_PPS_KI)
  let sl := - openDiv 9 (5 * e) (16 * 2 ^ s.p .TDC_PPS_KP)
  (s.setFreq f).updTb (fun t => { t with slew := sl, slewEnd := s.now + secs 1 })

/-- A waiting TIME_SET load takes place: the count at the stamp becomes the whole seconds (R99). -/
def State.performLoad (s : State) (stamp : Nat) : Option TimeLoad × State :=
  match s.pos.tb.load with
  | some l =>
    if l.committed then
      let s := s.stepCount ((l.secs * glintsPerSec : Nat) - (stamp : Int))
      (some l, s.updTb (fun t => { t with load := none }))
    else (none, s)
  | none => (none, s)

/-- A qualified PPS_IN edge in the alignment loop (R100, R101). -/
def State.ppsEdge (s : State) (stamp : Nat) : State :=
  if s.ppsMode = 0 then s else
  let e := phaseError stamp
  let s := s.updTb (fun t => { t with lastErr := e, lastEdge := some s.now })
  let s := if s.pos.tb.st = .holdover then s.ppsState .acquiring else s
  match s.pos.tb.st with
  | .locked =>
    if s.p .TDC_PPS_REJECT < e.natAbs then
      let s := (s.count .TDC_PPS_REJECTS).raise .PPS_REJECT
      let n := s.pos.tb.rejects + 1
      if 4 ≤ n then s.ppsState .acquiring else s.updTb (fun t => { t with rejects := n })
    else
      let s := s.loopUpdate e
      s.updTb (fun t => { t with rejects := 0, learned := (t.learned ++ [toSigned 32 (s.p .TDC_FREQ_PPB)]).drop (t.learned.length + 1 - 86400) })
  | .acquiring =>
    let s := if s.ppsMode = 1 ∧ s.cap.run = .closed ∧ !s.pos.tb.stepped then
        (s.stepCount (-e)).updTb (fun t => { t with stepped := true })
      else s
    let s := s.loopUpdate e
    let good := if e.natAbs ≤ s.p .TDC_LOCK_WIN then s.pos.tb.good + 1 else 0
    if 4 ≤ good then (s.ppsState .locked).raise .PPS_LOCKED else s.updTb (fun t => { t with good := good })
  | _ => s

/-- A change of the mode in which the loop acts (R99, R101): FREE with mode 0, which also performs a waiting load at this instant, else
    ACQUIRING from FREE. -/
def State.ppsModeSet (s : State) : Option TimeLoad × State :=
  if s.ppsMode = 0 then
    let s := if s.pos.tb.st = .free then s else (s.ppsState .free).updTb (fun t => { t with slew := 0, slewEnd := 0 })
    (s.updTb (fun t => { t with lastEdge := none })).performLoad s.glint
  else (none, if s.pos.tb.st = .free then s.ppsState .acquiring else s)

/-- Holdover begins (R101, R102). -/
def State.holdover (s : State) : State :=
  ((s.ppsState .holdover).updTb (fun t => { t with ageAcc := 0, ageDue := s.now + secs 1 })).raise .PPS_HOLDOVER

/-- One second of holdover (R102): f_int advances by the ageing drift. -/
def State.ageStep (s : State) : State :=
  let acc := s.pos.tb.ageAcc + toSigned 16 (s.p .TDC_AGE_PPB_DAY)
  let whole := acc / 1382400
  let s := s.setFreq (toSigned 32 (s.p .TDC_FREQ_PPB) + whole)
  s.updTb (fun t => { t with ageAcc := acc - 1382400 * whole, ageDue := t.ageDue + secs 1 })

/-- The least-squares slope of f_int over the recorded seconds, as an ageing rate in 1/256 ppb a day (R102). -/
def ageSlope (fs : List Int) : Int :=
  let n : Int := fs.length
  let sx := fs.zipIdx.foldl (fun (a : Int) x => a + x.2) 0
  let sy := fs.foldl (· + ·) (0 : Int)
  let sxx := fs.zipIdx.foldl (fun (a : Int) x => a + (x.2 : Int) * x.2) 0
  let sxy := fs.zipIdx.foldl (fun (a : Int) x => a + (x.2 : Int) * x.1) 0
  let den := n * sxx - sx * sx
  if den ≤ 0 then 0 else openDiv 10 ((n * sxy - sx * sy) * 86400 * 16) den.toNat

/-- The ageing rate replaced (R102). -/
def State.ageLearn (s : State) : State :=
  let v := clampInt (-32768) 32767 (ageSlope s.pos.tb.learned)
  (s.setPars [⟨.TDC_AGE_PPB_DAY, 0, ofSigned 16 v⟩]).updTb (fun t => { t with learnDue := t.learnDue + secs 3600 })

/-- The number of TDC_PPS_STATE. -/
def PpsSt.code : PpsSt → Nat
  | .free => 0
  | .acquiring => 1
  | .locked => 2
  | .holdover => 3

/-- POS_STATE_k (R106). -/
def Enc.stateBits (e : Enc) : Nat := bitNat e.ampInvalid + bitAt e.corrLimit 1 + bitAt e.refSeen 2 + bitAt e.still 3

end Sys2Proof.Machine
end

