-- ==== Sys2Proof/Machine/MotOps.lean ====
section
/-! DEFINITION. The motion controller: current control (R376 to R378), step generation (R379 to R381), moves, reversals and
interpolation (R382 to R385), gearing (R386, R387), limits (R388 to R391), homing (R392), pacing (R393 to R397), the log (R400). -/

namespace Sys2Proof.Machine

/-- Core clocks per second (R379). -/
def coreHz : Nat := 1200000000

/-- n core clocks in the unit of instants. -/
def clks (n : Nat) : Nat := 640 * n

/-- Axis a. -/
def State.axis (s : State) (a : Nat) : Axis := s.mot.axes.getD a Axis.reset

/-- Axis a changed. -/
def State.updAxis (s : State) (a : Nat) (f : Axis → Axis) : State :=
  { s with mot := { s.mot with axes := upd s.mot.axes a f } }

/-- The grain of axis a in microsteps (R375). -/
def State.grain (s : State) (a : Nat) : Nat := 2 ^ (8 - s.p .MOT_USTEP a)

/-- MOT_POS_a. -/
def Axis.pos32 (x : Axis) : Nat := ofSigned 32 x.pos

/-- The value congruent to a 32-bit position nearest the axis's own (R375). -/
def Axis.resolve (x : Axis) (w : Nat) : Int := x.pos + toSigned 32 (ofSigned 32 ((w : Int) - x.pos))

/-- MOT_SPEED_a: present speed, microsteps/s, its fraction rounded either way (log entry 12). -/
def Axis.speed (x : Axis) : Int :=
  match x.st with
  | .moving | .jog | .homing => x.dir * openDiv 11 x.v 256
  | _ => 0

/-- The number of MOT_STATE_a (R401). -/
def AxisSt.code : AxisSt → Nat
  | .off => 0
  | .rest => 1
  | .moving => 2
  | .jog => 3
  | .geared => 4
  | .homing => 5
  | .fault => 6

/-- An entry of the motion log (R400). -/
def State.motLog (s : State) (a kind detail : Nat) (target : Int) : State :=
  if s.p .MOT_LOG_EN = 0 then s else
  let x := s.axis a
  s.serviceRecord 0x45 (leBytes 8 s.glint ++ leBytes 1 a ++ leBytes 1 kind ++ leBytes 2 detail ++ leBytes 4 x.pos32 ++
    leBytes 4 (ofSigned 32 x.speed) ++ leBytes 4 (ofSigned 32 target) ++ leBytes 8 s.seq.lineIndex)

/-! ### Current control (R376 to R378) -/

/-- T[i] of R376 for i = 0 to 255. -/
def sineTable : List Nat :=
  [0, 2, 3, 5, 6, 8, 9, 11, 13, 14, 16, 17, 19, 20, 22, 23, 25, 27, 28, 30, 31, 33, 34, 36, 37, 39, 41, 42, 44, 45, 47,
   48, 50, 51, 53, 54, 56, 57, 59, 60, 62, 63, 65, 67, 68, 70, 71, 73, 74, 76, 77, 79, 80, 81, 83, 84, 86, 87, 89, 90,
   92, 93, 95, 96] ++
  [98, 99, 100, 102, 103, 105, 106, 108, 109, 110, 112, 113, 115, 116, 117, 119, 120, 122, 123, 124, 126, 127, 128, 130,
   131, 132, 134, 135, 136, 138, 139, 140, 142, 143, 144, 146, 147, 148, 149, 151, 152, 153, 154, 156, 157, 158, 159,
   161, 162, 163, 164, 165, 167, 168, 169, 170, 171, 172, 174, 175, 176, 177, 178, 179] ++
  [180, 181, 183, 184, 185, 186, 187, 188, 189, 190, 191, 192, 193, 194, 195, 196, 197, 198, 199, 200, 201, 202, 203,
   204, 205, 206, 207, 208, 208, 209, 210, 211, 212, 213, 214, 215, 215, 216, 217, 218, 219, 220, 220, 221, 222, 223,
   223, 224, 225, 226, 226, 227, 228, 228, 229, 230, 231, 231, 232, 232, 233, 234, 234, 235] ++
  [236, 236, 237, 237, 238, 238, 239, 240, 240, 241, 241, 242, 242, 243, 243, 244, 244, 244, 245, 245, 246, 246, 247,
   247, 247, 248, 248, 248, 249, 249, 249, 250, 250, 250, 251, 251, 251, 252, 252, 252, 252, 252, 253, 253, 253, 253,
   253, 254, 254, 254, 254, 254, 254, 254, 255, 255, 255, 255, 255, 255, 255, 255, 255, 255]

/-- T[i], with T[256] taken as 255. -/
def sineAt (i : Nat) : Nat := sineTable.getD i 255

/-- Magnitude and sign (true negative) of a coil's setpoint at a position (R376); coil 1 leads by 256. -/
def coilSet (pos : Int) (coil : Nat) : Nat × Bool :=
  let th := ((pos + 256 * (coil : Int)) % 1024).toNat
  let q := th / 256
  let i := th % 256
  (if q % 2 = 0 then sineAt i else sineAt (256 - i), decide (2 ≤ q))

/-- The threshold code of a coil (R376). -/
def State.coilCode (s : State) (a coil : Nat) : Nat :=
  let x := s.axis a
  let i := if x.held then s.p .MOT_IHOLD a else s.p .MOT_IRUN a
  (i * (coilSet x.pos coil).1 + 127) / 255

/-- A coil changed. -/
def State.updCoil (s : State) (a coil : Nat) (f : Coil → Coil) : State :=
  s.updAxis a (fun x => { x with coils := upd x.coils coil f })

/-- A coil. -/
def State.coil (s : State) (a coil : Nat) : Coil := (s.axis a).coils.getD coil ⟨.hold, false, 0, 0, 0, 0⟩

/-- An on phase begins, or slow decay is held at threshold code 0 (R377). -/
def State.coilOn (s : State) (a coil : Nat) : State :=
  let neg := (coilSet (s.axis a).pos coil).2
  if s.coilCode a coil = 0 then s.updCoil a coil (fun c => { c with phase := .hold, neg := neg, since := s.now })
  else s.updCoil a coil (fun c => { c with phase := .on_, neg := neg, since := s.now })

/-- An off phase begins: fast decay first, then slow; fast: all of it in fast decay (R377). -/
def State.coilOff (s : State) (a coil : Nat) (fast : Bool) : State :=
  let t := 600 * s.p .MOT_TOFF a
  let f := if fast then t else (openRound 12 (t * (16 - s.p .MOT_SLOW a) : Nat) 16).toNat
  s.updCoil a coil (fun c => { c with phase := .off_, since := s.now, slowAt := s.now + clks f, endAt := s.now + clks t })

/-- The coils after a change of position or current: a change of sign ends the running phase, a coil at rest takes current again. -/
def State.coilsFollow (s : State) (a : Nat) : State :=
  (List.range 2).foldl (fun (s : State) i =>
    let c := s.coil a i
    let neg := (coilSet (s.axis a).pos i).2
    if c.phase = .hold then (if s.coilCode a i = 0 then s else s.coilOn a i)
    else if c.neg ≠ neg then (s.coilOff a i true).updCoil a i (fun c => { c with neg := neg })
    else s) s

/-- AX_a_PH of a coil (R374, R377). -/
def State.bridgeCode (s : State) (a coil : Nat) : Nat :=
  let x := s.axis a
  let c := s.coil a coil
  if x.st = .off ∨ x.st = .fault then 0 else
  match c.phase with
  | .on_ => if c.neg then 2 else 1
  | .off_ => if s.now < c.slowAt then 0 else 3
  | .hold => 3

/-- AX_a_EN (R373). -/
def State.axisEn (s : State) (a : Nat) : Bool := (s.axis a).st != .off && (s.axis a).st != .fault

/-! ### Coming to rest -/

/-- The axis at rest, its timer stopped. -/
def State.atRest (s : State) (a : Nat) : State :=
  s.updAxis a (fun x => { x with st := .rest, v := 0, rem := 0, next := none, after := none, lims := none, follows := none, followers := [], restAt := s.now })

/-- The end of a move or a stop: MOT_MOVE_DONE and a log entry (R384). -/
def State.moveEnd (s : State) (a : Nat) : State :=
  let t := (s.axis a).pos
  ((s.atRest a).raise .MOT_MOVE_DONE a).motLog a 2 0 t

/-- The end of homing (R392). -/
def State.homeEnd (s : State) (a code : Nat) : State :=
  let s := (s.atRest a).updAxis a (fun x => { x with home := none, homeResult := code })
  (s.raise .MOT_HOME_END (a + 16 * code)).motLog a 5 code (s.axis a).pos

/-- A shorted coil (R378). -/
def State.axisShort (s : State) (a coil : Nat) : State :=
  let homing := (s.axis a).st = .homing
  let s := s.updAxis a (fun x => { x with
    st := .fault, v := 0, rem := 0, next := none, after := none, gear := none, lims := none, follows := none, followers := [],
    coils := x.coils.map (fun c => { c with phase := .hold, early := 0 }) })
  let s := ((s.count .MOT_SHORTS a).raise .MOT_SHORT (a + 8 * coil)).motLog a 6 0 (s.axis a).pos
  if homing then
    let s := s.updAxis a (fun x => { x with home := none, homeResult := 4 })
    (s.raise .MOT_HOME_END (a + 64)).motLog a 5 4 (s.axis a).pos
  else s

/-! ### The profile (R379 to R381, R395, R396) -/

/-- The limits of an axis: speed, acceleration, deceleration, jerk. -/
def State.limOf (s : State) (a i : Nat) : Nat :=
  let own := match i with
    | 0 => s.p .MOT_VMAX a
    | 1 => s.p .MOT_ACCEL a
    | 2 => s.p .MOT_DECEL a
    | _ => s.p .MOT_JERK a
  match (s.axis a).lims with
  | some l => l.getD i own
  | none => own

/-- Whether an axis's move is paced (R395, R399). -/
def State.paced (s : State) (a : Nat) : Bool :=
  let x := s.axis a
  let held := match s.cor.cal with | some _ => s.p .COR_TILE_AXIS == a | none => false
  let one := fun b => (s.p .MOT_PACE_AXES).testBit b
  (x.st == .moving || x.st == .jog) && !held && (one a || x.followers.any (fun f => one f.axis))

/-- The target speed, 1/256 microstep/s (R379, R395, R396). -/
def State.targetV (s : State) (a : Nat) : Nat :=
  let x := s.axis a
  let prog := match x.goal, x.home with
    | _, some h => if h.backing then s.limOf a 0 else h.speed
    | .speed v, none => v.natAbs
    | _, none => s.limOf a 0
  let f := if s.paced a then (if s.mot.paceHeld then 0 else s.mot.paceF) else 256
  let capped := match s.mot.ceilVmax with
    | some m => if s.p .MOT_PACE_CEIL = 1 ∧ s.p .SEQ_POS_SRC = 8 + a ∧ (s.p .MOT_PACE_AXES).testBit a then min (prog * f) (256 * m) else prog * f
    | none => prog * f
  max (256 * s.p .MOT_VSTART a) capped

/-- The square root, rounded either way where it is not exact (log entry 12). -/
def openSqrt (site n : Nat) : Nat :=
  let r := isqrt n
  if r * r = n then r else if Config.roundsUp site n 1 then r + 1 else r

/-- The interval at a speed, core clocks (R379): at least 600. -/
def intervalOf (g v : Nat) : Nat := clampNat 600 4294967295 (openRound 13 (coreHz * g * 256 : Nat) (max v 1)).toNat

/-- The deceleration that acts: to rest at a stop's own, else MOT_DECEL_a. -/
def State.decelOf (s : State) (a : Nat) : Nat :=
  match (s.axis a).goal with
  | .halt d => d
  | _ => s.limOf a 2

/-- Whether the distance still to go lies within the stopping distance plus a grain (R379): exact. -/
def withinStop (rem : Int) (v vs d g : Nat) : Bool :=
  decide ((rem - g) * (2 * d * 65536 : Nat) ≤ (v * v : Nat) - ((vs * vs : Nat) : Int))

/-- The stopping distance at a speed, rounded up to a whole grain (R380, R383). -/
def State.stopDist (s : State) (a : Nat) : Nat :=
  let x := s.axis a
  let vs := 256 * s.p .MOT_VSTART a
  let d := max 1 (s.decelOf a)
  let g := s.grain a
  let dv := x.v - vs
  if s.p .MOT_PROFILE a = 0 then g * ceilDiv (x.v * x.v - vs * vs) (2 * d * 65536 * g)
  else
    let j := max 1 (s.limOf a 3)
    if 256 * d * d ≤ dv * j then
      -- (v + vs)/2 × (Δv/D + D/J), v in 1/256
      g * ceilDiv ((x.v + vs) * (dv * j + 256 * d * d)) (2 * 65536 * d * j * g)
    else
      -- (v + vs) × sqrt(Δv/J)
      let q := ceilDiv ((x.v + vs) * (x.v + vs) * dv) (16777216 * j * g * g)
      let r := isqrt q
      g * (if r * r = q then r else r + 1)

/-- Speed after a Burin event (R379, R380); an S-curve's value is open within its limits (log entry 14). -/
def State.nextV (s : State) (a : Nat) : Nat :=
  let x := s.axis a
  let vs := 256 * s.p .MOT_VSTART a
  let vt := s.targetV a
  let d := max 1 (s.decelOf a)
  let g := s.grain a
  let slow : Bool := match x.goal, x.after with
    | .halt _, _ => true
    | .target _, _ => withinStop x.rem x.v vs d g
    | .speed _, some _ => true
    | .speed _, none => false
  if s.p .MOT_PROFILE a = 1 ∧ x.home.isNone then
    clampNat vs (max vt x.v) (Config.sCurve [x.planV, vt, vs, s.limOf a 1, d, s.limOf a 3, (s.now - x.planAt) / 640, x.planRem.toNat])
  else if slow || decide (vt < x.v) then
    let w := if 2 * d * g * 65536 + vs * vs ≤ x.v * x.v then x.v * x.v - 2 * d * g * 65536 else vs * vs
    openSqrt 14 w
  else if x.v < vt then min vt (openSqrt 14 (x.v * x.v + 2 * s.limOf a 1 * g * 65536))
  else x.v

/-- The motion of an axis starts from rest: first interval at MOT_VSTART_a (R379), log entry MOVE_START. -/
def State.motionStart (s : State) (a : Nat) (st : AxisSt) (dir rem : Int) (goal : Goal) : State :=
  let vs := 256 * s.p .MOT_VSTART a
  let s := s.updAxis a (fun x => { x with
    st := st, dir := dir, rem := rem, v := vs, goal := goal, after := none, held := false,
    next := some (s.now + clks (intervalOf (s.grain a) vs)), planAt := s.now, planV := vs, planRem := rem })
  let s := s.motLog a 1 0 (match goal with | .target p => p | _ => (s.axis a).pos)
  let s := if s.paced a && s.mot.paceHeld then s.updAxis a (fun x => { x with next := none, v := 0 }) else s
  s.coilsFollow a

/-- Whether an axis runs a move or a jog in which the governor holds it at rest (R394). -/
def Axis.parked (x : Axis) : Bool := (x.st == .moving || x.st == .jog) && x.next.isNone && x.follows.isNone

/-- What an axis does: as its state says, and at rest where the governor holds it there. -/
def Axis.doing (x : Axis) : AxisSt := if x.parked then .rest else x.st

/-- Axes the governor held at rest go on, once it holds them no more (R394). -/
def State.unpark (s : State) : State :=
  (List.range 8).foldl (fun (s : State) a =>
    if (s.axis a).parked && !(s.paced a && s.mot.paceHeld) then
      let vs := 256 * s.p .MOT_VSTART a
      (s.updAxis a (fun x => { x with
        v := vs, next := some (s.now + clks (intervalOf (s.grain a) vs)), held := false, planAt := s.now, planV := vs, planRem := x.rem })).coilsFollow a
    else s) s

/-- A move ends for a lead axis and all that follow it. -/
def State.moveEndAll (s : State) (a : Nat) : State :=
  ((s.axis a).followers.foldl (fun (s : State) f => s.moveEnd f.axis) s).moveEnd a

/-- A move of an axis to a position, from rest or by a replan (R381 to R383): p_rev where a reversal is planned. -/
def State.moveTo (s : State) (a : Nat) (p : Int) : Option Int × State :=
  let x := s.axis a
  let d := p - x.pos
  match x.doing with
  | .moving | .jog =>
    let stop : Int := s.stopDist a
    let ahead := x.dir * d
    if stop < ahead then
      (none, s.updAxis a (fun y => { y with
        st := .moving, goal := .target p, after := none, rem := ahead, planAt := s.now, planV := y.v, planRem := ahead }))
    else
      let rev := x.pos + x.dir * stop
      (some rev, s.updAxis a (fun y => { y with
        st := .moving, goal := .target rev, after := some (.target p), rem := max stop (s.grain a), planAt := s.now, planV := y.v,
        planRem := stop }))
  | _ =>
    if d = 0 then (none, s.moveEnd a)
    else (none, s.motionStart a .moving (if d < 0 then -1 else 1) d.natAbs (.target p))

/-- A jog (R384). -/
def State.jogAt (s : State) (a : Nat) (v : Int) : State :=
  let x := s.axis a
  match x.doing with
  | .moving | .jog =>
    if v = 0 then s.updAxis a (fun y => { y with goal := .halt (s.limOf a 2), after := none })
    else if (v < 0) = (x.dir < 0) then
      s.updAxis a (fun y => { y with st := .jog, goal := .speed v, after := none, planAt := s.now, planV := y.v })
    else s.updAxis a (fun y => { y with st := .jog, goal := .speed v, after := some (.speed v), planAt := s.now, planV := y.v })
  | _ => if v = 0 then (if x.parked then s.moveEnd a else s) else s.motionStart a .jog (if v < 0 then -1 else 1) 0 (.speed v)

/-- An axis in motion decelerates to rest (R384, R388); a lead axis takes its followers along. -/
def State.haltAxis (s : State) (a d : Nat) : State :=
  if (s.axis a).parked then s.moveEndAll a
  else s.updAxis a (fun y => { y with goal := .halt d, after := none, planAt := s.now, planV := y.v })

/-- MOT_STOP on one axis (R384): it ends moves, jogs, homing and gearing. -/
def State.stopAxis (s : State) (a : Nat) (limit : Bool) : State :=
  let x := s.axis a
  let d := if limit then s.p .MOT_LIM_DECEL a else s.limOf a 2
  match x.st with
  | .moving | .jog =>
    match x.follows with
    | some l => s.haltAxis l (if limit then s.p .MOT_LIM_DECEL l else s.limOf l 2)
    | none => s.haltAxis a d
  | .homing => (s.haltAxis a d).updAxis a (fun y => { y with home := match y.home with | some h => some { h with ending := some 3 } | none => none })
  | .geared =>
    let s := s.updAxis a (fun y => { y with gear := none, st := .jog, goal := .halt d, after := none })
    if (s.axis a).next.isNone then s.moveEnd a else s
  | _ => s

/-! ### Interpolated moves (R385, R391) -/

/-- The lead of an interpolated move: the largest distance, on a tie the lowest axis. -/
def leadOf (ds : List (Nat × Int)) : Nat × Int :=
  ds.foldl (fun (b : Nat × Int) x => if b.2.natAbs < x.2.natAbs then x else b) (ds.headD (0, 0))

/-- An interpolated move starts: axes with their distances. -/
def State.interpolate (s : State) (ds : List (Nat × Int)) : State :=
  let l := leadOf ds
  let n := l.2.natAbs
  if n = 0 then ds.foldl (fun (s : State) x => s.moveEnd x.1) s else
  let others := ds.filter (fun x => x.1 != l.1)
  let lim := fun i => others.foldl (fun (m : Nat) (x : Nat × Int) => if x.2 = 0 then m else min m (openDiv 15 (s.limOf x.1 i * n : Nat) x.2.natAbs).toNat) (s.limOf l.1 i)
  let lims := (List.range 4).map lim
  let s := others.foldl (fun (s : State) (x : Nat × Int) => s.updAxis x.1 (fun (y : Axis) => { y with
    st := .moving, follows := some l.1, dir := (if x.2 < (0 : Int) then -1 else 1 : Int), goal := .target (y.pos + x.2), held := false })) s
  let s := s.updAxis l.1 (fun y => { y with
    lims := some lims, followers := others.map (fun x => ⟨x.1, x.2.natAbs, if x.2 < 0 then -1 else 1, 0, 0⟩) })
  s.motionStart l.1 .moving (if l.2 < 0 then -1 else 1) n (.target ((s.axis l.1).pos + l.2))

/-- A position of an axis recorded with its stamp: kept for 140 µs, and the last instant before (R249). -/
def keepHist (g : Nat) (hist : List (Nat × Int)) : List (Nat × Int) :=
  let young := hist.takeWhile (fun x => decide (g ≤ x.1 + 7168000))
  young ++ (hist.drop young.length).take 1

/-- The axis steps by n microsteps: position, history, coils. -/
def State.stepAxis (s : State) (a : Nat) (n : Int) : State :=
  let g := s.glint
  (s.updAxis a (fun y => { y with pos := y.pos + n, hist := (g, y.pos + n) :: keepHist g y.hist })).coilsFollow a

/-- One follower carried over some lead microsteps: its new accumulator and part, and the microsteps it moves (R385). -/
def followSteps (f : Follower) (lead n grain : Nat) : Follower × Nat :=
  let total := f.acc + f.dist * n
  let part := f.part + total / max 1 lead
  ({ f with acc := total % max 1 lead, part := part % grain }, grain * (part / grain))

/-- Every follower of a lead carried along (R385); lead is the lead axis's distance. -/
def State.carry (s : State) (a lead n : Nat) : State :=
  (s.axis a).followers.foldl (fun (s : State) f =>
    let r := followSteps f lead n (s.grain f.axis)
    let s := s.updAxis a (fun y => { y with followers := y.followers.map (fun x => if x.axis = f.axis then r.1 else x) })
    if r.2 = 0 then s else s.stepAxis f.axis (f.dir * (r.2 : Int))) s

/-! ### Homing (R392) -/

/-- An on-time of the coil with the larger setpoint enters the running full step. -/
def State.homeOnTime (s : State) (a coil t : Nat) : State :=
  s.updAxis a (fun x => match x.home with
    | some h =>
      if h.atSpeed && !h.backing && decide ((coilSet x.pos (1 - coil)).1 ≤ (coilSet x.pos coil).1) then
        { x with home := some { h with sum := h.sum + t, count := h.count + 1 } }
      else x
    | none => x)

/-- Whether a full step's mean on-time lies below MOT_STALL_LEVEL_a / 16 of the reference, the mean of the reference means. -/
def lowStep (level : Nat) (refs : List (Nat × Nat)) (sum count : Nat) : Bool :=
  let mean := fun (x : Nat × Nat) => ((x.1 : Int) : Rat) / ((x.2 : Int) : Rat)
  let ref := refs.foldl (fun a x => a + mean x) 0 / ((refs.length : Int) : Rat)
  count != 0 && decide (mean (sum, count) < ((level : Int) : Rat) / 16 * ref)

/-- A homing axis has moved n microsteps: full steps end, the reference is taken, a stall is judged. -/
def State.homeStep (s : State) (a n : Nat) : State :=
  match (s.axis a).home with
  | none => s
  | some h =>
    if h.backing ∨ h.ending.isSome then s else
    let x := s.axis a
    let h := { h with travelled := h.travelled + n, atSpeed := h.atSpeed || decide (256 * h.speed ≤ x.v) }
    let h := if h.atSpeed then { h with inStep := h.inStep + n } else h
    if h.inStep < 256 then
      let s := s.updAxis a (fun y => { y with home := some h })
      if h.maxTravel ≤ h.travelled then
        (s.haltAxis a (s.limOf a 2)).updAxis a (fun y => { y with home := some { h with ending := some 2 } })
      else s
    else
      let low := decide (4 ≤ h.refs.length) && lowStep (s.p .MOT_STALL_LEVEL a) h.refs h.sum h.count
      let h := { h with
        refs := if h.refs.length < 4 then h.refs ++ [(h.sum, max 1 h.count)] else h.refs,
        lows := if low then h.lows + 1 else 0, inStep := h.inStep - 256, sum := 0, count := 0 }
      if 2 ≤ h.lows then
        -- the stall: the timer stops, the position becomes the home position, and the axis backs off
        let s := s.updAxis a (fun y => { y with home := some { h with backing := true }, pos := h.home, v := 0, next := none })
        if h.backoff = 0 then s.homeEnd a 0
        else s.motionStart a .homing (-h.dir) h.backoff (.target (h.home - h.dir * h.backoff))
      else
        let s := s.updAxis a (fun y => { y with home := some h })
        if h.maxTravel ≤ h.travelled then
          (s.haltAxis a (s.limOf a 2)).updAxis a (fun y => { y with home := some { h with ending := some 2 } })
        else s

/-! ### The Burin event (R379) -/

/-- The axis comes to rest at the end of what it was doing: homing ends, a reversal follows, or the move ends. -/
def State.arrive (s : State) (a : Nat) : State :=
  let x := s.axis a
  match x.home with
  | some h => s.homeEnd a (h.ending.getD 0)
  | none =>
    match x.after with
    | some (.target p) =>
      let s := s.motLog a 3 0 x.pos
      let s := s.atRest a
      (s.moveTo a p).2
    | some (.speed v) =>
      let s := s.motLog a 3 0 x.pos
      let s := s.atRest a
      s.jogAt a v
    | _ => s.moveEndAll a

/-- An axis moves one grain (R379). -/
def State.burin (s : State) (a : Nat) : State :=
  let x := s.axis a
  let g := s.grain a
  let due := x.next.getD s.now
  let vs := 256 * s.p .MOT_VSTART a
  let lead := (x.planRem.toNat)
  let s := (s.stepAxis a (x.dir * g)).updAxis a (fun y => { y with rem := y.rem - g })
  let s := s.carry a lead g
  let s := s.homeStep a g
  let y := s.axis a
  if y.next.isNone ∨ y.next ≠ x.next then s else
  let done := match y.goal, y.after with
    | .target _, _ => decide (y.rem ≤ 0)
    | .halt _, _ => decide (y.v ≤ vs)
    | .speed _, some _ => decide (y.v ≤ vs)
    | .speed _, none => false
  if done then s.arrive a
  else if s.paced a && s.mot.paceHeld && decide (y.v ≤ vs) then s.updAxis a (fun y => { y with v := 0, next := none, restAt := s.now })
  else
  let v := s.nextV a
  s.updAxis a (fun y => { y with v := v, next := some (due + clks (intervalOf g v)) })

/-! ### Gearing (R386, R387) -/

/-- The slave position of a gear law at a master position, 1/65,536 microstep (R386, R387). -/
def Gear.slaveAt (g : Gear) (m : Int) : Int :=
  let d := m - g.base
  if d.natAbs < g.ramp then g.slave + g.ratioOld * d + openDiv 16 ((g.ratioNew - g.ratioOld) * d * d) (2 * g.ramp)
  else
    let r : Int := if d < 0 then -(g.ramp : Int) else g.ramp
    g.slave + openDiv 17 ((g.ratioOld + g.ratioNew) * r) 2 + g.ratioNew * (d - r)

/-- The ratio in effect at a master position. -/
def Gear.ratioAt (g : Gear) (m : Int) : Int :=
  let d := m - g.base
  if d.natAbs < g.ramp then g.ratioOld + openDiv 18 ((g.ratioNew - g.ratioOld) * d.natAbs) g.ramp else g.ratioNew

/-- The target of a geared axis (R386). -/
def State.gearTarget (s : State) (g : Gear) : Int := g.slaveAt (s.enc g.enc).pos / 65536

/-- The interval of a geared axis from the rate of change of its target over the last 10 µs, no faster than MOT_VMAX_a (R386). -/
def State.gearInterval (s : State) (a : Nat) (g : Gear) : Nat :=
  let then_ := s.encAt g.enc (s.glint - 512000) / 256
  let ds := (s.gearTarget g - g.slaveAt then_ / 65536).natAbs
  let fast := intervalOf (s.grain a) (256 * s.p .MOT_VMAX a)
  if ds = 0 then fast else max fast (clampNat 600 4294967295 (openRound 19 (12000 * s.grain a : Nat) ds).toNat)

/-- After a position sample: geared axes take their targets (R386). -/
def State.gearSample (s : State) (a : Nat) : State :=
  match (s.axis a).gear with
  | none => s
  | some g =>
    if (s.axis a).st ≠ .geared then s else
    let lag := (s.gearTarget g - (s.axis a).pos).natAbs
    let far := decide (4096 < lag)
    let s := s.updAxis a (fun y => { y with
      gear := some { g with lagging := far },
      next := match y.next with
        | some n => some n
        | none => if s.grain a ≤ lag then some (s.now + clks (s.gearInterval a g)) else none })
    if far && !g.lagging then (s.count .MOT_GEAR_LAGS a).raise .MOT_GEAR_LAG a else s

/-- A scheduled ratio change starts, once the master has crossed its count (R387). -/
def State.gearCross (s : State) (a : Nat) : State :=
  match (s.axis a).gear with
  | none => s
  | some g =>
    match g.change with
    | none => s
    | some c =>
      if (s.axis a).st ≠ .geared ∨ decide ((s.enc g.enc).pos < c.q) = c.side then s else
      let s := s.updAxis a (fun y => { y with
        gear := some { g with base := c.q, slave := g.slaveAt c.q, ratioOld := g.ratioAt c.q, ratioNew := c.ratio, ramp := c.ramp, change := none } })
      (s.raise .MOT_GEAR_CHANGED a).motLog a 7 0 (s.axis a).pos

/-- A Burin event of a geared axis. -/
def State.gearStep (s : State) (a : Nat) : State :=
  match (s.axis a).gear with
  | none => s
  | some g =>
    let due := (s.axis a).next.getD s.now
    let gr : Int := s.grain a
    let d := s.gearTarget g - (s.axis a).pos
    let dir : Int := if d < 0 then -1 else 1
    let s := if gr ≤ d.natAbs then (s.stepAxis a (dir * gr)).updAxis a (fun y => { y with dir := dir }) else s
    let left := (s.gearTarget g - (s.axis a).pos).natAbs
    let n := s.gearInterval a g
    s.updAxis a (fun y => { y with
      v := openDiv 20 (coreHz * 256 * s.grain a : Nat) n |>.toNat,
      next := if s.grain a ≤ left then some (due + clks n) else none })

/-! ### Limits (R388 to R391) -/

/-- The side an axis moves towards, if it moves: 0 positive, 1 negative. -/
def Axis.heading (x : Axis) : Option Nat :=
  match x.st with
  | .moving | .jog | .homing | .geared => if x.next.isSome ∨ x.follows.isSome then some (if x.dir < 0 then 1 else 0) else none
  | _ => none

/-- The deceleration of the lead under which a follower decelerates at its own limit (R391). -/
def State.leadDecel (s : State) (lead i : Nat) : Nat :=
  let x := s.axis lead
  match x.followers.find? (fun f => f.axis == i) with
  | some f => if f.dist = 0 then s.p .MOT_LIM_DECEL lead else (openDiv 21 (s.p .MOT_LIM_DECEL i * x.planRem.toNat : Nat) f.dist).toNat
  | none => s.p .MOT_LIM_DECEL lead

/-- A qualified limit (R388, R390, R391, R392). -/
def State.limitTrip (s : State) (a side : Nat) : State :=
  let x := s.axis a
  if x.latched.getD side false then
    (s.updAxis a (fun y => { y with quiet := upd y.quiet side (fun _ => s.now), input := upd y.input side (fun _ => true) })).count .MOT_LIM_CHATTER a
  else
    let s := s.updAxis a (fun y => { y with
      latched := upd y.latched side (fun _ => true), acked := upd y.acked side (fun _ => false),
      input := upd y.input side (fun _ => true), quiet := upd y.quiet side (fun _ => s.now) })
    let s := ((s.count .MOT_LIM_TRIPS a).raise .MOT_LIMIT (a + 8 * side)).motLog a 4 side x.pos
    if x.heading ≠ some side then s else
    match x.st with
    | .homing => (s.haltAxis a (s.p .MOT_LIM_DECEL a)).updAxis a (fun y => { y with
        home := match y.home with | some h => some { h with ending := some 1 } | none => none })
    | .geared => s.updAxis a (fun y => { y with gear := none, st := .jog, goal := .halt (s.p .MOT_LIM_DECEL a), after := none })
    | _ =>
      match x.follows with
      | some l => s.haltAxis l (s.leadDecel l a)
      | none => s.haltAxis a (s.p .MOT_LIM_DECEL a)

/-- A latch clears once its input has been quiet and it has been acknowledged (R390). -/
def State.limitClear (s : State) (a side : Nat) : State :=
  let x := s.axis a
  let quiet := !x.input.getD side false && decide (x.quiet.getD side 0 + ms (s.p .MOT_LIM_RELEASE a) ≤ s.now)
  if x.latched.getD side false && x.acked.getD side false && quiet then
    s.updAxis a (fun y => { y with latched := upd y.latched side (fun _ => false), acked := upd y.acked side (fun _ => false) })
  else s

/-! ### Pacing (R393 to R397) -/

/-- The queues the governor watches, ENABLED ones only (R393). -/
def State.watched (s : State) : List Nat :=
  ((List.range 64).filter (fun q => (s.p .MOT_PACE_SMASK (q / 32)).testBit (q % 32)) ++
   ((List.range 16).map (fun i => s.p .MOT_PACE_Q i)).filter (fun q => q != 0)).filter (fun q => (s.queue q).st == .enabled)

/-- F × 256 for a fill of credit / ring blocks (R393); all exact but the floor. -/
def paceFactor (low high fmin credit ring : Nat) : Nat :=
  if high * ring ≤ 256 * credit then 256
  else if low * ring < 256 * credit then fmin + (256 - fmin) * (256 * credit - low * ring) / ((high - low) * ring)
  else fmin

/-- The speed limit of R396 for an axis as position source; none without a grid. -/
def State.ceilAxis (s : State) : Option Nat :=
  let sm := s.seq.slotMin
  let sc := s.p .CAP_AXIS_SCALE
  if s.p .SEQ_POS_SRC < 8 ∨ sm = 0 ∨ sc = 0 ∨ s.p .CAP_GRID_PITCH = 0 ∨ !(s.p .MOT_PACE_AXES).testBit (s.p .SEQ_POS_SRC - 8) then none
  else some (98 * s.p .CAP_GRID_PITCH * 1000000000 * 65536 / (100 * 256 * sm * sc))

/-- One evaluation of the governor (R393 to R397). -/
def State.paceEval (s : State) : State :=
  let qs := s.watched.map (fun q => s.queue q)
  let low := s.p .MOT_PACE_LOW
  let f := qs.foldl (fun m q => min m (paceFactor low (s.p .MOT_PACE_HIGH) (s.p .MOT_PACE_FMIN) q.credit q.ring)) 256
  let src := s.p .SEQ_POS_SRC
  let sm := s.seq.slotMin
  let w := (s.enc src).speedW.natAbs
  -- 0.98 of the pitch per SEQ_SLOT_MIN against the window estimate, both in 16.16 counts per µs
  let past := s.p .MOT_PACE_CEIL == 1 && decide (src < 4) && sm != 0 && s.p .CAP_GRID_PITCH != 0 &&
    decide (98 * s.p .CAP_GRID_PITCH * 65536 * 1000 < 100 * 256 * sm * w)
  let f' := if past then 98 * s.p .CAP_GRID_PITCH * 65536 * 1000 * f / (100 * 256 * sm * w) else f
  let cap := if s.p .MOT_PACE_CEIL = 1 then s.ceilAxis else none
  let capped := match cap with
    | some m => let a := src - 8; decide (m < (match (s.axis a).goal with | .speed v => v.natAbs | _ => s.limOf a 0)) && s.paced a
    | none => false
  let limited := past || capped
  let starved := qs.any (fun q => decide (q.credit ≤ s.p .MOT_PACE_STOP))
  let full := qs.all (fun q => decide (low * q.ring < 256 * q.credit) && decide (s.p .MOT_PACE_STOP < q.credit))
  let held := if s.mot.paceHeld then !full else starved
  let was := s.mot.paceHeld
  let before := s.mot.ceilWas
  let s := { s with mot := { s.mot with paceF := f', ceilVmax := cap, paceHeld := held, paceDue := s.now + us 100, ceilWas := limited } }
  let s := if limited then
      let s := s.count .MOT_CEIL_ACTIVE
      if before then s else s.raise .MOT_CEILING
    else s
  let paced := (List.range 8).filter (fun a => (s.p .MOT_PACE_AXES).testBit a)
  let s := if held && !was then
      let s := (s.count .MOT_PACE_STOPS).raise .MOT_PACE_STOPPED
      paced.foldl (fun (s : State) a => s.motLog a 8 0 (s.axis a).pos) s
    else if was && !held then
      let s := s.raise .MOT_PACE_RESUMED
      paced.foldl (fun (s : State) a => s.motLog a 9 0 (s.axis a).pos) s
    else s
  let s := s.unpark
  let o := s.p .MOT_PACE_LOOP
  if o = 7 then s else
  let code := (openRound 22 ((64 + (if held then 0 else f')) * 65536 : Nat) 384).toNat
  s.setPars [⟨.AUX_LOOP_SET, o, code⟩]

/-- An axis is switched on or off by a commit (R401). -/
def State.axisEnabled (s : State) (a : Nat) : State :=
  if s.p .MOT_EN a = 1 then
    if (s.axis a).st = .off then
      let s := s.updAxis a (fun x => { x with st := .rest, restAt := s.now, held := false })
      (s.coilOn a 0).coilOn a 1
    else s
  else s.updAxis a (fun x => { Axis.reset with pos := x.pos, hist := x.hist, latched := x.latched, input := x.input, homeResult := x.homeResult })

end Sys2Proof.Machine
end

