-- ==== Sys2Proof/Machine/Colour.lean ====
section
/-! DEFINITION. Pixels of an image line with their side-band flags (R188, R244), and the colour transform (R279, R280). -/

namespace Sys2Proof.Machine

/-- Code and flags of a column in some segments; 0 and 0 where no lane covers it. -/
def segsPx (segs : List Seg) (col : Nat) : Nat × Nat :=
  match segs.find? (fun g => decide (g.col0 ≤ col) && decide (col < g.col0 + g.codes.length)) with
  | some g => (g.codes.getD (col - g.col0) 0, g.flags.getD (col - g.col0) 0)
  | none => (0, 0)

/-- Code and flags of phase p at a column; a phase the line lacks gives 0 (R342). -/
def ImgLine.px (l : ImgLine) (p col : Nat) : Nat × Nat := segsPx (l.phases.getD p []) col

/-- The flags of a column over all phases of the line. -/
def ImgLine.flagsAt (l : ImgLine) (col : Nat) : Nat := (List.range l.phases.length).foldl (fun f p => f ||| (l.px p col).2) 0

/-- F[i] of R280. -/
def labTable (i : Nat) : Int :=
  if 216 * 2048 < 24389 * i then (((icbrt (8 * (i * 2 ^ 37)) + 1) / 2 : Nat) : Int)
  else roundHalfUp (65536 * ((841 * 29 * (i : Int)) + 4 * 108 * 2048)) (108 * 2048 * 29)

/-- One row of the transform: the ratio at 2^-27 and its interpolated table value (R280). -/
def labRow (coeffs : List Int) (codes : List Nat) : Int :=
  let sum := (List.zip coeffs codes).foldl (fun a x => a + x.1 * (x.2 : Int)) 0
  let q := (clampInt 0 (2 ^ 28) (sum * 2 ^ 15 / 49152)).toNat
  let i := q / 65536
  if i = 4096 then labTable 4096 else labTable i + (labTable (i + 1) - labTable i) * ((q % 65536 : Nat) : Int) / 65536

/-- The three Lab bytes of a pixel from its phase codes and the three matrix rows (R280). -/
def labOf (rows : List (List Int)) (codes : List Nat) : Nat × Nat × Nat :=
  let f := fun r => labRow (rows.getD r []) codes
  let x := f 0
  let y := f 1
  let z := f 2
  let l := 116 * y - 16 * 65536
  ((clampInt 0 255 ((l * 255 + 50 * 65536) / (100 * 65536))).toNat,
   (clampInt 0 255 ((500 * (x - y) + 32768) / 65536 + 128)).toNat,
   (clampInt 0 255 ((200 * (y - z) + 32768) / 65536 + 128)).toNat)

/-- The matrix rows in effect on the image side (R279). -/
def State.matrix (s : State) : List (List Int) :=
  (List.range 3).map (fun r => (List.range 6).map (fun c => toSigned 16 (s.ip .CMP_M (6 * r + c))))

/-- The matrix of queue routing for an image line: with the writes of every waiting batch up to that line (R52, R279). -/
def State.matrixTo (s : State) (line : Nat) : List (List Int) :=
  let ws := s.imgQueue.flatMap (fun (b : ImgBatch) => if b.line ≤ line then b.writes.filter (fun w => w.par == .CMP_M) else [])
  ({ s with imgPar := parSets s.imgPar ws } : State).matrix

/-- The Lab bytes of a column of an image line. -/
def ImgLine.lab (rows : List (List Int)) (l : ImgLine) (col : Nat) : Nat × Nat × Nat :=
  labOf rows ((List.range l.phases.length).map (fun p => (l.px p col).1))

end Sys2Proof.Machine
end

