-- ==== Sys2Proof/Machine/QueueOps.lean ====
section
/-! DEFINITION. The queue engine and the history manager: footprints of drops (R338), region groups (R335), bands (R340 to R343),
flush and reset (R348 to R351), credits (R336, R337), wait windows (R345), the spill drain (R352, R353), history (R358 to R361)
and replay (R362 to R366). -/

namespace Sys2Proof.Machine

/-! ### Footprints (R338) -/

/-- UNREPORTED over lines and columns, naming the queue. -/
def State.unreported (s : State) (b : Branch) (q line n : Nat) (cols : Nat × Nat) (cause : Ev) (items : Nat) : State :=
  if n = 0 then s else s.covReport ⟨b, line, n, cols.1, cols.2, 5, q, cause.id, q % 65536, items⟩

/-- The event behind a refusal of admission. -/
def Admit.cause : Admit → Ev
  | .spillFull => .HQ_SPILL_FULL
  | _ => .HQ_DROP

/-- The footprints of discarded packets: a band's lines and columns, a record with the tiles after it, nothing for a tile alone or
    a service entry. -/
def State.footprints (s : State) (q : Nat) (cause : Ev) : List PktSpan → State
  | [] => s
  | p :: ps =>
    let s := match p.typ with
      | .band => (p.rows.reverse.zipIdx).foldl (fun (s : State) (r : (Nat × Nat) × Nat) =>
          s.unreported .streams q r.1.1 r.1.2 (p.col0, p.col1) cause (if r.2 = 0 then 1 else 0)) s
      | .record =>
        if q < 0x50 then s else
        s.unreported .regions q p.line0 (p.line1 + 1 - p.line0) s.devCols cause (1 + (ps.takeWhile (fun (x : PktSpan) => x.typ == PktType.tile)).length)
      | _ => s
    s.footprints q cause ps

/-- The open band of stream q. -/
def State.band (s : State) (q : Nat) : Option Band := Sparse.get s.hq.bands none q

/-- The open band of stream q set. -/
def State.setBand (s : State) (q : Nat) (b : Option Band) : State :=
  { s with hq := { s.hq with bands := Sparse.set s.hq.bands none q b } }

/-- The open band of stream q is lost: the lines still to come fall under R338. -/
def State.loseBand (s : State) (q : Nat) (cause : Ev) : State :=
  match s.band q with
  | some b => if b.refused.isNone then s.setBand q (some { b with refused := some cause }) else s
  | none => s

/-- Spans between two block indices. -/
def spansFrom (base lo : Nat) (spans : List PktSpan) : List PktSpan :=
  spans.filter (fun p => decide ((lo + 65536 - base) % 65536 ≤ (p.blk + 65536 - base) % 65536))

/-- The check of the two index copies before a use (R350): a queue whose copies differ is reset, alone. -/
def State.checkQueue (s : State) (q : Nat) : State :=
  let qq := s.queue q
  if !qq.split then s else
  let gone := spansFrom qq.cons qq.recPub qq.spans
  let s := s.resetQueue q
  (s.footprints q .QUEUE_FAULT gone).loseBand q .QUEUE_FAULT

/-! ### Region groups (R335) -/

/-- Blocks and pads that packets of the given lengths take one after another from a producer index on. -/
def Queue.groupNeed (q : Queue) (prod : Nat) : List Nat → Nat
  | [] => 0
  | len :: rest =>
    let need := pktBlocks len
    let pad := ({ q with prod := prod } : Queue).padFor need
    pad + need + q.groupNeed (prod + pad + need) rest

/-- Whether packets of the given lengths fit together. -/
def State.groupAdmits (s : State) (q : Nat) (lens : List Nat) : Admit :=
  let qq := s.queue q
  let need := qq.groupNeed qq.prod lens
  if qq.st ≠ .enabled ∨ qq.credit < need then .noCredit
  else if s.spills q && decide (s.arenaSize 2 < s.host.spillUsed + 256 * need) then .spillFull
  else .placed

/-- How many tiles go with the record: as many, the reference first to be removed, as fit; none where the record does not fit. -/
def State.tilesThatFit (s : State) (q recLen : Nat) (tileLens : List Nat) : Nat → Option Nat
  | 0 => if s.groupAdmits q [recLen] = .placed then some 0 else none
  | n + 1 => if s.groupAdmits q (recLen :: tileLens.take (n + 1)) = .placed then some (n + 1) else s.tilesThatFit q recLen tileLens n

/-- A blob's record, from the number of tiles that follow, and its tiles, from the record's sequence number: admitted together
    (R307, R335), or dropped whole (R338). -/
def State.regionGroup (s : State) (q source line0 line1 : Nat) (rec : Nat → List Byte) (tiles : List (Nat → List Byte)) : State :=
  let s := s.checkQueue q
  let lens := tiles.map (fun f => (f 0).length)
  let s := match s.tilesThatFit q (rec 0).length lens tiles.length with
    | none =>
      let why := s.groupAdmits q [(rec 0).length]
      let s := match why with
        | .spillFull => (List.range (1 + tiles.length)).foldl (fun (s : State) _ => s.countSpillDrop q) s
        | _ => s.countDrop q (1 + tiles.length)
      s.unreported .regions q line0 (line1 + 1 - line0) s.devCols why.cause (1 + tiles.length)
    | some n =>
      let lost := tiles.length - n
      let s := if lost = 0 then s else s.count .HQ_TILES_DROPPED 0 lost
      let seq := (s.queue q).seq
      let s := s.place q .record source line0 line1 s.devCols.1 s.devCols.2 1 lost (rec n)
      (tiles.take n).foldl (fun (s : State) (f : Nat → List Byte) => s.place q .tile source line0 line1 s.devCols.1 s.devCols.2 1 0 (f seq)) s
  s.covPass .regions line1

/-- Tiles without a record of their own (R312). -/
def State.tilesAlone (s : State) (q source line0 line1 : Nat) (tiles : List (List Byte)) : State :=
  tiles.foldl (fun (s : State) body =>
    let s := s.checkQueue q
    match s.admits q (pktBlocks body.length) with
    | .placed => s.place q .tile source line0 line1 s.devCols.1 s.devCols.2 1 0 body
    | .noCredit => (s.countDrop q 1).count .HQ_TILES_DROPPED
    | .spillFull => (s.countSpillDrop q).count .HQ_TILES_DROPPED) s

/-- A record that no region owns, to a queue of its own (R311): dropped like a region's record above the service range, with no
    blob lines to mark. -/
def State.recordTo (s : State) (q : Nat) (body : List Byte) : State :=
  let s := s.checkQueue q
  match s.admits q (pktBlocks body.length) with
  | .placed => s.place q .record q s.seq.lineIndex s.seq.lineIndex 0 0 1 0 body
  | .noCredit => s.countDrop q 1
  | .spillFull => s.countSpillDrop q

/-! ### Bands (R340 to R343) -/

/-- Set bits of a phase mask. -/
def phaseCount (mask : Nat) : Nat := (maskList 6 mask).length

/-- Stride of a band's line record (R342). -/
def bandStride (w fmt mask : Nat) (flagRows : Bool) : Nat :=
  let row := if fmt = 0 then 2 * w * phaseCount mask else 3 * w
  64 * ceilDiv (16 + row + (if flagRows then ceilDiv w 2 else 0)) 64

/-- Body length of a band (R342). -/
def bandLen (w fmt mask : Nat) (flagRows : Bool) (lines : Nat) : Nat := 64 + lines * bandStride w fmt mask flagRows

/-- Blocks a stream's bands need, from a parameter store (R343). -/
def streamNeed (m : Sparse Nat) (q : Nat) : Nat :=
  pktBlocks (bandLen (parGet m .HQ_STR_COL1 q + 1 - parGet m .HQ_STR_COL0 q) (parGet m .HQ_STR_FMT q) (parGet m .HQ_STR_PH q)
    (parGet m .HQ_STR_FLAGS q == 1) (parGet m .HQ_STR_LINES q))

/-- The descriptor of a band (R342); lines present as given. -/
def Band.descriptor (b : Band) (short : Bool) (present : Nat) : List Byte :=
  let n := if b.fmt = 0 then phaseCount b.phases else 3
  leBytes 4 b.number ++ leBytes 4 (3 + 16 * b.fmt + 256 * n + bitAt b.flagRows 12 + bitAt short 16) ++ leBytes 8 b.first ++
  leBytes 4 b.planned ++ leBytes 4 present ++ leBytes 4 b.col0 ++ leBytes 4 (b.col1 + 1 - b.col0) ++ leBytes 4 b.stride ++
  leBytes 4 b.phases ++ leBytes 24 0

/-- Bytes filled up with zeros to a length. -/
def padTo (n : Nat) (bs : List Byte) : List Byte := bs ++ List.replicate (n - bs.length) 0

/-- The line record of a band (R342). -/
def State.bandLine (s : State) (b : Band) (l : ImgLine) : List Byte :=
  let cols := (List.range (b.col1 + 1 - b.col0)).map (fun i => b.col0 + i)
  let phs := maskList 6 b.phases
  let fl := fun c => if b.fmt = 0 then phs.foldl (fun f p => f ||| (l.px p c).2) 0 else l.flagsAt c
  let any := fun bit => cols.any (fun c => (fl c).testBit bit)
  let rows := s.matrixTo l.line
  let row := if b.fmt = 0 then cols.flatMap (fun c => phs.flatMap (fun p => leBytes 2 (l.px p c).1))
    else cols.flatMap (fun c => let x := l.lab rows c; leBytes 1 x.1 ++ leBytes 1 x.2.1 ++ leBytes 1 x.2.2)
  let flags := if !b.flagRows then [] else
    (List.range (ceilDiv cols.length 2)).flatMap (fun i =>
      leBytes 1 (fl (b.col0 + 2 * i) % 16 + (if 2 * i + 1 < cols.length then 16 * (fl (b.col0 + 2 * i + 1) % 16) else 0)))
  padTo b.stride (leBytes 8 l.line ++
    leBytes 8 (ofSigned 40 l.x + bitAt (any 3) 40 + bitAt (any 2) 41) ++ row ++ flags)

/-- A line added to the runs of a band's lines. -/
def addRow (rows : List (Nat × Nat)) (line : Nat) : List (Nat × Nat) :=
  match rows with
  | [] => [(line, 1)]
  | (f, n) :: t => if f + n = line then (f, n + 1) :: t else if f + n = line + 1 then rows else (line, 1) :: rows

/-- Bytes of body now written, with the cut-through of R331: the packet counts as whole only once its tag is written. -/
def State.bandWritten (s : State) (q : Nat) (b : Band) (n : Nat) (done : Bool) : State :=
  let cut := 4096 * (s.queue q).cut
  let len := ((s.queue q).open_.find? (fun p => p.blk == b.blk)).elim 0 (fun p => p.len)
  let through := decide (cut ≠ 0) && decide (cut < len) && decide (cut ≤ n)
  let s := s.updQueue q (fun x => { x with
    open_ := x.open_.map (fun p => if p.blk = b.blk then { p with written := if done then len else min n (len - 1), line1 := b.last } else p),
    spans := x.spans.map (fun p => if p.blk = b.blk ∧ p.typ = .band then { p with line1 := b.last, rows := addRow p.rows b.last } else p) })
  let s := if done then s.pktWrite q b.blk 8 (leBytes 4 len)
    else if through then s.pktWrite q b.blk 8 (leBytes 4 (4096 * (n / 4096))) else s
  s.publish q

/-- A band completed: lines present, tag, bytes valid, publication (R331, R341). In the error state the tag is zeros and UNSIGNED
    is set (R329, R501). -/
def State.bandEnd (s : State) (q : Nat) : State :=
  match s.band q with
  | none => s
  | some b =>
    let s := s.setBand q none
    if b.refused.isSome then s else
    let len := bandLen (b.col1 + 1 - b.col0) b.fmt b.phases b.flagRows b.planned
    let desc := b.descriptor (decide (b.present < b.planned)) b.present
    let s := s.pktWrite q b.blk 64 desc
    let f := (b.header.getD 15 0).toNat
    let unsigned := f.testBit 0 && (f.testBit 1 || s.sec.mode == .error)
    let f' := f % 2 + 2 * bitNat unsigned + 4 * (f / 4)
    let hdr := b.header.take 8 ++ leBytes 4 len ++ (b.header.drop 12).take 3 ++ leBytes 1 f' ++ b.header.drop 16
    let body := padTo len (desc ++ b.body.drop 64)
    let s := if unsigned && !f.testBit 1 then (s.pktWrite q b.blk 15 (leBytes 1 f')).countUnsigned b.first else s
    let tag := if unsigned then List.replicate 16 0 else gmacTag (s.sec.gmacKey.getD []) b.handed q (hdr ++ body)
    let s := if f.testBit 0 then s.pktWrite q b.blk (64 + 16 * ceilDiv len 16) tag else s
    s.bandWritten q b len true

/-- A band started with its first line, or refused (R340). -/
def State.bandStart (s : State) (q : Nat) (l : ImgLine) : State :=
  let s := s.checkQueue q
  let col0 := s.ip .HQ_STR_COL0 q
  let col1 := s.ip .HQ_STR_COL1 q
  let fmt := s.ip .HQ_STR_FMT q
  let mask := s.ip .HQ_STR_PH q
  let fl := s.ip .HQ_STR_FLAGS q == 1
  let planned := s.ip .HQ_STR_LINES q
  let w := col1 + 1 - col0
  let len := bandLen w fmt mask fl planned
  let need := pktBlocks len
  let number := Sparse.get s.hq.bandNo 0 q
  let s := { s with hq := { s.hq with bandNo := Sparse.set s.hq.bandNo 0 q (number + 1) } }
  let b : Band := ⟨none, 0, l.line, l.line, 0, planned, col0, col1, mask, fmt, fl, bandStride w fmt mask fl, number, 0, [], []⟩
  match s.admits q need with
  | .placed =>
    let s := s.writePad q ((s.queue q).padFor need)
    let qq := s.queue q
    let tagged := s.tagged q .band
    let unsigned := tagged && s.sec.mode == .error
    let time := max s.glint (qq.handed + 1)
    let flags := bitAt tagged 0 + bitAt unsigned 1 + bitAt (qq.dropsBefore != 0) 2
    let hdr := pktHeader len qq.seq 0 q .band flags qq.dropsBefore 0 l.line time s.cap.runId s.cap.jobId
    let b := { b with blk := qq.prod, handed := time, header := hdr }
    let b := { b with body := b.descriptor false 0 }
    let s := s.takeSpill q qq.prod (256 * need)
    let s := s.pktWrite q qq.prod 0 hdr
    let s := s.pktWrite q qq.prod 64 b.body
    let s := s.updQueue q (fun x => { x with
      prod := (x.prod + need) % 65536, credit := x.credit - need, seq := nextSeq x.seq, dropsBefore := 0, dropRaised := false,
      handed := time, open_ := x.open_ ++ [⟨qq.prod, need, .band, len, 64, false, l.line, l.line, 1⟩],
      spans := x.spans ++ [⟨qq.prod, need, .band, l.line, l.line, col0, col1, []⟩] })
    let s := if unsigned then s.countUnsigned l.line else s
    s.setBand q (some b)
  | .noCredit => (s.countDrop q 1).setBand q (some { b with refused := some .HQ_DROP })
  | .spillFull => (s.countSpillDrop q).setBand q (some { b with refused := some .HQ_SPILL_FULL })

/-- One image line into stream q's open band, or lost with it (R340). -/
def State.streamLine (s : State) (q : Nat) (l : ImgLine) : State :=
  if s.ip .HQ_STR_EN q = 0 then s else
  let s := if (s.band q).isNone then s.bandStart q l else s
  match s.band q with
  | none => s
  | some b =>
    let s := match b.refused with
      | some why =>
        let s := s.unreported .streams q l.line 1 (b.col0, b.col1) why (if b.present = 0 then 1 else 0)
        s.setBand q (some { b with present := b.present + 1, last := l.line })
      | none =>
        let bytes := s.bandLine b l
        let n := 64 + b.present * b.stride
        let s := s.pktWrite q b.blk (64 + n) bytes
        let b := { b with present := b.present + 1, last := l.line, body := b.body ++ bytes }
        (s.setBand q (some b)).bandWritten q b (n + bytes.length) false
    match s.band q with
    | some b => if b.planned ≤ b.present then s.bandEnd q else s
    | none => s

/-- An image line to all streams (R340). -/
def State.streamsLine (s : State) (l : ImgLine) : State :=
  ((List.range 64).foldl (fun s q => s.streamLine q l) s).covPass .streams l.line

/-- Every open band ended, at run close (R341). -/
def State.bandsClose (s : State) : State := (List.range 64).foldl (fun s q => s.bandEnd q) s

/-- Bands that an image-side change closes short (R341): old is the image-side store before. -/
def State.bandsChanged (s : State) (old : Sparse Nat) : State :=
  let diff := fun (p : Par) (i : Nat) => parGet old p i != s.ip p i
  (List.range 64).foldl (fun s q =>
    if diff .SEQ_NUM_PHASES 0 || [Par.HQ_STR_EN, .HQ_STR_COL0, .HQ_STR_COL1, .HQ_STR_PH, .HQ_STR_FMT, .HQ_STR_FLAGS, .HQ_STR_LINES].any (fun p => diff p q)
    then s.bandEnd q else s) s

/-- Lab bands that a change of the colour matrix closes short at the line before `line` (R341). -/
def State.bandsRecoloured (s : State) (line : Nat) : State :=
  if s.imgQueue.all (fun (b : ImgBatch) => decide (line < b.line) || b.writes.all (fun w => w.par != .CMP_M)) then s else
  (List.range 64).foldl (fun s q => match s.band q with
    | some b => if b.fmt = 1 ∧ s.matrixTo b.last ≠ s.matrixTo line then s.bandEnd q else s
    | none => s) s

/-! ### Credits, the consumer index and the wait window -/

/-- The credit count clamped to the free blocks (R336). -/
def State.clampCredit (s : State) (q : Nat) : State :=
  let qq := s.queue q
  if qq.credit ≤ qq.free then s else
  let s := s.updQueue q (fun x => { x with credit := x.free })
  (s.count .HQ_CREDIT_OVER).raise .HQ_CREDIT_OVER q

/-- A credit grant (R336). -/
def State.grantWrite (s : State) (q n : Nat) : State :=
  let s := s.checkQueue q
  (s.updQueue q (fun x => { x with credit := x.credit + n })).clampCredit q

/-- A write of the consumer index (R337); released blocks go back as credit under autogrant (R336), and the stale watch rearms
    (R347). -/
def State.consWrite (s : State) (q v : Nat) : State :=
  let s := s.checkQueue q
  let qq := s.queue q
  let step := (v + 65536 - qq.cons) % 65536
  if (qq.pub + 65536 - qq.cons) % 65536 < step then s.count .HQ_CONS_BAD
  else if step = 0 then s else
  let s := s.updQueue q (fun x => { x with
    cons := v, credit := if x.autogrant then x.credit + step else x.credit,
    spans := spansFrom x.cons v x.spans,
    staleSince := if x.pub = v then none else some s.now, staleFired := false })
  if qq.autogrant then s.clampCredit q else s

/-- The wait-window word (R345). -/
def Queue.waitWord (q : Queue) (busy : Bool) : Nat :=
  q.pub + bitAt q.isEmpty 16 + bitAt q.flushed 17 + bitAt q.fault 18 + bitAt (q.st == .disabled) 19 + bitAt busy 20

/-- A wait-window read answered; the read clears FLUSHED and FAULT. -/
def State.waitAnswer (s : State) (q : Nat) (busy : Bool) : State :=
  let w := (s.queue q).waitWord busy
  let s := s.updQueue q (fun x => { x with flushed := false, fault := false })
  { s with host := { s.host with lastRead := ⟨0x500000 + 4 * q, leBytes 4 w, false⟩ } }

/-! ### Flush and disable (R348, R349) -/

/-- The flush: discarded packets and the state after. -/
def State.flushQueue (s : State) (q : Nat) : Nat × State :=
  let s := s.checkQueue q
  let qq := s.queue q
  let gone := qq.spans
  let s := (s.dropSpilled q).waitsDue q
  let s := s.loseBand q .HQ_FLUSHED
  let s := s.updQueue q (fun x => { x with
    prod := x.cons, pub := x.cons, recPub := x.cons, credit := x.ring, open_ := [], spans := [], flushed := true,
    staleSince := none, staleFired := false })
  let s := if gone.isEmpty then s else s.count .HQ_FLUSHED_PACKETS 0 gone.length
  let s := s.footprints q .HQ_FLUSHED gone
  (gone.length, s.raise .HQ_FLUSHED q)

/-! ### The link spill (R352, R353) -/

/-- One waiting write carried to host memory. -/
def State.drainItem (s : State) : SpillItem → State
  | .packet q blk _ ws _ =>
    let qq := s.queue q
    ws.foldl (fun s w => s.hostWrite (qq.base + 256 * (blk % qq.ring) + w.1) w.2) s
  | .entry a bs _ => s.hostWrite a bs

/-- The spill area drained in order, its packets published, and HQ_SPILL_DRAINED raised. -/
def State.drainSpill (s : State) : State :=
  if s.host.spill.isEmpty && !s.hq.spillRaised then s else
  let items := s.host.spill
  let qs := (items.filterMap (fun i => match i with | .packet q _ _ _ _ => some q | .entry .. => none)).eraseDups
  let s := { s with
                    host := { s.host with spill := [], spillUsed := 0 },
                    hq := { s.hq with spillRaised := false, spillFullRaised := false, draining := false } }
  let s := items.foldl (fun s i => s.drainItem i) s
  let s := qs.foldl (fun s q => s.publish q) s
  s.raise .HQ_SPILL_DRAINED

/-! ### History (R358 to R361) -/

/-- Index slots of the history partition (R358, R360). -/
def State.histSlots (s : State) : Nat := s.arenaSize 4 / 512 / 16

/-- The byte offset of the data ring, and its length in 64-byte units. -/
def State.histData (s : State) : Nat × Nat := (s.arenaByte 4 + s.arenaSize 4 / 512, (s.arenaSize 4 - s.arenaSize 4 / 512) / 64)

/-- The 12-bit sample of a corrected code (R359). -/
def histSample (v : Nat) : Nat := min 4095 ((v + 8) / 16)

/-- Samples packed two to three bytes (R359). -/
def packSamples : List Nat → List Byte
  | a :: b :: rest => leBytes 1 a ++ leBytes 1 (a / 256 + 16 * (b % 16)) ++ leBytes 1 (b / 16) ++ packSamples rest
  | [a] => leBytes 1 a ++ leBytes 1 (a / 256)
  | [] => []

/-- Samples of columns of an image line, column by column, phases upwards (R359). -/
def ImgLine.samples (l : ImgLine) (col0 w : Nat) : List Nat :=
  (List.range w).flatMap (fun i => (List.range l.phases.length).map (fun p => histSample (l.px p (col0 + i)).1))

/-- The lanes with INTERPOLATED pixels in a line, bit 8t + l (R359). -/
def ImgLine.interpLanes (l : ImgLine) : Nat :=
  maskOf ((List.range 128).filter (fun n => l.phases.any (fun segs => segs.any (fun g =>
    8 * g.tile + g.lane == n && g.flags.any (fun f => f.testBit 3)))))

/-- A line tag (R359) for some columns and record length. -/
def lineTag (line stamp : Nat) (x : Int) (run job lanes phases : Nat) (off : Bool) (recLen col0 w : Nat) : List Byte :=
  leBytes 8 line ++ leBytes 8 stamp ++ leBytes 8 (ofSigned 64 x) ++ leBytes 4 run ++ leBytes 4 job ++ leBytes 16 lanes ++
  leBytes 1 phases ++ leBytes 1 (bitNat off) ++ leBytes 2 0 ++ leBytes 4 recLen ++ leBytes 4 col0 ++ leBytes 4 w

/-- Bytes to the data ring in 64-byte units from a unit offset, wrapping. -/
def State.histWrite (s : State) : Nat → Nat → List Byte → State
  | 0, _, _ => s
  | n + 1, off, bs =>
    let d := s.histData
    (s.dramWrite (d.1 + 64 * (off % d.2)) (bs.take 64)).histWrite n (off + 1) (bs.drop 64)

/-- Units of the data ring from a unit offset, wrapping, as bytes. -/
def State.histRead (s : State) (off n : Nat) : List Byte :=
  (List.range n).flatMap (fun i => Sparse.bytes s.dram (s.histData.1 + 64 * ((off + i) % s.histData.2)) 64)

/-- A retained line leaves the history; pending replays that still need it lose it (R365). -/
def State.retire (s : State) (h : HistLine) : State :=
  let hit := s.hq.replays.any (fun r => r.run == h.run && r.lines.contains h.line)
  let s := { s with hq := { s.hq with
      hist := s.hq.hist.filter (fun x => x != h),
      replays := s.hq.replays.map (fun r => if r.run = h.run ∧ h.line ∈ r.lines then
        { r with lines := r.lines.filter (fun k => k != h.line), lost := r.lost + 1 } else r) } }
  if hit then (s.count .HIS_REPLAY_LOST).raise .HIS_REPLAY_PARTIAL h.line else s

/-- Oldest lines retired until there is room for one of n units (R360). -/
def State.makeRoom (s : State) (n : Nat) : Nat → State
  | 0 => s
  | fuel + 1 =>
    let used := s.hq.hist.foldl (fun a h => a + h.units) 0
    if used + n ≤ s.histData.2 ∧ s.hq.hist.length < s.histSlots then s else
    match s.hq.hist with
    | [] => s
    | h :: _ => (s.retire h).makeRoom n fuel

/-- The index entry of a line written at its slot (R360). -/
def State.histIndex (s : State) (h : HistLine) : State :=
  s.dramWrite (s.arenaByte 4 + 16 * h.slot) (leBytes 8 h.line ++ leBytes 5 h.off ++ leBytes 2 h.units ++ leBytes 1 (bitNat h.hole))

/-- The history record of an emitted line (R358, R359). -/
def State.histLine (s : State) (l : ImgLine) (job : Nat) : State :=
  if s.p .HIS_HIST = 0 then s else
  let cols := s.devCols
  let w := if s.lanesOn.isEmpty then 0 else cols.2 + 1 - cols.1
  let row := packSamples (l.samples cols.1 w)
  let units := 1 + ceilDiv row.length 64
  let off := s.p .CAP_RESAMPLE == 0 || s.p .SEQ_POS_SRC == 4
  let bytes := lineTag l.line l.stamp l.x s.cap.runId job l.interpLanes l.phases.length off (64 * units) cols.1 w ++
    padTo (64 * (units - 1)) row
  let s := s.makeRoom units s.hq.hist.length
  let h : HistLine := ⟨l.line, s.hq.histNext % s.histData.2, units, false, l.x, s.cap.runCount, l.phases.length, cols.1, w,
    s.hq.histCount % s.histSlots⟩
  let s := s.histWrite units s.hq.histNext bytes
  let s := s.histIndex h
  let s := { s with hq := { s.hq with
      hist := s.hq.hist ++ [h], histNext := (s.hq.histNext + units) % s.histData.2, histCount := s.hq.histCount + 1 } }
  s.count .HIS_LINES_WRITTEN

/-- A retained line becomes a hole (R361). -/
def State.histHole (s : State) (line : Nat) : State :=
  match s.hq.hist.find? (fun h => h.line == line && h.run == s.cap.runCount) with
  | none => s
  | some h =>
    let s := { s with hq := { s.hq with hist := s.hq.hist.map (fun x => if x = h then { x with hole := true } else x) } }
    ((s.histIndex { h with hole := true }).count .HIS_LINES_LOST).raise .HIS_HOLE line

/-- HIS_OLDEST and HIS_NEWEST (R360). -/
def State.histEnds (s : State) : Nat × Nat := ((s.hq.hist.head?).elim 0 (fun h => h.line), (s.hq.hist.getLast?).elim 0 (fun h => h.line))

/-- Sample i of a packed row (R359). -/
def sampleAt (row : List Byte) (i : Nat) : Nat :=
  let b := fun j => (row.getD j 0).toNat
  let k := 3 * (i / 2)
  if i % 2 = 0 then b k + 256 * (b (k + 1) % 16) else b (k + 1) / 16 + 16 * b (k + 2)

/-- The samples of some columns of a retained line, read back, column by column. -/
def State.histRow (s : State) (h : HistLine) (col0 w : Nat) : List Nat :=
  let row := (s.histRead h.off h.units).drop 64
  (List.range w).flatMap (fun i => (List.range h.phases).map (fun p => sampleAt row ((col0 + i - h.col0) * h.phases + p)))

/-! ### Replay (R362 to R366) -/

/-- The record of one copied line: its tag for the copy's columns, then the cropped row, padded to 64 bytes (R364). -/
def State.copyLine (s : State) (h : HistLine) (fmt col0 col1 : Nat) : List Byte :=
  let w := col1 + 1 - col0
  let samples := s.histRow h col0 w
  let row := if fmt = 0 then packSamples samples else samples.flatMap (fun x => leBytes 2 (16 * x))
  let units := 1 + ceilDiv row.length 64
  let tag := s.histRead h.off 1
  tag.take 52 ++ leBytes 4 (64 * units) ++ leBytes 4 col0 ++ leBytes 4 w ++ padTo (64 * (units - 1)) row

/-- Line records copied until the buffer is full: lines copied, their bytes, whether it was full (R364). -/
def State.copyLines (s : State) (fmt col0 col1 room : Nat) : List HistLine → Nat × List Byte × Bool
  | [] => (0, [], false)
  | h :: hs =>
    let b := s.copyLine h fmt col0 col1
    if room < b.length then (0, [], true) else
    let r := s.copyLines fmt col0 col1 (room - b.length) hs
    (r.1 + 1, b ++ r.2.1, r.2.2)

/-- A copy-mode replay carried out (R364, R365): the result words and the final status. -/
def State.copyReplay (s : State) (r : Replay) : State :=
  let all := s.hq.hist.filter (fun h => h.run == r.run && r.lines.contains h.line && !h.hole)
  let hs := if s.hlt.clocks.getD 4 true then all else []
  let c := s.copyLines r.fmt r.col0 r.col1 (r.size - 64) hs
  let full := c.2.2 || decide (r.size < 64)
  let run := match hs with
    | h :: _ => ofLe (((s.histRead h.off 1).drop 24).take 4)
    | [] => s.cap.runId
  let hdr := leBytes 4 0x31504552 ++ leBytes 2 1 ++ leBytes 2 r.fmt ++ leBytes 4 run ++ leBytes 4 c.1 ++ leBytes 4 r.col0 ++
    leBytes 4 (r.col1 + 1 - r.col0) ++ leBytes 4 (64 + c.2.1.length) ++ leBytes 36 0
  let out := if r.size < 64 then [] else hdr ++ c.2.1
  let s := s.hostWrite r.addr out
  let s := { s with hq := { s.hq with replays := s.hq.replays.filter (fun x => x.handle != r.handle) } }
  let first := (hs.head?).elim 0 (fun h => h.line)
  s.reply r.cid (if full || r.lost ≠ 0 then 3 else 0) 0
    (Word.ofNat64 first ++ [w32 c.1, w32 r.lost, w32 (r.holes + (all.length - hs.length)), w32 out.length])

end Sys2Proof.Machine
end

