-- ==== Sys2Proof/Machine/CapOps.lean ====
section
/-! DEFINITION. Capture: the extended position and the grid (R230 to R236, R249), tags (R237, R238), the grid resampler (R239 to
R245), the emission of image lines (R241, R248), and the sealing of the coverage map (R260 to R266). -/

namespace Sys2Proof.Machine

/-! ### Position of SEQ_POS_SRC -/

/-- The position of SEQ_POS_SRC at a glint stamp since boot, 1/256 count (R94, R249); 0 for NONE. -/
def State.srcAt (s : State) (stamp : Nat) : Int :=
  let src := s.p .SEQ_POS_SRC
  if s.member then s.streamAt stamp
  else if src < 4 then s.encAt src stamp
  else if 8 ≤ src then
    let x := s.axis (src - 8)
    let m := if x.hist.isEmpty then 256 * x.pos else posAtFrom x.hist stamp false none
    openDiv 23 (m * s.p .CAP_AXIS_SCALE) 65536
  else 0

/-- The present position of SEQ_POS_SRC, 1/256 count. -/
def State.srcNow (s : State) : Int :=
  let src := s.p .SEQ_POS_SRC
  if s.member then s.streamAt s.glint
  else if src < 4 then 256 * (s.enc src).pos
  else if 8 ≤ src then openDiv 23 ((s.axis (src - 8)).pos * s.p .CAP_AXIS_SCALE) 256
  else 0

/-- What is taken from a position since boot to give the extended position: the extension starts from the unsigned 32-bit count
    (R83, R231). -/
def State.freshBase (s : State) : Int := 2 ^ 40 * (s.srcNow / 2 ^ 40)

/-- The extended position, 1/256 count (R231). -/
def State.extNow (s : State) : Int := s.srcNow - s.cap.extBase

/-- The extended position at a stamp. -/
def State.extAt (s : State) (stamp : Nat) : Int := s.srcAt stamp - s.cap.extBase

/-- G(k), 1/256 count (R230). -/
def State.target (s : State) (k : Int) : Int := s.cap.g0 + k * s.p .CAP_GRID_PITCH

/-- G0 under CAP_ORIGIN_MODE, for an extended position (R232). -/
def State.originFor (s : State) (ext : Int) : Int :=
  if s.p .CAP_ORIGIN_MODE = 0 then ext + s.p .CAP_GRID_PITCH
  else ext + (256 * (s.p .CAP_ORIGIN : Int) - ext) % 2 ^ 40

/-- The extended value of a 32-bit count nearest the present position, 1/256 count (R235). -/
def State.resolvePos (s : State) (q : Nat) : Int :=
  let cur := s.extNow / 256
  256 * (cur + toSigned 32 (ofSigned 32 ((q : Int) - cur)))

/-- The smallest index whose target lies at or above a position (R235); none without a pitch. -/
def State.indexAt (s : State) (pos : Int) : Option Nat :=
  let pitch := s.p .CAP_GRID_PITCH
  if pitch = 0 then none else some (-((s.cap.g0 - pos) / pitch)).toNat

/-- The position of the tick with an index (R33, R234, R236): its grid target, the latched position, or the index times the pitch. -/
def State.tickX (s : State) (k : Nat) : Int :=
  if s.p .SEQ_POS_SRC = 4 then (k : Int) * s.p .CAP_GRID_PITCH
  else if s.p .SEQ_TICK_SRC = 0 then s.target k
  else s.extNow

/-- Whether lines are slot-true (R245). -/
def State.slotTrue (s : State) : Bool := s.p .CAP_RESAMPLE == 0 || s.p .SEQ_POS_SRC == 4

/-! ### Sub-lines (R237, R238) -/

/-- The tag of phase p of the running slot (R237). -/
def State.rawTag (s : State) (p openAt transfer : Nat) (x : Int) : Int :=
  if s.p .SEQ_POS_SRC = 4 then x else s.extAt (s.glintAt (s.centroid2 p openAt transfer / 2))

/-- A tag below the previous tag of its phase gives way to it, counted and reported (R238). -/
def State.takeTag (s : State) (p : Nat) (tag : Int) : Int × State :=
  let prev := s.cap.prevTags.getD p none
  let back := match prev with | some u => decide (tag < u) | none => false
  let u := if back then prev.getD tag else tag
  let s := { s with cap := { s.cap with prevTags := upd s.cap.prevTags p (fun _ => some u) } }
  if !back then (u, s) else
  let s := s.count .CAP_TAGS_CLAMPED
  if s.cap.tagRaised then (u, s) else
  let s := s.raise .CAP_TAG_CLAMPED
  (u, { s with cap := { s.cap with tagRaised := true } })

/-- A sub-line enters the resample buffer. -/
def State.addSubLine (s : State) (u : SubLine) : State :=
  { s with cap := { s.cap with
      buffer := s.cap.buffer ++ [u],
      lineRecs := s.cap.lineRecs.map (fun r => if r.line = u.line then { r with read := r.read + 1 } else r) } }

/-- Columns of a captured line that other rules keep from comparison. -/
def State.skipCols (s : State) (line : Nat) (cols : Nat × Nat) : State :=
  { s with cap := { s.cap with lineRecs := s.cap.lineRecs.map (fun r =>
      if r.line = line ∧ !r.skip.contains cols then { r with skip := r.skip ++ [cols] } else r) } }

/-! ### The grid resampler (R239 to R245) -/

/-- A lane's part of a sub-line. -/
def SubLine.laneOf (u : SubLine) (t l : Nat) : Option LaneSub := u.lanes.find? (fun x => x.seg.tile == t && x.seg.lane == l)

/-- Whether phase p of line k carries no data for a lane that is or was BLIND (R180, R244). -/
def State.blindAt (s : State) (t l k p : Nat) : Bool :=
  (s.lane (9 * t + l)).blinds.any (fun b =>
    (decide (b.1 < k) || (b.1 == k && decide (b.2.1 ≤ p))) && (match b.2.2 with | none => true | some e => decide (k < e)))

/-- The tags and lane parts of a lane in sub-lines, those below a position and those at or beyond it. -/
def tapsOf (subs : List SubLine) (t l : Nat) (x : Int) : List (Int × LaneSub) × List (Int × LaneSub) :=
  let all := subs.filterMap (fun u => (u.laneOf t l).map (fun a => (u.tag, a)))
  (all.filter (fun a => decide (a.1 < x)), all.filter (fun a => decide (x ≤ a.1)))

/-- The last two of a list, in order. -/
def lastTwo {α : Type} (l : List α) : List α := l.drop (l.length - 2)

/-- The weights w0 to w3 at 2^-14 of the cubic branch of R240 for t at 2^-16. -/
def cubicWeights (t : Int) : List Int :=
  let w0 := roundHalfUp (-(t * t * t) + 2 * t * t * 65536 - t * 2 ^ 32) (2 ^ 35)
  let w2 := roundHalfUp (-3 * (t * t * t) + 4 * t * t * 65536 + t * 2 ^ 32) (2 ^ 35)
  let w3 := roundHalfUp (t * t * t - t * t * 65536) (2 ^ 35)
  [w0, 16384 - w0 - w2 - w3, w2, w3]

/-- The weights of the linear kernel. -/
def linearWeights (t : Int) : List Int :=
  let w2 := roundHalfUp t 4
  [0, 16384 - w2, w2, 0]

/-- Whether the spacings of four tags are even enough for the cubic branch (R240). -/
def evenTags (u0 u1 u2 u3 : Int) : Bool :=
  let h := u2 - u1
  decide (h ≤ 2 * (u1 - u0)) && decide (u1 - u0 ≤ 2 * h) && decide (h ≤ 2 * (u3 - u2)) && decide (u3 - u2 ≤ 2 * h)

/-- A weighted tap. -/
abbrev Tap := Int × LaneSub

/-- The taps with their weights, and whether the kernel is linear between two taps (R240, R242). -/
def kernelTaps (below above : List (Int × LaneSub)) (x : Int) : List Tap × Bool :=
  match lastTwo below, above.take 2 with
  | [a, b], [c, d] =>
    let t := (x - b.1) * 65536 / (c.1 - b.1)
    let even := evenTags a.1 b.1 c.1 d.1
    (List.zip (if even then cubicWeights t else linearWeights t) [a.2, b.2, c.2, d.2], !even)
  | [], c :: _ => ([(16384, c.2)], false)
  | bs, [] => ((bs.getLast?.map (fun b => ((16384 : Int), b.2))).toList, false)
  | bs, c :: _ =>
    match bs.getLast? with
    | some b => (List.zip ((linearWeights ((x - b.1) * 65536 / (c.1 - b.1))).drop 1) [b.2, c.2], true)
    | none => ([(16384, c.2)], false)

/-- Code and flags of column i from its taps (R240, R244). -/
def tapPixel (taps : List Tap) (interp : Bool) (i : Nat) : Nat × Nat :=
  let sum := taps.foldl (fun (a : Int) (w : Tap) => a + w.1 * (w.2.seg.codes.getD i 0 : Nat)) 0
  let flags := taps.foldl (fun (f : Nat) (w : Tap) => if w.1 = 0 then f else f ||| w.2.seg.flags.getD i 0) 0
  ((clampInt 0 65535 (roundHalfUp sum 16384)).toNat, flags ||| bitAt interp 3)

/-- What the resampler makes of one lane and phase: its segment, whether a lost or BLIND sub-line was among its taps with the detail
    of that failure, whether the kernel was linear, and whether the lane is BLIND there. -/
structure LaneOutput where
  seg : Seg
  interp : Option Nat
  linear : Bool
  blind : Bool
deriving DecidableEq, Repr

/-- The segment of the last emitted line for a lane and phase. -/
def State.lastSeg (s : State) (t l p : Nat) : Option Seg :=
  (s.cap.lastSegs.getD p []).find? (fun g => g.tile == t && g.lane == l)

/-- A lane's columns in phase p of a line where no tap is there: the last emitted line, or zeros (R242, R245). -/
def State.heldSeg (s : State) (own : Seg) (p : Nat) (interp : Bool) : Seg :=
  let n := own.codes.length
  match s.lastSeg own.tile own.lane p with
  | some g => { own with codes := fitList n 0 g.codes, flags := (fitList n 0 g.flags).map (fun f => f % 8 + bitAt interp 3) }
  | none => { own with codes := List.replicate n 0, flags := List.replicate n (bitAt interp 3) }

/-- One lane and phase of image line r (R239 to R245). -/
def State.laneOutput (s : State) (r : LineRec) (p : Nat) (own : LaneSub) : LaneOutput :=
  let t := own.seg.tile
  let l := own.seg.lane
  let n := own.seg.codes.length
  if s.blindAt t l r.line p then
    ⟨{ own.seg with codes := List.replicate n 0, flags := List.replicate n 0 }, none, false, true⟩
  else if s.slotTrue then
    if own.lost ∨ own.blind then ⟨s.heldSeg own.seg p true, some own.cause, false, false⟩ else ⟨own.seg, none, false, false⟩
  else
    let all := tapsOf (s.cap.buffer.filter (fun u => u.phase == p)) t l r.x
    let bad := (lastTwo all.1 ++ all.2.take 2).find? (fun a => a.2.lost || a.2.blind)
    let ok := fun (a : Int × LaneSub) => !a.2.lost && !a.2.blind
    let k := kernelTaps (all.1.filter ok) (all.2.filter ok) r.x
    let interp := bad.map (fun a => a.2.cause)
    match k.1 with
    | [] => ⟨s.heldSeg own.seg p interp.isSome, interp, false, false⟩
    | taps =>
      let px := (List.range n).map (tapPixel taps interp.isSome)
      ⟨{ own.seg with codes := px.map (·.1), flags := px.map (·.2) }, interp, k.2, false⟩

/-- Whether image line r can be emitted (R241, R245). -/
def State.lineReady (s : State) (r : LineRec) : Bool :=
  if s.slotTrue then r.read == r.phases
  else (List.range r.phases).all (fun p =>
    decide (2 ≤ (s.cap.buffer.filter (fun u => u.phase == p && decide (r.x ≤ u.tag))).length) ||
    s.cap.lineRecs.any (fun y => decide (r.line < y.line) && decide (y.phases ≤ p) && y.read == y.phases))

/-- Sub-lines that a line after position x may still use: per lane the last two valid ones below x, and all beyond (R245). -/
def keepSubs (subs : List SubLine) (x : Int) : List SubLine :=
  let kept := subs.zipIdx.filter (fun u =>
    decide (x ≤ u.1.tag) || u.1.lanes.any (fun a =>
      let later := (subs.drop (u.2 + 1)).filter (fun v => v.phase == u.1.phase && decide (v.tag < x) &&
        (match v.laneOf a.seg.tile a.seg.lane with | some b => !b.lost && !b.blind | none => false))
      decide (later.length < 2)))
  let kept := kept.map (·.1)
  let old := kept.filter (fun u => decide (u.tag < x))
  old.drop (old.length - 32) ++ kept.filter (fun u => decide (x ≤ u.tag))

/-- Stream-side parameter writes of the image side (R52). -/
def streamPar (p : Par) : Bool :=
  [Par.HQ_STR_EN, .HQ_STR_COL0, .HQ_STR_COL1, .HQ_STR_PH, .HQ_STR_FMT, .HQ_STR_FLAGS, .HQ_STR_LINES, .SEQ_NUM_PHASES].contains p

/-- Queue routing takes on the configuration of a line: its writes of every batch up to that line (R52), bands close where it
    changes them (R341). -/
def State.streamsTo (s : State) (line : Nat) : State :=
  let due := s.imgQueue.filter (fun b => decide (b.line ≤ line))
  let ws := due.flatMap (fun b => b.writes.filter (fun w => streamPar w.par))
  let s := s.bandsRecoloured line
  if ws.isEmpty then s else
  let old := s.imgPar
  let s := { s with
              imgPar := parSets s.imgPar ws,
              imgQueue := s.imgQueue.map (fun (b : ImgBatch) =>
                if b.line ≤ line then { b with writes := b.writes.filter (fun w => !streamPar w.par) } else b) }
  s.bandsChanged old

/-- Image line r emitted to the three branches (R239 to R245, R263). -/
def State.emitRec (s : State) (r : LineRec) : State :=
  let own := fun (p : Nat) => ((s.cap.buffer.find? (fun u => u.line == r.line && u.phase == p)).map (fun u => u.lanes)).getD []
  let outs := (List.range r.phases).map (fun p => (own p).map (s.laneOutput r p))
  let lanes := ((outs.flatten.map (fun o => (o.seg.tile, o.seg.lane, (o.seg.col0, o.seg.col0 + o.seg.codes.length - 1)))).eraseDups)
  let segs := outs.map (fun os => os.map (fun o => o.seg))
  let of := fun (t l : Nat) => outs.flatten.filter (fun o => o.seg.tile == t && o.seg.lane == l)
  let blind := (lanes.filter (fun a => (of a.1 a.2.1).any (fun o => o.blind))).map (fun a => a.2.2)
  let s := lanes.foldl (fun (s : State) (a : Nat × Nat × (Nat × Nat)) =>
    let os := of a.1 a.2.1
    if os.any (fun o => o.blind) then s.covLine .capture r.line a.2.2 4 .SEN_BLIND (laneDetail a.1 a.2.1 0) 0
    else match os.findSome? (fun o => o.interp) with
      | some c => (s.count .CAP_INTERP_LANE_LINES).covLine .capture r.line a.2.2 3 .SEN_LANE_FAILED c 0
      | none => s) s
  let s := s.count .CAP_LINES_EMITTED
  let s := if outs.flatten.any (fun o => o.linear) then s.count .CAP_LINEAR_LINES else s
  let l : ImgLine := ⟨r.line, r.x, r.stamp, segs, r.job, blind, r.skip⟩
  let s := { s with cap := { s.cap with
      lineRecs := s.cap.lineRecs.filter (fun y => y.line != r.line), lastSegs := segs,
      buffer := if s.slotTrue then s.cap.buffer.filter (fun u => decide (r.line < u.line)) else keepSubs s.cap.buffer r.x,
      mirrorIn := s.cap.mirrorIn ++ [l] } }
  let s := s.covPass .capture r.line
  let s := s.streamsTo r.line
  let s := (s.streamsLine l).histLine l r.job
  if s.hlt.clocks.getD 4 true then s else s.histHole l.line

/-- The oldest waiting line emitted, if it can be. -/
def State.emitLine (s : State) : State :=
  match s.cap.lineRecs with
  | [] => s
  | r :: _ => if s.lineReady r then s.emitRec r else s

/-- Every held line emitted at run close (R242, R268). -/
def State.emitAll (s : State) : State := s.cap.lineRecs.foldl (fun (s : State) r => s.emitRec r) s

/-! ### Signatures (R476, R487) -/

/-- A signature under the DIK over a hash; its nonce is the next draw of the DRBG. -/
def State.signDik (s : State) (hash : List Byte) : List Byte × State :=
  ((List.range 96).map (fun i => Config.ecdsaByte 0 s.sec.draws hash i), { s with sec := { s.sec with draws := s.sec.draws + 1 } })

/-! ### The coverage map of a run (R260 to R266) -/

/-- Header flags (R261): UNSIGNED, OVERFLOW, RESAMPLE_OFF. -/
def State.covFlags (s : State) (unsigned : Bool) : Nat :=
  bitNat unsigned + bitAt s.cap.cov.overflow.isSome 1 + bitAt s.slotTrue 2

/-- The 96 header bytes (R261); n entries. -/
def State.covHeader (s : State) (flags sealTime n : Nat) : List Byte :=
  let src := s.p .SEQ_POS_SRC
  let c := s.devCols
  leBytes 4 0x31564F43 ++ leBytes 2 1 ++ leBytes 1 (natField s.pwr.straps 3 1) ++ leBytes 1 flags ++ leBytes 4 s.cap.runId ++
  leBytes 4 (s.p .SEQ_TICK_SRC + 16 * src) ++ leBytes 8 s.cap.openStamp ++ leBytes 8 sealTime ++ leBytes 8 (ofSigned 64 s.cap.g0) ++
  leBytes 4 (s.p .CAP_GRID_PITCH) ++ leBytes 4 (if src < 4 then s.p .POS_COUNT_LEN src else 0) ++ leBytes 8 s.seq.lineIndex ++
  leBytes 4 c.1 ++ leBytes 4 c.2 ++ leBytes 8 n ++ leBytes 8 s.cap.captured ++ fingerprint

/-- The map of the closing run sealed (R264, R266). -/
def State.sealMap (s : State) : State :=
  let s := s.cap.cov.opens.foldl (fun (s : State) e => s.covClose e) s
  let s := match s.cap.cov.overflow with
    | none => s
    | some l =>
      let c := s.devCols
      let s := s.covWrite (leBytes 8 l ++ leBytes 4 (min (s.seq.lineIndex - l) 0xFFFFFFFF) ++ leBytes 4 c.1 ++ leBytes 4 c.2 ++
        leBytes 4 (512 + 65536 * 0xFFFF) ++ leBytes 8 0)
      s.raise .CAP_COV_OVERFLOW
  let n := s.cap.cov.written
  let err := s.sec.mode == .error || s.cap.cov.unreadable || !s.hlt.clocks.getD 4 true
  let base := s.covBase s.cap.cov.area
  let flags := s.covFlags err
  let s := s.dramWrite base (s.covHeader flags s.glint n)
  let s := if err then s.dramWrite (base + 96 + 32 * n) (List.replicate 144 0) else
    let h := sha384 (Sparse.bytes s.dram base (96 + 32 * n))
    let g := s.signDik h
    g.2.dramWrite (base + 96 + 32 * n) (h ++ g.1)
  { s with cap := { s.cap with cov := { s.cap.cov with
      present := false, sealedMap := some ⟨s.cap.cov.area, 96 + 32 * n + 144, flags, n⟩ } } }

/-- Whether the scratch partition holds two coverage areas (RUN_OPEN). -/
def State.covFits (s : State) : Bool := decide (2 * s.p .CAP_COV_SIZE ≤ 64 * s.p .HIS_SCRATCH)

/-- What RUN_OPEN does to the capture block (R232, R260, R267). -/
def State.capOpen (s : State) (runId : Nat) : State :=
  let base := s.freshBase
  let s := { s with cap := { s.cap with
      run := .open_, runId := runId, runCount := s.cap.runCount + 1, openAt := s.now, openStamp := s.glint, extBase := base,
      high := -1, lineRecs := [], buffer := [], prevTags := [none, none, none, none, none, none], tagRaised := false,
      lastSegs := [], mirrorIn := [], captured := 0, capLine := none, closing := none,
      cov := { s.cap.cov with
        area := 1 - s.cap.cov.area, present := true, written := 0, opens := [], overflow := none, noSlots := false, unreadable := false } } }
  let s := { s with cap := { s.cap with g0 := s.originFor s.extNow }, hq := { s.hq with bandNo := [] } }
  s.covJob 0 s.cap.jobId s.cap.jobSlot false 0

end Sys2Proof.Machine
end

