-- ==== Sys2Proof/Machine/RepeatOps.lean ====
section
/-! DEFINITION. Reference slots (R281 to R283) and the repeat structure at the sequencer: boundaries, marks, missing marks (R272 to
R278). -/

namespace Sys2Proof.Machine

/-! ### A reference slot (R281 to R283) -/

/-- The address of a reference slot. -/
def State.refBase (s : State) (slot : Nat) : Nat := s.arenaByte 0 + slot * s.p .HIS_REF_SLOT_SIZE * arenaUnit

/-- A header field of n bytes. -/
def State.refF (s : State) (slot off n : Nat) : Nat := Sparse.le s.dram (s.refBase slot + off) n

/-- First column. -/
def State.refFirst (s : State) (slot : Nat) : Nat := s.refF slot 12 4 % 2 ^ 20
/-- Width W. -/
def State.refW (s : State) (slot : Nat) : Nat := s.refF slot 16 4 % 2 ^ 18
/-- Length N_ref in lines. -/
def State.refN (s : State) (slot : Nat) : Nat := s.refF slot 20 4 % 2 ^ 24
/-- L_ref, 24.8 lines. -/
def State.refLen (s : State) (slot : Nat) : Nat := s.refF slot 24 4
/-- The mark offset, 24.8 lines. -/
def State.refMarkOff (s : State) (slot : Nat) : Nat := s.refF slot 28 4
/-- Patch count. -/
def State.refPatches (s : State) (slot : Nat) : Nat := s.refF slot 32 2 % 2 ^ 11
/-- Line stride in bytes. -/
def State.refStride (s : State) (slot : Nat) : Nat := s.refF slot 36 4
/-- The address of the pixel area. -/
def State.refPix (s : State) (slot : Nat) : Nat := s.refBase slot + s.refF slot 40 8
/-- Block count of the pixel area. -/
def State.refBlocks (s : State) (slot : Nat) : Nat := s.refF slot 56 4

/-- A patch (R282). -/
structure Patch where
  col : Nat
  line : Nat
  size : Nat
deriving DecidableEq, Repr

/-- The patch table of a slot. -/
def State.patches (s : State) (slot : Nat) : List Patch :=
  (List.range (s.refPatches slot)).map (fun i =>
    ⟨s.refF slot (64 + 16 * i) 4 % 2 ^ 20, s.refF slot (68 + 16 * i) 4 % 2 ^ 24, s.refF slot (72 + 16 * i) 1⟩)

/-- Patches in rows of one centre line (R282). -/
def patchRows : List Patch → List (List Patch)
  | [] => []
  | p :: ps =>
    match patchRows ps with
    | (q :: qs) :: rows => if q.line = p.line then (p :: q :: qs) :: rows else [p] :: (q :: qs) :: rows
    | rows => [p] :: rows

/-- The four bytes of a reference pixel: L8, a8, b8, P (R283); column counted from the first. -/
def State.refPixel (s : State) (slot x y : Nat) : List Nat :=
  (Sparse.bytes s.dram (s.refPix slot + y * s.refStride slot + 4 * x) 4).map (fun b => b.toNat)

/-! ### Boundaries (R272 to R277, R285) -/

/-- Whether a repeat structure is active (R56, R272). -/
def State.repeatOn (s : State) : Bool := s.p .CMP_REPEAT_MODE != 0

/-- A payload queued on the master's port for the next frames (R545, R546). -/
def State.askSend (s : State) (typ : Nat) (body : List Byte) : State :=
  if s.p .ASK_ROLE ≠ 1 then s else
  { s with ask := { s.ask with own := s.ask.own ++ [⟨typ, 0, natField s.pwr.straps 3 1, 0, true, body⟩] } }

/-- A boundary fixed on the master goes out as a REPEAT frame (R546, R554). -/
def State.sendRepeat (s : State) (n : NextBound) : State :=
  if n.pos.isSome then s else
  s.askSend 4 (leBytes 8 n.line ++ leBytes 4 (ofSigned 32 n.phi) ++
    leBytes 4 (ofSigned 32 ((s.cmp.track.lastLen.getD 0) / 256)))

/-- The limit of R274: 2 µs, 6 µs on a master (R554). -/
def State.markLimit (s : State) : Nat := if s.p .ASK_ROLE = 1 then us 6 else us 2

/-- The repeat tracker changed. -/
def State.updTrack (s : State) (f : RepTrack → RepTrack) : State := { s with cmp := { s.cmp with track := f s.cmp.track } }

/-- s_y, 2.30, from a mark-to-mark distance in 1/256 count, and whether it was clamped (R285). -/
def State.stretchOf (s : State) (len : Int) : Nat × Bool :=
  let den := s.refLen s.cmp.refNow * s.p .CAP_GRID_PITCH
  if den = 0 then (2 ^ 30, false)
  else if 100 * (256 * len) < 98 * (den : Int) then ((openDiv 24 (98 * 2 ^ 30) 100).toNat, true)
  else if 102 * (den : Int) < 100 * (256 * len) then ((openDiv 24 (102 * 2 ^ 30) 100).toNat, true)
  else ((openDiv 25 (256 * len * 2 ^ 30) den).toNat, false)

/-- A repeat boundary at the tick of line k (R52, R274). -/
def State.openBoundary (s : State) (k : Nat) (n : NextBound) (counts : Bool) : State :=
  let y : Nat × Bool := match s.cmp.track.lastLen with
    | some len => if s.p .CMP_REPEAT_MODE = 1 ∨ s.member then s.stretchOf len else (2 ^ 30, false)
    | none => (2 ^ 30, false)
  let s := if y.2 then (s.count .CMP_STRETCH_CLAMPED).raise .CMP_STRETCH_LIMIT else s
  let t := s.cmp.track
  let b : Boundary := ⟨k, s.now, t.count, n.phi, y.1, y.2, n.missing, n.halt, n.lost, counts⟩
  let next : Option NextBound :=
    if s.member then t.last.map (fun l => ⟨k + (k - l), none, n.phi, 0, false, false, true⟩)
    else if s.p .CMP_REPEAT_MODE = 2 then some ⟨k + s.p .CMP_REPEAT_LINES, none, 0, 0, false, false, false⟩ else none
  let s := match next with
    | some m => s.sendRepeat m
    | none => s
  { s with cmp := { s.cmp with
      bounds := s.cmp.bounds ++ [b],
      track := { t with next := next, last := some k, fixedArm := false, phi := n.phi, sy := y.1, count := t.count + 1 } } }

/-- The boundary due at the tick of line k, if one is (R274): a mark's boundary whose tick comes too early after the stamp moves to
    the next index. -/
def State.boundaryDue (s : State) (k : Nat) (captured : Bool) : Option NextBound × State :=
  let t := s.cmp.track
  if t.fixedArm && captured && s.p .CMP_REPEAT_MODE == 2 then (some ⟨k, none, 0, s.now, false, false, false⟩, s)
  else match t.next with
  | none => (none, s)
  | some n =>
    let pitch := s.p .CAP_GRID_PITCH
    let here := match n.pos with
      | none => decide (n.line ≤ k)
      | some p => decide (p ≤ 256 * s.tickX k)
    if !here then (none, s)
    else
      let n := match n.pos with
        | none => n
        | some p => { n with phi := if pitch = 0 then 0 else openDiv 26 ((256 * s.tickX k - p) * 65536) (256 * pitch) }
      if n.since ≠ 0 ∧ s.now < n.since + s.markLimit then
        (none, s.updTrack (fun t => { t with next := some { n with line := k + 1, phi := n.phi + 65536 } }))
      else (some n, s)

/-! ### Marks (R274 to R276) -/

/-- The length of a repeat in 1/256 count: measured, else nominal (R275). -/
def State.repeatLen (s : State) : Int :=
  match s.cmp.track.lastLen with
  | some l => l
  | none => openDiv 27 (s.refLen s.cmp.refNow * s.p .CAP_GRID_PITCH : Nat) 256

/-- W of R275 in 1/256 count. -/
def State.markWindow (s : State) : Int := (min (s.p .CMP_MARK_WIN) (s.refMarkOff s.cmp.refNow / 256 - 1) * s.p .CAP_GRID_PITCH : Nat)

/-- A mark's boundary (R274): p in 1/256 count of the extended position. -/
def State.markBoundary (s : State) (p : Int) : NextBound :=
  let pitch := s.p .CAP_GRID_PITCH
  let pos : Int := 256 * p + (s.refMarkOff s.cmp.refNow * pitch : Nat)
  if s.p .SEQ_TICK_SRC ≠ 0 ∨ pitch = 0 then ⟨0, some pos, 0, s.now, false, false, false⟩
  else
    let k := max (-((256 * s.cap.g0 - pos) / (256 * (pitch : Int)))).toNat (s.cap.high + 1).toNat
    ⟨k, none, openDiv 28 ((256 * s.target k - pos) * 65536) (256 * pitch), s.now, false, false, false⟩

/-- A mark stamped on CMP_MARK_CH (R275). -/
def State.mark (s : State) (pos : Int) : State :=
  let t := s.cmp.track
  let p := pos - s.cap.extBase
  let far := match t.lastMark with
    | some m => decide (s.markWindow < (p - (m + s.repeatLen)).natAbs)
    | none => false
  if !t.openWin && far then s.count .CMP_MARKS_STRAY
  else
    let len := match t.lastMark with
      | some m => if t.markReal && !t.openWin then some (p - m) else t.lastLen
      | none => t.lastLen
    let s := s.updTrack (fun t => { t with lastLen := len })
    let n := s.markBoundary p
    let s := s.sendRepeat n
    s.updTrack (fun t => { t with
      next := some n, lastMark := some p, markReal := true, openWin := false, missRun := 0, halted := false })

/-- Whether the expected mark has failed to come (R275). -/
def State.markMissed (s : State) : Bool :=
  let t := s.cmp.track
  s.cap.run == .open_ && s.p .CMP_REPEAT_MODE == 1 && !s.member && !t.openWin && !t.halted &&
  (match t.lastMark with
   | some m => decide (m + s.repeatLen + s.markWindow < s.extNow)
   | none => false)

/-- A missing mark (R275, R276). -/
def State.markMissing (s : State) : State :=
  let t := s.cmp.track
  let pitch := s.p .CAP_GRID_PITCH
  let lines := if pitch = 0 then 0 else (openRound 29 s.repeatLen pitch).toNat
  let halt := decide (s.p .CMP_MARK_MISS_MAX ≤ t.missRun + 1)
  let n : NextBound := ⟨t.last.getD 0 + lines, none, t.phi, 0, true, halt, false⟩
  let exp := t.lastMark.map (fun m => m + s.repeatLen)
  let s := ((s.count .CMP_MARKS_MISSING).raise .CMP_MARK_MISSING).sendRepeat n
  let s := s.updTrack (fun t => { t with
    next := some n, lastMark := exp, markReal := false, missRun := t.missRun + 1, halted := halt, openWin := halt })
  if halt then s.raise .CMP_HALTED else s

/-- The repeat structure after a commit that changes it (R273, R275): line is k0 of FIXED mode, or, for an IDLE commit, the
    first line captured is. -/
def State.restructure (s : State) (idle : Bool) (line : Nat) : State :=
  s.updTrack (fun t => { t with
    next := if !idle && s.p .CMP_REPEAT_MODE == 2 then some ⟨line, none, 0, 0, false, false, false⟩ else none, openWin := true, lastMark := none, markReal := false, lastLen := none, missRun := 0, halted := false,
    fixedArm := idle && s.p .CMP_REPEAT_MODE == 2 })

/-- The repeat structure at run open (R273): FIXED takes line 0. -/
def State.repeatsOpen (s : State) : State :=
  { s with cmp := { s.cmp with
      bounds := [], started := false, halted := false, rep := none, disp := none, carry := none, recent := [], blobs := [], seams := [],
      late := none,
      track := { RepTrack.reset with
        next := if s.p .CMP_REPEAT_MODE = 2 ∧ !s.member then some ⟨0, none, 0, 0, false, false, false⟩ else none } } }

end Sys2Proof.Machine
end

