-- ==== Sys2Proof/Machine/EtchOps.lean ====
section
/-! DEFINITION. The Hatch table (R299 to R302), Etcher (R303 to R306), records and tiles (R307 to R310), seams (R312 to R314), repeat
summaries (R298, R311). -/

namespace Sys2Proof.Machine

/-! ### The Hatch table (R299 to R301) -/

/-- The entry in 32 bytes of an image. -/
def hatchEntry (bs : List Byte) : HatchEnt :=
  let f := fun (o n : Nat) => ofLe ((bs.drop o).take n)
  ⟨f 0 4 % 2 ^ 20, f 4 4 % 2 ^ 20, f 8 4 % 2 ^ 24, f 12 4 % 2 ^ 24, f 16 2, f 18 2, f 20 4, f 24 2, f 26 2, f 28 2⟩

/-- ENABLE. -/
def HatchEnt.on (e : HatchEnt) : Bool := e.attr.testBit 0
/-- The region's MASK. -/
def HatchEnt.mask (e : HatchEnt) : Bool := e.attr.testBit 1
/-- DRIFT. -/
def HatchEnt.drifts (e : HatchEnt) : Bool := e.attr.testBit 5
/-- COUNT_ONLY. -/
def HatchEnt.countOnly (e : HatchEnt) : Bool := e.attr.testBit 6
/-- The merge gap g. -/
def HatchEnt.gap (e : HatchEnt) : Nat := natField e.attr 19 16
/-- fL in 1/16. -/
def HatchEnt.fl (e : HatchEnt) : Nat := if natField e.attr 15 12 = 0 then 16 else natField e.attr 15 12
/-- Whether the polarity filter lets a kind through: 0 DARK, 1 LIGHT, 2 CHROMA (R299). -/
def HatchEnt.takes (e : HatchEnt) (kind : Nat) : Bool :=
  match natField e.attr 9 8 with
  | 0 => true
  | 1 => kind == 0
  | 2 => kind == 1
  | _ => kind != 2

/-- An entry that owns nothing. -/
def HatchEnt.none_ : HatchEnt := ⟨0, 0, 0, 0, 0, 0, 0, 0, 0, 0⟩

/-- The region of a reference pixel: the enabled entry with the lowest index that contains it (R300). -/
def regionOf (tbl : List HatchEnt) (x y : Nat) : Option Nat :=
  tbl.findIdx? (fun e => e.on && decide (e.col0 ≤ x) && decide (x ≤ e.col1) && decide (e.line0 ≤ y) && decide (y ≤ e.line1))

/-- The region entry of a blob. -/
def State.regionEnt (s : State) (r : Nat) : HatchEnt := s.cmp.hatch.getD r HatchEnt.none_

/-- First and last column of slice i (R13). -/
def State.sliceCols (s : State) (i : Nat) : Nat × Nat := s.colsOf (s.lanesOn.filter (fun l => l / 32 == i))

/-- Whether slice i has columns. -/
def State.sliceUsed (s : State) (i : Nat) : Bool := s.lanesOn.any (fun l => l / 32 == i)

/-- Enabled rectangles over one reference line within some columns. -/
def rectsOn (tbl : List HatchEnt) (cols : Nat × Nat) (y : Nat) : Nat :=
  (tbl.filter (fun e => e.on && decide (e.line0 ≤ y) && decide (y ≤ e.line1) && decide (e.col0 ≤ cols.2) && decide (cols.1 ≤ e.col1))).length

/-- The largest number of rectangles on one line, with the first line that has it, in a slice: reached at some first line. -/
def mostRects (tbl : List HatchEnt) (cols : Nat × Nat) : Nat :=
  (tbl.filter HatchEnt.on).foldl (fun (m : Nat) e => max m (rectsOn tbl cols e.line0)) 0

/-- The first line on which more than 1,024 rectangles lie. -/
def crowdedLine (tbl : List HatchEnt) (cols : Nat × Nat) : Option Nat :=
  ((tbl.filter HatchEnt.on).map HatchEnt.line0).foldl (fun (m : Option Nat) y =>
    if 1024 < rectsOn tbl cols y then some (match m with
    | some z => min z y | none => y) else m) none

/-- A Hatch image: its entries, or the result words of the cause (R301). -/
def State.readHatch (s : State) (addr : Nat) : Except (List Nat) (List HatchEnt) :=
  let h := Sparse.bytes s.hostMem addr 64
  let n := ofLe ((h.drop 8).take 4)
  if ofLe (h.take 4) ≠ 0x48435448 ∨ ofLe ((h.drop 4).take 4) ≠ 1 ∨ n = 0 ∨ 65536 < n ∨ ofLe (h.drop 60) ≠ crc32 (h.take 60) then .error [1]
  else
    let body := Sparse.bytes s.hostMem (addr + 64) (32 * n)
    if ofLe ((h.drop 12).take 4) ≠ crc32 body then .error [2]
    else
      let tbl := (List.range n).map (fun i => hatchEntry ((body.drop (32 * i)).take 32))
      match tbl.findIdx? (fun e => e.on && decide (e.queue < 0x50)) with
      | some i => .error [3, i]
      | none =>
        match tbl.findIdx? (fun e => e.on && (decide (e.col1 < e.col0) || decide (e.line1 < e.line0))) with
        | some i => .error [4, i]
        | none =>
          match ((List.range 4).filter s.sliceUsed).findSome? (fun i => (crowdedLine tbl (s.sliceCols i)).map (fun y => (y, i))) with
          | some (y, i) => .error [5, y, i]
          | none => .ok tbl

/-! ### Tiles (R309, R310) -/

/-- A rectangle of columns and lines. -/
structure Rect where
  c0 : Int
  c1 : Int
  l0 : Int
  l1 : Int
deriving DecidableEq, Repr

/-- The centroid of a blob: column and line, rounded either way (log entry 12). -/
def Blob.centroid (b : Blob) : Int × Int := (openRound 32 b.sumCol (max 1 b.area), openRound 32 b.sumLine (max 1 b.area))

/-- The rectangle of a blob's tiles before the clip to the reference, and TRUNCATED (R310). -/
def State.tileRect (s : State) (b : Blob) (margin : Nat) : Rect × Bool :=
  let d := s.devCols
  let w := b.col1 + 1 + 2 * margin - b.col0
  let h := b.line1 + 1 + 2 * margin - b.line0
  let clip := fun (r : Rect) => { r with c0 := max r.c0 d.1, c1 := min r.c1 d.2, l0 := max r.l0 0 : Rect }
  if 2048 < w ∨ 2048 < h then
    let c := b.centroid
    (clip ⟨c.1 - 1024, c.1 + 1023, c.2 - 1024, c.2 + 1023⟩, true)
  else (clip ⟨(b.col0 : Int) - margin, b.col1 + margin, (b.line0 : Int) - margin, b.line1 + margin⟩, false)

/-- A tile's descriptor (R309). -/
def tileHead (seq kind fmt phases : Nat) (truncated hole seam : Bool) (line col w h stride : Nat) : List Byte :=
  leBytes 4 seq ++ leBytes 4 (kind + 16 * fmt + 256 * phases + bitAt truncated 16 + bitAt hole 17 + bitAt seam 18) ++ leBytes 8 line ++
  leBytes 4 col ++ leBytes 4 w ++ leBytes 4 h ++ leBytes 4 stride

/-- A row filled with zeros to the stride. -/
def rowTo (stride : Nat) (bs : List Byte) : List Byte := bs ++ List.replicate (stride - bs.length) 0

/-- The matrix in effect for a line (R280). -/
def State.matrixAt (s : State) (line : Nat) : List (List Int) :=
  match s.cmp.mats.find? (fun m => decide (m.1 ≤ line)) with
  | some m => m.2
  | none => s.matrix

/-- A live tile (R309, R310): rows from the history ring; a row that is not there reads as zeros and sets HOLE. -/
def State.liveTile (s : State) (r : Rect) (trunc seam lab : Bool) (seq : Nat) : List Byte :=
  let w := (r.c1 + 1 - r.c0).toNat
  let h := (r.l1 + 1 - r.l0).toNat
  let rows := (List.range h).map (fun (i : Nat) =>
    let y := (r.l0 + (i : Int)).toNat
    s.hq.hist.find? (fun x => x.line == y && x.run == s.cap.runCount && !x.hole && s.hlt.clocks.getD 4 true))
  let n := match rows.findSome? id with
    | some x => x.phases
    | none => s.ip .SEQ_NUM_PHASES
  let per := if lab then 3 else 2 * n
  let stride := 4 * ceilDiv (w * per) 4
  let bytes := rows.flatMap (fun x =>
    match x with
    | none => List.replicate stride 0
    | some x =>
      let px := s.histRow x r.c0.toNat w
      let at_ := fun (j p : Nat) => 16 * px.getD (j * x.phases + p) 0
      rowTo stride ((List.range w).flatMap (fun j =>
        if lab then
          let v := labOf (s.matrixAt x.line) ((List.range x.phases).map (at_ j))
          leBytes 1 v.1 ++ leBytes 1 v.2.1 ++ leBytes 1 v.2.2
        else (List.range n).flatMap (fun p => leBytes 2 (if p < x.phases then at_ j p else 0)))))
  tileHead seq 1 (bitNat lab) (if lab then 0 else n) trunc (rows.any Option.isNone) seam r.l0.toNat r.c0.toNat w h stride ++ bytes

/-- A reference tile (R309, R310): the rectangle moved by the displacement at the centroid and clipped to the reference. -/
def State.refTile (s : State) (r : Rect) (dx dy : Int) (trunc seam : Bool) (seq : Nat) : List Byte :=
  let slot := s.cmp.refSlot
  let f : Int := s.refFirst slot
  let c0 := max (r.c0 + dx) f
  let c1 := min (r.c1 + dx) (f + s.refW slot - 1)
  let l0 := max (r.l0 + dy) 0
  let l1 := min (r.l1 + dy) ((s.refN slot : Int) - 1)
  let w := (c1 + 1 - c0).toNat
  let h := (l1 + 1 - l0).toNat
  let bytes := (List.range h).flatMap (fun i =>
    Sparse.bytes s.dram (s.refPix slot + (l0.toNat + i) * s.refStride slot + 4 * (c0 - f).toNat) (4 * w))
  tileHead seq 2 0 0 trunc false seam l0.toNat c0.toNat w h (4 * w) ++ bytes

/-! ### The displacement of a line (R286, R287, R289) -/

/-- A field at a column: piecewise linear between its nodes, constant beyond them; without nodes the coarse offset (R289, R291). -/
def fieldAt (xc : Int) (col : Nat) : List Node → Int × Int
  | [] => (xc, 0)
  | [n] => (n.dx, n.dy)
  | a :: b :: rest =>
    if col ≤ a.col then (a.dx, a.dy)
    else if col < b.col then
      let k : Int := (col - a.col : Nat)
      let d := b.col - a.col
      (a.dx + openRound 33 ((b.dx - a.dx) * k) d, a.dy + openRound 33 ((b.dy - a.dy) * k) d)
    else fieldAt xc col (b :: rest)

/-- The displacement at a column of a line: a new field comes in over CMP_BLEND lines (R289). -/
def dispAt (d : Option Disp) (xc : Int) (blend line col : Nat) : Int × Int :=
  match d with
  | none => (xc, 0)
  | some d =>
    let b := fieldAt xc col d.cur
    let n := line + 1 - d.since
    if blend ≤ n then b else
    let a := fieldAt xc col d.old
    (a.1 + openRound 34 ((b.1 - a.1) * n) blend, a.2 + openRound 34 ((b.2 - a.2) * n) blend)

/-- The coarse along-web coordinate of a line in a repeat, 1/16 line (R285). -/
def Rep.base16 (r : Rep) (line : Nat) : Int :=
  openRound 35 ((((line : Int) - r.line) * 65536 + r.phi) * 2 ^ 18) (max 1 r.sy)

/-! ### Records (R308) -/

/-- A mean over a blob's pixels, rounded either way (log entry 12). -/
def Blob.mean (b : Blob) (sum : Nat) : Nat := (openRound 36 sum (max 1 b.area)).toNat

/-- The three means of a list of sums as one word, from [7:0] up. -/
def Blob.meanLab (b : Blob) (sums : List Nat) : Nat :=
  b.mean (sums.getD 0 0) + 256 * b.mean (sums.getD 1 0) + 65536 * b.mean (sums.getD 2 0)

/-- The 64 bytes of a record (R308); n tile packets follow. -/
def Blob.record (b : Blob) (tag n : Nat) : List Byte :=
  leBytes 8 b.line0 ++ leBytes 8 b.stamp ++ leBytes 4 b.repeatNo ++ leBytes 2 b.region ++ leBytes 2 tag ++ leBytes 4 b.col0 ++
  leBytes 4 b.col1 ++ leBytes 4 b.yi ++ leBytes 4 (b.line1 + 1 - b.line0) ++ leBytes 4 b.area ++ leBytes 2 b.peak ++
  leBytes 2 (b.mean b.sumE) ++ leBytes 2 (ofSigned 16 b.minL) ++ leBytes 2 (ofSigned 16 b.maxL) ++
  leBytes 4 (b.meanLab b.live + 16777216 * n) ++ leBytes 4 (b.meanLab b.ref) ++ leBytes 4 b.flags

/-- A seam record (R312). -/
def Blob.seamRecord (b : Blob) : List Byte :=
  let t := b.left.getD (b.line0, b.line0)
  leBytes 8 b.line0 ++ leBytes 4 (b.line1 + 1 - b.line0) ++ leBytes 2 b.region ++
  leBytes 2 (b.flags % 8 + bitAt (b.flags.testBit 7) 3 + bitAt (b.flags.testBit 8) 4) ++ leBytes 4 b.col0 ++ leBytes 4 b.col1 ++
  leBytes 4 (t.1 - b.line0) ++ leBytes 4 (t.2 - b.line0) ++ leBytes 4 b.area ++ leBytes 4 (b.peak + 65536 * b.mean b.sumE) ++
  leBytes 4 (ofSigned 16 b.minL + 65536 * ofSigned 16 b.maxL) ++ leBytes 4 (b.meanLab b.live) ++ leBytes 4 (b.meanLab b.ref) ++
  leBytes 4 b.repeatNo ++ leBytes 8 0

/-- The tiles of a blob, from a sequence number: live first (R307, R310). -/
def State.blobTiles (s : State) (b : Blob) (seam : Bool) : List (Nat → List Byte) :=
  let e := s.regionEnt b.region
  let r := s.tileRect b (natField e.attr 27 20)
  let c := b.centroid
  let shift : Int × Int := match s.cmp.rep with
    | none => (0, 0)
    | some p =>
      let ll := s.cmp.recent.find? (fun x => (x.line : Int) == c.2)
      let d := match ll with
        | some x => dispAt (some x.disp) x.xc (s.ip .CMP_BLEND) x.line c.1.toNat
        | none => dispAt s.cmp.disp s.cmp.xc (s.ip .CMP_BLEND) c.2.toNat c.1.toNat
      (openRound 37 d.1 16, openRound 37 (p.base16 c.2.toNat + d.2) 16 - c.2)
  (if e.attr.testBit 2 then [fun seq => s.liveTile r.1 r.2 seam (e.attr.testBit 4) seq] else []) ++
  (if e.attr.testBit 3 then [fun seq => s.refTile r.1 shift.1 shift.2 r.2 seam seq] else [])

/-! ### Closing blobs (R304, R305, R312 to R314) -/

/-- The present repeat changed. -/
def State.updRep (s : State) (f : Rep → Rep) : State :=
  { s with cmp := { s.cmp with
      rep := match s.cmp.rep with
        | some r => some (f r)
        | none => none } }

/-- A region over its records per repeat: its columns from the blob's first line on (R305). -/
def State.capRegion (s : State) (b : Blob) (line : Nat) : State :=
  let e := s.regionEnt b.region
  let known := match s.cmp.rep with
    | some r => r.cappedRegions.find? (fun (x : Nat × Nat) => x.1 == b.region)
    | none => none
  let s := s.count .CMP_BLOBS_CAPPED
  let mark := fun (s : State) (l n : Nat) => s.covReport ⟨.regions, l, n, e.col0, e.col1, 5, e.queue, Ev.id .CMP_REGION_CAPPED,
    (b.slice + 4 * b.region) % 65536, 0⟩
  match known with
  | some x => if b.line0 < x.2 then mark s b.line0 (x.2 - b.line0) else s
  | none =>
    let s := mark s b.line0 (line + 1 - b.line0)
    let s := s.updRep (fun r => { r with cappedRegions := r.cappedRegions ++ [(b.region, b.line0)], flags := r.flags ||| 64 })
    s.raise .CMP_REGION_CAPPED (b.slice + 4 * b.region)

/-- What becomes of a blob (R305); line is the line being handled. -/
def State.reportBlob (s : State) (b : Blob) (line : Nat) : State :=
  let e := s.regionEnt b.region
  let n := match s.cmp.rep with
    | some r => Sparse.get r.records 0 b.region
    | none => 0
  if b.area < max 1 e.minArea then s.updRep (fun r => { r with small := r.small + 1 })
  else if e.countOnly then s.updRep (fun r => { r with capped := r.capped + 1 })
  else if e.cap ≠ 0 ∧ e.cap ≤ n then (s.capRegion b line).updRep (fun r => { r with capped := r.capped + 1 })
  else
    let s := s.updRep (fun r => { r with recorded := r.recorded + 1, records := Sparse.set r.records 0 b.region (n + 1) })
    s.regionGroup e.queue b.region b.line0 b.line1 (b.record e.tag) (s.blobTiles b false)

/-- Whether the cascade carries seam records leftwards from this device (R312, R314). -/
def State.seamDevice (s : State) : Bool := s.p .ASK_ROLE != 0

/-- A blob that closes (R304, R312, R313): to the left neighbour, kept for a seam record, or reported. -/
def State.closeBlob (s : State) (b : Blob) (extra line : Nat) (linkDown : Bool) : State :=
  let b := { b with flags := b.flags ||| extra }
  let s := { s with cmp := { s.cmp with blobs := s.cmp.blobs.filter (fun x => x.slice != b.slice || x.line0 != b.line0 || x.col0 != b.col0 || x.region != b.region || x.area != b.area) } }
  let dev := natField s.pwr.straps 3 1
  if s.seamDevice && b.left.isSome && dev != 0 then
    if linkDown then (s.raise .CMP_SEAM_SELF b.slice).reportBlob { b with flags := b.flags ||| 64 } line
    else
      let e := s.regionEnt b.region
      let s := { s with cmp := { s.cmp with seamOut := s.cmp.seamOut ++ [(⟨b, b.seamRecord⟩ : SeamOut)] } }
      s.tilesAlone e.queue b.region b.line0 b.line1 ((s.blobTiles b true).map (fun (f : Nat → List Byte) => f 0xFFFFFFFF))
  else if s.seamDevice && b.right.isSome && decide (dev + 1 < s.p .ASK_DEVICES) then
    { s with cmp := { s.cmp with seams := s.cmp.seams ++ [⟨b, line + s.ip .CMP_SEAM_WAIT⟩] } }
  else s.reportBlob b line

/-- Every open blob closed. -/
def State.closeBlobs (s : State) (extra line : Nat) (linkDown : Bool) : State :=
  s.cmp.blobs.foldl (fun (s : State) b => s.closeBlob b extra line linkDown) s

/-- Blobs whose gap has run out (R304). -/
def State.closeQuiet (s : State) (line : Nat) (linkDown : Bool) : State :=
  (s.cmp.blobs.filter (fun b => decide (b.line1 + (s.regionEnt b.region).gap + 1 ≤ line))).foldl
    (fun (s : State) b => s.closeBlob b 0 line linkDown) s

/-- Blobs whose wait for a seam record is over (R313). -/
def State.seamsDue (s : State) (line : Nat) : State :=
  let due := s.cmp.seams.filter (fun x => decide (x.until_ ≤ line))
  let s := { s with cmp := { s.cmp with seams := s.cmp.seams.filter (fun x => decide (line < x.until_)) } }
  due.foldl (fun (s : State) x => s.reportBlob x.blob line) s

/-- The blob a seam record stands for. -/
def seamBlob (bs : List Byte) (rep : Nat) : Blob :=
  let f := fun (o n : Nat) => ofLe ((bs.drop o).take n)
  let area := f 32 4
  let lab := fun (o : Nat) => [area * f o 1, area * f (o + 1) 1, area * f (o + 2) 1]
  let kinds := f 14 2
  let l0 := f 0 8
  ⟨3, f 12 2, rep, [], l0, l0 + f 8 4 - 1, 0, 0, f 16 4 % 2 ^ 20, f 20 4 % 2 ^ 20, area, f 36 2, area * f 38 2,
   toSigned 16 (f 40 2), toSigned 16 (f 42 2), lab 44, lab 48, area * f 16 4, area * l0,
   kinds % 8 + bitAt (kinds.testBit 3) 7 + bitAt (kinds.testBit 4) 8, some (l0 + f 24 4, l0 + f 28 4), none⟩

/-- Two blobs as one (R303, R313). -/
def Blob.join (a b : Blob) : Blob :=
  let first := if b.line0 < a.line0 then b else a
  let hull := fun (x y : Option (Nat × Nat)) => match x, y with
    | some p, some q => some (min p.1 q.1, max p.2 q.2)
    | some p, none => some p
    | none, q => q
  { a with
    runs := a.runs ++ b.runs, line0 := first.line0, line1 := max a.line1 b.line1, stamp := first.stamp, yi := first.yi,
    col0 := min a.col0 b.col0, col1 := max a.col1 b.col1, area := a.area + b.area, peak := max a.peak b.peak,
    sumE := a.sumE + b.sumE, minL := min a.minL b.minL, maxL := max a.maxL b.maxL, live := List.zipWith (· + ·) a.live b.live,
    ref := List.zipWith (· + ·) a.ref b.ref, sumCol := a.sumCol + b.sumCol, sumLine := a.sumLine + b.sumLine,
    flags := a.flags ||| b.flags, left := hull a.left b.left, right := hull a.right b.right }

/-- A seam record from the right neighbour (R313): merged with a waiting or open blob, or reported alone. -/
def State.seamRecord (s : State) (bs : List Byte) : State :=
  let rep := ofLe ((bs.drop 52).take 4)
  let x := seamBlob bs rep
  let t := x.left.getD (x.line0, x.line0)
  let g := (s.regionEnt x.region).gap
  let near := fun (b : Blob) => b.region == x.region && b.repeatNo == rep && (match b.right with
    | some r => decide (r.1 ≤ t.2 + g) && decide (t.1 ≤ r.2 + g)
    | none => false)
  let line := s.seq.lineIndex
  match s.cmp.seams.find? (fun w => near w.blob) with
  | some w =>
    let s := { s with cmp := { s.cmp with seams := s.cmp.seams.filter (fun y => y != w) } }
    let m := (w.blob.join { x with left := none })
    (s.count .CMP_SEAM_MERGES).reportBlob { m with flags := m.flags ||| 32, right := none } line
  | none =>
    match s.cmp.blobs.find? near with
    | some b =>
      let m := b.join { x with left := none }
      (({ s with cmp := { s.cmp with
          blobs := s.cmp.blobs.map (fun y => if y = b then { m with flags := m.flags ||| 32 } else y) } } : State).count .CMP_SEAM_MERGES)
    | none => s.reportBlob { x with flags := x.flags ||| 32, left := none } line

/-! ### Runs (R303, R306) -/

/-- A run of a line with what its pixels add to a blob: a blob of its own. -/
abbrev NewRun := Blob

/-- Whether a run joins a blob with merge gap g (R303). -/
def joins (b : Blob) (r : Run) (g : Nat) : Bool :=
  b.runs.any (fun x => decide (r.line ≤ x.line + g + 1) && decide (r.col0 ≤ x.col1 + g + 1) && decide (x.col0 ≤ r.col1 + g + 1))

/-- Open runs of a slice. -/
def State.openRuns (s : State) (slice : Nat) : Nat :=
  ((s.cmp.blobs.filter (fun b => b.slice == slice)).map (fun b => b.runs.length)).foldl (· + ·) 0

/-- The open blob of largest area in a slice; the earliest on a tie. -/
def State.largestBlob (s : State) (slice : Nat) : Option Blob :=
  (s.cmp.blobs.filter (fun b => b.slice == slice)).foldl (fun (m : Option Blob) b => match m with
    | some x => if x.area < b.area then some b else some x
    | none => some b) none

/-- Room made for one more run of a slice (R306). -/
def State.makeBlobRoom (s : State) (slice line : Nat) (linkDown : Bool) : Nat → State
  | 0 => s
  | fuel + 1 =>
    if s.openRuns slice < 32768 ∧ (s.cmp.blobs.filter (fun b => b.slice == slice)).length < 4096 then s
    else match s.largestBlob slice with
      | some b => ((s.count .CMP_BLOBS_SPLIT).closeBlob b 8 line linkDown).makeBlobRoom slice line linkDown fuel
      | none => s

/-- A run taken into the blobs: it joins every blob it touches, or starts one; a run without room is dropped (R303, R306). -/
def State.addRun (s : State) (r : NewRun) (linkDown : Bool) : State :=
  let g := (s.regionEnt r.region).gap
  let run := r.runs.headD ⟨r.line0, r.col0, r.col1⟩
  let s := s.makeBlobRoom r.slice r.line0 linkDown 4097
  if 32768 ≤ s.openRuns r.slice then
    let s := s.count .CMP_RUNS_DROPPED
    if s.cmp.fullLine = some r.line0 then s else
    let c := s.sliceCols r.slice
    let s := s.covReport ⟨.mirror, r.line0, 1, c.1, c.2, 1, 0xFFFF, Ev.id .CMP_ETCHER_FULL, r.slice, 0⟩
    let s := (s.count .CMP_LINES_NOT_COMPARED).raise .CMP_ETCHER_FULL r.slice
    let s := s.updRep (fun p => { p with flags := p.flags ||| 32 })
    { s with cmp := { s.cmp with fullLine := some r.line0 } }
  else
    let hit := s.cmp.blobs.filter (fun b => b.region == r.region && joins b run g)
    match hit with
    | [] => { s with cmp := { s.cmp with blobs := s.cmp.blobs ++ [r] } }
    | b :: rest =>
      let m := rest.foldl (fun (a : Blob) x => a.join x) b
      let m := m.join r
      { s with cmp := { s.cmp with
          blobs := (s.cmp.blobs.filter (fun x => !(rest.contains x))).map (fun x => if x = b then { m with
            runs := m.runs.filter (fun y => decide (r.line0 ≤ y.line + g + 1)) } else x) } }

/-! ### Repeat summaries (R298, R311) -/

/-- The drift entries of a repeat: region, ΔE00, means, OVER, pixels. -/
def Summary.entries (x : Summary) : List (Nat × Nat × List Nat × Bool × Nat) :=
  let rs := (x.table.zipIdx.filter (fun e => e.1.on && e.1.drifts && Sparse.get x.rep.drift 0 (8 * e.2 + 6) != 0)).map (fun e => e.2)
  rs.map (fun r =>
    let n := Sparse.get x.rep.drift 0 (8 * r + 6)
    let sum := fun (i : Nat) => Sparse.get x.rep.drift 0 (8 * r + i)
    let mean := fun (i : Nat) => (openRound 38 (sum i) n).toNat
    let star := fun (i : Nat) => openDiv 39 ((sum i) * 100 * 65536 : Nat) (255 * n)
    let ab := fun (i : Nat) => openDiv 39 (((sum i : Nat) : Int) * 65536 - 128 * 65536 * n) n
    let de := Config.ciede2000 (star 0) (ab 1) (ab 2) (star 3) (ab 4) (ab 5)
    (r, de, [mean 0, mean 1, mean 2, mean 3, mean 4, mean 5], decide ((x.table.getD r HatchEnt.none_).drift < de), n))

/-- The 16 bytes of a drift entry (R311). -/
def driftBytes (e : Nat × Nat × List Nat × Bool × Nat) : List Byte :=
  leBytes 2 e.1 ++ leBytes 2 (min e.2.1 65535) ++ e.2.2.1.flatMap (fun v => leBytes 1 v) ++ leBytes 1 (bitNat e.2.2.2.1) ++ leBytes 1 0 ++
  leBytes 4 e.2.2.2.2

/-- Lists of at most n elements; one empty list for an empty list. -/
def chunks {α : Type} (n : Nat) : Nat → List α → List (List α)
  | 0, l => [l]
  | fuel + 1, l => if l.length ≤ n then [l] else l.take n :: chunks n fuel (l.drop n)

/-- A summary written to CMP_SUMMARY_QUEUE, in packets of at most 240 drift entries (R311). -/
def State.writeSummary (s : State) (x : Summary) (lost : Bool) : State :=
  let es := if lost then [] else x.entries
  let s := es.foldl (fun (s : State) e => if e.2.2.2.1 then s.raise .CMP_DRIFT (4 * e.1) else s) s
  let r := x.rep
  let flags := r.flags + bitAt lost 8
  ((chunks 240 (es.length / 240 + 1) es).zipIdx).foldl (fun (s : State) c =>
    s.recordTo (s.ip .CMP_SUMMARY_QUEUE)
      (leBytes 4 r.number ++ leBytes 8 r.line ++ leBytes 4 x.length ++ leBytes 4 (ofSigned 32 r.phi) ++ leBytes 4 r.sy ++
       leBytes 2 (ofSigned 16 x.xc) ++ leBytes 2 r.rowsValid ++ leBytes 2 r.rowsSeen ++ leBytes 2 flags ++ leBytes 4 r.recorded ++
       leBytes 4 r.small ++ leBytes 4 r.capped ++ leBytes 4 (c.1.length + 65536 * c.2) ++ c.1.flatMap driftBytes)) s

/-- Drift values ready: the oldest waiting summary is written (R298). -/
def State.driftReady (s : State) : State :=
  match s.cmp.summaries with
  | [] => s
  | x :: rest => ({ s with cmp := { s.cmp with summaries := rest } } : State).writeSummary x false

/-- A repeat that has ended: its summary waits for drift values, if it has any; a third boundary ends an older wait (R298). -/
def State.endRepeat (s : State) (r : Rep) (line : Nat) : State :=
  let x : Summary := ⟨r, s.cmp.xc, line - r.line, s.now + ms 2, s.cmp.hatch⟩
  if x.entries.isEmpty then s.writeSummary x false
  else
    let s := match s.cmp.summaries with
      | a :: b :: rest => ({ s with cmp := { s.cmp with summaries := b :: rest } } : State).writeSummary a true
      | _ => s
    { s with cmp := { s.cmp with summaries := s.cmp.summaries ++ [x] } }

end Sys2Proof.Machine
end

