-- ==== Sys2Proof/Machine/MirrorOps.lean ====
section
/-! DEFINITION. Mirror: image-side events and repeat boundaries (R52, R277, R286, R292), patches (R287 to R291), the compare of a
line (R20, R21, R279, R293 to R298), learning (R315 to R317). -/

namespace Sys2Proof.Machine

/-- Whether seam records cannot leave (R314, R557). -/
def State.askDown (s : State) : Bool := !s.ask.up || s.ask.broken

/-- Mirror changed. -/
def State.updCmp (s : State) (f : CmpSt → CmpSt) : State := { s with cmp := f s.cmp }

/-! ### Learning (R315 to R317) -/

/-- The address of the accumulator of a reference pixel, column counted from the first (R284, R315). -/
def State.accAt (s : State) (slot x y : Nat) : Nat :=
  s.refPix slot + s.refN slot * s.refStride slot + 20 * (y * s.refW slot + x)

/-- A pixel added to its accumulator (R315): count, three sums of 2 bytes, three sums of squares of 4 bytes. -/
def State.accumulate (s : State) (slot x y : Nat) (lab : Nat × Nat × Nat) : State :=
  let a := s.accAt slot x y
  let f := fun (o n : Nat) => Sparse.le s.dram (a + o) n
  let v := [lab.1, lab.2.1, lab.2.2]
  s.dramWrite a (leBytes 1 (f 0 1 + 1) ++ (List.range 3).flatMap (fun i => leBytes 2 (f (1 + 2 * i) 2 + v.getD i 0)) ++
    (List.range 3).flatMap (fun i => leBytes 4 (f (7 + 4 * i) 4 + v.getD i 0 * v.getD i 0)) ++ leBytes 1 0)

/-- The mean of component i of an accumulator (R316). -/
def State.accMean (s : State) (slot x y i : Nat) : Nat :=
  let a := s.accAt slot x y
  let n := Sparse.le s.dram a 1
  if n = 0 then 0 else (Sparse.le s.dram (a + 1 + 2 * i) 2 + n / 2) / n

/-- Whether a pixel of the mean is an edge pixel (R316). -/
def State.edgePixel (s : State) (slot x y : Nat) : Bool :=
  let m := fun (x y : Nat) => (s.accMean slot x y 0 : Int)
  let g : Int := s.ip .CMP_EDGE_GRAD
  (decide (0 < x) && decide (x + 1 < s.refW slot) && decide (g ≤ (m (x + 1) y - m (x - 1) y).natAbs)) ||
  (decide (0 < y) && decide (y + 1 < s.refN slot) && decide (g ≤ (m x (y + 1) - m x (y - 1)).natAbs))

/-- The tolerance from the spread, before edges (R316). -/
def State.accTol (s : State) (slot x y : Nat) : Nat :=
  let a := s.accAt slot x y
  let n := Sparse.le s.dram a 1
  let sum := fun (i : Nat) => (Sparse.le s.dram (a + 1 + 2 * i) 2 : Int)
  let sq := fun (i : Nat) => (Sparse.le s.dram (a + 7 + 4 * i) 4 : Int)
  let spread := fun (i : Nat) => n * sq i - sum i * sum i
  let v := (spread 0 * 10000 + 65025 * (spread 1 + spread 2)).toNat
  let k := s.ip .CMP_LEARN_K
  let r := isqrt (k * k * v)
  let up := if r * r = k * k * v then r else r + 1
  min 254 (ceilDiv up (510 * n) + s.ip .CMP_LEARN_FLOOR)

/-- The four bytes of a finalised pixel, and whether it is a hole (R316). -/
def State.finalPixel (s : State) (slot x y : Nat) : List Nat × Bool :=
  if Sparse.le s.dram (s.accAt slot x y) 1 = 0 then ([0, 0, 0, 255], true)
  else
    let r := s.ip .CMP_EDGE_RADIUS
    let near := (List.range (2 * r + 1)).any (fun j => (List.range (2 * r + 1)).any (fun i =>
      decide (r ≤ x + i) && decide (r ≤ y + j) && decide (x + i - r < s.refW slot) && decide (y + j - r < s.refN slot) &&
      s.edgePixel slot (x + i - r) (y + j - r)))
    let t := s.accTol slot x y
    ([s.accMean slot x y 0, s.accMean slot x y 1, s.accMean slot x y 2, if near then min 254 (t + s.ip .CMP_EDGE_ADD) else t], false)

/-- One reference line finalised (R316). -/
def State.finalLine (s : State) (slot y : Nat) : State :=
  let px := (List.range (s.refW slot)).map (fun x => s.finalPixel slot x y)
  let holes := (px.filter (fun p => p.2)).length
  let s := if holes = 0 then s else s.count .CMP_LEARN_HOLES 0 holes
  s.dramWrite (s.refPix slot + y * s.refStride slot) (px.flatMap (fun p => p.1.flatMap (leBytes 1)))

/-- Reference lines finalised up to one, in order. -/
def State.finalTo (s : State) (l : Learn) (upto : Nat) : State :=
  let ys := (List.range (upto - l.next)).map (fun i => l.next + i)
  let s := ys.foldl (fun (s : State) y => s.finalLine l.slot y) s
  s.updCmp (fun c => { c with learn := some { l with next := max l.next upto } })

/-- CRC-32 values of the blocks of the pixel area (R281). -/
def State.blockCrcs (s : State) (slot : Nat) : List Nat :=
  let total := s.refN slot * s.refStride slot
  (List.range (s.refBlocks slot)).map (fun i =>
    crc32 (Sparse.bytes s.dram (s.refPix slot + i * 2 ^ 20) (min (2 ^ 20) (total - i * 2 ^ 20))))

/-- The header CRC of a slot: bytes 0 to 59 and the patch table (R281). -/
def State.refCrc (s : State) (slot : Nat) : Nat :=
  crc32 (Sparse.bytes s.dram (s.refBase slot) 60 ++ Sparse.bytes s.dram (s.refBase slot + 64) (16 * s.refPatches slot))

/-- The slot of a learn completed at the boundary that ends repeat N (R316). -/
def State.learnDone (s : State) (l : Learn) : State :=
  let s := s.finalTo l (s.refN l.slot)
  let b := s.refBase l.slot
  let s := s.dramWrite (b + 64 + 16 * s.refPatches l.slot) ((s.blockCrcs l.slot).flatMap (leBytes 4))
  let s := s.dramWrite (b + 28) (leBytes 4 (s.refMarkOff l.slot + (openRound 42 l.phi1 256).toNat))
  let s := s.dramWrite (b + 34) (leBytes 2 (l.n % 32))
  let s := s.dramWrite (b + 6) (leBytes 2 1)
  let s := s.dramWrite (b + 60) (leBytes 4 (s.refCrc l.slot))
  let s := s.updCmp (fun c => { c with
    learn := none, ready := c.ready.filter (fun x => x != l.slot), resident := (c.resident.filter (fun x => x != l.slot)) ++ [l.slot] })
  s.raise .CMP_LEARN_DONE

/-! ### Reference checks (R281, R282, R284) -/

/-- Whether patches are listed in order, rows no longer than 64, sizes 16 or 32, each inside the reference with its search ranges. -/
def State.patchesOk (s : State) (slot : Nat) : Bool :=
  let ps := s.patches slot
  let sx := s.p .CMP_SEARCH_X
  let sy := s.p .CMP_SEARCH_Y
  let f := s.refFirst slot
  (List.zip ps (ps.drop 1)).all (fun x => decide (x.1.line < x.2.line) || (x.1.line == x.2.line && decide (x.1.col < x.2.col))) &&
  (patchRows ps).all (fun r => decide (r.length ≤ 64)) &&
  ps.all (fun p => (p.size == 16 || p.size == 32) && decide (f + p.size / 2 + sx ≤ p.col) &&
    decide (p.col + p.size / 2 + sx ≤ f + s.refW slot) && decide (p.size / 2 + sy ≤ p.line) &&
    decide (p.line + p.size / 2 + sy ≤ s.refN slot))

/-- Whether a slot's header and patch table are good (R281, R275, R284). -/
def State.refHeaderOk (s : State) (slot : Nat) : Bool :=
  let w := s.refW slot
  let room := s.p .HIS_REF_SLOT_SIZE * arenaUnit
  let px := s.refN slot * s.refStride slot
  s.refF slot 0 4 == 0x31464552 && s.refF slot 4 2 == 1 && decide (1 ≤ w) && decide (w ≤ 131072) &&
  s.refStride slot == ceilDiv (4 * w) 64 * 64 && decide (s.refPatches slot ≤ 1024) && s.refF slot 40 8 % 4096 == 0 &&
  s.refBlocks slot == ceilDiv px (2 ^ 20) && decide (s.refF slot 40 8 + px ≤ room) &&
  decide (64 + 16 * s.refPatches slot + 4 * s.refBlocks slot ≤ s.refF slot 40 8) && decide (512 ≤ s.refMarkOff slot) &&
  s.refF slot 60 4 == s.refCrc slot

/-- The blocks of a slot whose CRC fails. -/
def State.badBlocks (s : State) (slot : Nat) : List Nat :=
  ((s.blockCrcs slot).zipIdx.filter (fun x => x.1 != s.refF slot (64 + 16 * s.refPatches slot + 4 * x.2) 4)).map (fun x => x.2)

/-- Whether a slot has room for the accumulators of a learn (R284). -/
def State.learnFits (s : State) (slot : Nat) : Bool :=
  decide (256 ≤ s.refN slot) &&
  decide (s.refF slot 40 8 + s.refN slot * s.refStride slot + s.refN slot * s.refW slot * 20 ≤ s.p .HIS_REF_SLOT_SIZE * arenaUnit)

/-- A reference check's end (R284): the slot's state, and its reply. -/
def State.refChecked (s : State) (x : RefCheck) : State :=
  let head := s.refHeaderOk x.slot && s.patchesOk x.slot
  let bad := if head && !x.headerOnly then s.badBlocks x.slot else []
  let s := s.updCmp (fun c => { c with resident := c.resident.filter (fun y => y != x.slot), ready := c.ready.filter (fun y => y != x.slot) })
  let words := [w32 (s.refW x.slot), w32 (s.refN x.slot), w32 (s.refPatches x.slot), w32 bad.length]
  if !head then s.reply x.cid 0x11 0 words
  else if x.headerOnly then
    let s := if s.learnFits x.slot then
        (s.updCmp (fun c => { c with ready := c.ready ++ [x.slot] })).dramWrite (s.refBase x.slot + 6) (leBytes 2 2)
      else s
    s.done x.cid words
  else match bad with
    | b :: _ => s.reply x.cid 0x11 b words
    | [] => (s.updCmp (fun c => { c with resident := c.resident ++ [x.slot] })).done x.cid words

/-! ### Image-side events (R52, R277, R286) -/

/-- What changes with an image line besides parameters (R52, R253, R254, R257). -/
def State.imgAct (s : State) (a : ImgAct) : State :=
  match a with
  | .compareCommit restart =>
    let x0 := toSigned 16 (s.ip .CMP_X0)
    s.updCmp (fun c => { c with xc := x0, started := c.started && !restart })
  | .refSwitch slot => s.updCmp (fun c => { c with refSlot := slot, carry := none, disp := none })
  | .learnStart slot n => s.updCmp (fun c => { c with learn := some ⟨slot, n, 0, 0, 0⟩, refSlot := slot, carry := none, disp := none })
  | .hatchSwitch table => s.updCmp (fun c => { c with hatch := table })
  | .late parts tiles => s.updCmp (fun c => { c with late := some (parts, tiles) })
  | .lateEnd => s.updCmp (fun c => { c with late := none })
  | .jobStart => s.updCmp (fun c => { c with started := false })

/-- Whether an act changes the Hatch table or the reference (R304). -/
def ImgAct.switches : ImgAct → Bool
  | .refSwitch _ | .learnStart .. | .hatchSwitch _ => true
  | _ => false

/-- Writes of Mirror taken on, with the matrix kept for lines already compared (R279). -/
def State.imgWrites (s : State) (line : Nat) (ws : List ParWrite) : State :=
  if ws.isEmpty then s else
  let old := s.matrix
  let s := { s with imgPar := parSets s.imgPar ws }
  if s.matrix = old then s
  else s.updCmp (fun c => { c with mats := (line, s.matrix) :: (if c.mats.isEmpty then [(0, old)] else c.mats) })

/-- The fine field a learning's first repeat leaves (R315). -/
def zeroField (xc : Int) : List Node := [⟨0, xc, 0⟩]

/-- A repeat boundary at image line b.line (R276, R277, R286, R292, R315 to R317). -/
def State.atBoundary (s : State) (b : Boundary) : State :=
  let old := s.cmp.rep
  let first := match s.cmp.learn with | some l => l.idx == 1 | none => false
  let s := match old with
    | none => s
    | some r =>
      let s := s.endRepeat r b.line
      let xc := match r.lastRow with
        | some ns => if ns.isEmpty then s.cmp.xc else openRound 41 ((ns.map Node.dx).foldl (· + ·) 0) ns.length
        | none => s.cmp.xc
      s.updCmp (fun c => { c with
        xc := xc, carry := if first then some (zeroField xc) else if r.fellBack then none else r.lastRow })
  let s := match s.cmp.learn with
    | none => s
    | some l =>
      if l.idx = l.n then
        (s.learnDone l).updCmp (fun c => { c with carry := none })
      else s.updCmp (fun c => { c with learn := some { l with idx := l.idx + 1, phi1 := if l.idx = 0 then b.phi else l.phi1 } })
  let idx := match s.cmp.learn with | some l => l.idx | none => 0
  let start := !s.cmp.started && b.counts
  let r : Rep := ⟨b.number, b.line, b.phi, b.sy,
    bitAt b.missing 1 + bitAt (decide (0 < idx)) 2 + bitAt b.clamped 3 + bitAt b.halt 4 + bitAt start 7, idx, 0, 0, 0, b.lost, none,
    0, 0, 0, [], [], []⟩
  let up := decide (s.hlt.therm < 3) && decide (s.cmp.slicesUp + us 2 ≤ b.at_) && s.pwr.powering.all (fun d => decide (d.dom < 40 ∨ 43 < d.dom))
  s.updCmp (fun c => { c with
    rep := some r, halted := b.halt, started := c.started || b.counts, recent := [],
    thermalWait := c.thermalWait && !up, sliceWait := if up then 0 else c.sliceWait,
    disp := if b.lost then none else c.carry.map (fun ns => ⟨ns, ns, b.line⟩) })

/-- Everything that changes at one image line: blobs close first (R304), then commits and job parts, then the boundary. -/
def State.mirrorAt (s : State) (line : Nat) : State :=
  let due := s.imgQueue.filter (fun b => b.line == line)
  let bd := s.cmp.bounds.find? (fun b => b.line == line)
  let sw := due.any (fun b => b.acts.any ImgAct.switches)
  let s := if sw || bd.isSome then s.closeBlobs (bitAt sw 10 + bitAt bd.isSome 4) line s.askDown else s
  let s := due.foldl (fun (s : State) b => b.acts.foldl (fun (s : State) a => s.imgAct a) (s.imgWrites line b.writes)) s
  let s := match bd with
    | some b => s.atBoundary b
    | none => s
  { s with
    imgQueue := s.imgQueue.filter (fun b => b.line != line),
    cmp := { s.cmp with bounds := s.cmp.bounds.filter (fun b => b.line != line) } }

/-- The lines up to one at which something changes, in order. -/
def State.changeLines (s : State) (line : Nat) : List Nat :=
  (((s.imgQueue.map ImgBatch.line ++ s.cmp.bounds.map Boundary.line).filter (fun k => decide (k ≤ line))).eraseDups).mergeSort
    (fun a b => decide (a ≤ b))

/-- Mirror brought up to an image line. -/
def State.mirrorTo (s : State) (line : Nat) : State :=
  (s.changeLines line).foldl (fun (s : State) k => s.mirrorAt k) s

/-! ### Patches (R287 to R291) -/

/-- φ as a repeat's lines are registered with it: a learning's relative to its first repeat (R315). -/
def State.repPhi (s : State) (r : Rep) : Int := match s.cmp.learn with
  | some l => r.phi - l.phi1
  | none => r.phi

/-- The along-web coordinate of a line before the fine displacement, 1/16 (R285, R315). -/
def State.base16 (s : State) (r : Rep) (line : Nat) : Int := ({ r with phi := s.repPhi r } : Rep).base16 line

/-- The live line that maps to a reference line (R285). -/
def State.liveLine (s : State) (r : Rep) (y : Int) : Int :=
  (r.line : Int) + openRound 43 (y * r.sy - s.repPhi r * 2 ^ 14) (2 ^ 30)

/-- L8 of a live line and column. -/
def State.liveL8 (s : State) (line col : Int) : Nat :=
  match s.cmp.recent.find? (fun x => (x.line : Int) == line) with
  | some x => if (x.col0 : Int) ≤ col then (x.l8[(col - x.col0).toNat]?).getD (Config.missingL8 line col) else Config.missingL8 line col
  | none => Config.missingL8 line col

/-- The displacement in effect at a column of a line within its limits (R289, R290), and whether it was clamped. -/
def State.dispOf (s : State) (line col : Nat) : (Int × Int) × Bool :=
  let d := dispAt s.cmp.disp s.cmp.xc (s.ip .CMP_BLEND) line col
  let c := (clampInt (-3968) 3968 d.1, clampInt (-64) 64 d.2)
  (c, decide (c ≠ d))

/-- SAD of a patch at an offset (R287), with the rounded prediction. -/
def State.sad (s : State) (r : Rep) (p : Patch) (px py u v : Int) : Nat :=
  let slot := s.cmp.refSlot
  let f := s.refFirst slot
  let h : Int := (p.size / 2 : Nat)
  (List.range p.size).foldl (fun (a : Nat) j =>
    let y : Int := (p.line : Int) - h + (j : Nat)
    let live := s.liveLine r (y - py)
    (List.range p.size).foldl (fun (a : Nat) i =>
      let x : Int := (p.col : Int) - h + (i : Nat)
      let lv : Int := s.liveL8 live (x - px)
      let rv : Int := (s.refPixel slot (x + u - f).toNat (y + v).toNat).getD 0 0
      a + (lv - rv).natAbs) a) 0

/-- A refinement along one axis in 1/16 (R287). -/
def patchDelta (cm c0 cp : Nat) : Int :=
  let k : Int := (cm : Int) - 2 * c0 + cp
  clampInt (-8) 8 (if k ≤ 0 then Config.flatDelta cm cp else openRound 44 (8 * ((cm : Int) - cp)) k.toNat)

/-- A patch matched on a line: its node, and whether it is valid by itself (R287, R288). -/
def State.matchPatch (s : State) (r : Rep) (line : Nat) (p : Patch) : Node × Bool :=
  let d := (s.dispOf line p.col).1
  let px := openRound 45 d.1 16
  let py := openRound 45 d.2 16
  let sx := s.ip .CMP_SEARCH_X
  let sy := s.ip .CMP_SEARCH_Y
  let offs := (List.range (2 * sy + 1)).flatMap (fun (j : Nat) => (List.range (2 * sx + 1)).map (fun (i : Nat) => ((i : Int) - sx, (j : Int) - sy)))
  let best := offs.foldl (fun (m : Option (Nat × Int × Int)) o =>
    let c := s.sad r p px py o.1 o.2
    match m with
    | some b => if c < b.1 then some (c, o.1, o.2) else some b
    | none => some (c, o.1, o.2)) none
  match best with
  | none => (⟨p.col, 0, 0⟩, false)
  | some (c0, u, v) =>
    let at_ := fun (du dv : Int) => s.sad r p px py (u + du) (v + dv)
    let l := at_ (-1) 0
    let rr := at_ 1 0
    let t := at_ 0 (-1)
    let b := at_ 0 1
    let area := p.size * p.size
    let dx := 16 * (u + px) + patchDelta l c0 rr
    let dy := 16 * (v + py) + patchDelta t c0 b
    (⟨p.col, dx, dy⟩,
     decide (c0 ≤ s.ip .CMP_SAD_MAX * area) && decide (u.natAbs < sx) && decide (v.natAbs < sy) &&
     decide (s.ip .CMP_CURV_MIN * area + 2 * c0 ≤ l + rr) && decide (s.ip .CMP_CURV_MIN * area + 2 * c0 ≤ t + b) &&
     decide (dy.natAbs ≤ 64) && decide (dx.natAbs ≤ 3968))

/-- The median of some values (R289). -/
def medianOf (xs : List Int) : Int :=
  let ys := xs.mergeSort (fun a b => decide (a ≤ b))
  let n := ys.length
  if n % 2 = 1 then ys.getD (n / 2) 0 else Config.evenMedian (ys.getD (n / 2 - 1) 0) (ys.getD (n / 2) 0)

/-- A patch row evaluated after a line (R288, R289, R291). -/
def State.evalRow (s : State) (r : Rep) (line : Nat) (row : List Patch) : State :=
  let found := row.map (s.matchPatch r line)
  let ok := (found.filter (fun x => x.2)).map (fun x => x.1)
  let mx := medianOf (ok.map Node.dx)
  let my := medianOf (ok.map Node.dy)
  let lim : Int := s.ip .CMP_OUTLIER
  let nodes := ok.filter (fun n => decide (((n.dx - mx).natAbs : Int) ≤ lim) && decide (((n.dy - my).natAbs : Int) ≤ lim))
  let s := if nodes.length = row.length then s else s.count .CMP_PATCHES_INVALID 0 (row.length - nodes.length)
  let s := s.updRep (fun r => { r with row := r.row + 1, rowsSeen := r.rowsSeen + 1 })
  if !nodes.isEmpty && decide (s.ip .CMP_ROW_MIN * row.length ≤ 16 * nodes.length) then
    let s := s.updRep (fun r => { r with rowsValid := r.rowsValid + 1, lastRow := some nodes })
    if r.fellBack then s
    else s.updCmp (fun c => { c with disp := some ⟨match c.disp with | some d => d.cur | none => [], nodes, line + 1⟩ })
  else
    let s := s.updRep (fun r => { r with fellBack := true })
    let s := s.updCmp (fun c => { c with disp := none })
    (s.count .CMP_ROWS_FAILED).raise .CMP_LOW_CONFIDENCE

/-- The patch rows whose live line has been emitted, in order (R289). -/
def State.evalRows (s : State) (line : Nat) : State :=
  let slot := s.cmp.refSlot
  (patchRows (s.patches slot)).zipIdx.foldl (fun (s : State) (x : List Patch × Nat) =>
    match s.cmp.rep with
    | none => s
    | some r =>
      let size := x.1.foldl (fun (m : Nat) p => max m p.size) 0
      let y := (x.1.headD ⟨0, 0, 0⟩).line + size / 2 + s.ip .CMP_SEARCH_Y
      if r.row = x.2 ∧ s.liveLine r (y : Int) ≤ line then s.evalRow r line x.1 else s) s

/-! ### The compare of a line -/

/-- What the compare of a pixel finds (R293 to R297): outside the reference, excluded, or compared with its kind where it is a defect
    pixel (0 DARK, 1 LIGHT, 2 CHROMA). -/
inductive PxRes where
  | outside
  | excluded (flagged : Bool)
  | compared (region : Nat) (ref : List Nat) (defect : Option (Nat × Nat × Int))
deriving DecidableEq, Repr

/-- One pixel: its column, Lab bytes, flags, x16 and y16. -/
def State.comparePixel (s : State) (lab : List Nat) (flags : Nat) (x16 y16 : Int) : PxRes :=
  let slot := s.cmp.refSlot
  let f : Int := s.refFirst slot
  let xi := x16 / 16
  let yi := y16 / 16
  let fx := (x16 % 16).toNat
  let fy := (y16 % 16).toNat
  if xi < f ∨ f + s.refW slot ≤ xi + 1 ∨ yi < 0 ∨ (s.refN slot : Int) ≤ yi + 1 then .outside
  else
    let tap := fun (i j : Nat) => s.refPixel slot ((xi - f).toNat + i) (yi.toNat + j)
    let taps := [tap 0 0, tap 1 0, tap 0 1, tap 1 1]
    let ws := [(16 - fx) * (16 - fy), fx * (16 - fy), (16 - fx) * fy, fx * fy]
    let ref := (List.range 3).map (fun c =>
      ((List.zip ws taps).foldl (fun (a : Nat) w => a + w.1 * w.2.getD c 0) 128) / 256)
    let ps := taps.map (fun t => t.getD 3 0)
    let t := ps.foldl max 0
    match regionOf s.cmp.hatch xi.toNat yi.toNat with
    | none => .excluded false
    | some r =>
      let e := s.regionEnt r
      if ps.contains 255 || e.mask then .excluded false
      else if flags &&& s.ip .CMP_FLAG_MASK ≠ 0 then .excluded true
      else
        let d := fun (c : Nat) => (lab.getD c 0 : Int) - ref.getD c 0
        let l8 := (d 0 * 803 + 128) / 256
        let e8 := isqrt (l8 * l8 + 64 * d 1 * d 1 + 64 * d 2 * d 2).toNat
        let big := decide (e8 < 2 * l8.natAbs)
        let kind := if l8 < 0 ∧ big then 0 else if 0 < l8 ∧ big then 1 else 2
        if (t < e8 ∨ t * e.fl < 16 * l8.natAbs) ∧ e.takes kind then .compared r ref (some (kind, e8, l8))
        else .compared r ref none

/-- A pixel that has been looked at. -/
structure PxAt where
  col : Nat
  lab : List Nat
  flags : Nat
  yi : Int
  res : PxRes
deriving DecidableEq, Repr

/-- Contiguous runs of columns among increasing ones. -/
def colRuns : List Nat → List (Nat × Nat)
  | [] => []
  | c :: cs =>
    match colRuns cs with
    | (a, b) :: rest => if a = c + 1 then (c, b) :: rest else (c, c) :: (a, b) :: rest
    | [] => [(c, c)]

/-- A part of a line that is not compared, with the event ID of its cause and its detail (R19, R262). -/
def State.notCompared (s : State) (line : Nat) (cols : Nat × Nat) (cause detail : Nat) : State :=
  (s.covReport ⟨.mirror, line, 1, cols.1, cols.2, 1, 0xFFFF, cause, detail % 65536, 0⟩).count .CMP_LINES_NOT_COMPARED

/-- Why a whole line is not compared, a late part apart: event ID of the cause and detail. -/
def State.wholeReason (s : State) (line : Nat) : Option (Nat × Nat) :=
  if s.cmp.thermalWait then some (Ev.id .HLT_COMPARE_OFF, 0)
  else if s.ip .CMP_ENABLE = 0 then some (0, 0)
  else if !s.hlt.clocks.getD 4 true then some (Ev.id .CMP_REF_FAULT, 0)
  else match s.cmp.rep with
  | none => some (0, 0)
  | some r =>
    if s.cmp.halted then some (Ev.id .CMP_HALTED, 0)
    else if !s.cmp.started then some (0, 0)
    else if s.cmp.learn.isSome then some (0, 0)
    else if !s.cmp.resident.contains s.cmp.refSlot then some (Ev.id .CMP_REF_FAULT, 0)
    else if (s.refN s.cmp.refSlot : Int) - 1 ≤ s.base16 r line / 16 then some (0, 0)
    else none

/-- A defect pixel as a run of its own. -/
def PxAt.run (p : PxAt) (s : State) (l : ImgLine) (low : Bool) (rep region : Nat) (ref : List Nat) (d : Nat × Nat × Int) : NewRun :=
  let c := s.devCols
  ⟨((List.range 4).find? (fun i => s.sliceUsed i && decide (p.col ≤ (s.sliceCols i).2))).getD 3, region, rep,
   [⟨l.line, p.col, p.col⟩], l.line, l.line, l.stamp, p.yi.toNat, p.col, p.col, 1, d.2.1, d.2.1, d.2.2, d.2.2, p.lab, ref, p.col, l.line,
   2 ^ d.1 + bitAt low 7 + bitAt (decide (p.flags % 16 ≠ 0)) 8,
   if p.col = c.1 then some (l.line, l.line) else none, if p.col = c.2 then some (l.line, l.line) else none⟩

/-- Defect pixels of a line as runs: neighbouring columns of one region together (R303). -/
def State.runsOf (s : State) (l : ImgLine) (low : Bool) (rep : Nat) : List PxAt → List NewRun
  | [] => []
  | p :: ps =>
    match p.res with
    | .compared r ref (some d) =>
      let x := p.run s l low rep r ref d
      match s.runsOf l low rep ps with
      | y :: rest =>
        if y.region = r ∧ y.col0 = p.col + 1 then
          ({ (x.join y) with runs := [⟨l.line, p.col, y.col1⟩] } : Blob) :: rest
        else x :: y :: rest
      | [] => [x]
    | _ => s.runsOf l low rep ps

/-- Drift sums of a line's compared pixels (R298). -/
def State.addDrift (s : State) (px : List PxAt) : State :=
  let add := fun (m : Sparse Nat) (p : PxAt) => match p.res with
    | .compared r ref _ =>
      if !(s.regionEnt r).drifts then m else
      let put := fun (m : Sparse Nat) (i v : Nat) => Sparse.set m 0 (8 * r + i) (Sparse.get m 0 (8 * r + i) + v)
      let m := (List.range 3).foldl (fun (m : Sparse Nat) i => put (put m i (p.lab.getD i 0)) (3 + i) (ref.getD i 0)) m
      put m 6 1
    | _ => m
  s.updRep (fun r => { r with drift := px.foldl add r.drift })

/-- Whether a reference read of a pixel's taps meets an uncorrectable error (R284, R522). -/
def State.refBad (s : State) (x16 y16 : Int) : Bool :=
  let slot := s.cmp.refSlot
  let a := fun (i j : Int) =>
    ((s.refPix slot : Int) + (y16 / 16 + j) * s.refStride slot + 4 * (x16 / 16 + i - s.refFirst slot)).toNat / 64
  s.cmp.refUe.any (fun u => [a 0 0, a 1 0, a 0 1, a 1 1].contains (u / 64))

/-- The slice of a column (R13). -/
def State.sliceOf (s : State) (col : Nat) : Nat :=
  ((List.range 4).find? (fun i => s.sliceUsed i && decide ((s.sliceCols i).1 ≤ col) && decide (col ≤ (s.sliceCols i).2))).getD 0

/-- Slices that cannot take a line: powered down, or up again and waiting for a boundary (R20, R530, R569), or without the time for it (R21); the others are busy with it. -/
def State.takeSlices (s : State) (l : ImgLine) : List Nat × State :=
  let t := 15 * l.stamp
  (List.range 4).foldl (fun (a : List Nat × State) i =>
    if !s.sliceUsed i then a
    else if !natBit s.pwr.domains (40 + i) || natBit a.2.cmp.sliceWait i || decide (t < a.2.cmp.busy.getD i 0) then (a.1 ++ [i], a.2)
    else
      let c := s.sliceCols i
      (a.1, a.2.updCmp (fun m => { m with busy := upd m.busy i (fun _ => t + 640 * ceilDiv (c.2 + 1 - c.1) 2) }))) ([], s)

/-- A line taken into a learning (R315, R316). -/
def State.learnLine (s : State) (l : ImgLine) (r : Rep) (k : Learn) (labs : List (Nat × List Nat)) : State :=
  let slot := k.slot
  let f := s.refFirst slot
  if r.learnIdx = 1 then
    let j := l.line - r.line
    if s.refN slot ≤ j then s else
    labs.foldl (fun (s : State) p =>
      if f ≤ p.1 ∧ p.1 < f + s.refW slot then
        let lab := (p.2.getD 0 0, p.2.getD 1 0, p.2.getD 2 0)
        let s := s.dramWrite (s.refPix slot + j * s.refStride slot + 4 * (p.1 - f))
          ((p.2 ++ [s.ip .CMP_LEARN_FLOOR]).flatMap (leBytes 1))
        s.accumulate slot (p.1 - f) j lab
      else s) s
  else if s.cmp.disp.isNone then
    (s.count .CMP_LEARN_SKIPPED_LINES).updRep (fun r => { r with flags := r.flags ||| 1 })
  else
    let base := s.base16 r l.line
    let s := labs.foldl (fun (s : State) p =>
      let d := (s.dispOf l.line p.1).1
      let x := openRound 46 (16 * p.1 + d.1) 16 - f
      let y := openRound 46 (base + d.2) 16
      if 0 ≤ x ∧ x < s.refW slot ∧ 0 ≤ y ∧ y < s.refN slot then
        s.accumulate slot x.toNat y.toNat (p.2.getD 0 0, p.2.getD 1 0, p.2.getD 2 0)
      else s) s
    if r.learnIdx = k.n then s.finalTo k (min (s.refN slot) (base / 16 + 1 - 64).toNat) else s

/-- Pixels of a line compared in some columns (R293 to R298, R303). -/
def State.compareCols (s : State) (l : ImgLine) (r : Rep) (cols : List Nat) (labs : List (Nat × List Nat)) : State :=
  let low := s.cmp.disp.isNone
  let base := s.base16 r l.line
  let bad := (List.range 4).filter (fun i => cols.any (fun x => s.sliceOf x == i && (let d := (s.dispOf l.line x).1
    s.refBad (16 * x + d.1) (base + d.2))))
  let s := bad.foldl (fun (s : State) i =>
    (s.raise .CMP_REF_FAULT i).notCompared l.line (s.sliceCols i) (Ev.id .CMP_REF_FAULT) i) s
  let cols := cols.filter (fun x => !bad.contains (s.sliceOf x))
  let px := cols.map (fun x =>
    let d := (s.dispOf l.line x).1
    let lab := (labs.find? (fun p => p.1 == x)).elim [] (fun p => p.2)
    let fl := l.flagsAt x
    (⟨x, lab, fl, (base + d.2) / 16, s.comparePixel lab fl (16 * x + d.1) (base + d.2)⟩ : PxAt))
  let s := if cols.any (fun x => (s.dispOf l.line x).2) then s.count .CMP_DISP_CLAMPED else s
  let s := (colRuns ((px.filter (fun p => p.res == .outside)).map PxAt.col)).foldl
    (fun (s : State) c => s.notCompared l.line c 0 0) s
  let n := (px.filter (fun p => p.res == .excluded true)).length
  let s := if n = 0 then s else s.count .CMP_FLAG_EXCLUDED 0 n
  let s := if low then
      (s.covLine .mirror l.line s.devCols 6 .CMP_LOW_CONFIDENCE 0 0).updRep (fun r => { r with flags := r.flags ||| 1 })
    else s
  let s := s.addDrift px
  let s := (s.runsOf l low r.number px).foldl (fun (s : State) x => s.addRun x s.askDown) s
  s.count .CMP_LINES_COMPARED

/-- The columns of some tiles. -/
def State.tilesCols (s : State) (mask : Nat) : List (Nat × Nat) := (maskList 16 mask).map s.tileCols

/-- The line kept for patches and centroids. -/
def State.keepLive (s : State) (l : ImgLine) (labs : List (Nat × List Nat)) : State :=
  s.updCmp (fun c => { c with recent :=
    ⟨l.line, s.devCols.1, labs.map (fun (p : Nat × List Nat) => p.2.getD 0 0), c.disp.getD ⟨[], [], 0⟩, c.xc⟩ :: c.recent })

/-- Mirror's part of an image line. -/
def State.mirrorLine (s : State) (l : ImgLine) : State :=
  let s := s.mirrorTo l.line
  let s := s.seamsDue l.line
  let dev := s.devCols
  let rows := s.matrix
  let labs := (List.range (dev.2 + 1 - dev.1)).map (fun i =>
    let v := l.lab rows (dev.1 + i)
    (dev.1 + i, [v.1, v.2.1, v.2.2]))
  let late := s.cmp.late
  let mask := late.elim 0 (fun x => x.1)
  let allLate := decide (mask &&& 27 ≠ 0)
  let lateCols := if allLate then [dev] else late.elim [] (fun x => s.tilesCols x.2)
  let s := if late.isSome then s.count .CAP_JOB_NCMP_LINES else s
  let s := lateCols.foldl (fun (s : State) c => s.notCompared l.line c (Ev.id .CAP_JOB_PART_LATE) mask) s
  let why := s.wholeReason l.line
  let s := match why with
    | some (cause, detail) => s.notCompared l.line dev cause detail
    | none => s
  let s := match decide (allLate ∨ why.isSome) with
    | true =>
      match s.cmp.rep, s.cmp.learn with
      | some r, some k => if s.cmp.thermalWait ∨ r.learnIdx = 0 then s else (s.keepLive l labs).learnLine l r k labs
      | some _, none => if s.cmp.thermalWait then s else s.keepLive l labs
      | none, _ => s
    | false =>
      match s.cmp.rep with
      | none => s
      | some r =>
        let s := s.keepLive l labs
        let t := s.takeSlices l
        let s := t.1.foldl (fun (s : State) i => s.notCompared l.line (s.sliceCols i) 0 0) t.2
        let out := t.1.map s.sliceCols ++ lateCols ++ l.blind ++ l.skip
        let cols := (labs.map (fun (p : Nat × List Nat) => p.1)).filter (fun (x : Nat) => out.all (fun (c : Nat × Nat) => !(decide (c.1 ≤ x) && decide (x ≤ c.2))))
        s.compareCols l r cols labs
  let s := match s.cmp.learn, s.cmp.rep with
    | none, some _ => if s.cmp.thermalWait || s.cmp.halted then s else s.evalRows l.line
    | some _, some r => if r.learnIdx < 2 then s else s.evalRows l.line
    | _, none => s
  let s := s.closeQuiet l.line s.askDown
  s.covPass .mirror l.line

/-- The oldest emitted line goes through Mirror. -/
def State.compareLine (s : State) : State :=
  match s.cap.mirrorIn with
  | [] => s
  | l :: rest => ({ s with cap := { s.cap with mirrorIn := rest } } : State).mirrorLine l

/-- Every emitted line through Mirror (R268). -/
def State.compareAll (s : State) : State := s.cap.mirrorIn.foldl (fun (s : State) _ => s.compareLine) s

/-- CMP_STATE (R318): 0 OFF, 1 WAIT_REPEAT, 2 FINE, 3 COARSE, 4 LEARNING, 5 HALTED. -/
def State.cmpState (s : State) : Nat :=
  if s.ip .CMP_ENABLE = 0 then 0
  else if s.cmp.halted then 5
  else if s.cmp.rep.isNone || !s.cmp.started then 1
  else if s.cmp.learn.isSome then 4
  else if s.cmp.disp.isSome then 2 else 3

end Sys2Proof.Machine
end

