-- ==== Sys2Proof/Machine/CalOps.lean ====
section
/-! DEFINITION. System calibration (R214 to R225): the capture's course, its sums, and the fits. -/

namespace Sys2Proof.Machine

/-! ### Exact fits -/

/-- A matrix row without column j. -/
def dropAt (l : List Int) (j : Nat) : List Int := l.take j ++ l.drop (j + 1)

/-- The determinant of a matrix of n rows, by its first row. -/
def det : Nat → List (List Int) → Int
  | 0, _ => 1
  | _ + 1, [] => 1
  | n + 1, row :: rest =>
    (List.range (n + 1)).foldl (fun (a : Int) j =>
      let t := row.getD j 0 * det n (rest.map (fun r => dropAt r j))
      if j % 2 = 0 then a + t else a - t) 0

/-- The normal equations of a least-squares fit by powers lo to lo + m − 1 of x: the determinant, and those of Cramer's rule. -/
def normalFit (m lo : Nat) (pts : List (Int × Int)) : Int × List Int :=
  let mom := fun (k : Nat) => pts.foldl (fun (a : Int) p => a + p.1 ^ k) 0
  let rhs := fun (k : Nat) => pts.foldl (fun (a : Int) p => a + p.1 ^ k * p.2) 0
  let rows := (List.range m).map (fun i => (List.range m).map (fun j => mom (2 * lo + i + j)))
  let put := fun (c : Nat) => rows.zipIdx.map (fun r => upd r.1 c (fun _ => rhs (lo + r.2)))
  (det m rows, (List.range m).map (fun c => det m (put c)))

/-- num / den rounded half up and saturated, with whether it was saturated; den = 0 has no stated result. -/
def fitField (site : Nat) (num den lo hi : Int) : Int × Bool :=
  let q := if den = 0 then Config.unstated site [num]
    else if den < 0 then roundHalfUp (-num) (-den).toNat else roundHalfUp num den.toNat
  (clampInt lo hi q, decide (q < lo ∨ hi < q))

/-! ### The capture's course (R214 to R220) -/

/-- Whether a capture runs. -/
def State.calRuns (s : State) : Bool := s.cor.cal.isSome

/-- The capture changed. -/
def State.updCal (s : State) (f : Cal → Cal) : State :=
  { s with cor := { s.cor with
      cal := match s.cor.cal with
        | some c => some (f c)
        | none => none } }

/-- Enabled lanes of some tiles. -/
def State.lanesOf (s : State) (tiles : Nat) : List Nat := s.lanesOn.filter (fun l => natBit tiles (l / 8))

/-- A set for a capture that finds none (R217). -/
def State.createSet (s : State) (slot tiles : Nat) : State :=
  let nph := s.p .SEQ_NUM_PHASES
  let ls := s.lanesOf tiles
  let recs := ls.map (fun l =>
    let n := s.p .SEN_ACTIVE l
    recordBytes ⟨l, nph, n, List.replicate (n * nph) (defaultEntry (s.p .SEN_PEDESTAL l)),
      List.replicate (ceilDiv n 32 * nph) 16384⟩ (s.p .SEN_COL_BASE l))
  let body := recs.flatten
  let a := (s.librarySlot slot).2
  s.dramWrite a (headerBytes nph (128 + body.length) (0xCA100000 + slot) (maskOf ls) [0, 0, 0] [] ++ body)

/-- Whether the slot's set can be worked through: all its records good, and one for each enabled lane with its pixels (R217). -/
def State.setMatches (s : State) (slot tiles : Nat) : Bool :=
  let m := s.librarySlot slot
  let rs := setRecords m
  rs.all (fun r => r.good) && (s.lanesOf tiles).all (fun l =>
    rs.any (fun r => r.lane == l && setLe m (r.off + 2) 2 == s.p .SEN_ACTIVE l))

/-- The white tile's axis, if one is named. -/
def State.tileAxis (s : State) : Option Nat := if s.p .COR_TILE_AXIS < 8 then some (s.p .COR_TILE_AXIS) else none

/-- The enabled levels in ascending order (R220); other kinds have one level of full pulses. -/
def State.calLevels (s : State) (kind : Nat) : List Nat :=
  if kind = 1 then ((List.range 4).map (fun j => s.p .COR_LEVEL j)).filter (fun v => v != 0) |>.mergeSort (fun a b => decide (a ≤ b))
  else [256]

/-- The tile's axis has come to rest (R220): the settling wait starts, or the parked capture has ended. -/
def State.calAxis (s : State) : State :=
  match s.cor.cal, s.tileAxis with
  | some c, some a =>
    let x := s.axis a
    if x.st ≠ .rest then s
    else if c.st = .moving ∧ x.pos32 = s.p .COR_TILE_IN then
      s.updCal (fun c => { c with st := .settling, settleDue := some (s.now + ms (s.p .COR_SETTLE)) })
    else if c.st = .parking ∧ x.pos32 = s.p .COR_TILE_PARK then s.updCal (fun c => { c with st := .finished })
    else s
  | _, _ => s

/-- A capture starts (R214 to R220, R222). -/
def State.calStart (s : State) (cid kind slot flash : Nat) (apply : Bool) (tiles addr : Nat) : State :=
  let s := if kind ≠ 3 && !headerOk (s.librarySlot slot) then s.createSet slot tiles else s
  let move := kind != 0 && s.tileAxis.isSome
  let c : Cal := ⟨cid, kind, slot, flash, apply, tiles, addr, s.now, if move then .moving else .capturing, none, s.now, 0,
    if kind = 2 then 16 else s.p .COR_CAL_LINES, 0, [], [], List.replicate 6 0, List.replicate 6 0, [], s.now, List.replicate 6 none, []⟩
  let s := { s with cor := { s.cor with cal := some c } }
  match s.tileAxis with
  | some a => if kind = 0 then s else ((s.moveTo a ((s.axis a).resolve (s.p .COR_TILE_IN))).2).calAxis
  | none => s

/-- The settling wait is over (R220). -/
def State.calSettled (s : State) : State :=
  match s.cor.cal with
  | some c =>
    match c.settleDue with
    | some t => if c.st = .settling ∧ t ≤ s.now then
        s.updCal (fun c => { c with st := .capturing, settleDue := none, nextTick := s.now, nextSample := s.now }) else s
    | none => s
  | none => s

/-- The capture's lines are taken: the tile is parked, or the capture has ended (R220). -/
def State.calTaken (s : State) : State :=
  match s.cor.cal, s.tileAxis with
  | some c, some a =>
    if c.kind = 0 then s.updCal (fun c => { c with st := .finished })
    else
      let s := s.updCal (fun c => { c with st := .parking })
      ((s.moveTo a ((s.axis a).resolve (s.p .COR_TILE_PARK))).2).calAxis
  | _, _ => s.updCal (fun c => { c with st := .finished })

/-- A capture that ends without writing anything (R216). -/
def State.calFail (s : State) (detail : Nat) : State :=
  match s.cor.cal with
  | none => s
  | some c => ({ s with cor := { s.cor with cal := none } } : State).reply c.cid 0x13 detail

/-- Whether a cause of R216 holds. -/
def State.calCause (s : State) (cause : Nat) : Bool :=
  match s.cor.cal with
  | none => false
  | some c =>
    match cause with
    | 2 => c.kind != 0 && (List.range 4).any (fun b => ((s.bar b).lost || (s.bar b).shut || (s.bar b).shutNext) &&
        (List.range (s.p .SEQ_NUM_PHASES)).any (fun p => s.p .LMP_PULSE (6 * b + p) != 0) && s.p .LMP_MODE b != 0)
    | 3 => (s.lanesOf c.tiles).any (fun l => (s.lane (convOf l)).st != .inService && (s.lane (convOf l)).st != .replaced)
    | 4 => (c.st == .moving || c.st == .parking) && (match s.tileAxis with
        | some a => (s.axis a).st == .fault || (s.axis a).st == .off || (s.axis a).latched.any id || (s.axis a).st == .rest
        | none => false)
    | 5 => c.kind == 2 && c.badSince.any (fun b => match b with
        | some t => decide (t + secs 5 < s.now)
        | none => false)
    | _ => false

/-! ### Capture ticks and samples (R215, R219, R220, R222, R224) -/

/-- The key of a sum. -/
def calKey (level p l i : Nat) : Nat := ((level * 6 + p) * 128 + l) * 1024 + i

/-- Values added into sums from an index on. -/
def addSums (m : Sparse Int) (key : Nat) (vs : List Int) : Sparse Int :=
  vs.zipIdx.foldl (fun (m : Sparse Int) v => Sparse.set m 0 (key + v.2) (Sparse.get m 0 (key + v.2) + v.1)) m

/-- Sums of a list in groups of 32 (the segments of R200). -/
def segSums (n : Nat) (vs : List Int) : List Int :=
  (List.range (ceilDiv n 32)).map (fun i => ((vs.drop (32 * i)).take 32).foldl (· + ·) 0)

/-- The dark offset of a pixel in the slot's set, and its segment entry. -/
def State.slotRec (s : State) (slot l : Nat) : Option ShadeRec :=
  let m := s.librarySlot slot
  ((setRecords m).find? (fun r => r.lane == l && r.good)).map (readRecord m)

/-- One lane's sub-line taken into a capture. -/
def State.calSubLine (s : State) (c : Cal) (p l : Nat) (words : List Nat) : State :=
  let codes := words.map (fun w => ((w % 16384 : Nat) : Int))
  let n := words.length
  match c.kind with
  | 2 =>
    if !s.hasSource p || decide (16 ≤ c.taken) then s else
    let rec_ := s.slotRec c.slot l
    let o := fun (i : Nat) => rec_.elim 0 (fun r => ((r.px.getD (p * r.pixels + i) 0 % 65536 : Nat) : Int))
    let d := codes.zipIdx.map (fun x => 4 * x.1 - o x.2)
    s.updCal (fun c => { c with sums := addSums c.sums (calKey 0 p l 0) (segSums n d) })
  | 3 =>
    let y := (s.correct l p words).codes.map (fun (v : Nat) => (v : Int))
    s.updCal (fun c => { c with
      sums := addSums c.sums (calKey 0 p l 0) (segSums n y),
      squares := addSums c.squares (calKey 0 p l 0) (segSums n (y.map (fun v => v * v))) })
  | _ => s.updCal (fun c => { c with sums := addSums c.sums (calKey c.level p l 0) codes })

/-- Temperatures taken at a tick (R216, R220). -/
def State.calTemps (s : State) : State :=
  s.updCal (fun c => { c with
    tSum := c.tSum.zipIdx.map (fun x => if s.hasSource x.2 then x.1 + (s.cor.lastT.getD x.2 none).getD 0 else x.1),
    tCount := c.tCount.zipIdx.map (fun x => if s.hasSource x.2 then x.1 + 1 else x.1),
    badSince := c.badSince.zipIdx.map (fun x =>
      if s.hasSource x.2 && !s.cor.srcValid.getD x.2 false then some (x.1.getD s.now) else none) })

/-- The warm-up sample that has run for 16 sub-lines (R222), and whether the capture ends with it. -/
def State.calSampled (s : State) (c : Cal) : State :=
  let x : WuSample := ⟨s.now, c.tSum.zipIdx.map (fun y => if s.hasSource y.2 then s.cor.lastT.getD y.2 none else none), c.sums⟩
  let all := c.samples ++ [x]
  let recent := all.filter (fun y => decide (s.now ≤ y.at_ + secs (s.p .COR_WU_STABLE_TIME)))
  let full := decide ((all.headD x).at_ + secs (s.p .COR_WU_STABLE_TIME) ≤ s.now)
  let still := (List.range 6).all (fun p => !s.hasSource p ||
    (let ts := recent.filterMap (fun (y : WuSample) => y.temps.getD p none)
     decide (ts.foldl max (ts.headD 0) - ts.foldl min (ts.headD 0) ≤ ((s.p .COR_WU_STABLE : Nat) : Int))))
  let s := s.updCal (fun c => { c with samples := all, sums := [] })
  if (8 ≤ all.length ∧ full ∧ still) ∨ s.p .COR_WU_MAX ≤ all.length then s.calTaken else s

/-- The strobes of a capture tick: every pulse scaled by the level (R215, R219, R220). -/
def State.calStrobes (s : State) (kind level p openAt : Nat) : State :=
  if kind = 0 then s else
  (List.range 4).foldl (fun (s : State) b =>
    match s.pulseOf b p with
    | some (d, w) => s.strobe b p (openAt + ns d) (openAt + ns d + ns (w * level / 256))
    | none => s) s

/-- One tick of a capture through every phase (R215): guards with gains and tests, strobes, readouts. -/
def State.calTick (s : State) (tests : List (List LaneTest)) (video : List (List LaneVideo)) : State :=
  match s.cor.cal with
  | none => s
  | some c =>
    if c.st ≠ .capturing ∨ s.now < c.nextTick then s else
    let level := (s.calLevels c.kind).getD c.level 256
    let line := s.seq.lineIndex
    let x0 := s.now
    let s := { s with lamp := { s.lamp with strobes := [] } }
    let s := s.calTemps
    let s := ((packed s.par).zipIdx).foldl (fun (s : State) (x : PhaseNs × Nat) =>
      let p := x.2
      let guardAt := x0 + ns x.1.guardAt
      let transfer := x0 + ns x.1.transfer
      let s := s.applyGains p
      let s := s.laneTests p line false (tests.getD p [])
      let s := s.calStrobes c.kind level p (transfer - ns (s.p .SEQ_EXP p))
      (video.getD p []).foldl (fun (s : State) (v : LaneVideo) =>
        let l := if v.lane = 8 then 8 * v.tile + ((s.spare v.tile).serves.getD 8) else 8 * v.tile + v.lane
        if !(s.lanesOf c.tiles).contains l ∨ s.serving l ≠ 9 * v.tile + v.lane then s
        else
          let o := s.lanePixels l p v guardAt transfer
          match o.2.cor.cal with
          | some c' => o.2.calSubLine c' p l o.1.words
          | none => o.2) s) s
    if s.calCause 3 then s.calFail 3
    else
      let s := s.updCal (fun c => { c with taken := c.taken + 1, nextTick := x0 + ns (s.p .COR_CAL_PERIOD) })
      match s.cor.cal with
      | none => s
      | some c =>
        if c.kind = 2 then (if c.taken = 16 then s.calSampled c else s)
        else if c.taken < c.lines then s
        else if c.level + 1 < (s.calLevels c.kind).length then s.updCal (fun c => { c with level := c.level + 1, taken := 0 })
        else s.calTaken

/-- A warm-up sample falls due (R222): the next 16 lines belong to it. -/
def State.calSample (s : State) : State :=
  match s.cor.cal with
  | some c =>
    if c.kind = 2 ∧ c.st = .capturing ∧ c.nextSample ≤ s.now then
      s.updCal (fun c => { c with taken := 0, sums := [], nextSample := c.nextSample + ms (s.p .COR_WU_INTERVAL) })
    else s
  | none => s

/-! ### Results (R218 to R224) -/

/-- Entries of a lane's record with how many are at a limit. -/
abbrev Fitted := ShadeRec × Nat

/-- Umbra: the offsets of a record (R219). -/
def Cal.umbra (c : Cal) (r : ShadeRec) : Fitted :=
  let n := c.lines
  let px := r.px.zipIdx.map (fun e =>
    let p := e.2 / max 1 r.pixels
    let sum := Sparse.get c.sums 0 (calKey 0 p r.lane (e.2 % max 1 r.pixels))
    (e.1 / 65536 * 65536 + (roundHalfUp (4 * sum) n).toNat % 65536, decide (16383 * (n : Int) ≤ sum)))
  ({ r with px := px.map (fun e => e.1) }, (px.filter (fun e => e.2)).length)

/-- Albedo: G, a2 and a3 of one pixel from X = 4Σx − nO at each level and Y·kf = 64 × target × level (R221). -/
def albedoPixel (n kf : Nat) (pts : List (Int × Int)) : Nat × Bool :=
  if pts.any (fun p => decide (p.1 ≤ 0)) then (0, true)
  else
    let m := min 3 pts.length
    let f := normalFit m 1 pts
    let d := fun (i : Nat) => f.2.getD i 0
    let c : Int := 4 * n
    let k : Int := kf
    let g := fitField 1 (2 ^ 11 * d 0 * c) (f.1 * k) 0 65535
    let a2 := if m < 2 then (0, false) else fitField 2 (2 ^ 26 * d 1 * f.1 * k) (d 0 * d 0) (-128) 127
    let a3 := if m < 3 then (0, false) else fitField 3 (2 ^ 42 * d 2 * f.1 * f.1 * k * k) (d 0 * d 0 * d 0) (-128) 127
    (g.1.toNat + 2 ^ 16 * ofSigned 8 a2.1 + 2 ^ 24 * ofSigned 8 a3.1, g.2 || a2.2 || a3.2)

/-- Albedo: a lane's record (R221); temps are the header's, with T_a replaced. -/
def State.albedo (s : State) (c : Cal) (temps : List Int) (r : ShadeRec) : Fitted :=
  let levels := s.calLevels 1
  let n := c.lines
  let px := r.px.zipIdx.map (fun e =>
    let p := e.2 / max 1 r.pixels
    let i := e.2 % max 1 r.pixels
    if c.tCount.length ≤ p then (e.1, false) else
    let o := e.1 % 65536
    let t := fun (j : Nat) => temps.getD (4 * p + j) 0
    let kf := segFactor (r.segs.getD (p * ceilDiv r.pixels 32 + i / 32) 0) (t 0) (t 1) (t 2) (t 3)
    let pts := levels.zipIdx.map (fun v =>
      (4 * Sparse.get c.sums 0 (calKey v.2 p r.lane i) - (n * o : Nat), ((64 * s.p .COR_WHITE_TARGET p * v.1 : Nat) : Int)))
    let y := albedoPixel n kf pts
    (o + 65536 * y.1, y.2))
  ({ r with px := px.map (fun e => e.1) }, (px.filter (fun e => e.2)).length)

/-- The temperatures an Albedo capture leaves in the header (R220). -/
def Cal.albedoTemps (c : Cal) (temps : List Int) : List Int :=
  temps.zipIdx.map (fun x =>
    let n := c.tCount.getD (x.2 / 4) 0
    if x.2 % 4 = 3 ∧ n ≠ 0 then openRound 47 (c.tSum.getD (x.2 / 4) 0) n else x.1)

/-- The temperatures of phase p over a warm-up's samples (R222). -/
def Cal.phaseTemps (c : Cal) (p : Nat) : List Int := c.samples.filterMap (fun x => x.temps.getD p none)

/-- The degree of a phase's fit (R223). -/
def Cal.degree (c : Cal) (p : Nat) : Nat := min 3 (((c.phaseTemps p).map (fun t => t / 8)).eraseDups.length - 1)

/-- The temperatures a warm-up leaves in the header (R223). -/
def Cal.warmTemps (c : Cal) (temps : List Int) : List Int :=
  temps.zipIdx.map (fun x =>
    let ts := c.phaseTemps (x.2 / 4)
    if c.degree (x.2 / 4) = 0 then x.1
    else match x.2 % 4 with
      | 0 => ts.getLast?.getD 0
      | 1 => ts.foldl min (ts.headD 0)
      | 2 => ts.foldl max (ts.headD 0)
      | _ => x.1)

/-- One segment's coefficients from a warm-up (R223): albedo tells whether the header holds an Albedo timestamp. -/
def warmSegment (m : Nat) (entry : Nat) (old new : List Int) (albedo : Bool) (pts : List (Int × Int)) : Nat × Bool :=
  let total := pts.foldl (fun (a : Int) p => a * p.2) 1
  let tref := new.getD 0 0
  let f := normalFit (m + 1) 0 (pts.map (fun p => (p.1 - tref, total / p.2)))
  let d := fun (i : Nat) => f.2.getD i 0
  let ta := clampInt (new.getD 1 0) (new.getD 2 0) (old.getD 3 0) - tref
  let kf : Int := segFactor entry (old.getD 0 0) (old.getD 1 0) (old.getD 2 0) (old.getD 3 0)
  let scale : Int × Int := if albedo then (kf, 16384 * (d 0 + d 1 * ta + d 2 * ta ^ 2 + d 3 * ta ^ 3)) else (1, d 0)
  let c := fun (i sh : Nat) (lo hi : Int) =>
    if m < i then (0, false) else fitField (4 + i) (2 ^ sh * d i * scale.1) scale.2 lo hi
  let c0 := c 0 14 0 65535
  let c1 := c 1 24 (-32768) 32767
  let c2 := c 2 34 (-32768) 32767
  let c3 := c 3 44 (-32768) 32767
  (c0.1.toNat + 2 ^ 16 * ofSigned 16 c1.1 + 2 ^ 32 * ofSigned 16 c2.1 + 2 ^ 48 * ofSigned 16 c3.1, c0.2 || c1.2 || c2.2 || c3.2)

/-- Warm-up: a lane's record (R223). -/
def Cal.warm (c : Cal) (temps : List Int) (albedo : Bool) (r : ShadeRec) : Fitted :=
  let per := ceilDiv r.pixels 32
  let segs := r.segs.zipIdx.map (fun e =>
    let p := e.2 / max 1 per
    let m := c.degree p
    if m = 0 then (e.1, false) else
    let pts := c.samples.filterMap (fun x => (x.temps.getD p none).map (fun t =>
      (t, Sparse.get x.sums 0 (calKey 0 p r.lane (e.2 % max 1 per)))))
    warmSegment m e.1 ((temps.drop (4 * p)).take 4) (((c.warmTemps temps).drop (4 * p)).take 4) albedo pts)
  ({ r with segs := segs.map (fun e => e.1) }, (segs.filter (fun e => e.2)).length)

/-- The results written into the slot with its CRCs (R218): the count of entries at a limit comes with it. -/
def State.calWrite (s : State) (c : Cal) : Nat × State :=
  let m := s.librarySlot c.slot
  let temps := headerTemps m
  let times := (List.range 3).map (fun k => if k = c.kind then s.glint else setLe m (32 + 8 * k) 8)
  let temps' := if c.kind = 1 then c.albedoTemps temps else if c.kind = 2 then c.warmTemps temps else temps
  let lanes := s.lanesOf c.tiles
  let head := headerBytes (setLe m 6 1) (setLe m 8 4) (setLe m 12 4) (setLe m 16 16) times temps'
  let out := (setRecords m).foldl (fun (a : Nat × State) r =>
    if !lanes.contains r.lane || !r.good then a else
    let x := readRecord m r
    let y := if c.kind = 0 then c.umbra x else if c.kind = 1 then s.albedo c temps' x else c.warm temps (setLe m 40 8 != 0) x
    (a.1 + y.2, a.2.dramWrite (m.2 + r.off) (recordBytes y.1 (setLe m (r.off + 8) 4)))) (0, s)
  (out.1, out.2.dramWrite m.2 head)

/-- VERIFY: the buffer in host memory (R224). -/
def State.calReport (s : State) (c : Cal) : State :=
  let nph := s.p .SEQ_NUM_PHASES
  let lanes := s.lanesOf c.tiles
  let seg := fun (p l i : Nat) =>
    let n := c.lines * min 32 (s.p .SEN_ACTIVE l - 32 * i)
    let sum := (Sparse.get c.sums 0 (calKey 0 p l i)).toNat
    let sq := (Sparse.get c.squares 0 (calKey 0 p l i)).toNat
    let v := 256 * (n * sq - sum * sum)
    let q := isqrt (v / max 1 (n * n))
    let rms := if q * q * (n * n) = v then q else if Config.roundsUp 48 v (n * n) then q + 1 else q
    leBytes 2 (openRound 49 sum (max 1 n)).toNat ++ leBytes 2 (min 65535 rms)
  let bytes := leBytes 2 lanes.length ++ leBytes 1 nph ++ leBytes 5 0 ++ leBytes 8 s.glint ++ lanes.flatMap (fun l =>
    let k := ceilDiv (s.p .SEN_ACTIVE l) 32
    leBytes 1 l ++ leBytes 1 0 ++ leBytes 2 k ++ (List.range nph).flatMap (fun p => (List.range k).flatMap (seg p l)))
  s.hostWrite c.addr bytes

/-- The end of a capture (R218): the set loaded and swapped where the apply flag asks for it, and the reply. -/
def State.calEnd (s : State) (c : Cal) (limits unfit : Nat) (failed : Bool) : State :=
  let s := if c.apply && c.kind != 3 then
      (maskList 16 c.tiles).foldl (fun (s : State) t => (s.loadHalf (s.librarySlot c.slot) t).swapTile t) s
    else s
  let s := { s with cor := { s.cor with cal := none } }
  let status := if failed then 0x40 else if unfit ≠ 0 then 3 else 0
  let taken := if c.kind = 2 then c.samples.length else c.lines * (s.calLevels c.kind).length
  let s := s.reply c.cid status 0 ([w32 limits, w32 unfit, w32 taken, w32 ((s.now - c.startAt) / ms 1)] ++ Word.ofNat64 s.glint)
  if failed then s else s.raise .COR_CAL_DONE c.kind

/-- A finished capture writes its results (R218, R224, R225); a named flash slot is stored to first. -/
def State.calDone (s : State) : State :=
  match s.cor.cal with
  | none => s
  | some c =>
    if c.st ≠ .finished then s
    else if c.kind = 3 then (s.calReport c).calEnd c 0 0 false
    else
      let w := s.calWrite c
      let s := w.2
      let unfit := if c.kind = 2 then
          ((List.range (s.p .SEQ_NUM_PHASES)).filter (fun p => s.hasSource p && c.degree p == 0)).length else 0
      let s := { s with cor := { s.cor with
          calCount := upd s.cor.calCount c.kind (fun n => (n + 1) % 2 ^ 32), calTime := upd s.cor.calTime c.kind (fun _ => s.glint) } }
      let s := s.dirUpdate none
      if c.flash < 6 then s.updCal (fun c => { c with st := .storing w.1 unfit }) else s.calEnd c w.1 unfit false

/-- The store of a capture's set has ended (R213, R218). -/
def State.calStored (s : State) (ok : Bool) : State :=
  match s.cor.cal with
  | none => s
  | some c =>
    match c.st with
    | .storing limits unfit =>
      if ok then (s.storeSet c.slot c.flash).calEnd c limits unfit false
      else (s.raise .COR_FLASH_FAIL).calEnd c limits unfit true
    | _ => s

end Sys2Proof.Machine
end

