-- ==== Sys2Proof/Machine/AuxOps.lean ====
section
/-! DEFINITION. The auxiliary measurement block: conversion, scaling and linearisation (R408, R414 to R416), scans and packets (R409 to
R413), faults (R407, R422), loops (R423 to R426), calibration arithmetic (R417). -/

namespace Sys2Proof.Machine

/-- The block changed. -/
def State.updAux (s : State) (f : AuxSt → AuxSt) : State := { s with aux := f s.aux }

/-- Channel c. -/
def State.auxCh (s : State) (c : Nat) : AuxCh := s.aux.chans.getD c AuxCh.reset

/-- Channel c changed. -/
def State.updAuxCh (s : State) (c : Nat) (f : AuxCh → AuxCh) : State := s.updAux (fun a => { a with chans := upd a.chans c f })

/-- Whether the configuration is MUX (R404). -/
def State.auxMux (s : State) : Bool := s.p .AUX_CONFIG == 1

/-- The converter of a channel (R404). -/
def State.auxConv (s : State) (c : Nat) : Nat := if s.auxMux then c / 16 else c / 4

/-- Whether channel c is enabled; DIRECT has 16 channels. -/
def State.auxOn (s : State) (c : Nat) : Bool :=
  natBit (s.p .AUX_SCAN_MASK (c / 32)) (c % 32) && (s.auxMux || decide (c < 16))

/-- The channels of each step of a scan, in converter order (R410, R411). -/
def State.auxSteps (s : State) : List (List Nat) :=
  if s.auxMux then
    ((List.range 16).map (fun m => ((List.range 4).map (fun n => 16 * n + m)).filter s.auxOn)).filter (fun l => !l.isEmpty)
  else
    let mine := fun (n : Nat) => ((List.range 4).map (fun i => 4 * n + i)).filter s.auxOn
    ((List.range 4).map (fun i => (List.range 4).filterMap (fun n => (mine n)[i]?))).filter (fun l => !l.isEmpty)

/-! ### Conversion and linearisation -/

/-- The gain of a range (R408). -/
def auxGain (r : Nat) : Nat := match r with
  | 0 => 1
  | 1 => 8
  | 2 => 64
  | _ => 256

/-- The code of a conversion, from the input and sense voltages in nanovolts (R408). -/
def State.auxCode (s : State) (c : Nat) (vin vsense : Int) : Int :=
  let num := 2048 * (auxGain (s.p .AUX_RANGE c) : Int) * vin
  clampInt (-2048) 2047
    (if s.p .AUX_REF c = 0 then openRound 51 num 2560000000
     else if vsense ≤ 0 then Config.unstated 10 [vin, vsense] else openRound 51 num vsense.toNat)

/-- The scaled value w (R414). -/
def State.auxScaled (s : State) (c : Nat) (x : Int) : B32 :=
  b32OfInt ((16 * x - toSigned 16 (s.p .AUX_TARE c)) * (s.p .AUX_SPAN c : Nat)) (-29)

/-- The value v of the polynomial (R415). -/
def State.auxPoly (s : State) (c : Nat) (w t : B32) : B32 :=
  let ord := s.p .AUX_LIN_ORDER c
  let i0 := ord % 8
  let j0 := ord / 8
  let a := fun (i j : Nat) => b32OfBits ((s.auxCh c).coeffs.getD (6 * j + i) 0)
  let h := fun (j : Nat) => (List.range i0).reverse.foldl (fun (v : B32) i => (v.mul w).add (a i j)) (a i0 j)
  (List.range j0).reverse.foldl (fun (v : B32) j => (v.mul t).add (h j)) (h j0)

/-- The linearised value and whether it saturated (R415). -/
def auxOut (v : B32) : Int × Bool :=
  match v with
  | .inf neg => (if neg then -(2 ^ 31) else 2 ^ 31 - 1, true)
  | .nan => (toSigned 32 (ofSigned 32 (Config.unstated 11 [])), false)
  | x =>
    let y := x.toFixed16.getD 0
    (clampInt (-(2 ^ 31)) (2 ^ 31 - 1) y, decide (y < -(2 ^ 31) ∨ 2 ^ 31 - 1 < y))

/-- The temperature of a channel's polynomial at a stamp: the value, or none where the default serves (R416). -/
def State.auxTemp (s : State) (c stamp : Nat) : Option Int :=
  let tch := s.p .AUX_LIN_TCH c
  if tch = 127 then none else
  match (s.auxCh tch).last with
  | some (at_, v) => if at_ ≤ stamp ∧ stamp ≤ at_ + 51200000000 then some v else none
  | none => none

/-- A result from a code, and the state after it: faults (R422), linearisation, flags and the latest valid result (R413). -/
def State.auxResult (s : State) (c : Nat) (x : Int) (stamp flags : Nat) (scan : Bool) : AuxRes × State :=
  let ch := s.auxCh c
  let beyond := x == -2048 || x == 2047
  let burn := decide (2 ≤ s.p .AUX_FAULT c) && scan
  let high := burn && decide (2007 ≤ x)
  let run := if high then ch.openRun + 1 else 0
  let enter := high && decide (s.p .AUX_OPEN_COUNT ≤ run) && !ch.wire
  let leave := burn && !high && ch.wire
  let wire := if enter then true else if leave then false else ch.wire
  let s := s.updAuxCh c (fun y => { y with openRun := if burn then run else y.openRun, wire := wire, settling := false })
  let s := if enter then (s.count .AUX_WIRE_BREAKS).raise .AUX_WIRE_BREAK c else s
  let s := if leave then s.raise .AUX_WIRE_RESTORED c else s
  let useT := decide (8 ≤ s.p .AUX_LIN_ORDER c)
  let t := s.auxTemp c stamp
  let bad := useT && t.isNone
  let s := if bad && !ch.tempBad then s.raise .AUX_TEMP_INVALID c else s
  let s := s.updAuxCh c (fun y => { y with tempBad := bad })
  let tv := match t with
    | some v => b32OfInt v (-16)
    | none => b32OfInt (toSigned 16 (s.p .AUX_LIN_TDEF c)) (-4)
  let o := auxOut (s.auxPoly c (s.auxScaled c x) tv)
  let s := if o.2 then s.count .AUX_LIN_SATURATED else s
  let pin := s.p .AUX_EXC_PIN c
  let f := flags ||| bitAt ch.settling 0 ||| bitAt beyond 1 ||| bitAt wire 2 ||| bitAt ch.exc 3 |||
    bitAt (s.aux.reduced.getD pin false) 4 ||| bitAt bad 5 ||| bitAt o.2 8
  let ok := !beyond && !wire && !ch.exc
  let s := s.updAuxCh c (fun y => { y with latestOk := ok, last := if ok then some (stamp, o.1) else y.last })
  (⟨c, s.p .AUX_RANGE c, s.p .AUX_REF c == 1, f, x, stamp, o.1⟩, s)

/-- Whether a result is valid (R413). -/
def AuxRes.valid (r : AuxRes) : Bool := r.flags &&& 14 == 0

/-! ### Packets -/

/-- The 16 bytes of a result (R412). -/
def AuxRes.bytes (r : AuxRes) (head : Nat) : List Byte :=
  leBytes 1 (r.ch + 64 * r.range) ++ leBytes 1 (bitNat r.ratio) ++ leBytes 2 r.flags ++ leBytes 2 (ofSigned 16 r.code) ++ leBytes 2 0 ++
  leBytes 4 (r.stamp - head) ++ leBytes 4 (ofSigned 32 r.value)

/-- A packet of a scan or an injection sent to queue 0x0040 (R412). -/
def State.auxPacket (s : State) (kind stamp line : Nat) (incomplete : Bool) (rs : List AuxRes) : State :=
  let no := s.aux.scanNo
  let body := leBytes 4 no ++ leBytes 2 rs.length ++ leBytes 1 kind ++ leBytes 1 (bitNat incomplete) ++ leBytes 8 stamp ++
    leBytes 8 line ++ leBytes 4 (min s.aux.missed 0xFFFFFFFF) ++ leBytes 4 0 ++ rs.flatMap (fun r => r.bytes stamp)
  let s := s.updAux (fun a => { a with scanNo := if kind = 0 then (no + 1) % 2 ^ 32 else no, missed := 0 })
  s.serviceRecord 0x40 body

/-! ### Loops (R423 to R426) -/

/-- Loop o. -/
def State.auxLoop (s : State) (o : Nat) : AuxLoop := s.aux.loops.getD o ⟨0, 0, .off, none, none⟩

/-- Loop o changed. -/
def State.updLoop (s : State) (o : Nat) (f : AuxLoop → AuxLoop) : State := s.updAux (fun a => { a with loops := upd a.loops o f })

/-- The setpoint of FOLLOW from a value (R424). -/
def State.followCode (s : State) (o : Nat) (v : Int) : Nat :=
  let lo := toSigned 32 (s.p .AUX_LOOP_VLO o)
  let hi := toSigned 32 (s.p .AUX_LOOP_VHI o)
  let d := hi - lo
  let num := (if d < 0 then lo - v else v - lo)
  let den := d.natAbs
  let cur := 4 * den + 16 * num
  if 10 * cur < 38 * den then (openRound 52 (65536 * 38) 240).toNat
  else if 205 * (den : Int) < 10 * cur then (openRound 52 (65536 * 205) 240).toNat
  else (openRound 52 (65536 * cur) (24 * den)).toNat

/-- The fault value of a loop (R425). -/
def State.loopFaultCode (s : State) (o : Nat) : Nat :=
  match s.p .AUX_LOOP_FMODE o with
  | 0 => (s.auxLoop o).out
  | 1 => 9831
  | 2 => 60075
  | _ => s.p .AUX_LOOP_FAULT o

/-- Whether the followed channel's result cannot serve (R425). -/
def State.followBad (s : State) (o : Nat) : Bool :=
  let ch := s.auxCh (s.p .AUX_LOOP_CH o)
  !ch.latestOk || (match ch.last with
    | some (at_, _) => decide (at_ + 51200000000 < s.glint)
    | none => true)

/-- A loop's output after a change of what it depends on (R424, R425). -/
def State.loopOut (s : State) (o : Nat) : State :=
  let mode := s.p .AUX_LOOP_MODE o
  let run := fun (st : LoopSt) => if st = .open_ then LoopSt.open_ else .running
  if mode = 0 then s.updLoop o (fun l => { l with out := 0, st := .off, openSince := none, goodSince := none })
  else if s.pwr.st = .safe ∨ (mode = 2 ∧ s.followBad o) then
    let code := s.loopFaultCode o
    s.updLoop o (fun l => { l with out := code, st := .fault })
  else
    let code := if mode = 1 then s.p .AUX_LOOP_SET o
      else s.followCode o (((s.auxCh (s.p .AUX_LOOP_CH o)).last.elim 0 (fun x => x.2)))
    s.updLoop o (fun l => { l with out := code, st := run l.st })

/-- Every loop's output. -/
def State.loopsOut (s : State) : State := (List.range 4).foldl (fun (s : State) o => s.loopOut o) s

/-- A readback (R426). -/
def State.loopReadback (s : State) (o code : Nat) (atLimit : Bool) : State :=
  let l := s.auxLoop o
  let low := atLimit && decide (2 * 65536 < 240 * ((l.out : Int) - code))
  let near := decide (240 * ((l.out : Int) - code).natAbs ≤ 2 * 65536)
  let os := if low then some (l.openSince.getD s.now) else none
  let gs := if near then some (l.goodSince.getD s.now) else none
  let s := s.updLoop o (fun l => { l with rb := code, openSince := os, goodSince := gs })
  let long : Option Nat → Bool := fun x => match x with
    | some t => decide (t + ms 1 ≤ s.now)
    | none => false
  if l.st = .running ∧ long os then
    ((s.updLoop o (fun l => { l with st := .open_ })).count .AUX_LOOP_OPENS).raise .AUX_LOOP_OPEN o
  else if l.st = .open_ ∧ long gs then (s.updLoop o (fun l => { l with st := .running })).raise .AUX_LOOP_RESTORED o
  else s

/-! ### Scans (R409 to R413) -/

/-- The results of a scan or an injection taken by the lamp controller, the correction pipeline and the loops (R412, R413). -/
def State.auxDeliver (s : State) (rs : List AuxRes) : State :=
  rs.foldl (fun (s : State) r =>
    let bars := (List.range 4).filter (fun b => s.p .LMP_TEMP_CH b == r.ch)
    let s := bars.foldl (fun (s : State) b =>
      if r.valid then
        let t := openDiv 53 r.value 4096
        (s.lampReading b t).newReading b t
      else s.lampInvalid b) s
    (List.range 4).foldl (fun (s : State) o =>
      if s.p .AUX_LOOP_MODE o = 2 ∧ s.p .AUX_LOOP_CH o = r.ch then s.loopOut o else s) s) s

/-- A trigger that finds the block busy (R409). -/
def State.scanMissed (s : State) : State :=
  ((s.updAux (fun a => { a with missed := a.missed + 1 })).count .AUX_SCANS_MISSED).raise .AUX_SCAN_MISSED

/-- Whether a lock-out is pending or runs (R417, R420). -/
def State.auxLocked (s : State) : Bool := decide (s.now < s.aux.lockUntil)

/-- A trigger (R409). -/
def State.scanTrigger (s : State) : State :=
  if s.aux.scan.isSome || s.auxLocked then s.scanMissed
  else if s.auxMux && !s.coresUp then s.scanMissed
  else s.updAux (fun a => { a with scan := some ⟨s.now, s.glint, s.seq.lineIndex, 0, false, []⟩ })

/-- One step of the running scan (R408, R410, R411): the inputs of the four converters, then their sense voltages, in nanovolts. -/
def State.scanStep (s : State) (nv : List Int) : State :=
  match s.aux.scan with
  | none => s
  | some k =>
    match s.auxSteps[k.steps]? with
    | none => s
    | some chans =>
      let flags := bitAt k.restarted 6
      let order := chans.filter (fun c => decide (s.p .AUX_LIN_ORDER c < 8)) ++ chans.filter (fun c => decide (8 ≤ s.p .AUX_LIN_ORDER c))
      let out := order.foldl (fun (a : List AuxRes × State) c =>
        let n := a.2.auxConv c
        let r := a.2.auxResult c (a.2.auxCode c (nv.getD n 0) (nv.getD (4 + n) 0)) s.glint flags true
        (a.1 ++ [r.1], r.2)) ([], s)
      let rs := chans.filterMap (fun c => out.1.find? (fun r => r.ch == c))
      out.2.updAux (fun a => { a with scan := some { k with steps := k.steps + 1, restarted := false, results := k.results ++ rs } })

/-- The scan's end (R412): its packet, its counters, its consumers. -/
def State.scanEnd (s : State) (cut : Bool) : State :=
  match s.aux.scan with
  | none => s
  | some k =>
    let s := s.updAux (fun a => { a with scan := none })
    let s := s.count (if cut then .AUX_SCANS_CUT else .AUX_SCANS)
    let s := s.auxDeliver k.results
    if k.results.isEmpty then s else s.auxPacket 0 k.stamp k.line cut k.results

/-- A cores' reset ends a MUX scan at its last completed step (R411). -/
def State.scanCores (s : State) : State := if s.auxMux && s.aux.scan.isSome then s.scanEnd true else s

/-! ### Injections (R419, R420) -/

/-- An injection's conversions, packet and reply: the codes are not among the command's operands, so each is a free value. -/
def State.injectNow (s : State) (x : AuxInj) : State :=
  let stamp := s.glint
  let out := x.chans.foldl (fun (a : List (Nat × AuxRes) × State) c =>
    let f := a.2.takeFree
    let r := f.2.auxResult c.2 (toSigned 12 f.1) stamp (bitAt x.delayed 7) false
    (a.1 ++ [(c.1, r.1)], r.2)) ([], s)
  let s := out.2
  let s := match s.aux.scan with
    | some k =>
      if k.steps < s.auxSteps.length ∧ !k.restarted then
        (s.updAux (fun a => { a with scan := some { k with restarted := true } })).count .AUX_RESTARTS
      else s
    | none => s
  let rs := out.1.map (fun y => y.2)
  let s := s.auxDeliver rs
  let s := s.auxPacket 1 stamp s.seq.lineIndex false rs
  let of := fun (n : Nat) => out.1.find? (fun y => y.1 == n)
  s.done x.cid ((List.range 4).map (fun n => match of n with
      | some y => w32 (ofSigned 16 y.2.code + 65536 * y.2.flags)
      | none => w32 0) ++
    (List.range 4).map (fun n => match of n with
      | some y => wInt y.2.value
      | none => w32 0))

/-- Queued injections served, oldest first, once nothing holds them back: those before a waiting AUX_CAL, or all. -/
def State.injectServe (s : State) : State :=
  if s.auxLocked then s
  else
    let n := match s.aux.cal with
      | some c => c.ahead
      | none => s.aux.inject.length
    (s.aux.inject.take n).foldl (fun (s : State) x => s.injectNow x) (s.updAux (fun a => { a with
      inject := a.inject.drop n, cal := a.cal.map (fun c => ({ c with ahead := 0 } : AuxCalRun)) }))

/-! ### Excitation (R405, R407, R422) -/

/-- The channels that a pin excites. -/
def State.pinChans (s : State) (e : Nat) : List Nat := (List.range 64).filter (fun c => s.p .AUX_EXC_PIN c == e)

/-- Whether writes set a pin to 4.5 V while VFIELD is below 4.8 V (R405). -/
def State.excLow (s : State) (ws : List ParWrite) : Bool :=
  decide (s.pwr.vfieldMv < 4800) && ws.any (fun w => w.par == .AUX_EXC && w.val == 2)

/-- A pin lowered to 2.5 V or returned to 4.5 V (R407). -/
def State.excReduce (s : State) (e : Nat) (down : Bool) : State :=
  let s := s.updAux (fun a => { a with reduced := upd a.reduced e (fun _ => down) })
  (s.pinChans e).foldl (fun (s : State) c => s.updAuxCh c (fun y => { y with settling := true })) s

/-- The current of pin e outside its window (R422); the unit is 0.1 mA. -/
def State.excCurrent (s : State) (e current : Nat) : State :=
  let ch := s.auxCh e
  if s.auxMux || s.p .AUX_FAULT e != 1 then s
  else if current < s.p .AUX_EXC_IMIN e then
    if ch.wire then s else ((s.updAuxCh e (fun y => { y with wire := true })).count .AUX_WIRE_BREAKS).raise .AUX_WIRE_BREAK e
  else if s.p .AUX_EXC_IMAX e < current then
    if ch.exc then s else ((s.updAuxCh e (fun y => { y with exc := true })).count .AUX_EXC_FAULTS).raise .AUX_EXC_FAULT e
  else s

/-- The current of pin c has been inside its window for 1 ms (R422). -/
def State.excGood (s : State) (c : Nat) : State :=
  let ch := s.auxCh c
  if s.auxMux || s.p .AUX_FAULT c != 1 then s
  else
    let s := s.updAuxCh c (fun y => { y with wire := false, exc := false })
    if ch.wire then s.raise .AUX_WIRE_RESTORED c else s

/-! ### AUX_CAL (R417, R418) -/

/-- What a capture computes: the new O or S if there is one, 16 × mean, rms in 1/16 code. -/
def State.auxCapture (s : State) (c : Nat) (span : Bool) (codes : List Int) : Option Nat × Int × Nat :=
  let n := max 1 codes.length
  let sum := codes.foldl (· + ·) 0
  let sq := (codes.foldl (fun (a : Int) x => a + x * x) 0).toNat
  let mean16 := roundHalfUp (16 * sum) n
  let r := isqrt (256 * sq / n)
  let rms := if r * r * n = 256 * sq then r else if Config.roundsUp 54 (256 * sq) n then r + 1 else r
  if !span then (some (ofSigned 16 (clampInt (-32768) 32767 mean16)), mean16, rms)
  else
    let den := 16 * sum - toSigned 16 (s.p .AUX_TARE c) * n
    let t := toSigned 16 (s.p .AUX_SPAN_TARGET c)
    if den ≤ 0 then (none, mean16, rms)
    else (some (clampInt 1 65535 (openRound 55 (2 ^ 14 * t * n) den.toNat)).toNat, mean16, rms)

/-- What a commit of the block's parameters does beside them (R404, R407, R408, R424). -/
def State.auxCommitted (s : State) (old : Sparse Nat) : State :=
  let was := fun (p : Par) (i : Nat) => parGet old p i
  let s := (List.range 64).foldl (fun (s : State) c =>
    let moved := s.p .AUX_RANGE c != was .AUX_RANGE c || s.p .AUX_REF c != was .AUX_REF c
    let s := if moved then s.updAuxCh c (fun y => { y with settling := true }) else s
    if s.p .AUX_FAULT c != was .AUX_FAULT c then s.updAuxCh c (fun y => { y with wire := false, exc := false, openRun := 0 }) else s) s
  let s := (List.range 16).foldl (fun (s : State) e =>
    if s.p .AUX_EXC e != 2 && s.aux.reduced.getD e false then s.updAux (fun a => { a with reduced := upd a.reduced e (fun _ => false) }) else s) s
  let s := if s.p .AUX_TRIG != was .AUX_TRIG 0 || s.p .AUX_SCAN_PERIOD != was .AUX_SCAN_PERIOD 0 then
      s.updAux (fun a => { a with due := s.now + us (s.p .AUX_SCAN_PERIOD), ticks := 0, tickDue := false })
    else s
  s.loopsOut

/-- A captured tick counts towards a scan (R409). -/
def State.auxTick (s : State) : State :=
  if s.p .AUX_TRIG ≠ 2 then s else
  let n := s.aux.ticks + 1
  if s.p .AUX_TICK_DIV ≤ n then s.updAux (fun a => { a with ticks := 0, tickDue := true })
  else s.updAux (fun a => { a with ticks := n })

end Sys2Proof.Machine
end

