-- ==== Sys2Proof/Machine/SecOps.lean ====
section
/-! DEFINITION. The security module (chapter 13): run keys, error state and episodes, self-tests, zeroisation, audit log storage,
firmware slots, wrapping of the record master key. -/

namespace Sys2Proof.Machine

/-- The module changed. -/
def State.updSec (s : State) (f : SecSt → SecSt) : State := { s with sec := f s.sec }

/-- Whether the module is in its error state (R501). -/
def State.secFailed (s : State) : Bool := s.sec.mode == .error

/-! ### Run keys (R482) -/

/-- The ASCII bytes of a text. -/
def ascii (t : String) : List Byte := t.toList.map (fun c => BitVec.ofNat 8 c.toNat)

/-- n bytes of HKDF-SHA-384. -/
def hkdf (ikm salt info : List Byte) (n : Nat) : List Byte := (List.range n).map (fun i => Config.hkdfByte ikm salt info i)

/-- n bytes drawn from the DRBG. -/
def State.draw (s : State) (n : Nat) : List Byte × State :=
  ((List.range n).map (fun i => Config.drbgByte s.sec.draws i), s.updSec (fun x => { x with draws := x.draws + 1 }))

/-- The run keys from the salt that is kept, unless there is none (R482, R503). -/
def State.deriveKeys (s : State) : State :=
  match s.sec.salt with
  | none => s
  | some salt => s.updSec (fun x => { x with
      recKey := some (hkdf x.rmk salt (ascii "E128 REC v1") 48), gmacKey := some (hkdf x.rmk salt (ascii "E128 GMAC v1") 32) })

/-- The keys of the run that opens (R482); in the error state they wait for the recovery (R503). -/
def State.runKeys (s : State) : State :=
  let s := s.updSec (fun x => { x with
    salt := some (fingerprint ++ leBytes 4 s.cap.runId ++ leBytes 8 s.cap.openStamp), recKey := none, gmacKey := none })
  if s.secFailed then s else s.deriveKeys

/-! ### The error state (R500 to R502) -/

/-- An episode that has seen nothing in the present run. -/
def SecEpisode.fresh (cause : Nat) : SecEpisode := ⟨cause, none, none, none, none, 0⟩

/-- A captured line within an episode (R502). -/
def State.episodeLine (s : State) (line : Nat) : State :=
  s.updSec (fun x => { x with episode := x.episode.map (fun e => { e with
    firstLine := some (e.firstLine.getD line), lastLine := some line }) })

/-- The least of two line numbers that may be absent, by a choice function. -/
def pickLine (f : Nat → Nat → Nat) : Option Nat → Option Nat → Option Nat
  | none, b => b
  | a, none => a
  | some a, some b => some (f a b)

/-- The coverage entry of the episode within the present run (R502). -/
def State.episodeEntry (s : State) : State :=
  match s.sec.episode with
  | none => s
  | some e =>
    if s.cap.run = .closed then s else
    match pickLine min e.firstLine e.minIdx, pickLine max e.lastLine e.maxIdx with
    | some a, some b => s.covLines .security a (b + 1 - a) s.devCols 7 .SEC_ERROR_STATE e.cause e.packets
    | _, _ => s

/-- An episode goes on in another run: it starts afresh there (R502). -/
def State.episodeRun (s : State) : State :=
  s.updSec (fun x => { x with episode := x.episode.map (fun e => SecEpisode.fresh e.cause) })

/-- Entry into the error state (R500); a module that is in it stays. -/
def State.secError (s : State) (cause : Nat) : State :=
  if s.secFailed then s else
  let s := s.auditDevice Ev.SEC_ERROR_STATE.id cause
  let s := s.updSec (fun x => { x with
    mode := .error, cause := cause, permanent := x.permanent || cause == 6, recKey := none, gmacKey := none,
    episode := some (SecEpisode.fresh cause) })
  let s := match s.seq.slot with
    | some k => if s.cap.run = RunSt.closed then s else s.episodeLine k.line
    | none => s
  (s.count .SEC_ERROR_ENTRIES).raise .SEC_ERROR_STATE cause

/-- The error state left (R503). -/
def State.secRecover (s : State) : State :=
  let s := s.episodeEntry
  let s := s.updSec (fun x => { x with mode := .operational, episode := none })
  let s := s.deriveKeys
  (s.auditDevice Ev.SEC_RECOVERED.id 0).raise .SEC_RECOVERED

/-! ### Self-tests (R499, R503) -/

/-- A self-test begins; an operational module shows SELF_TEST while it runs. -/
def State.testStart (s : State) (x : SelfTest) : State :=
  s.updSec (fun m => { m with test := some x, testWaits := false, mode := if m.mode = .operational then .selfTest else m.mode })

/-- A result entered in the audit log (R490): its event is not stated. -/
def State.testEntry (s : State) (cause : Nat) : State :=
  let f := s.takeFree
  f.2.auditDevice f.1 cause

/-- The period of the self-tests from now on; nothing is due while it is 0. -/
def State.testNext (s : State) : State :=
  s.updSec (fun m => { m with testDue := s.now + secs (3600 * s.p .SEC_SELFTEST_PERIOD) })

/-- The running self-tests end with a cause, 0 for a pass (R499, R503). -/
def State.testDone (s : State) (cause : Nat) : State :=
  match s.sec.test with
  | none => s
  | some x =>
    let was := s.secFailed
    let s := s.updSec (fun m => { m with test := none })
    let s := if x = .boot then s else s.count .SEC_SELFTEST_RUNS
    let cause := if s.sec.permanent then 6 else cause
    let s := s.testEntry cause
    let s :=
      if cause = 0 then (if was then s.secRecover else s.updSec (fun m => { m with mode := .operational }))
      else if was then s.updSec (fun m => { m with recoveries := m.recoveries + 1 })
      else s.secError cause
    let s := s.testNext
    let waiting := s.host.outst.filter (fun o => o.opcode == 0x0C0D && o.first && !o.final)
    waiting.foldl (fun (s : State) o => s.done o.cid [w32 cause]) s

/-- A periodic self-test is due (R499): it waits for the end of a run. -/
def State.testPeriod (s : State) : State :=
  if s.p .SEC_SELFTEST_PERIOD = 0 ∨ s.sec.test.isSome ∨ s.now < s.sec.testDue then s
  else if s.cap.run ≠ .closed then s.updSec (fun m => { m with testWaits := true })
  else s.testStart .periodic

/-- RUN_CLOSE has completed: a test that waited starts (R499). -/
def State.testAfterRun (s : State) : State := if s.sec.testWaits && s.sec.test.isNone then s.testStart .periodic else s

/-! ### Zeroisation (R504) -/

/-- A record master key and a key-agreement key from the DRBG. -/
def State.newSecrets (s : State) : State :=
  let d := s.draw 32
  let s := d.2.updSec (fun x => { x with rmk := d.1 })
  s.updSec (fun x => { x with dkk := x.draws, draws := x.draws + 1 })

/-- SEC_ZEROISE. -/
def State.zeroise (s : State) (permanent : Bool) : State :=
  let s := s.updSec (fun x => { x with roleKeys := [], policy := [], recKey := none, gmacKey := none, salt := none, coInstall := !permanent })
  let s := s.newSecrets
  let s := (s.auditDevice Ev.SEC_ZEROISED.id (bitNat permanent)).raise .SEC_ZEROISED
  if permanent then s.secError 6 else s

/-! ### The audit log in flash (R493, R494) -/

/-- The flash address of audit entry n. -/
def auditAddr (n : Nat) : Nat := 0x1F10000 + 128 * (n % 7680)

/-- The first sequence number that is still in the buffer. -/
def State.auditFlushed (s : State) : Nat := s.sec.auditSeq - s.sec.auditBuf.length

/-- One entry written to the ring; at every 512th place the oldest 512 entries are erased first. -/
def State.auditStore (s : State) (n : Nat) (e : AuditEnt) : State :=
  let s := if n % 512 = 0 ∧ 7680 ≤ n then s.updSec (fun x => { x with auditOldest := max x.auditOldest (n - 7168) }) else s
  { s with flash := Sparse.write s.flash (auditAddr n) e.bytes }

/-- The buffer written to flash, or kept after a failure (R493). -/
def State.auditFlush (s : State) (ok : Bool) : State :=
  if s.sec.auditBuf.isEmpty then s
  else if !ok then s.raise .SEC_AUDIT_FULL 1
  else
    let first := s.auditFlushed
    let s' := (s.sec.auditBuf.zipIdx).foldl (fun (s : State) (x : AuditEnt × Nat) => s.auditStore (first + x.2) x.1) s
    s'.updSec (fun x => { x with auditBuf := [] })

/-- The bytes of a retained entry. -/
def State.auditBytes (s : State) (n : Nat) : List Byte :=
  if n < s.auditFlushed then Sparse.bytes s.flash (auditAddr n) 128
  else ((s.sec.auditBuf.drop (n - s.auditFlushed)).headD ⟨true, []⟩).bytes

/-- What power loss leaves of the log: the entries in flash, and the chain value of the last of them (R574). -/
def State.auditKeep (s : State) : State :=
  let n := s.auditFlushed
  let chain := if n = 0 then [] else Sparse.bytes s.flash (auditAddr (n - 1) + 80) 48
  s.updSec (fun x => { x with auditSeq := n, auditBuf := [], chain := chain })

/-- Entries copied to the host (SEC_AUDIT_READ). -/
def State.auditRead (s : State) (first addr size : Nat) : Nat × Nat × State :=
  let lo := max first s.sec.auditOldest
  let n := min (size / 128) (s.sec.auditSeq - lo)
  (lo, n, s.hostWrite addr ((List.range n).flatMap (fun i => s.auditBytes (lo + i))))

/-! ### Firmware (R495 to R498) -/

/-- The flash address of a firmware slot. -/
def fwAddr (slot : Nat) : Nat := if slot = 0 then 0x100000 else 0x900000

/-- The length of a slot. -/
def fwSize : Nat := 0x800000

/-- A field of a slot's manifest. -/
def State.fwLe (s : State) (slot off n : Nat) : Nat := Sparse.le s.flash (fwAddr slot + off) n

/-- Bytes of a slot. -/
def State.fwBytes (s : State) (slot off n : Nat) : List Byte := Sparse.bytes s.flash (fwAddr slot + off) n

/-- SVN of a slot's image. -/
def State.fwSvn (s : State) (slot : Nat) : Nat :=
  if s.sec.written.getD slot false then s.fwLe slot 8 4 else Config.shippedSvn slot

/-- Firmware version of a slot's image. -/
def State.fwVersion (s : State) (slot : Nat) : Nat :=
  if s.sec.written.getD slot false then s.fwLe slot 12 4 else Config.firmwareVersion slot

/-- Whether a slot's image is co-signed under a key. -/
def State.fwCosigned (s : State) (slot : Nat) (key : List Byte) : Bool :=
  if s.sec.written.getD slot false then
    Config.ecdsaVerifies key (sha384 (s.fwBytes slot 0 256)) (s.fwBytes slot 352 96)
  else Config.shippedCosigned slot key

/-- The outcome of R497 for a slot: 0 valid, else the first check that fails. -/
def State.fwCheck (s : State) (slot : Nat) : Nat :=
  let w := s.sec.written.getD slot false
  if w && s.fwLe slot 0 4 != 0x314D5746 then 1
  else if w && !Config.ecdsaVerifies Config.vendorKey (sha384 (s.fwBytes slot 0 256)) (s.fwBytes slot 256 96) then 2
  else if s.sec.customer.any (fun k => !s.fwCosigned slot k) then 3
  else if s.fwSvn slot < s.sec.svnOtp then 4
  else if w && (decide (fwSize - 512 < s.fwLe slot 16 4) || sha384 (s.fwBytes slot 512 (min (fwSize - 512) (s.fwLe slot 16 4))) != s.fwBytes slot 32 48) then 5
  else 0

/-- Words written into a slot; a write at offset 0 erases it first. -/
def State.fwWrite (s : State) (slot off : Nat) (ws : List Word) : State :=
  let a := fwAddr slot
  let s := if off = 0 then
      { s with flash := s.flash.filter (fun x => decide (x.1 < a) || decide (a + fwSize ≤ x.1)) } else s
  let s := s.updSec (fun x => { x with
    verified := upd x.verified slot (fun _ => false), written := upd x.written slot (fun w => w || off == 0) })
  { s with flash := Sparse.write s.flash (a + off) (wordsBytes ws) }

/-- Whether a flash operation of R213 runs: a store or restore, the store of a capture, or HLT_TRIM_STORE. -/
def State.flashBusy (s : State) : Bool :=
  s.cor.store.isSome || (match s.cor.cal with
    | some c => (match c.st with
      | .storing _ _ => true
      | _ => false)
    | none => false) ||
  s.host.outst.any (fun o => o.opcode == 0x0D08 && o.first && !o.final)

/-! ### Wrapping the record master key (R483) -/

/-- The wrapping key from a private key's number and the other side's public key. -/
def wrapKey (private_ : Nat) (public_ : List Byte) : List Byte :=
  hkdf ((List.range 48).map (fun i => Config.ecdhByte private_ public_ i)) fingerprint (ascii "E128 RMK WRAP v1") 32

/-- Bytes of words from one on. -/
def wordsAt (ws : List Word) (i n : Nat) : List Byte := wordsBytes (fitList n 0 (ws.drop i))

/-- Whether an import's GCM check passes. -/
def State.rmkOpens (s : State) (ws : List Word) : Bool :=
  Config.gcmOpens (wrapKey s.sec.dkk (wordsAt ws 1 24)) (wordsAt ws 25 3) (wordsAt ws 28 8) (wordsAt ws 36 4) fingerprint

/-- The key of an import. -/
def State.rmkImport (s : State) (ws : List Word) : State :=
  let k := wrapKey s.sec.dkk (wordsAt ws 1 24)
  s.updSec (fun x => { x with rmk := (List.range 32).map (fun i => Config.gcmOpenByte k (wordsAt ws 25 3) (wordsAt ws 28 8) i) })

/-- An export: the words of the wrapped key, and the draws it took. -/
def State.rmkExport (s : State) (ws : List Word) : List Word × State :=
  let eph := s.sec.draws
  let s := s.updSec (fun x => { x with draws := x.draws + 1 })
  let iv := s.draw 12
  let s := iv.2
  let k := wrapKey eph (wordsAt ws 1 24)
  let sealed_ := (List.range 48).map (fun i => Config.gcmSealByte k iv.1 s.sec.rmk fingerprint i)
  (bytesWords 39 ((List.range 96).map (fun i => Config.publicKeyByte eph i) ++ iv.1 ++ sealed_), s)

/-! ### Signing (R489, R494) -/

/-- The trailer's offset of a sealed map. -/
def State.trailerAt (s : State) (m : Sealed) : Nat := s.covBase m.area + 96 + 32 * m.entries

/-- Whether a late signature can be made (R489). -/
def State.canSignMap (s : State) : Bool :=
  match s.cap.cov.sealedMap with
  | none => false
  | some m => (Sparse.bytes s.dram (s.trailerAt m) 144).all (fun b => b == 0)

/-- The last sealed map signed late. -/
def State.signMap (s : State) : State :=
  match s.cap.cov.sealedMap with
  | none => s
  | some m =>
    let h := sha384 (Sparse.bytes s.dram (s.covBase m.area) (96 + 32 * m.entries))
    let g := s.signDik h
    g.2.dramWrite (s.trailerAt m) (h ++ g.1)

/-- The audit head: sequence number, chain value and signature (R494). -/
def State.auditHead (s : State) : List Word × State :=
  let n := s.sec.auditSeq - 1
  let c := if s.sec.auditSeq = 0 then sha384 fingerprint else s.sec.chain
  let g := s.signDik (sha384 (fingerprint ++ leBytes 8 n ++ c))
  (Word.ofNat64 n ++ bytesWords 12 c ++ bytesWords 24 g.1, g.2)

end Sys2Proof.Machine
end

