-- ==== Sys2Proof/Machine/PwrOps.lean ====
section
/-! DEFINITION. The power controller (chapter 16): power domains, SAFE, loss of power, boot; the trims chosen at boot (R535). -/

namespace Sys2Proof.Machine

/-- The power controller changed. -/
def State.updPwr (s : State) (f : PwrSt → PwrSt) : State := { s with pwr := f s.pwr }

/-! ### Domains (R566 to R569) -/

/-- The domains of bit i of PWR_DOMAIN_SET: tiles, slices, motion, lamp, auxiliary, Askuri. -/
def domainsOf (i : Nat) : List Nat :=
  if i < 16 then [i, 16 + i] else if i < 20 then [24 + i] else if i = 20 then [47] else if i = 21 then [48] else if i = 22 then [49] else [51]

/-- Whether the configuration of a store gives the domains of bit i work (R567). -/
def domainWork (m : Sparse Nat) (i : Nat) : Bool :=
  if i < 16 then (List.range 8).any (fun l => parGet m .SEN_LANE_EN (8 * i + l) == 1) || parGet m .SEN_GEN_EN (2 * i) == 1 ||
    parGet m .SEN_GEN_EN (2 * i + 1) == 1
  else if i < 20 then false
  else if i = 20 then (List.range 8).any (fun a => parGet m .MOT_EN a == 1)
  else if i = 21 then (List.range 4).any (fun b => parGet m .LMP_MODE b != 0)
  else if i = 22 then parGet m .AUX_TRIG 0 != 0 || (List.range 4).any (fun o => parGet m .AUX_LOOP_MODE o != 0) ||
    (List.range 4).any (fun b => parGet m .LMP_MODE b != 0 && decide (parGet m .LMP_TEMP_CH b < 64))
  else parGet m .ASK_ROLE 0 != 0

/-- Whether every domain of bit i is on. -/
def State.domainOn (s : State) (i : Nat) : Bool := (domainsOf i).all (fun d => natBit s.pwr.domains d)

/-- Whether a store gives a domain that is off work that it has not now (R567). -/
def State.worksOff (s : State) (m : Sparse Nat) : Bool :=
  (List.range 24).any (fun i => domainWork m i && !domainWork s.par i && !s.domainOn i && !((domainsOf i).any (fun d => s.pwr.powering.any (fun x => x.dom == d))))

/-- A set of domain bits with one cleared. -/
def clearBit (m n : Nat) : Nat := if natBit m n then m - 2 ^ n else m

/-- The domains of bit i off: a slice's columns go uncompared until a boundary (R569). -/
def State.domainOff (s : State) (i : Nat) : State :=
  let s := s.updPwr (fun p => { p with
    domains := (domainsOf i).foldl clearBit p.domains, powering := p.powering.filter (fun x => !(domainsOf i).contains x.dom) })
  if 16 ≤ i ∧ i < 20 then s.updCmp (fun c => { c with sliceWait := c.sliceWait ||| 2 ^ (i - 16) }) else s

/-- The domains of bit i that are off begin to power up. -/
def State.domainUp (s : State) (i : Nat) (cid : Option Nat) : State :=
  s.updPwr (fun p => { p with
    powering := p.powering ++ ((domainsOf i).filter (fun d => !natBit p.domains d)).map (fun d => ⟨d, s.now, cid⟩) })

/-- What a domain needs once it is ready (R568, R569). -/
def State.domainReady (s : State) (d : Nat) : State :=
  if d < 32 then
    let t := d % 16
    if natBit s.pwr.domains t && natBit s.pwr.domains (16 + t) then
      (s.lanesPowered t).updTile t (fun _ => ⟨Half.empty, Half.empty⟩)
    else s
  else if 40 ≤ d ∧ d < 44 then s.updCmp (fun c => { c with slicesUp := s.now, sliceWait := c.sliceWait ||| 2 ^ (d - 40) })
  else if d = 48 then (List.range 4).foldl (fun (s : State) b => s.updBar b (fun y => { y with known := false })) s
  else s

/-- PWR_DOMAIN_SETs that wait for nothing any more complete (R568). -/
def State.domainReplies (s : State) : State :=
  let ended := s.pwr.cmds.filter (fun c => s.pwr.powering.all (fun x => x.cid != some c.cid))
  let s := s.updPwr (fun p => { p with cmds := p.cmds.filter (fun c => !ended.contains c) })
  ended.foldl (fun (s : State) c => s.replyAt c.cid (if c.failed then 0x40 else 0) c.flags (Word.ofNat64 c.line) c.line) s

/-- The power controller's part of PWR_DOMAIN_SET: a status, whether the reply waits for domains, and the state (R567 to R569). -/
def State.domainSet (s : State) (cid line flags mask vals : Nat) : Nat × Bool × State :=
  let named := maskList 24 mask
  let off := named.filter (fun i => !natBit vals i)
  if off.any (fun i => domainWork s.par i) then (0x13, false, s) else
  let s := off.foldl (fun (s : State) i => s.domainOff i) s
  let req := (maskList 4 (mask / 65536)).foldl (fun (r : Nat) i => if natBit vals (16 + i) then r ||| 2 ^ i else clearBit r i) (s.p .PWR_SLICE_REQ)
  let s := s.setPars [⟨.PWR_SLICE_REQ, 0, req⟩]
  let on_ := named.filter (fun i => natBit vals i && !(decide (16 ≤ i ∧ i < 20) && decide (3 ≤ s.hlt.therm)))
  let s := on_.foldl (fun (s : State) i => s.domainUp i (some cid)) s
  if s.pwr.powering.any (fun x => x.cid == some cid) then
    (0, true, s.updPwr (fun p => { p with cmds := p.cmds ++ [⟨cid, line, flags, false⟩] }))
  else (0, false, s)

/-- Power-good of a domain (R568). -/
def State.powerGood (s : State) (d : Nat) : State :=
  if s.pwr.powering.all (fun x => x.dom != d) then s else
  let s := s.updPwr (fun p => { p with powering := p.powering.filter (fun x => x.dom != d), domains := p.domains ||| 2 ^ d })
  (s.domainReady d).domainReplies

/-- Slices switched off or on by the thermal policy (R528, R530, R569). -/
def State.slicesThermal (s : State) (off : Bool) : State :=
  if off then
    let s := (List.range 4).foldl (fun (s : State) i => s.domainOff (16 + i)) s
    (s.updCmp (fun c => { c with thermalWait := true })).domainReplies
  else (maskList 4 (s.p .PWR_SLICE_REQ)).foldl (fun (s : State) i => s.domainUp (16 + i) none) s

/-! ### SAFE (R571 to R573) -/

/-- Entry into SAFE (R572). -/
def State.safeEnter (s : State) (cause : Nat) : State :=
  if s.pwr.st = .off ∨ s.pwr.st = .keepAlive ∨ s.pwr.st = .safe then s else
  let s := s.updPwr (fun p => { p with st := .safe, safeCause := cause, cleared := false, clearSince := none })
  let s := { s with lamp := { s.lamp with strobes := [] } }
  let s := (List.range 8).foldl (fun (s : State) a =>
    if (s.axis a).st = .off ∨ (s.axis a).st = .fault then s else
      s.updAxis a (fun x => { Axis.reset with pos := x.pos, hist := x.hist, latched := x.latched, input := x.input, acked := x.acked, quiet := x.quiet, homeResult := x.homeResult })) s
  let s := s.loopsOut
  (s.count .PWR_SAFE_ENTRIES).raise .PWR_SAFE_ENTER cause

/-- Exit from SAFE (R573). -/
def State.safeExit (s : State) : State :=
  let s := s.updPwr (fun p => { p with st := if s.cap.run = .closed then .ready else .hold })
  let s := (List.range 8).foldl (fun (s : State) a =>
    if s.p .MOT_EN a = 1 ∧ (s.axis a).st = .off then s.axisEnabled a else s) s
  let s := (List.range 4).foldl (fun (s : State) b =>
    if s.native b then s.updBar b (fun y => { y with known := false, disc := some ⟨none, s.seq.lineIndex, 0, []⟩ }) else s) s
  let s := s.loopsOut
  let s := { s with seq := { s.seq with afterHold := true, hold := s.seq.hold || decide (s.cap.run ≠ RunSt.closed) } }
  s.raise .PWR_SAFE_EXIT

/-- Whether the cause of SAFE stands at its clear level (R572). -/
def State.safeClear (s : State) : Bool :=
  match s.pwr.safeCause with
  | 1 => decide (s.hlt.tempMax < 1920)
  | 2 => (s.hlt.volts.take 6).all (fun v => !v.warn.out)
  | 3 => ((s.hlt.volts.drop 6).take 2).all (fun v => !v.warn.out)
  | _ => false

/-- The clear level watched: since when it has held. -/
def State.watchSafe (s : State) : State :=
  if s.pwr.st = .safe then
    s.updPwr (fun p => { p with clearSince := if s.safeClear then some (p.clearSince.getD s.now) else none })
  else s

/-- The clear level has held for 100 ms (R572). -/
def State.safeCleared (s : State) : State :=
  match s.pwr.clearSince with
  | some t => if s.pwr.st = .safe ∧ s.safeClear ∧ t + ms 100 ≤ s.now then s.updPwr (fun p => { p with cleared := true }) else s
  | none => s

/-- A domain that fails to report power-good (R568); while it powers up at boot, a SAFE cause (R572). -/
def State.domainFault (s : State) (d : Nat) : State :=
  if s.pwr.st = .boot then
    ((s.count .PWR_DOMAIN_FAULTS).raise .PWR_DOMAIN_FAULT d).safeEnter 6
  else if s.pwr.powering.all (fun x => x.dom != d) then s
  else
    let cids := (s.pwr.powering.filter (fun x => x.dom == d)).filterMap (fun x => x.cid)
    let s := s.updPwr (fun p => { p with
      powering := p.powering.filter (fun x => x.dom != d),
      cmds := p.cmds.map (fun (c : DomainCmd) => if cids.contains c.cid then { c with failed := true } else c) })
    ((s.count .PWR_DOMAIN_FAULTS).raise .PWR_DOMAIN_FAULT d).domainReplies

/-! ### Loss of power (R574, R578) -/

/-- Parameters of the time base, which the keep-alive domain keeps (R104, R578). -/
def keptPars : List Par := [.TDC_FREQ_PPB, .TDC_AGE_PPB_DAY, .TDC_AGE_LEARN, .TDC_PPS_MODE, .TDC_PPS_KP, .TDC_PPS_KI, .TDC_SLEW_MAX,
  .TDC_LOCK_WIN, .TDC_PPS_REJECT]

/-- What is left when the powered state is lost: flash, OTP, key store and, in KEEP_ALIVE, the time base (R578). -/
def State.powerLoss (s : State) (toOff : Bool) : State :=
  let s := s.auditKeep
  let r := { State.reset with
    now := s.now, pending := s.pending, freeCount := s.freeCount, hostMem := s.hostMem, flash := s.flash }
  let lostNow := s.pwr.st != .keepAlive && s.pwr.st != .off
  let r := { r with
    pwr := { PwrSt.reset with
      st := if toOff then .off else .keepAlive, lost := s.pwr.lost || lostNow, prepared := s.pwr.prepared, straps := s.pwr.straps,
      domains := if toOff then 0 else 2 ^ 55, vfieldMv := if toOff then 0 else s.pwr.vfieldMv },
    sec := { SecSt.reset with
      svnOtp := s.sec.svnOtp, nextSlot := s.sec.nextSlot, draws := s.sec.draws, dkk := s.sec.dkk, rmk := s.sec.rmk,
      roleKeys := s.sec.roleKeys, envCounters := s.sec.envCounters, policy := s.sec.policy, coInstall := s.sec.coInstall,
      customer := s.sec.customer, permanent := s.sec.permanent, auditSeq := s.sec.auditSeq, chain := s.sec.chain,
      auditOldest := s.sec.auditOldest, written := s.sec.written } }
  if toOff then r else
    let r := r.setPars (keptPars.map (fun p => ⟨p, 0, s.p p⟩))
    { r with pos := { r.pos with tb := { s.pos.tb with load := none } } }

/-- RST_N falls, or VCORE collapses: any state but OFF goes to KEEP_ALIVE (R571). -/
def State.resetFall (s : State) : State := if s.pwr.st = .off ∨ s.pwr.st = .keepAlive then s else s.powerLoss false

/-- RST_N rises: straps latched, BOOT, the self-tests begin (R575, R577). -/
def State.resetRise (s : State) (straps : Nat) : State :=
  if s.pwr.st = .keepAlive then
    (s.updPwr (fun p => { p with st := .boot, straps := straps % 64, bootAt := s.now, domains := alwaysOn })).updSec
      (fun x => { x with test := some .boot, mode := .selfTest })
  else s

/-! ### Trims (R532 to R535) -/

/-- The kinds of trims with their instances. -/
def trimKinds : List (Nat × Nat) := [(1, 144), (2, 144), (3, 144), (4, 20), (5, 4), (6, 24), (7, 40), (8, 20)]

/-- The key of a trim. -/
def trimKey (kind i : Nat) : Nat := 256 * kind + i

/-- The trim in effect. -/
def State.trim (s : State) (kind i : Nat) : Trim := Sparse.get s.hlt.trims (Trim.middle kind) (trimKey kind i)

/-- A trim put in effect. -/
def State.setTrim (s : State) (kind i : Nat) (t : Trim) : State :=
  { s with hlt := { s.hlt with trims := Sparse.set s.hlt.trims (Trim.middle kind) (trimKey kind i) t } }

/-- The record of a trim (R534). -/
def trimBytes (kind i : Nat) (t : Trim) : List Byte :=
  let b := leBytes 1 kind ++ leBytes 1 0 ++ leBytes 2 i ++ leBytes 4 t.map ++ leBytes 2 t.code ++ leBytes 1 t.spares ++ leBytes 1 (bitNat t.exhausted)
  b ++ leBytes 4 (crc32 b)

/-- Copy i of the trim area. -/
def trimArea (i : Nat) : Nat := 0x1E00000 + 0x10000 * i

/-- The sequence number of a copy with a good header. -/
def State.trimSeq (s : State) (i : Nat) : Option Nat :=
  let a := trimArea i
  if Sparse.le s.flash a 4 = 0x4D495254 ∧ Sparse.le s.flash (a + 12) 4 = crc32 (Sparse.bytes s.flash a 12)
  then some (Sparse.le s.flash (a + 4) 4) else none

/-- The copy in use: the valid one with the higher number (R212, R534). -/
def State.trimCopy (s : State) : Option Nat :=
  match s.trimSeq 0, s.trimSeq 1 with
  | some x, some y => some (if x < y then 1 else 0)
  | some _, none => some 0
  | none, some _ => some 1
  | none, none => none

/-- The addresses of the field records for a kind and instance. -/
def State.fieldRecords (s : State) (kind i : Nat) : List Nat :=
  match s.trimCopy with
  | none => []
  | some c =>
    let a := trimArea c
    ((List.range (min (Sparse.le s.flash (a + 8) 4) 4095)).map (fun (k : Nat) => a + 16 + 16 * k)).filter (fun r =>
      Sparse.le s.flash r 1 == kind && Sparse.le s.flash (r + 2) 2 == i)

/-- The factory record as a trim. -/
def factory (kind i : Nat) : Option Trim := (Config.factoryTrim kind i).map (fun x => ⟨x.1, x.2.1, x.2.2.1, x.2.2.2⟩)

/-- One trim chosen at boot (R535). -/
def State.chooseTrim (s : State) (kind i : Nat) : State :=
  let rec_ := (s.fieldRecords kind i).head?
  let good : Option Nat := rec_.filter (fun r => Sparse.le s.flash (r + 12) 4 == crc32 (Sparse.bytes s.flash r 12))
  match good with
  | some r => s.setTrim kind i ⟨Sparse.le s.flash (r + 4) 4, Sparse.le s.flash (r + 8) 2, Sparse.le s.flash (r + 10) 1, Sparse.le s.flash (r + 11) 1 % 2 == 1⟩
  | none =>
    let s := if rec_.isSome then s.raise .TRIM_INVALID (kind + 256 * i + 2 ^ 31) else s
    match factory kind i with
    | some t => s.setTrim kind i t
    | none => (s.setTrim kind i (Trim.middle kind)).raise .TRIM_INVALID (kind + 256 * i)

/-- Every trim chosen at boot. -/
def State.bootTrims (s : State) : State :=
  trimKinds.foldl (fun (s : State) k => (List.range k.2).foldl (fun (s : State) i => s.chooseTrim k.1 i) s) s

/-! ### Boot (R575 to R577) -/

/-- The slot that boots, and whether it is the fallback (R497). -/
def State.bootChoice (s : State) : Option (Nat × Bool) :=
  if s.fwCheck s.sec.nextSlot = 0 then some (s.sec.nextSlot, false)
  else if s.fwCheck (1 - s.sec.nextSlot) = 0 then some (1 - s.sec.nextSlot, true)
  else none

/-- Whether the boot-parameter record is good (R576). -/
def State.bootRecordOk (s : State) : Bool :=
  Sparse.le s.flash 0 4 == 0x544F4F42 && Sparse.le s.flash 60 4 == crc32 (Sparse.bytes s.flash 0 60)

/-- Memory and link from the boot-parameter record, or from what answers (R576). -/
def State.bootParams (s : State) : State :=
  if s.bootRecordOk then
    let m := Sparse.le s.flash 12 1
    s.updPwr (fun p => { p with
      bootBad := false, channels := (maskList 8 m).length, gib := Sparse.le s.flash 13 1, maxRate := Sparse.le s.flash 16 1,
      subsystem := Sparse.le s.flash 8 2 + 65536 * Sparse.le s.flash 10 2 })
  else
    let f := s.takeFree
    let g := f.2.takeFree
    g.2.updPwr (fun p => { p with bootBad := true, channels := 2 ^ (1 + f.1 % 3), gib := 2 ^ (2 + g.1 % 4), maxRate := 0, subsystem := 0 })

/-- The arena at boot: HIS_HIST reduced to the memory that remains (R355). -/
def State.bootArena (s : State) : State :=
  let total := 16 * s.pwr.channels * s.pwr.gib
  let others := s.arenaBase 4
  s.setPars [⟨.HIS_HIST, 0, min (s.p .HIS_HIST) (total - others)⟩]

/-- The end of boot (R577): READY, from BOOT with a slot that passes, the boot self-tests over, and BOOT_SRC not holding. -/
def State.bootDone (s : State) : State :=
  match s.bootChoice with
  | none => s
  | some (slot, fallback) =>
    if s.pwr.st ≠ .boot ∨ s.sec.test = some .boot ∨ 2 ≤ natField s.pwr.straps 5 4 then s else
    let s := s.updSec (fun x => { x with bootSlot := slot, fallback := fallback, svnRun := s.fwSvn slot })
    let s := if s.sec.rmk = [] then s.newSecrets else s
    let s := s.bootParams
    let s := s.bootTrims
    let s := s.dirBoot
    let s := s.bootArena
    let s := s.updPwr (fun p => { p with
      st := .ready, bootMs := (s.now - p.bootAt) / ms 1,
      domains := alwaysOn + (2 ^ 32 - 1) + (2 ^ p.channels - 1) * 2 ^ 32 + 15 * 2 ^ 40 + 7 * 2 ^ 47 + 2 ^ 51 })
    let s := (List.range 16).foldl (fun (s : State) t => s.lanesPowered t) s
    let s := s.recomputeSlot
    let s := if s.pwr.lost then s.auditDevice Ev.PWR_POWER_LOST.id 0 else s
    let s := if s.pwr.lost && !s.pwr.prepared then s.raise .PWR_POWER_LOST else s
    let s := s.updPwr (fun p => { p with lost := false, prepared := false })
    let s := if fallback then (s.auditDevice Ev.SEC_BOOT_FALLBACK.id slot).raise .SEC_BOOT_FALLBACK slot else s
    let s := { s with host := { s.host with beatAt := s.now, link := { s.host.link with adapterUp := true } } }
    let s := s.testNext
    s.raise .PWR_BOOT_DONE (bitNat s.pwr.bootBad)

end Sys2Proof.Machine
end

