-- ==== Sys2Proof/Machine/AskOps.lean ====
section
/-! DEFINITION. The cascade port (chapter 15): frames, forwarding, seam segments, time and run frames, calibration, loss of the master. -/

namespace Sys2Proof.Machine

/-- The port changed. -/
def State.updAsk (s : State) (f : AskSt → AskSt) : State := { s with ask := f s.ask }

/-- DEV_ID. -/
def State.devId (s : State) : Nat := natField s.pwr.straps 3 1

/-- Whether the device is the master. -/
def State.isMaster (s : State) : Bool := s.p .ASK_ROLE == 1

/-- ASK_STATE (R561). -/
def State.askState (s : State) : Nat :=
  if s.p .ASK_ROLE = 0 then 0
  else if s.ask.conflict then 5
  else if s.ask.lost then 4
  else if s.ask.up then 2
  else if s.ask.wasUp then 3
  else 1

/-! ### Frames (R544, R545) -/

/-- A field of a frame. -/
def frameLe (bs : List Byte) (off n : Nat) : Nat := ofLe ((bs.drop off).take n)

/-- Whether a frame has its length, commas and CRC. -/
def frameOk (bs : List Byte) : Bool :=
  bs.length == 32 && frameLe bs 0 2 == 0xBCBC && frameLe bs 30 2 == crc16 ((bs.drop 2).take 28)

/-- A frame from its bytes 2 to 29. -/
def frameOf (inner : List Byte) : List Byte := leBytes 2 0xBCBC ++ inner ++ leBytes 2 (crc16 inner)

/-- The bytes 2 to 29 of a frame. -/
def frameInner (typ seg : Nat) (master broken : Bool) (num : Nat) (sample : List Byte) (p : AskPay) (orig : Nat) : List Byte :=
  leBytes 1 (typ + 16 * seg + bitAt master 6 + bitAt broken 7) ++ leBytes 1 num ++ fitList 8 0 sample ++ fitList 16 0 p.body ++
  leBytes 1 (p.src + 8 * p.dest + bitAt p.broadcast 7) ++ leBytes 1 orig

/-- No payload. -/
def idlePay : AskPay := ⟨0, 0, 0, 0, false, []⟩

/-- The payload of a frame. -/
def framePay (bs : List Byte) : AskPay :=
  let a := frameLe bs 2 1
  let b := frameLe bs 28 1
  ⟨natField a 3 0, natField a 5 4, natField b 2 0, natField b 5 3, natBit b 7, (bs.drop 12).take 16⟩

/-- The next segment of the oldest seam record that waits, and the port after sending it (R557). -/
def State.seamSegment (s : State) : Option (AskPay × State) :=
  match s.cmp.seamOut with
  | [] => none
  | o :: rest =>
    let k := s.ask.seamSeg
    let pay : AskPay := ⟨6, k, s.devId, s.devId - 1, false, (o.record.drop (16 * k)).take 16⟩
    if k < 3 then some (pay, s.updAsk (fun x => { x with seamSeg := k + 1 }))
    else
      let s := s.updAsk (fun x => { x with seamSeg := 0 })
      some (pay, ({ s with cmp := { s.cmp with seamOut := rest } } : State).count .ASK_SEAMS_SENT)

/-- A 40-bit position sample taken against the last one, 1/256 count, and the stamp extended from its 24 low bits (R551). -/
def State.takeSample (s : State) (pos stamp : Nat) : State :=
  let g := s.glint
  let at_ := ((g : Int) + toSigned 24 (ofSigned 24 ((stamp : Int) - g))).toNat
  let x : Int := match s.ask.samples with
    | [] => pos
    | q :: _ => q.2 + toSigned 40 (ofSigned 40 ((pos : Int) - q.2))
  s.updAsk (fun a => { a with samples := (at_, x) :: a.samples.filter (fun q => decide (at_ < q.1 + 7168000)) })

/-- Seam reassembly: every frame ages what is incomplete, and a record older than 256 frames is discarded (R557). -/
def State.ageSeams (s : State) : State :=
  let old := s.ask.seamsIn.filter (fun x => decide (256 ≤ x.age))
  let s := s.updAsk (fun a => { a with
    seamsIn := (a.seamsIn.filter (fun x => decide (x.age < 256))).map (fun (x : SeamIn) => { x with age := x.age + 1 }) })
  old.foldl (fun (s : State) _ => s.count .ASK_SEAMS_LOST) s

/-- A segment addressed to this device. -/
def State.takeSegment (s : State) (p : AskPay) : State :=
  let entry : SeamIn := (s.ask.seamsIn.find? (fun x => x.src == p.src)).getD ⟨p.src, [], 0⟩
  let entry := { entry with segs := (entry.segs.filter (fun q => q.1 != p.seg)) ++ [(p.seg, p.body)] }
  let rest := s.ask.seamsIn.filter (fun x => x.src != p.src)
  s.updAsk (fun a => { a with seamsIn := if 4 ≤ entry.segs.length then rest else rest ++ [entry] })

/-- A tick's index resolved without TICK_INFO (R553); none while no tick waits. -/
def State.resolveTick (s : State) : Option Nat :=
  match s.ask.tick with
  | none => none
  | some k =>
    if s.p .CAP_GRID_PITCH = 0 then some s.seq.lineIndex
    else some ((k.x - s.cap.extBase - s.cap.g0) / (s.p .CAP_GRID_PITCH : Int)).toNat

/-- A frame that arrives on the receive link (R545, R557, R560). -/
def State.frameIn (s : State) (bs : List Byte) : State :=
  if s.p .ASK_ROLE = 0 then s
  else if !frameOk bs then
    (s.count .ASK_FRAMES_BAD).updAsk (fun a => { a with good := 0, bad := a.bad + 1, tickBad := a.tickBad + bitNat a.tick.isSome })
  else
    let p := framePay bs
    let head := frameLe bs 2 1
    let orig := frameLe bs 29 1 % 8
    let master := natBit head 6
    let s := s.updAsk (fun a => { a with good := a.good + 1, bad := 0, master := if master then orig else a.master })
    let s := s.ageSeams
    let s := if natBit head 7 && !s.ask.broken && s.isMaster then s.raise .ASK_RING_BROKEN else s
    let s := s.updAsk (fun a => { a with broken := natBit head 7 })
    let mine := p.dest == s.devId && !p.broadcast
    let s := if p.typ == 6 && mine then s.takeSegment p else s
    if s.isMaster then
      let s := if master && orig != s.devId && !s.ask.conflict then
          (s.updAsk (fun a => { a with conflict := true })).raise .ASK_ROLE_CONFLICT else s
      if p.typ == 6 && !mine && p.src != s.devId then s.updAsk (fun a => { a with relay := a.relay ++ [p] }) else s
    else
      let s := if master then s.takeSample (frameLe bs 4 5) (frameLe bs 9 3) else s
      let sample := (bs.drop 4).take 8
      let free := p.typ == 0 || mine || decide (7 < p.typ)
      if free then
        match s.seamSegment with
        | some (q, s) => s.updAsk (fun a => { a with tx := frameOf (frameInner 6 q.seg master (natBit head 7) (frameLe bs 3 1) sample q orig) })
        | none =>
          let taken := frameOf (frameInner 0 p.seg master (natBit head 7) (frameLe bs 3 1) sample p orig)
          s.updAsk (fun a => { a with tx := if p.typ = 0 then bs else taken })
      else s.updAsk (fun a => { a with tx := bs })

/-- The present position sample for a frame: 32.8 counts and the low 24 bits of its glint time (R544). -/
def State.frameSample (s : State) : List Byte := leBytes 5 (ofSigned 40 s.srcNow) ++ leBytes 3 s.glint

/-- A RUN frame of the master (R546, R552). -/
def State.sendRun (s : State) : State :=
  (s.askSend 3 (leBytes 4 s.cap.runId ++ leBytes 8 (ofSigned 64 s.cap.g0) ++ leBytes 4 (s.p .CAP_GRID_PITCH))).updAsk (fun a =>
    { a with run := some (s.cap.runId, s.now) })

/-- A frame originated every 64 ns: by the master, and with RING_BROKEN by a device whose receive link is not UP (R545, R557). -/
def State.frameOut (s : State) : State :=
  let due := s.cap.run == .open_ && (match s.ask.run with
    | some r => decide (r.2 + ms 1 ≤ s.now)
    | none => true)
  let s := if s.isMaster && due then s.sendRun else s
  if s.p .ASK_ROLE = 0 then s
  else if s.isMaster then
    if s.ask.conflict then s else
    let send (p : AskPay) (s : State) : State := s.updAsk (fun a => { a with
      frameNo := (a.frameNo + 1) % 256,
      tx := frameOf (frameInner p.typ p.seg true (!a.up) a.frameNo s.frameSample p s.devId) })
    match s.ask.own, s.ask.relay with
    | p :: rest, _ => send p (s.updAsk (fun a => { a with own := rest }))
    | [], p :: rest => send p (s.updAsk (fun a => { a with relay := rest }))
    | [], [] =>
      match s.seamSegment with
      | some (p, s) => send p s
      | none => send idlePay s
  else if s.ask.up then s
  else s.updAsk (fun a => { a with
    frameNo := (a.frameNo + 1) % 256, tx := frameOf (frameInner 0 0 false true a.frameNo [] idlePay s.devId) })

/-! ### The link (R545, R550) -/

/-- The receive link comes UP. -/
def State.linkIn (s : State) : State :=
  if s.p .ASK_ROLE = 0 ∨ s.ask.up then s else
  (s.updAsk (fun a => { a with up := true, wasUp := true, calibrated := s.isMaster && a.calibrated, bad := 0 })).raise .ASK_LINK_UP

/-- The receive link goes down: seam records that wait are reported here (R314). -/
def State.linkOut (s : State) : State :=
  if !s.ask.up then s else
  let s := (s.updAsk (fun a => { a with up := false, good := 0, seamSeg := 0 })).raise .ASK_LINK_DOWN
  let out := s.cmp.seamOut
  let s := { s with cmp := { s.cmp with seamOut := [] } }
  out.foldl (fun (s : State) o => (s.raise .CMP_SEAM_SELF o.blob.slice).reportBlob { o.blob with flags := o.blob.flags ||| 64 } o.blob.line1) s

/-! ### Time and runs on a member (R551, R552, R554, R555) -/

/-- A time mark: stamped by a member, followed by a TIME frame on the master. -/
def State.timeMark (s : State) : State :=
  if s.member then s.updAsk (fun a => { a with mark := some s.glint })
  else s.askSend 2 (leBytes 8 s.glint ++ leBytes 1 (match s.pos.tb.st with
    | .free => 0
    | .acquiring => 1
    | .locked => 2
    | .holdover => 3) ++ List.replicate 7 0)

/-- The master's time of a mark (R551): the error is slewed over the next millisecond, or stepped. -/
def State.timeFrame (s : State) (time : Nat) : State :=
  match s.ask.mark with
  | none => s
  | some m =>
    if !s.member then s else
    let e : Int := (m : Int) - s.ask.path - time
    let s := s.updAsk (fun a => { a with mark := none, timeErr := clampInt (-32768) 32767 e })
    if 512 < e.natAbs ∧ s.cap.run = .closed then s.stepCount (-e)
    else
      let s := if 512 < e.natAbs then s.raise .ASK_TIME_FAULT else s
      s.updTb (fun b => { b with slew := openRound 60 (-e * 625) 2, slewEnd := s.now + ms 1 })

/-- A RUN frame (R552). -/
def State.runFrame (s : State) (id : Nat) (g0 : Int) (pitch : Nat) : State :=
  if !s.member then s else
  let s := s.updAsk (fun a => { a with run := some (id, s.now) })
  if s.cap.run = .open_ ∧ s.ask.runWait then
    let x := s.srcNow
    let near := g0 + toSigned 40 (ofSigned 40 (x - g0))
    let s := s.setPars [⟨.CAP_GRID_PITCH, 0, pitch⟩]
    { s.updAsk (fun a => { a with runWait := false }) with cap := { s.cap with g0 := g0, extBase := x - near } }
  else s

/-- Whether RUN frames show the master's run open (R552): one has come within the last 2 ms. -/
def State.masterOpen (s : State) : Bool :=
  match s.ask.run with
  | some r => decide (s.now < r.2 + ms 2)
  | none => false

/-- A REPEAT frame (R554). -/
def State.repeatFrame (s : State) (k0 phi dist : Nat) : State :=
  if !s.member then s else
  s.updTrack (fun t => { t with
    next := some ⟨k0, none, toSigned 32 phi, s.now, false, false, false⟩, lastLen := if dist = 0 then t.lastLen else some (256 * dist) })

/-- An ARM frame (R555, R556). -/
def State.armFrame (s : State) (job line : Nat) : State :=
  if !s.member then s else
  match s.cap.arm with
  | some a =>
    if a.job = job then { s with cap := { s.cap with arm := some { a with target := some line } } }
    else (s.updAsk (fun x => { x with unmatched := some (line, job) })).raise .ASK_ARM_UNMATCHED job
  | none => (s.updAsk (fun x => { x with unmatched := some (line, job) })).raise .ASK_ARM_UNMATCHED job

/-! ### Calibration (R549) -/

/-- Hops from the master to a device, in order. -/
def hops (n master dev : Nat) : List Nat := (List.range ((dev + n - master) % n)).map (fun (i : Nat) => (master + i) % n)

/-- The path delay to a device in 1/10 glint times the sum of the weights: shares of the hops and 4 ns for each member passed. -/
def State.pathNum (s : State) (ring master dev : Nat) : Nat × Nat :=
  let n := s.p .ASK_DEVICES
  let sum := (List.range n).foldl (fun (a : Nat) h => a + s.p .ASK_HOP_W h) 0
  let hs := hops n master dev
  let w := hs.foldl (fun (a : Nat) h => a + s.p .ASK_HOP_W h) 0
  ((10 * ring - 2048 * (n - 1)) * w + 2048 * (hs.length - 1) * sum, sum)

/-- A CAL frame (R549, R550). -/
def State.calFrame (s : State) (ring align : Nat) : State :=
  if !s.member then s else
  let x := s.pathNum ring s.ask.master s.devId
  (s.updAsk (fun a => { a with
    path := (openRound 61 (x.1 : Nat) (max 1 (10 * x.2))).toNat % 65536, align := align, calibrated := true })).raise .ASK_CAL_DONE

/-- ASK_CAL begins, or begins again at the next IDLE. -/
def State.calBegin (s : State) : State :=
  s.updAsk (fun a => { a with cal := a.cal.map (fun c => { c with startAt := s.now, intervals := [], running := true }) })

/-- A calibration pulse has come round (R549): after 16 the mean interval gives shares and alignment. -/
def State.calPulse (s : State) : State :=
  match s.ask.cal with
  | none => s
  | some c =>
    if !c.running then s else
    let sent := c.startAt + us 10 * c.intervals.length
    let c := { c with intervals := c.intervals ++ [s.glint - s.glintAt sent] }
    let s := s.updAsk (fun a => { a with cal := some c })
    if c.intervals.length < 16 then s else
    let ring := (openRound 62 (c.intervals.foldl (fun (a : Nat) x => a + x) 0 : Nat) 16).toNat
    let n := s.p .ASK_DEVICES
    let far := s.pathNum ring s.devId ((s.devId + n - 1) % n)
    let align := (ceilDiv far.1 (max 1 (512 * far.2)) + 4) % 256
    let s := s.updAsk (fun a => { a with cal := none, align := align, calibrated := true })
    let s := s.askSend 7 (leBytes 4 ring ++ leBytes 2 align ++ List.replicate 10 0)
    (s.raise .ASK_CAL_DONE).reply c.cid 0 c.flags [w32 ring, w32 align]

/-! ### Loss of the master (R558, R559) -/

/-- MASTER_LOST. -/
def State.masterLost (s : State) : State :=
  if !s.member || s.ask.lost then s else
  (s.updAsk (fun a => { a with
    lost := true, tick := none, calibrated := false,
    gap := if s.cap.run = .closed then none else some (a.gap.getD (s.cap.capLine.elim 0 (fun k => k + 1))) })).raise .ASK_MASTER_LOST

/-- The end of MASTER_LOST: MASTER frames and a CAL frame have come. -/
def State.masterBack (s : State) : State :=
  if !s.ask.lost || !s.ask.calibrated then s else (s.updAsk (fun a => { a with lost := false })).raise .ASK_MASTER_RESTORED

/-- The first index after MASTER_LOST: the lines between are NOT_CAPTURED (R559). -/
def State.gapEnds (s : State) (k : Nat) : State :=
  match s.ask.gap with
  | none => s
  | some a =>
    let s := s.updAsk (fun x => { x with gap := none })
    let n := k - a
    (s.covLines .capture a n s.devCols 2 .ASK_MASTER_LOST 0 n).count .ASK_LINES_LOST 0 n

/-- A run sealed while lines are lost (R559). -/
def State.gapSealed (s : State) : State :=
  match s.ask.gap with
  | none => s
  | some a => (s.updAsk (fun x => { x with gap := none })).covLines .capture a 0xFFFFFFFF s.devCols 2 .ASK_MASTER_LOST 0 0xFFFFFFFF

/-- What ASK_SET does beside its parameters (R542, R560); a calibration that a new role ends completes with BAD_STATE. -/
def State.askSet (s : State) : State :=
  let s := match s.ask.cal with
    | some c => if s.isMaster then s else (s.updAsk (fun a => { a with cal := none })).reply c.cid 0x13 c.flags
    | none => s
  if s.p .ASK_ROLE = 0 then { s with ask := AskSt.reset } else s.updAsk (fun a => { a with conflict := false })

end Sys2Proof.Machine
end

