-- ==== Sys2Proof/Machine/HltOps.lean ====
section
/-! DEFINITION. The health monitors (chapter 14): SAFE requests, temperatures and the thermal policy, voltages, clocks, ECC errors, the
fault queue's service, trims. -/

namespace Sys2Proof.Machine

/-- The monitors changed. -/
def State.updHlt (s : State) (f : HltSt → HltSt) : State := { s with hlt := f s.hlt }

/-- A SAFE request (R531). -/
def State.safeRequest (s : State) (cause : Nat) : State := (s.raise .HLT_SAFE_REQUEST cause).safeEnter cause

/-! ### Temperatures (R524, R528, R531) -/

/-- The threshold that leads into a thermal state, 1/16 °C. -/
def thermLimit : Nat → Int
  | 1 => 1600
  | 2 => 1840
  | 3 => 2000
  | _ => 0

/-- The thermal state a reading calls for. -/
def thermOf (t : Int) : Nat := if 2000 ≤ t then 3 else if 1840 ≤ t then 2 else if 1600 ≤ t then 1 else 0

/-- Whether the thermal policy holds replay copies and preload work (R528, R529). -/
def State.shed (s : State) : Bool := decide (2 ≤ s.hlt.therm)

/-- One step up (R528). -/
def State.thermUp (s : State) : State :=
  let k := s.hlt.therm + 1
  let s := s.updHlt (fun h => { h with therm := k, belowSince := none })
  match k with
  | 1 => s.raise .HLT_TEMP_WARN
  | 2 => (s.count .HLT_THERM_SHEDS).raise .HLT_SHED
  | _ => (s.slicesThermal true).raise .HLT_COMPARE_OFF

/-- The reading below the present threshold less 5 °C: since when. -/
def State.thermWatch (s : State) : State :=
  s.updHlt (fun h => { h with
    belowSince := if h.therm = 0 ∨ thermLimit h.therm - 80 ≤ h.tempMax then none else some (h.belowSince.getD s.now) })

/-- The sensors' sample (R524, R528, R531). -/
def State.tempSample (s : State) (temps : List Int) : State :=
  let temps := fitList 24 0 temps
  let top := temps.foldl (fun (a : Int) x => max a x) (temps.headD 0)
  let s := s.updHlt (fun h => { h with temps := temps, tempMax := top })
  let s := (List.range (thermOf top - s.hlt.therm)).foldl (fun (s : State) _ => s.thermUp) s
  let s := s.thermWatch.watchSafe
  let hot := decide (2160 ≤ top)
  let was := s.hlt.safeRequest
  let s := s.updHlt (fun h => { h with safeRequest := hot })
  if hot && !was then s.safeRequest 1 else s

/-- One step down after 100 ms (R528, R530). -/
def State.thermDown (s : State) : State :=
  match s.hlt.belowSince with
  | none => s
  | some t =>
    if s.now < t + ms 100 ∨ s.hlt.therm = 0 then s else
    let was := s.hlt.therm
    let s := s.updHlt (fun h => { h with therm := was - 1, belowSince := none })
    let s := if was = 3 then s.slicesThermal false else if was = 1 then s.raise .HLT_THERMAL_NORMAL else s
    s.thermWatch

/-! ### Voltages (R525) -/

/-- Warning and fault window of a monitor, mV. -/
def voltWindows (m : Nat) : (Nat × Nat) × (Nat × Nat) :=
  if m < 6 then ((728, 773), (705, 795))
  else if m < 8 then ((776, 824), (752, 848))
  else if m < 24 then ((1746, 1854), (1692, 1908))
  else if m < 28 then ((1019, 1082), (987, 1113))
  else if m < 36 then ((485, 515), (470, 530))
  else if m < 38 then ((728, 773), (705, 795))
  else ((2800, 5400), (2700, 5500))

/-- A window after a sample: two samples in a row change its side; the second value tells that an excursion has begun. -/
def VoltWin.step (w : VoltWin) (now : Nat) (inside : Bool) : VoltWin × Bool :=
  if inside == w.out then
    if 1 ≤ w.run then (⟨!w.out, 0, now⟩, !w.out) else ({ w with run := w.run + 1 }, false)
  else ({ w with run := 0 }, false)

/-- A monitor's sample. -/
def State.voltSample (s : State) (m mv : Nat) : State :=
  if 40 ≤ m then s else
  let v := s.hlt.volts.getD m ⟨0, ⟨false, 0, 0⟩, ⟨false, 0, 0⟩⟩
  let win := voltWindows m
  let a := v.warn.step s.now (decide (win.1.1 ≤ mv ∧ mv ≤ win.1.2))
  let b := v.fault.step s.now (decide (win.2.1 ≤ mv ∧ mv ≤ win.2.2))
  let s := s.updHlt (fun h => { h with volts := upd h.volts m (fun _ => ⟨mv, a.1, b.1⟩) })
  let s := if a.2 then (s.count .HLT_VOLT_EXCURSIONS).raise .HLT_VOLTAGE (m + 256) else s
  let s := if b.2 then (s.count .HLT_VOLT_EXCURSIONS).raise .HLT_VOLTAGE (m + 512) else s
  s.watchSafe

/-- An excursion beyond the fault window that has lasted 100 µs. -/
def State.voltPersist (s : State) (m : Nat) : State :=
  let v := s.hlt.volts.getD m ⟨0, ⟨false, 0, 0⟩, ⟨false, 0, 0⟩⟩
  if !v.fault.out || decide (s.now < v.fault.since + us 100) then s else
  let s := s.raise .HLT_VOLTAGE (m + 768)
  if m < 6 then s.safeRequest 2 else if m < 8 then s.safeRequest 3 else s

/-! ### Process and clocks (R526, R527) -/

/-- A tile's process deviation. -/
def State.process (s : State) (t : Nat) (dev : Int) : State :=
  if 16 ≤ t then s else
  let s := s.updHlt (fun h => { h with proc := upd h.proc t (fun _ => dev) })
  if dev < -(s.p .HLT_PM_LIMIT : Int) ∧ !(s.hlt.procRaised.getD t false) then
    (s.updHlt (fun h => { h with procRaised := upd h.procRaised t (fun _ => true) })).raise .HLT_PROCESS t
  else s

/-- Whether a clock of R527 is good. -/
def State.clockOk (s : State) (c : Nat) : Bool := s.hlt.clocks.getD c true

/-- A clock fault: counted, reported, and its response. The UCIe link's part is the host attachment's. -/
def State.clockFault (s : State) (c : Nat) : State :=
  if 6 ≤ c then s else
  let s := s.updHlt (fun h => { h with clocks := upd h.clocks c (fun _ => false) })
  let s := (s.count .HLT_CLOCK_FAULTS).raise .HLT_CLOCK c
  if c = 0 then s.safeRequest 4
  else if c = 1 then s.safeRequest 5
  else if c = 2 then (List.range 8).foldl (fun (s : State) j => s.tdcAbort j) s
  else s

/-- A PLL locks again. -/
def State.clockBack (s : State) (c : Nat) : State :=
  if c = 2 ∨ c = 3 ∨ c = 4 ∨ c = 5 then s.updHlt (fun h => { h with clocks := upd h.clocks c (fun _ => true) }) else s

/-! ### DRAM errors (R522) -/

/-- The partition an address lies in: 0 to 4, 5 beyond them. -/
def State.partitionOf (s : State) (a : Nat) : Nat :=
  ((List.range 5).find? (fun i => decide (s.arenaByte i ≤ a) && decide (a < s.arenaByte i + s.arenaSize i))).getD 5

/-- The class of R357 for a partition. -/
def partitionClass (i : Nat) : Nat := if i = 0 then 2 else if i = 1 then 4 else if i = 2 then 3 else if i = 5 then 5 else 1

/-- The first waiting packet of the spill area dropped (R353, R522). -/
def State.spillBad (s : State) : State :=
  match s.host.spill.find? (fun i => match i with
    | .packet .. => true
    | .entry .. => false) with
  | some (.packet q blk n ws done) =>
    let s := { s with host := { s.host with spill := s.host.spill.erase (.packet q blk n ws done), spillUsed := s.host.spillUsed - n } }
    let spans := (s.queue q).spans.filter (fun p => p.blk == blk)
    let s := s.footprints q .HQ_SPILL_FULL spans
    let s := (s.countDrop q 1).count .HQ_SPILL_DROPS
    s.raise .HQ_SPILL_FULL (q + 65536)
  | _ => s

/-- The history line whose record holds an address of the data ring, or whose index entry does. -/
def State.histOwner (s : State) (a : Nat) : Option HistLine :=
  let d := s.histData
  s.hq.hist.find? (fun h =>
    (decide (d.1 ≤ a) && decide (((a - d.1) / 64 + d.2 - h.off) % (max 1 d.2) < h.units)) ||
    (decide (a < d.1) && (a - s.arenaByte 4) / 16 == h.slot))

/-- A DRAM error at an address; which channel holds it is not stated. -/
def State.dramError (s : State) (a : Nat) (correctable : Bool) : State :=
  let f := s.takeFree
  let s := f.2
  let c := f.1 % max 1 s.pwr.channels
  if correctable then
    let s := s.count .HLT_DRAM_CE c
    let w := s.hlt.ce.getD c ⟨0, 0, false⟩
    let w : CeWindow := if w.since + secs 1 ≤ s.now then ⟨s.now, 1, false⟩ else { w with count := w.count + 1 }
    let beyond := decide (s.p .HLT_CE_LIMIT < w.count) && !w.raised
    let s := s.updHlt (fun h => { h with ce := upd h.ce c (fun _ => { w with raised := w.raised || beyond }) })
    if beyond then s.raise .HLT_DRAM_CE_RATE c else s
  else
    let i := s.partitionOf a
    let s := (s.count .HLT_DRAM_UE c).raise .HLT_DRAM_UE (c + 16 * partitionClass i)
    match i with
    | 0 => s.updCmp (fun x => { x with refUe := x.refUe ++ [a] })
    | 1 => s.dramWrite a [Sparse.get s.dram 0 a ^^^ 255]
    | 2 => s.spillBad
    | 3 => { s with cap := { s.cap with cov := { s.cap.cov with unreadable := true } } }
    | 4 => match s.histOwner a with
      | some h => if h.hole then s else s.histHole h.line
      | none => s
    | _ => s

/-! ### On-die errors (R26, R209, R350, R521) -/

/-- The opcode group of the block that owns a memory. -/
def memGroup : Nat → Nat
  | 0 => 4
  | 1 => 5
  | 2 => 3
  | 3 | 4 | 5 => 6
  | 6 | 7 => 7
  | 8 => 8
  | 9 => 1
  | _ => 12

/-- A lane's newest sub-line lost from the resample buffer. -/
def State.dropSubLine (s : State) (l : Nat) : State :=
  let n := s.cap.buffer.length
  { s with cap := { s.cap with buffer := (s.cap.buffer.zipIdx).map (fun (x : SubLine × Nat) =>
      if x.2 + 1 = n then { x.1 with lanes := x.1.lanes.map (fun (y : LaneSub) =>
        if y.seg.tile = l / 8 ∧ y.seg.lane = l % 8 then { y with lost := true } else y) } else x.1) } }

/-- The line that waits for Mirror goes uncompared in a slice's columns. -/
def State.dropCompare (s : State) (slice : Nat) : State :=
  match s.cap.mirrorIn with
  | [] => s
  | l :: rest =>
    let cols := s.sliceCols slice
    let s := { s with cap := { s.cap with mirrorIn := { l with skip := l.skip ++ [cols] } :: rest } }
    s.notCompared l.line cols 0 0

/-- A waiting commit rejected for its shadow (R26). -/
def State.rejectShadow (s : State) (cid : Nat) : State :=
  if s.seq.pends.any (fun p => p.cid == cid) then
    ({ s with seq := { s.seq with pends := s.seq.pends.filter (fun p => p.cid != cid) } } : State).reply cid 0x40 3
  else s

/-- A committed word of a memory takes a value that nobody knows, until the host reloads it (R26). -/
def State.corrupt (s : State) (m item : Nat) : State :=
  match m with
  | 0 =>
    let f := s.takeFree
    f.2.updTile (item / 8) (fun t => { t with act := { t.act with ecc := true, recs := upd t.act.recs (item % 8) (fun r => r.map (fun x =>
      { x with px := upd x.px 0 (fun _ => f.1 % 2 ^ 48) })) } })
  | 5 =>
    let f := s.takeFree
    f.2.updCmp (fun c => { c with hatch := upd c.hatch item (fun e => { e with attr := f.1 % 2 ^ 32 }) })
  | 6 => s.updQueue item (fun q => { q with st := .faulted, fault := true, faultBit := true })
  | 8 =>
    let f := s.takeFree
    f.2.updBar (item / 65536) (fun b => { b with active := Sparse.set b.active 0 (item % 65536) (f.1 % 65536) })
  | 10 => s.secError 5
  | _ => s

/-- An ECC error in memory m at an item: a lane place, a slice, a tile, a queue, a bar or a command, as the memory has them. -/
def State.sramError (s : State) (m item : Nat) (kind : EccKind) : State :=
  if 11 ≤ m then s else
  if m = 7 then
    (s.updQueue item (fun q => { q with split := true })).checkQueue item
  else
  match kind with
  | .corrected => s.count .HLT_SRAM_CE m
  | .imageWord =>
    let s := s.count .HLT_SRAM_UE
    if m = 1 ∨ m = 2 then s.dropSubLine item else if m = 3 ∨ m = 4 then s.dropCompare item else s
  | .shadowWord =>
    let s := (s.count .HLT_SRAM_UE).raise .HLT_SHADOW_UE (m + 256 * memGroup m)
    if m = 0 then s.updTile item (fun t => { t with pend := { t.pend with ecc := true } })
    else if m = 5 then s.updCmp (fun c => { c with hatchPend := none })
    else if m = 8 then s.dropUpload item
    else if m = 10 then s.secError 5
    else s.rejectShadow item
  | .committedWord => ((s.count .HLT_SRAM_UE).raise .HLT_ECC_CONFIG (m + 256 * memGroup m)).corrupt m item

/-! ### The fault queue (R515, R516, R519) -/

/-- Whether a pending entry goes before another: higher class, then older first raise. -/
def FaultEnt.before (a b : FaultEnt) : Bool := decide (b.cls < a.cls) || (a.cls == b.cls && decide (a.firstTime < b.firstTime))

/-- The entry the service core takes next. -/
def nextFault (fs : List FaultEnt) : Option FaultEnt :=
  fs.foldl (fun (best : Option FaultEnt) f =>
    if f.st ≠ .queued then best else match best with
      | none => some f
      | some b => if f.before b then some f else best) none

/-- The service core takes an entry and handles it (R515, R516). -/
def State.handleFault (s : State) : State :=
  match nextFault s.hlt.faults with
  | none => s
  | some f => s.updHlt (fun h => { h with
      faults := if 2 ≤ f.cls then h.faults.map (fun (x : FaultEnt) => if x.slot = f.slot then { x with st := .awaitAck } else x)
        else h.faults.filter (fun x => x.slot != f.slot) })

/-- Entries acknowledged (HLT_FAULT_ACK): how many retire. -/
def State.ackFaults (s : State) (mask : Nat) : Nat × State :=
  let hit := fun (f : FaultEnt) => f.st == .awaitAck && natBit mask f.slot
  ((s.hlt.faults.filter hit).length, s.updHlt (fun h => { h with faults := h.faults.filter (fun f => !hit f) }))

/-- The 32 bytes of an entry (R520). -/
def FaultEnt.bytes (f : FaultEnt) : List Byte :=
  leBytes 2 (evOf f.src) ++ leBytes 1 (f.cls + 16 * (match f.st with
    | .queued => 0
    | .handling => 1
    | .awaitAck => 2)) ++ leBytes 1 f.slot ++ leBytes 4 f.reps ++ leBytes 8 f.firstTime ++ leBytes 8 f.lastTime ++
  leBytes 4 f.firstDetail ++ leBytes 4 f.lastDetail

/-! ### Trim runs (R183, R533, R536) -/

/-- The trim a measurement chooses. -/
def measured (kind i n : Nat) : Trim :=
  let x := Config.trimChoice kind i n
  ⟨x % 2 ^ 32, x / 2 ^ 32 % 65536, x / 2 ^ 48 % 256, natBit x 56⟩

/-- The trims of a run put in effect: result word 2, and the state (R536). -/
def State.trimCommit (s : State) : Nat × State :=
  match s.hlt.trimRun with
  | none => (0, s)
  | some r =>
    let n := s.hlt.trimRuns
    let new := r.targets.filter (fun x => (measured x.1 x.2 n).exhausted && !(s.trim x.1 x.2).exhausted)
    let s := r.targets.foldl (fun (s : State) x =>
      let t := measured x.1 x.2 n
      let s := s.setTrim x.1 x.2 t
      let s := if x.1 ≤ 3 then s.unseed x.2 else s
      if t.exhausted then s.raise .TRIM_EXHAUSTED (x.1 + 256 * x.2) else s) s
    let bare := ((r.targets.filter (fun x => x.1 < 3 && decide ((s.trim x.1 x.2).spares = 0))).map (fun x => x.2)).eraseDups
    let s := s.updHlt (fun h => { h with trimRun := none, trimRuns := satAdd32 h.trimRuns 1, trimTime := s.glint })
    (if r.sen then bare.length else new.length, s)

/-- HLT_TRIM_STORE: every trim in effect written to the older copy (R212, R534). -/
def State.trimStore (s : State) : State :=
  let target := match s.trimCopy with
    | some c => 1 - c
    | none => 0
  let seq := match s.trimCopy with
    | some c => (s.trimSeq c).getD 0 + 1
    | none => 1
  let recs := trimKinds.flatMap (fun k => (List.range k.2).flatMap (fun i => trimBytes k.1 i (s.trim k.1 i)))
  let head := leBytes 4 0x4D495254 ++ leBytes 4 seq ++ leBytes 4 (recs.length / 16)
  { s with flash := Sparse.write s.flash (trimArea target) (head ++ leBytes 4 (crc32 head) ++ recs) }

/-- How many instances of a kind are exhausted. -/
def State.exhausted (s : State) (kind : Nat) : Nat :=
  ((trimKinds.filter (fun k => k.1 == kind)).flatMap (fun k => (List.range k.2).filter (fun i => (s.trim kind i).exhausted))).length

end Sys2Proof.Machine
end

