-- ==== Sys2Proof/Machine/Acts.lean ====
section
/-! DEFINITION. What a commit does beside writing parameters: one operation for each act. -/

namespace Sys2Proof.Machine

/-- What an act comes to: the state, result words from word 2 on, a status and detail other than DONE, or a completion that the act
    itself gives later. -/
structure ActRes where
  s : State
  words : List Word
  status : Nat
  detail : Nat
  held : Bool

/-- An act that simply happened. -/
def ActRes.ok (s : State) : ActRes := ⟨s, [], 0, 0, false⟩

/-- An act with result words. -/
def ActRes.give (s : State) (ws : List Word) : ActRes := ⟨s, ws, 0, 0, false⟩

/-- An act that changes nothing and fails. -/
def ActRes.fail (s : State) (status detail : Nat) : ActRes := ⟨s, [], status, detail, false⟩

/-- An act whose completion comes later. -/
def ActRes.hold (s : State) : ActRes := ⟨s, [], 0, 0, true⟩

/-! ### The sensor lanes (R16, R182) -/

/-- Whether a spare can be put in place of a lane, or a forced lane given back (SEN_SPARE_FORCE). -/
def State.forceOk (s : State) (l : Nat) (on : Bool) : Bool :=
  let x := s.lane (convOf l)
  if on then x.st == .inService && !x.forced && (s.lane (9 * (l / 8) + 8)).st == .spareReady else x.forced

/-- A spare put in place of a lane that has not failed, or freed again; no sub-line is lost. -/
def State.forceSpare (s : State) (l : Nat) (on : Bool) : State :=
  let t := l / 8
  let c := 9 * t + 8
  if on then
    let own := s.lane (convOf l)
    let s := s.updLane (convOf l) (fun x => { x with forced := true })
    let s := (s.updLane c (fun x => { x with st := .spareInUse, gain := own.gain })).unseed c
    s.updSpare t (fun x => { x with serves := some (l % 8), claimed := none, seeds := List.replicate 6 none })
  else
    let s := (s.updLane (convOf l) (fun x => { x with forced := false })).unseed (convOf l)
    let s := s.updLane c (fun x => { x with st := .spareReady })
    s.updSpare t (fun x => { x with serves := none, claimed := none })

/-! ### The shading sets (R205) -/

/-- Whether the pending half of a tile can be swapped in: it has been loaded, and no uncorrectable error lies in it (R205, R209). -/
def State.halfReady (s : State) (t : Nat) : Bool := (s.tileCor t).pend.loaded && !(s.tileCor t).pend.ecc

/-- COR_SET_SWAP at its commit. -/
def State.actSwap (s : State) (tiles : Nat) : ActRes :=
  let ts := maskList 16 tiles
  if !ts.all (fun t => s.halfReady t) then .fail s 0x13 0
  else
    let s := ts.foldl (fun (s : State) t => s.swapTile t) s
    .give s [w32 (s.tileCor (ts.headD 0)).act.id]

/-! ### The lamps (R127, R131, R138, R142, R148) -/

/-- Microseconds between two instants, the fraction rounded either way (log entry 12). -/
def usBetween (a b : Nat) : Nat := (openDiv 63 ((b : Int) - a) (us 1)).toNat

/-- LMP_PATTERN_APPLY at its commit: native bars swap by SYNC, P64 bars begin to send. -/
def State.actApply (s : State) (cid line flags bars : Nat) : ActRes :=
  let bs := maskList 4 bars
  let nat_ := bs.filter (fun b => s.native b)
  let took := nat_.foldl (fun (m : Nat) b => match (s.bar b).upload with
    | some u => max m (usBetween u.at_ (u.doneAt.getD s.now))
    | none => m) 0
  let s := nat_.foldl (fun (s : State) b => s.syncSelect b) s
  let sends := bs.filter (fun b => s.p64 b)
  if sends.isEmpty then .give s [w32 took]
  else
    let s := sends.foldl (fun (s : State) b => s.startUpload b) s
    .hold { s with lamp := { s.lamp with applies := s.lamp.applies ++ [⟨cid, line, flags, maskOf sends, took⟩] } }

/-- LMP_BAR_SET at its commit: discovery of a native bar, or the change of mode. -/
def State.actBar (s : State) (cid line flags b : Nat) (writes : List ParWrite) (changed : Bool) : ActRes :=
  if writes.isEmpty then
    let s := if changed then s.barMode b none
      else if s.native b && (s.bar b).known then
        s.updBar b (fun x => { x with work := x.work ++ [frameAll x.chips (cmdWord 9 0 0 0 (s.p .LMP_SHORT_V b))] })
      else s
    .give s [w32 ((s.chainLen b).getD 0)]
  else .hold (s.updBar b (fun x => { x with disc := some ⟨some cid, line, flags, writes⟩ }))

/-- LMP_DIAG_RUN at IDLE. -/
def State.actDiag (s : State) (cid line flags b what : Nat) : ActRes :=
  let s := s.updBar b (fun x => { x with diag := some ⟨cid, what, line, flags, true⟩ })
  .hold (if natBit what 10 then s.updBar b (fun x => { x with disc := some ⟨none, line, flags, []⟩ }) else s)

/-- LMP_FAULT_CLEAR: CLEAR to the chips named, their mask bits gone. -/
def State.actClear (s : State) (b chips : Nat) : State :=
  let cs := maskList 64 chips
  let sent := cs.filter (fun c => decide (c < (s.chainLen b).getD 0))
  let f : ChainFrame := ⟨sent.map (fun c => (c, cmdWord 8 0 0 0 0xFFFF)), false⟩
  s.updBar b (fun x => { x with
    opens := cs.foldl (fun m c => Sparse.drop m c) x.opens,
    shorts := cs.foldl (fun m c => Sparse.drop m c) x.shorts,
    pairs := cs.foldl (fun m c => Sparse.drop m c) x.pairs,
    work := if s.native b && !sent.isEmpty then x.work ++ [f] else x.work })

/-! ### The run (R267, R268) -/

/-- RUN_OPEN at its commit. -/
def State.openRun (s : State) (id : Nat) : State :=
  let s := (s.streamsTo s.seq.lineIndex).mirrorTo s.seq.lineIndex
  let s := { s with seq := { s.seq with
      lineIndex := 0, tRef := none, lastTick := none, lastX := none, slot := none, nextSlot := none, deferred := none, flushUntil := none,
      hold := false, afterHold := false, idle := false, quietSince := s.now,
      periodDue := if s.p .SEQ_TICK_SRC = 1 then some (s.now + ns (s.p .SEQ_PERIOD)) else none } }
  let s := s.repeatsOpen
  let s := ((s.capOpen id).runKeys).episodeRun
  let s := s.updAsk (fun a => { a with runWait := s.member, unmatched := none, gap := none })
  let s := s.updSec (fun x => { x with debug := false })
  let s := s.updPwr (fun p => { p with st := if p.st = .ready then .armed else p.st })
  match s.cmp.track.next with
  | some n => s.sendRun.sendRepeat n
  | none => s.sendRun

/-- The waiting JOB_ARM goes, with the uploads it holds. -/
def State.cutArm (s : State) : State :=
  match s.cap.arm with
  | none => s
  | some a => (maskList 4 a.bars).foldl (fun (s : State) b => if natBit a.parts 3 && s.native b then s.dropUpload b else s)
      { s with cap := { s.cap with arm := none } }

/-- A JOB_ARM that waits is cancelled (R258). -/
def State.disarm (s : State) : State :=
  match s.cap.arm with
  | none => s
  | some a => s.cutArm.reply a.cid 0x13 1

/-- RUN_CLOSE at its commit: no further tick is captured (R268). -/
def State.closeRun (s : State) (cid line flags : Nat) : State :=
  let s := s.disarm
  { s with
    hq := { s.hq with closeX := s.extNow },
    cap := { s.cap with run := .closing, closing := some ⟨cid, line, flags⟩ },
    seq := { s.seq with nextSlot := s.seq.nextSlot, periodDue := none, hold := false, idle := false } }

/-! ### Motion (R382 to R392) -/

/-- Whether a capture holds an axis (R399). -/
def State.axisHeld (s : State) (a : Nat) : Bool :=
  match s.cor.cal with
  | some c => c.kind != 0 && s.tileAxis == some a
  | none => false

/-- Whether an axis is off, in fault, geared or homing (R382). -/
def State.axisBarred (s : State) (a : Nat) : Bool :=
  match (s.axis a).st with
  | .off | .fault | .geared | .homing => true
  | _ => false

/-- Whether motion of a sign would run towards a latched limit (R389). -/
def State.towardsLimit (s : State) (a : Nat) (d : Int) : Bool :=
  let l := (s.axis a).latched
  (decide (0 < d) && l.getD 0 false) || (decide (d < 0) && l.getD 1 false)

/-- Where a move takes an axis. -/
def State.moveGoal (s : State) (a : Nat) (w : Nat) (relative : Bool) : Int :=
  if relative then (s.axis a).pos + toSigned 32 w else (s.axis a).resolve w

/-- The status that refuses a move (R382, R385, R389, R399); 0 for none. -/
def State.moveFails (s : State) (axes targets : List Nat) (relative : Bool) : Nat :=
  if axes.any (fun a => s.axisBarred a || s.towardsLimit a (s.moveGoal a (targets.getD a 0) relative - (s.axis a).pos)) then 0x13
  else if axes.any (fun a => s.axisHeld a) || (decide (1 < axes.length) && axes.any (fun a => (s.axis a).st != .rest)) then 0x14
  else 0

/-- Axes of an interpolated move part, each going on to its own target at its own share of the speed. -/
def State.partMove (s : State) (a : Nat) : State :=
  let lead := (s.axis a).follows.getD a
  let x := s.axis lead
  let s := x.followers.foldl (fun (s : State) f =>
    let v := if x.next.isNone then 256 * s.p .MOT_VSTART f.axis else (openDiv 64 (x.v * f.dist : Nat) (max 1 x.planRem.toNat)).toNat
    let left := match (s.axis f.axis).goal with
      | .target p => ((p - (s.axis f.axis).pos).natAbs : Int)
      | _ => 0
    s.updAxis f.axis (fun (y : Axis) => { y with
      follows := none, v := v, rem := left, planAt := s.now, planV := v, planRem := left,
      next := if left = 0 || x.next.isNone then none else some (s.now + clks (intervalOf (s.grain f.axis) (max 1 v))) })) s
  (s.updAxis lead (fun y => { y with followers := [], lims := none })).unpark

/-- MOT_MOVE at its commit. -/
def State.actMove (s : State) (axes targets : List Nat) (relative : Bool) : ActRes :=
  let bad := s.moveFails axes targets relative
  if bad ≠ 0 then .fail s bad 0
  else match axes with
  | [] => .ok s
  | [a] =>
    let p := s.moveGoal a (targets.getD a 0) relative
    let r := (s.partMove a).moveTo a p
    match r.1 with
    | some rev => .give r.2 [wInt rev, w32 (1 + 256 * a)]
    | none => .give r.2 [w32 0, w32 (256 * a)]
  | _ =>
    let ds : List (Nat × Int) := axes.map (fun a => (a, s.moveGoal a (targets.getD a 0) relative - (s.axis a).pos))
    .give (s.interpolate ds) [w32 0, w32 (256 * (leadOf ds).1)]

/-- Whether a jog is refused (R382, R389). -/
def State.jogFails (s : State) (a : Nat) (v : Int) : Bool := s.axisBarred a || s.towardsLimit a v

/-- Whether a gear operation is refused (R386). -/
def State.gearFails (s : State) (a op : Nat) : Bool :=
  if op = 0 then (s.axis a).st != .rest else (s.axis a).st != .geared

/-- MOT_GEAR at its commit (R386, R387). -/
def State.actGear (s : State) (a enc op q ratio ramp : Nat) : State :=
  if op = 0 then
    let g : Gear := ⟨enc, (s.enc enc).pos, 65536 * (s.axis a).pos, toSigned 32 ratio, toSigned 32 ratio, 0, none, false⟩
    s.updAxis a (fun x => { x with st := .geared, gear := some g, next := none, follows := none, followers := [], lims := none })
  else if op = 1 then
    s.updAxis a (fun x => { x with
      gear := x.gear.map (fun g =>
        let m := (s.enc g.enc).pos
        let at_ := m + toSigned 32 (ofSigned 32 ((q : Int) - m))
        { g with change := some ⟨at_, toSigned 32 ratio, ramp, decide (m < at_)⟩ }) })
  else s.stopAxis a false

/-- Whether homing is refused (R382, R389). -/
def State.homeFails (s : State) (a : Nat) (negative : Bool) : Bool :=
  s.axisBarred a || s.towardsLimit a (if negative then -1 else 1)

/-- MOT_HOME at its commit (R392). -/
def State.actHome (s : State) (a : Nat) (negative : Bool) (ws : List Nat) : State :=
  let s := s.partMove a
  let dir : Int := if negative then -1 else 1
  let speed := ws.getD 0 0
  let h : Homing := ⟨dir, speed, toSigned 32 (ws.getD 1 0), ws.getD 2 0, ws.getD 3 0, 0, false, 0, 0, 0, [], 0, false, none⟩
  let s := s.motionStart a .homing dir 0 (.speed (dir * (speed : Int)))
  s.updAxis a (fun x => { x with home := some h })

/-- MOT_ACK at its commit (R390, R378). -/
def State.actAck (s : State) (mask : Nat) : State :=
  (maskList 8 mask).foldl (fun (s : State) a =>
    let s := [0, 1].foldl (fun (s : State) side =>
      if natBit mask (8 + side) && (s.axis a).latched.getD side false then
        (s.updAxis a (fun x => { x with acked := upd x.acked side (fun _ => true) })).limitClear a side
      else s) s
    if natBit mask 10 && (s.axis a).st == .fault then (s.updAxis a (fun x => { x with st := .rest, restAt := s.now, held := false })).coilsFollow a
    else s) s

/-- Whether MOT_POS_SET is refused. -/
def State.posSetFails (s : State) (a : Nat) : Bool :=
  (s.axis a).st != .rest || (s.cap.run != .closed && s.p .SEQ_POS_SRC == 8 + a)

/-- MOT_POS_SET at its commit: the coils keep the position that the new number stands for. -/
def State.actPosSet (s : State) (a v : Nat) : State :=
  (s.updAxis a (fun x => { x with pos := toSigned 32 v, hist := [] })).coilsFollow a

/-! ### Time (R96, R99) -/

/-- The reply of a TIME_SET whose load has taken place. -/
def State.loadReply (s : State) (l : TimeLoad) : State :=
  s.replyAt l.cid 0 l.flags (Word.ofNat64 l.line) l.line

/-- The load of a TIME_SET at its commit (R99). -/
def State.actTime (s : State) (cid line flags secs : Nat) : State :=
  let s := s.rebase
  let s := { s with pos := { s.pos with tb := { s.pos.tb with load := some ⟨cid, secs, true, line, flags⟩ } } }
  if s.ppsMode ≠ 0 then s
  else match s.performLoad s.glint with
    | (some l, s) => s.loadReply l
    | (none, s) => s

/-- TDC_ARM at its commit (R96); a channel is not armed while the Glint PLL has lost lock (R527). -/
def State.actArm (s : State) (arm disarm : Nat) : State :=
  let s := (maskList 8 disarm).foldl (fun (s : State) j => (s.tdcAbort j).updChan j (fun c => { c with armed := false })) s
  (maskList 8 arm).foldl (fun (s : State) j => s.updChan j (fun c => { c with armed := s.clockOk 2 })) s

/-! ### The acts -/

/-- An act of the motion controller, by its refusal: BAD_STATE, or BUSY for an axis that a capture holds (R399). -/
def ActRes.motion (s : State) (fails busy : Bool) (s' : State) : ActRes :=
  if fails then .fail s 0x13 0 else if busy then .fail s 0x14 0 else .ok s'

/-- An act of a commit whose first grid line is line; flags are the detail bits of its completion. -/
def State.act (s : State) (cid line flags : Nat) (a : Act) : ActRes :=
  match a with
  | .waveLoad g p sig ws => .ok { s with sen := { s.sen with waves := Sparse.set s.sen.waves [] (24 * g + 4 * p + sig) ws } }
  | .substLoad l es => .ok { s with sen := { s.sen with substs := Sparse.set s.sen.substs [] l es } }
  | .laneRestore conv => .hold { s with sen := { s.sen with restore := s.sen.restore ++ [⟨cid, conv, line, flags⟩] } }
  | .spareForce l on => if s.forceOk l on then .ok (s.forceSpare l on) else .fail s 0x13 0
  | .trimRun => let r := s.trimCommit; .give r.2 [w32 r.1]
  | .corSwap tiles => s.actSwap tiles
  | .patternApply bars => s.actApply cid line flags bars
  | .barMode b ws changed => s.actBar cid line flags b ws changed
  | .diagRun b what => s.actDiag cid line flags b what
  | .faultClear b chips => .ok (s.actClear b chips)
  | .streamNeed q =>
    let n := Sys2Proof.Machine.streamNeed s.par q
    .give s [w32 n, w32 (bitNat (decide (n ≤ (s.queue q).ring)))]
  | .runOpen id => let s := s.openRun id; .give s [w32 s.cap.cov.area]
  | .runClose => .hold (s.closeRun cid line flags)
  | .timeLoad secs => .hold (s.actTime cid line flags secs)
  | .tdcArm arm disarm => .ok (s.actArm arm disarm)
  | .motMove axes targets relative => s.actMove axes targets relative
  | .motJog a v => .motion s (s.jogFails a v) (s.axisHeld a) ((s.partMove a).jogAt a v)
  | .motStop mask limit => .ok ((maskList 8 mask).foldl (fun (s : State) a => s.stopAxis a limit) s)
  | .motGear a enc op q ratio ramp => .motion s (s.gearFails a op) (s.axisHeld a) (s.actGear a enc op q ratio ramp)
  | .motHome a negative ws => .motion s (s.homeFails a negative) (s.axisHeld a) (s.actHome a negative ws)
  | .motAck mask => .ok (s.actAck mask)
  | .motPosSet a v => .motion s (s.posSetFails a) false (s.actPosSet a v)
  | .auxCalDone ch => .ok (s.raise .AUX_CAL_DONE ch)
  | .auxLin ch cs => .ok (s.updAuxCh ch (fun c => { c with coeffs := cs }))
  | .askSet => .ok s.askSet
  | .askCal =>
    if !s.isMaster || !s.ask.up then .fail s 0x13 0
    else .hold (({ s with ask := { s.ask with cal := some ⟨cid, flags, s.now, [], true⟩ } } : State).calBegin)
  | .domains mask vals =>
    let r := s.domainSet cid line flags mask vals
    ⟨r.2.2, [], r.1, 0, r.2.1⟩

end Sys2Proof.Machine
end

