-- ==== Sys2Proof/Machine/Commit.lean ====
section
/-! DEFINITION. The commit machinery (R52 to R63): what happens when shadows commit, the waiting commits, groups, and the IDLE commit. -/

namespace Sys2Proof.Machine

/-! ### What a commit changes -/

/-- Detail bits of a completion (R58). -/
def bitSlipped : Nat := 2 ^ 23
def bitSuperseded : Nat := 2 ^ 22
def bitLate : Nat := 2 ^ 21
def bitRetried : Nat := 2 ^ 20

/-- Parameters of the image-side blocks (R52): Mirror, queue routing, and the phase count as they see it. -/
def imagePar (p : Par) : Bool :=
  streamPar p || [Par.CMP_ENABLE, .CMP_REPEAT_MODE, .CMP_REPEAT_LINES, .CMP_MARK_CH, .CMP_MARK_WIN, .CMP_MARK_MISS_MAX, .CMP_X0,
    .CMP_SEARCH_X, .CMP_SEARCH_Y, .CMP_SAD_MAX, .CMP_CURV_MIN, .CMP_ROW_MIN, .CMP_OUTLIER, .CMP_BLEND, .CMP_FLAG_MASK,
    .CMP_SUMMARY_QUEUE, .CMP_SEAM_WAIT, .CMP_LEARN_K, .CMP_LEARN_FLOOR, .CMP_EDGE_GRAD, .CMP_EDGE_RADIUS, .CMP_EDGE_ADD,
    .CMP_M].contains p

/-- Parameters whose change alters the repeat structure (R273, R275). -/
def repeatPar (p : Par) : Bool :=
  [Par.CMP_REPEAT_MODE, .CMP_REPEAT_LINES, .CMP_MARK_CH, .CMP_MARK_WIN, .CMP_MARK_MISS_MAX].contains p

/-- A change of the image side queued for its line (R52). -/
def State.imgAdd (s : State) (line : Nat) (ws : List ParWrite) (acts : List ImgAct) : State :=
  if ws.isEmpty && acts.isEmpty then s
  else if s.imgQueue.any (fun b => b.line == line) then
    { s with imgQueue := s.imgQueue.map (fun (b : ImgBatch) =>
        if b.line = line then { b with writes := b.writes ++ ws, acts := b.acts ++ acts } else b) }
  else { s with imgQueue := s.imgQueue ++ [⟨line, ws, acts⟩] }

/-- Whether any of some parameters is written. -/
def writesAny (ws : List ParWrite) (ps : List Par) : Bool := ws.any (fun w => ps.contains w.par)

/-- Parameters of the sensor side that shape the slot (R42). -/
def slotPars : List Par :=
  [.SEQ_NUM_PHASES, .SEQ_GUARD, .SEQ_EXP, .SEN_RO_CLK, .SEN_PCLK_DIV, .SEN_LANE_EN, .SEN_GEN, .SEN_GEN_EN]

/-- Parameters of the arena's layout. -/
def arenaPars : List Par := [.HIS_REF_SLOTS, .HIS_REF_SLOT_SIZE, .HIS_SHD_SLOTS, .HIS_SPILL, .HIS_SCRATCH, .HIS_HIST]

/-- The contents of the partitions that have moved or changed their size are lost (R355). -/
def State.arenaMoved (s : State) (old : State) : State :=
  let moved := (List.range 5).filter (fun i => s.arenaByte i != old.arenaByte i || s.arenaSize i != old.arenaSize i)
  let gone := fun (a : Nat) => moved.any (fun i =>
    (decide (s.arenaByte i ≤ a) && decide (a < s.arenaByte i + s.arenaSize i)) ||
    (decide (old.arenaByte i ≤ a) && decide (a < old.arenaByte i + old.arenaSize i)))
  let s := { s with dram := s.dram.filter (fun e => !gone e.1) }
  let s := if moved.contains 0 then s.updCmp (fun c => { c with resident := [], ready := [] }) else s
  let s := if moved.contains 3 then { s with cap := { s.cap with cov := { s.cap.cov with present := false, sealedMap := none } } } else s
  if moved.contains 4 then { s with hq := { s.hq with hist := [], histNext := 0, histCount := 0 } } else s

/-- A commit of parameter writes reaches the store, and the image side's queue (R52, R57, R78, R93, R272). -/
def State.commitStore (s : State) (ws : List ParWrite) (line : Nat) (idle : Bool) : State :=
  let old := s.par
  let s := (List.range 8).foldl (fun (s : State) j =>
    if ws.any (fun w => w.inst == j && [Par.TDC_MODE, .TDC_START, .TDC_STOP, .TDC_ENC].contains w.par && w.val != s.p w.par j)
    then s.tdcAbort j else s) s
  let s := if writesAny ws [.TDC_FREQ_PPB, .TDC_PPS_MODE, .TDC_SLEW_MAX, .ASK_ROLE] then s.rebase else s
  let s := s.setPars ws
  let img := ws.filter (fun w => imagePar w.par)
  let cmp := img.filter (fun w => !streamPar w.par)
  let s := s.imgAdd line img (if cmp.isEmpty then [] else [.compareCommit (writesAny cmp [.CMP_REPEAT_MODE, .CMP_REPEAT_LINES])])
  if ws.any (fun w => repeatPar w.par) && ws.any (fun w => repeatPar w.par && w.val != parGet old w.par w.inst)
  then s.restructure idle line else s

/-- What a commit does to the sensor side (R172, R196, R208): old is the store before it. -/
def State.commitSensor (s : State) (old : Sparse Nat) (ws : List ParWrite) : State :=
  let s := if writesAny ws slotPars then s.recomputeSlot else s
  let s := s.lanesCommitted old ws
  let s := (ws.filter (fun w => w.par == .SEN_ACTIVE && w.val != parGet old w.par w.inst)).foldl
    (fun (s : State) w => s.activeChanged w.inst) s
  let s := (List.range 6).foldl (fun (s : State) p =>
    let was := parGet old .COR_TEMP_BAR p
    let now := s.p .COR_TEMP_BAR p
    if was ≠ now ∨ (now < 4 ∧ s.p .LMP_TEMP_CH now ≠ parGet old .LMP_TEMP_CH now) then s.sourceChanged p else s) s
  { s with cor := { s.cor with defRaised := if writesAny ws [.SEN_LANE_EN, .COR_MODE, .SEN_ACTIVE] then false else s.cor.defRaised } }

/-- What a commit does to the encoders and the strobes (R82, R119, R126, R341). -/
def State.commitPos (s : State) (old : Sparse Nat) (ws : List ParWrite) : State :=
  let s := (List.range 4).foldl (fun (s : State) k => if ws.any (fun w => w.inst == k &&
      [Par.POS_MODE, .POS_DIR, .POS_REF_MODE, .POS_CORR_EN, .POS_AMP_LO, .POS_AMP_HI].contains w.par) then s.encCommitted old k else s) s
  let s := (List.range 4).foldl (fun (s : State) k => if ws.any (fun w => w.inst == k &&
      [Par.POS_REF_MODE, .POS_REF_VALUE, .POS_REF_PERIOD].contains w.par) then s.refArm k else s) s
  let s := if writesAny ws [.POS_LOG_PERIOD] then
      { s with pos := { s.pos with logDue := if s.p .POS_LOG_PERIOD = 0 then none else some (s.now + us (s.p .POS_LOG_PERIOD)) } }
    else s
  let s := if writesAny ws [.LMP_PULSE, .LMP_DELAY, .SEQ_EXP] then { s with lamp := { s.lamp with clipRaised := false } } else s
  if writesAny ws [.LMP_PROOF_EVERY, .LMP_PULSE] then { s with lamp := { s.lamp with undiagRaised := false } } else s

/-- What a commit does to the axes and the time base (R78, R374). -/
def State.commitAxes (s : State) (old : Sparse Nat) (ws : List ParWrite) : State :=
  let s := (List.range 8).foldl (fun (s : State) a => if s.p .MOT_EN a ≠ parGet old .MOT_EN a then s.axisEnabled a else s) s
  let s := (List.range 8).foldl (fun (s : State) a =>
    if s.axisEn a && ws.any (fun w => w.inst == a && [Par.MOT_IRUN, Par.MOT_IHOLD].contains w.par) then s.coilsFollow a else s) s
  if writesAny ws [.TDC_PPS_MODE, .ASK_ROLE] then
    match s.ppsModeSet with
    | (some l, s) => s.loadReply l
    | (none, s) => s
  else s

/-- What a commit of parameter writes does beyond the store (R57, R78, R172, R196, R208, R272, R341): line is the first grid line that
    the new configuration serves, idle whether it is an IDLE commit. -/
def State.committed (s : State) (ws : List ParWrite) (line : Nat) (idle : Bool) : State :=
  if ws.isEmpty then s else
  let t := (((s.commitStore ws line idle).commitSensor s.par ws).commitPos s.par ws).commitAxes s.par ws
  (if writesAny ws arenaPars then t.arenaMoved s else t).auxCommitted s.par

/-- With no run open no image line is to come: what waits on the image side applies at once (R52). -/
def State.imgSettle (s : State) : State :=
  if s.cap.run = .closed then (s.streamsTo s.seq.lineIndex).mirrorTo s.seq.lineIndex else s

/-! ### The arming of a job (R55, R235, R555) -/

/-- An ARM frame of the master for a line (R546, R555). -/
def State.sendArm (s : State) (a : JobArm) (line : Nat) : State :=
  s.askSend 5 (leBytes 4 a.job ++ leBytes 8 line ++ leBytes 1 (bitNat a.learn + 16 * (a.repeats - 1)) ++ [0, 0, 0])

/-- On a master, the boundary at which a JOB_ARM will switch has become known: its ARM frame goes out (R555). -/
def State.armKnown (s : State) : State :=
  match s.cap.arm, s.cmp.track.next with
  | some a, some n =>
    if s.isMaster && a.point == .rept && a.target.isNone && n.pos.isNone && !a.held then
      ({ s with cap := { s.cap with arm := some { a with target := some n.line } } } : State).sendArm a n.line
    else s
  | _, _ => s

/-- Whether a POSITION commit that arrives now is late: its target lies at or below the high-water mark (R55, R236); with the target. -/
def State.posTarget (s : State) (q : Nat) : Option Nat × Bool :=
  let pos := s.resolvePos q
  if s.p .SEQ_TICK_SRC = 0 ∨ s.p .SEQ_TICK_SRC = 3 then
    let k := s.indexAt pos
    (k, match k with
      | some k => decide ((k : Int) ≤ s.cap.high)
      | none => false)
  else (none, match s.seq.lastX with
    | some x => decide (pos ≤ x)
    | none => false)

/-- A JOB_ARM reaches the sequencer: 4 µs later on a master (R555), whose ARM frame names the line as soon as it is known. -/
def State.armArrives (s : State) (a : JobArm) : State :=
  let at_ := s.now + (if s.isMaster then us 4 else 0)
  let t : Option Nat × Bool := if a.point = .position && !s.member then s.posTarget a.arg else (none, false)
  let a := { a with held := false, arrival := at_, target := t.1, flags := if t.2 then a.flags ||| 2 ^ 21 else a.flags }
  let s := { s with cap := { s.cap with arm := some a } }
  if !s.isMaster then s
  else if a.point = .rept then s.armKnown
  else if t.2 then s.sendArm a s.seq.lineIndex
  else match t.1 with
    | some k => s.sendArm a k
    | none => s

/-- Whether a group waits for its JOB_ARM. -/
def State.armOf (s : State) (gid : Nat) : Option JobArm :=
  match s.cap.arm with
  | some a => if a.gid = some gid then some a else none
  | none => none

/-! ### Waiting commits (R52 to R55) -/

/-- Whether a write replaces another (R54). -/
def ParWrite.same (a b : ParWrite) : Bool := a.par == b.par && a.inst == b.inst

/-- Whether an act replaces another: loads of one waveform or one substitution list. -/
def Act.same : Act → Act → Bool
  | .waveLoad g p k _, .waveLoad g' p' k' _ => g == g' && p == p' && k == k'
  | .substLoad l _, .substLoad l' _ => l == l'
  | .auxLin c _, .auxLin c' _ => c == c'
  | _, _ => false

/-- A waiting commit without what another replaces; whether it lost anything, and whether it is left with nothing (R54). -/
def Pend.without (p q : Pend) : Pend × Bool × Bool :=
  let ws := p.writes.filter (fun w => !q.writes.any (fun v => v.same w))
  let as_ := p.acts.filter (fun a => !q.acts.any (fun b => b.same a))
  let lost := decide (ws.length < p.writes.length ∨ as_.length < p.acts.length)
  ({ p with writes := ws, acts := as_, flags := if lost then p.flags ||| bitSuperseded else p.flags }, lost, lost && ws.isEmpty && as_.isEmpty)

/-- A commit reaches the sequencer (R53, R54, R55): it replaces what it overlaps, and a POSITION commit is resolved. -/
def State.pendArrives (s : State) (p : Pend) : State :=
  let others := s.seq.pends.filter (fun q => q.cid != p.cid)
  let cut := others.map (fun (q : Pend) => if q.arrival.isSome then q.without p else (q, false, false))
  let gone := (cut.filter (fun x => x.2.2)).flatMap (fun x => x.1.cid :: x.1.superseded)
  let t := if p.point = .position then s.posTarget p.arg else (none, false)
  let p := { p with
    arrival := some s.now, superseded := p.superseded ++ gone,
    target := t.1,
    flags := if t.2 then p.flags ||| bitLate else p.flags }
  { s with seq := { s.seq with pends := (cut.filter (fun x => !x.2.2)).map (fun x => x.1) ++ [p] } }

/-- The completion of a command at its commit, and of those it superseded (R54, R58). -/
def State.pendReply (s : State) (p : Pend) (line status detail : Nat) (ws : List Word) : State :=
  let s := s.replyAt p.cid status (p.flags + detail) (Word.ofNat64 line ++ ws) line
  p.superseded.foldl (fun (s : State) c => s.replyAt c 0 bitSuperseded (Word.ofNat64 line) line) s

/-- One commit takes effect: its acts, then its completion. Its parameter writes are in the store already. -/
def State.pendActs (s : State) (p : Pend) (line : Nat) : State :=
  let r := p.acts.foldl (fun (r : ActRes) a =>
    let x := r.s.act p.cid line p.flags a
    ({ x with
              words := r.words ++ x.words, status := max r.status x.status, held := r.held || x.held,
              detail := if r.detail = 0 then x.detail else r.detail } : ActRes)) (⟨s, p.extra, p.status, 0, false⟩ : ActRes)
  if r.held then
    p.superseded.foldl (fun (s : State) c => s.replyAt c 0 bitSuperseded (Word.ofNat64 line) line) r.s
  else r.s.pendReply p line r.status r.detail r.words

/-- Parameters of the line sequencer, the timing generators and the lanes. -/
def Par.sensorSide (p : Par) : Bool :=
  decide (p.ctorIdx ≤ Par.SEQ_GROUP_TIMEOUT.ctorIdx) ||
  (decide (Par.SEN_GEN_EN.ctorIdx ≤ p.ctorIdx) && decide (p.ctorIdx ≤ Par.SEN_TEST_TOL.ctorIdx))

/-- Whether the shadows that commit together make a configuration that R164 and, at an IDLE commit, R165 allow. -/
def State.fits (s : State) (ws : List ParWrite) (idle : Bool) : Bool :=
  let m := parSets s.par ws
  !ws.any (fun w => w.par.sensorSide) || (lanesFit m && (!idle || columnsFit m))

/-- Whether a commit is a shadow of the sequencer, the generators or the lanes (R164). -/
def Pend.shapes (p : Pend) : Bool := p.writes.any (fun w => w.par.sensorSide) || p.acts.any (fun a => match a with
  | .waveLoad .. => true
  | .substLoad .. => true
  | _ => false)

/-- GROUP_END of groups whose members have all committed: it completes last (R61). -/
def State.groupsDone (s : State) (line : Nat) : State :=
  let ready := s.seq.groups.filter (fun g => g.ended.isSome && s.seq.pends.all (fun p => p.gid != some g.gid) && (s.armOf g.gid).isNone)
  let s := { s with seq := { s.seq with groups := s.seq.groups.filter (fun g => !(ready.contains g)) } }
  ready.foldl (fun (s : State) g =>
    match g.ended with
    | some cid => s.replyAt cid 0 0 (Word.ofNat64 line ++ [w32 g.members.length]) line
    | none => s) s

/-- All commits due at one instant take effect together (R54): line is the grid line they serve first. -/
def State.commitAll (s : State) (due : List Pend) (line : Nat) (idle : Bool) : State :=
  if due.isEmpty then s else
  let s := { s with seq := { s.seq with pends := s.seq.pends.filter (fun p => !due.any (fun q => q.cid == p.cid)) } }
  let ok := s.fits (due.flatMap (fun p => p.writes)) idle
  let bad := if ok then [] else due.filter (fun p => p.shapes)
  let good := if ok then due else due.filter (fun p => !p.shapes)
  let dark := good.filter (fun p => (idle && s.worksOff (parSets s.par p.writes)) || s.excLow p.writes)
  let good := good.filter (fun p => !dark.any (fun q => q.cid == p.cid))
  let s := bad.foldl (fun (s : State) p => s.pendReply p line 0x11 0xFE []) s
  let s := dark.foldl (fun (s : State) p => s.pendReply p line 0x13 0 []) s
  let s := s.committed (good.flatMap (fun p => p.writes)) line idle
  let s := good.foldl (fun (s : State) p => s.pendActs p line) s
  s.imgSettle.groupsDone line

/-- Instants of R53: 2 µs, 4 µs more for JOB_ARM on a master (R555). -/
def State.reached (s : State) (arrival : Nat) : Bool := decide (arrival + us 2 ≤ s.now)

/-- Whether a waiting commit's point has come at the tick of line k (R52, R55). -/
def State.pendHere (s : State) (p : Pend) (k : Nat) (boundary : Bool) : Bool :=
  p.arrival.isSome && (match p.point with
    | .tick => true
    | .rept => boundary
    | .position =>
      natBit p.flags 21 || (match p.target with
        | some t => decide (t ≤ k)
        | none => decide (s.resolvePos p.arg ≤ s.tickX k))
    | _ => false)

/-- The commits of the tick of line k; those whose point has come less than 2 µs after their arrival slip (R53). -/
def State.commitTick (s : State) (k : Nat) (boundary : Bool) : State :=
  let here := s.seq.pends.filter (fun p => s.pendHere p k boundary)
  let due := here.filter (fun p => s.reached (p.arrival.getD 0))
  let slip := here.filter (fun p => !s.reached (p.arrival.getD 0))
  let fresh := slip.filter (fun p => !natBit p.flags 23)
  let s := fresh.foldl (fun (s : State) _ => s.count .SEQ_SLIPS) s
  let s := { s with seq := { s.seq with pends := s.seq.pends.map (fun (p : Pend) =>
      if slip.any (fun q => q.cid == p.cid) then
        { p with flags := p.flags ||| (if p.point = Pt.position ∧ natBit p.flags 21 ∧ !natBit p.flags 23 then 0 else bitSlipped) |||
            (if p.point = Pt.position then bitLate else 0) }
      else p) } }
  s.commitAll due k false

/-- IDLE commits take effect (R52, R57). -/
def State.commitIdle (s : State) : State :=
  s.commitAll (s.seq.pends.filter (fun p => p.point == .idle && p.arrival.isSome)) s.seq.lineIndex true

/-- Whether an IDLE commit is made at once (R52): in READY, with no capture running, or in IDLE already. -/
def State.idleNow (s : State) : Bool := s.cap.run == .closed || s.seq.idle

/-- A command with its writes and acts goes to its commit point (R52, R53, R58 to R61); ready is false while preparatory work runs.
    Parameters of R59 that take effect on their write wait for nothing, but in a group they reach the sequencer with it (R60). -/
def State.submit (s : State) (cid : Nat) (ctx : Ctx) (acts : List Act := []) (ready : Bool := true) : State :=
  let grp := match s.outOf cid with
    | some o => (s.groupOn o.ring).map Group.gid
    | none => none
  let s := if grp.isSome then s else s.setPars (ctx.writes.filter ParWrite.atOnce)
  let ws := if grp.isSome then ctx.writes else ctx.writes.filter (fun w => !w.atOnce)
  let p : Pend := ⟨cid, grp, ctx.point, ctx.arg, none, ws, acts, 0, none, [], [], 0⟩
  if grp.isSome then
    let s := s.accept cid
    { s with seq := { s.seq with
        pends := s.seq.pends ++ [p],
        groups := s.seq.groups.map (fun (g : Group) => if some g.gid = grp ∧ !ready then { g with preparing := g.preparing ++ [cid] } else g) } }
  else if ctx.point = .immediate ∨ (ctx.onceOnly = true ∧ acts = []) then
    let s := s.committed ws s.seq.lineIndex true
    (s.pendActs p s.seq.lineIndex).imgSettle
  else
    let s := s.accept cid
    if !ready then { s with seq := { s.seq with pends := s.seq.pends ++ [p] } }
    else
      let s := s.pendArrives p
      if ctx.point = .idle ∧ s.idleNow then s.commitIdle else s

/-! ### Groups (R60 to R63) -/

/-- A group discarded: its members that hold ACCEPTED complete with BAD_STATE (R62). -/
def State.discardGroup (s : State) (g : Group) : State :=
  let s := { s with seq := { s.seq with
      pends := s.seq.pends.filter (fun p => p.gid != some g.gid), groups := s.seq.groups.filter (fun x => x.gid != g.gid) } }
  let s := if (s.armOf g.gid).isSome then s.cutArm else s
  let s := if s.pos.tb.load.any (fun l => !l.committed && g.members.contains l.cid) then s.updTb (fun t => { t with load := none }) else s
  g.members.foldl (fun (s : State) c => match s.outOf c with
    | some o => if o.first && !o.final then s.reply c 0x13 0xFFFFFF else s
    | none => s) s

/-- A group whose GROUP_END has come and whose members have all reached the sequencer arrives (R61). -/
def State.groupArrives (s : State) (g : Group) : State :=
  match g.ended with
  | none => s
  | some cid =>
    if !g.preparing.isEmpty then s
    else if g.point = .position ∧ s.cap.run ≠ .open_ then
      (s.discardGroup g).reply cid 0x13
    else
      let mine := s.seq.pends.filter (fun p => p.gid == some g.gid)
      let s := s.setPars (mine.flatMap (fun p => p.writes.filter ParWrite.atOnce))
      let mine := mine.map (fun p => { p with writes := p.writes.filter (fun w => !w.atOnce) })
      let s := { s with seq := { s.seq with pends := s.seq.pends.map (fun (p : Pend) =>
        if p.gid == some g.gid then { p with writes := p.writes.filter (fun w => !w.atOnce) } else p) } }
      let s := match s.armOf g.gid with
        | some a => s.armArrives a
        | none => s
      if mine.isEmpty then s.groupsDone s.seq.lineIndex else
      let s := mine.foldl (fun (s : State) p => s.pendArrives p) s
      if g.point = .immediate then s.commitAll (s.seq.pends.filter (fun p => p.gid == some g.gid)) s.seq.lineIndex true
      else if g.point = .idle ∧ s.idleNow then s.commitIdle
      else s

/-- A command's preparatory work has ended: it reaches the sequencer, or its group does (R61, R131, R206). -/
def State.prepared (s : State) (cid : Nat) : State :=
  match s.seq.pends.find? (fun p => p.cid == cid && p.arrival.isNone) with
  | none => s
  | some p =>
    match p.gid with
    | none =>
      let s := s.pendArrives p
      if p.point = .idle ∧ s.idleNow then s.commitIdle else s
    | some gid =>
      let s := { s with seq := { s.seq with groups := s.seq.groups.map (fun (g : Group) =>
          if g.gid = gid then { g with preparing := g.preparing.filter (fun c => c != cid) } else g) } }
      match s.seq.groups.find? (fun g => g.gid == gid) with
      | some g => s.groupArrives g
      | none => s

/-- Shadows not committed are discarded with the open groups, at a watchdog reset (R30, R63). -/
def State.dropShadows (s : State) : State := { s with seq := { s.seq with pends := [], groups := [] } }

/-- A waiting commit cancelled by hand. -/
def State.dropPend (s : State) (cid : Nat) : State :=
  { s with seq := { s.seq with pends := s.seq.pends.filter (fun p => p.cid != cid) } }

end Sys2Proof.Machine
end

