-- ==== Sys2Proof/Machine/Tick.lean ====
section
/-! DEFINITION. Ticks (R32 to R48): what happens at a line index, captured or refused, job switches (R251 to R258), the start of a slot,
HOLD and IDLE (R49 to R51, R57). -/

namespace Sys2Proof.Machine

/-- The sequencer changed. -/
def State.updSeq (s : State) (f : SeqSt → SeqSt) : State := { s with seq := f s.seq }

/-- The capture block changed. -/
def State.updCap (s : State) (f : CapSt → CapSt) : State := { s with cap := f s.cap }

/-! ### Jobs (R251 to R258) -/

/-- Whether a part of a job is resident (R251): bars and tiles as the job names them. -/
def State.partResident (s : State) (slot tiles bars part : Nat) : Bool :=
  match part with
  | 0 => s.cmp.resident.contains slot
  | 1 => s.cmp.hatchPend.isSome && s.cmp.hatchLoad.isNone
  | 2 => (maskList 16 tiles).all (fun t => s.halfReady t && s.cor.loads.all (fun l => !natBit l.tiles t))
  | 3 => (maskList 4 bars).all (fun b => s.native b && (match (s.bar b).upload with
      | some u => u.doneAt.isSome
      | none => false))
  | _ => true

/-- The parts of a mask that are not resident. -/
def State.lateParts (s : State) (slot tiles bars parts : Nat) : Nat :=
  maskOf ((maskList 5 parts).filter (fun p => !s.partResident slot tiles bars p))

/-- One part of a job switches from line k on. -/
def State.switchPart (s : State) (k slot tiles bars : Nat) (part : Nat) : State :=
  match part with
  | 0 =>
    let s := s.imgAdd k [] [.refSwitch slot]
    { s with cmp := { s.cmp with refNow := slot }, cap := { s.cap with jobSlot := slot } }
  | 1 =>
    match s.cmp.hatchPend with
    | some tbl => (s.imgAdd k [] [.hatchSwitch tbl]).updCmp (fun c => { c with hatchPend := none })
    | none => s
  | 2 => (maskList 16 tiles).foldl (fun (s : State) t => s.swapTile t) s
  | 3 => (maskList 4 bars).foldl (fun (s : State) b => if s.native b then s.syncSelect b else s) s
  | _ =>
    let ws := s.cmp.staged
    (s.updCmp (fun c => { c with staged := [] })).committed ws k false

/-- The tiles of a job whose halves are not resident. -/
def State.lateTiles (s : State) (tiles : Nat) : Nat :=
  maskOf ((maskList 16 tiles).filter (fun t => !s.partResident 0 (2 ^ t) 0 2))

/-- The late parts after a switch at line k: those of the new job, and what an earlier job awaits in parts that the new one leaves alone. -/
def State.lateNow (s : State) (a : JobArm) (k late lateT : Nat) : State :=
  let old := s.cap.late.getD ⟨0, false, 0, 0, 0, 0, 0, []⟩
  let keep := maskOf ((maskList 5 old.await).filter (fun p => !natBit a.parts p))
  let l : JobLate := ⟨if natBit keep 0 then old.slot else a.slot, if natBit keep 0 then old.learn else a.learn,
    if natBit keep 0 then old.repeats else a.repeats, if natBit keep 2 then old.tiles else a.tiles, if natBit keep 3 then old.bars else a.bars,
    keep ||| late, if natBit keep 2 then old.lateTiles else lateT, old.arrived.filter (fun x => natBit keep x.1)⟩
  if l.await = 0 then
    if s.cap.late.isSome then (s.imgAdd k [] [.lateEnd]).updCap (fun c => { c with late := none }) else s
  else (s.imgAdd k [] [.late l.await l.lateTiles]).updCap (fun c => { c with late := some l })

/-- The arming instant at line k (R253, R254): every resident part switches, the others are late. A part set in forced is late
    whatever is resident (R556). -/
def State.jobSwitch (s : State) (a : JobArm) (k flags forced : Nat) : State :=
  let moving := if a.learn then clearBit a.parts 0 else a.parts
  let late := s.lateParts a.slot a.tiles a.bars moving ||| forced
  let lateT := if natBit late 2 then (if natBit forced 2 then a.tiles else s.lateTiles a.tiles) else 0
  let now_ := (maskList 5 moving).filter (fun p => !natBit late p)
  let s := { s with cap := { s.cap with arm := none, jobId := a.job } }
  let s := s.imgAdd k [] [.jobStart]
  let s := now_.foldl (fun (s : State) p => s.switchPart k a.slot a.tiles a.bars p) s
  let s := if a.learn && !natBit forced 0 then
      ((s.imgAdd k [] [.learnStart a.slot a.repeats]).updCmp (fun c => { c with refNow := a.slot })).updCap (fun c => { c with jobSlot := a.slot })
    else s
  let s := (s.covJob k a.job s.cap.jobSlot a.learn late).raise .CAP_JOB_SWITCHED
  let s := if late = 0 then s else (s.count .CAP_JOB_LATE_PARTS 0 (maskList 5 late).length).raise .CAP_JOB_PART_LATE late
  let s := s.lateNow a k late lateT
  s.replyAt a.cid (if late = 0 then 0 else 3) flags (Word.ofNat64 k ++ [w32 late]) k

/-- Whether the arming instant has come at the tick of line k (R253, R555); on a member the ARM frame names the line. -/
def State.armHere (s : State) (a : JobArm) (k : Nat) (boundary : Bool) : Bool :=
  if a.held then false
  else if s.member then (match a.target with
    | some t => decide (t ≤ k)
    | none => false)
  else if a.point = .rept then boundary
  else natBit a.flags 21 || (match a.target with
    | some t => decide (t ≤ k)
    | none => decide (s.resolvePos a.arg ≤ s.tickX k))

/-- A waiting JOB_ARM at the tick of line k: it switches, or slips when it has come too late (R55, R256). -/
def State.armTick (s : State) (k : Nat) (boundary : Bool) : State :=
  match s.cap.arm with
  | none => s
  | some a =>
    if !s.armHere a k boundary then s
    else if s.member || s.reached a.arrival then (s.jobSwitch a k a.flags 0).groupsDone k
    else
      let slips := a.point == .rept || !natBit a.flags 21 || natBit a.flags 23
      let s := if slips && !natBit a.flags 23 then s.count .SEQ_SLIPS else s
      let a := { a with
        flags := a.flags ||| (if slips then bitSlipped else 0) ||| (if a.point = .position then bitLate else 0),
        target := if a.point = .rept then none else a.target }
      let s := s.updCap (fun c => { c with arm := some a })
      if a.point = .rept then s else s.sendArm a (k + 1)

/-- Late parts that have become resident are noted with the instant (R254). -/
def State.noteResident (s : State) : State :=
  match s.cap.late with
  | none => s
  | some l =>
    let fresh := (maskList 5 l.await).filter (fun p => l.arrived.all (fun x => x.1 != p) &&
      (if p = 0 ∧ l.learn then s.cmp.ready.contains l.slot else s.partResident l.slot l.tiles l.bars p))
    if fresh.isEmpty then s else s.updCap (fun c => { c with late := some { l with arrived := l.arrived ++ fresh.map (fun p => (p, s.now)) } })

/-- Parts of a late job that have switched at line k: the marking ends with the last of them (R254). -/
def State.lateDone (s : State) (k parts : Nat) : State :=
  match s.cap.late with
  | none => s
  | some l =>
    let await := maskOf ((maskList 5 l.await).filter (fun p => !natBit parts p))
    let s := s.raise .CAP_JOB_PART_ARRIVED parts
    if await = 0 then
      (s.imgAdd k [] [.lateEnd]).updCap (fun c => { c with late := none }) 
    else s.updCap (fun c => { c with late := some { l with await := await, arrived := l.arrived.filter (fun x => natBit await x.1) } })

/-- Late parts at the tick of line k (R254). -/
def State.lateTick (s : State) (k : Nat) (boundary : Bool) : State :=
  match s.cap.late with
  | none => s
  | some l =>
    if s.repeatOn && !boundary then s else
    let due := (l.arrived.filter (fun x => decide (x.2 + us 2 ≤ s.now))).map (fun x => x.1)
    if due.isEmpty then s else
    let s := due.foldl (fun (s : State) p =>
      if p = 0 ∧ l.learn then
        ((s.imgAdd k [] [.learnStart l.slot l.repeats]).updCmp (fun c => { c with refNow := l.slot })).updCap (fun c => { c with jobSlot := l.slot })
      else s.switchPart k l.slot l.tiles l.bars p) s
    s.lateDone k (maskOf due)

/-- Whether an apply, or a job, holds the spare set of a bar (R132). -/
def State.applyPending (s : State) (b : Nat) : Bool :=
  s.seq.pends.any (fun p => p.acts.any (fun a => match a with
    | .patternApply bars => natBit bars b
    | _ => false)) ||
  s.lamp.applies.any (fun x => natBit x.bars b) ||
  (match s.cap.arm with
   | some a => natBit a.parts 3 && natBit a.bars b
   | none => false) ||
  (match s.cap.late with
   | some l => natBit l.await 3 && natBit l.bars b
   | none => false)

/-- P64 bars of a late job begin to send at IDLE (R255). -/
def State.lateIdle (s : State) : State :=
  match s.cap.late with
  | none => s
  | some l =>
    if !natBit l.await 3 then s
    else (maskList 4 l.bars).foldl (fun (s : State) b =>
      if s.p64 b && (s.bar b).upload.isNone then s.startUpload b else s) s

/-! ### Work of IDLE commits that a captured tick cuts (R57) -/

/-- Whether IDLE work that takes time may go on: with no run open, in IDLE, or before the run's first captured tick. -/
def State.idleWork (s : State) : Bool := s.cap.run != .open_ || s.seq.idle || s.cap.captured == 0

/-- One piece of cut work counted. -/
def State.retry (s : State) : State := (s.count .SEQ_IDLE_RETRIES).raise .IDLE_RETRY

/-- A bar's diagnostics, discovery and upload cut by a tick: they begin again at the next IDLE (R57). -/
def State.cutBar (s : State) (b : Nat) : State :=
  let s := match (s.bar b).diag with
    | some d => if d.running then s.retry.updBar b (fun x => { x with diag := some { d with running := false, flags := d.flags, detail := d.detail ||| bitRetried } }) else s
    | none => s
  let s := match (s.bar b).disc with
    | some d => if d.cid.isSome && !natBit d.flags 20 then s.retry.updBar b (fun x => { x with disc := some { d with flags := d.flags ||| bitRetried } }) else s
    | none => s
  if s.p64 b && (s.bar b).upload.isSome then
    let s := s.retry.updBar b (fun x => { x with upload := none })
    { s with lamp := { s.lamp with applies := s.lamp.applies.map (fun x => if natBit x.bars b then { x with flags := x.flags ||| bitRetried } else x) } }
  else s

/-- What a captured tick does to IDLE work: it stops, its completion will carry IDLE_RETRIED, and the next IDLE begins it anew. -/
def State.cutIdle (s : State) : State :=
  let s := match s.ask.cal with
    | some c => if c.running then (s.retry).updAsk (fun a => { a with cal := some { c with running := false, flags := c.flags ||| bitRetried } }) else s
    | none => s
  let s := match s.hlt.trimRun with
    | some r => if r.sen && r.running then s.retry.updHlt (fun h => { h with trimRun := some { r with running := false, flags := r.flags ||| bitRetried } }) else s
    | none => s
  let s := s.sen.restore.foldl (fun (s : State) _ => s.retry) s
  let s := { s with sen := { s.sen with restore := s.sen.restore.map (fun r => { r with flags := r.flags ||| bitRetried }) } }
  (List.range 4).foldl (fun (s : State) b => s.cutBar b) s

/-- At IDLE, cut work begins again. -/
def State.resumeIdle (s : State) : State :=
  let s := match s.ask.cal with
    | some c => if c.running then s else s.calBegin
    | none => s
  let s := s.updHlt (fun h => { h with trimRun := h.trimRun.map (fun r => if r.sen then { r with running := true } else r) })
  let s := (List.range 4).foldl (fun (s : State) b =>
    let s := s.updBar b (fun x => { x with diag := x.diag.map (fun d => { d with running := true }) })
    if s.p64 b && (s.bar b).upload.isNone && s.lamp.applies.any (fun x => natBit x.bars b) then s.startUpload b else s) s
  s.lateIdle

/-! ### Slots (R36 to R42, R48) -/

/-- Clipped pulses of a slot counted (R114). -/
def State.clipLine (s : State) : State :=
  let n := ((List.range 4).flatMap (fun b => (List.range (s.p .SEQ_NUM_PHASES)).filter (fun p => s.clipped b p))).length
  if n = 0 then s else
  let s := s.count .LMP_PULSES_CLIPPED 0 n
  if s.lamp.clipRaised then s
  else
    let s := s.raise .LAMP_PULSE_CLIPPED
    { s with lamp := { s.lamp with clipRaised := true } }

/-- A slot starts (R36, R40, R41): its layout is fixed, its waveforms run, TICK_OUT is high for 40 ns (R35). -/
def State.startSlot (s : State) (h : HeldTick) (start : Nat) (packOnly : Bool) : State :=
  let lay := layoutNs s.par s.seq.tRef packOnly
  let plans : List PhasePlan := lay.2.zipIdx.map (fun (x : PhaseNs × Nat) =>
    ⟨start + ns x.1.guardAt, start + ns x.1.transfer - ns (s.p .SEQ_EXP x.2), start + ns x.1.transfer, start + ns x.1.stop⟩)
  let s := { s with lamp := { s.lamp with strobes := [] } }
  let s := s.clipLine
  let s := s.runWaves (plans.zipIdx.map (fun (x : PhasePlan × Nat) => (x.2, x.1.transferAt))) (start + ns 24)
  s.updSeq (fun q => { q with
    slot := some ⟨h.line, h.tickAt, h.x, start, lay.1, plans, 0, 0, s.par⟩, tickOutUntil := start + ns 64, afterHold := false })

/-- Whether a slot's readouts have all ended. -/
def Slot.ended (x : Slot) : Bool := decide (x.plans.length ≤ x.readsDone)

/-- Whether no slot is running. -/
def State.slotFree (s : State) : Bool :=
  match s.seq.slot with
  | some x => x.ended
  | none => true

/-- Parameters of the sensor side that a slot takes at its start. -/
def slotTakes : List Par :=
  slotPars ++ [.SEQ_SPREAD, .SEQ_POS_SRC, .LMP_PULSE, .LMP_DELAY, .LMP_SYNC_MODE, .SEN_SCLK_HIGH, .SEN_SCLK_FREE, .SEN_VID_LAT,
    .SEN_CDS_MODE, .SEN_CDS_RST, .SEN_CDS_SIG, .SEN_COL_BASE, .SEN_LEAD, .SEN_BLACK_N, .SEN_GAP, .SEN_ACTIVE, .SEN_REV, .SEN_CLAMP_MODE,
    .SEN_CLAMP_SHIFT, .SEN_PEDESTAL, .SEN_BLACK_NOM, .SEN_BLACK_TOL, .SEN_GAIN, .COR_MODE]

/-- Present parameters with those a slot took at its start. -/
def slotStore (now_ then_ : Sparse Nat) : Sparse Nat :=
  let owned := fun (e : Nat × Nat) => slotTakes.any (fun p => p.ctorIdx == e.1 % 512)
  (then_.filter owned).foldl (fun m e => Sparse.put m e.1 e.2) (now_.filter (fun e => !owned e))

/-- Work within the running slot is done with the parameters the slot started with (R47). -/
def State.inSlot (s : State) (x : Slot) (f : State → State) : State :=
  let keep := s.par
  let s := f { s with par := slotStore keep x.par }
  { s with par := keep }

/-! ### Ticks -/

/-- Whether a tick raised now is captured (R44 to R46, R527, R531, R550, R558). -/
def State.mayCapture (s : State) : Bool :=
  s.cap.run == .open_ && s.pwr.st != .safe && s.clockOk 3 && !(s.member && (s.ask.lost || !s.ask.calibrated)) &&
  (match s.seq.lastCap with
   | some t => decide (t + ns s.seq.slotMin ≤ s.now)
   | none => true)

/-- A refused index (R46, R531). -/
def State.refuse (s : State) (k : Nat) : State :=
  let s := (s.count .SEQ_NOT_CAPTURED).raise .NOT_CAPTURED
  s.covLine .capture k s.devCols 2 (if s.pwr.st = .safe then .PWR_SAFE_ENTER else .NOT_CAPTURED)
    (if s.pwr.st = .safe then s.pwr.safeCause else 0) 0

/-- Columns of a captured line that Mirror leaves out, with the event ID and detail of the cause. -/
def State.leaveOut (s : State) (k : Nat) (cols : Nat × Nat) (cause detail : Nat) : State :=
  (s.covReport ⟨.capture, k, 1, cols.1, cols.2, 1, 0xFFFF, cause, detail, 0⟩).skipCols k cols

/-- Columns of RAW tiles (R191), which no event stands for, and lines whose job has not come (R556). -/
def State.rawLine (s : State) (k : Nat) : State :=
  let s := (List.range 16).foldl (fun (s : State) t =>
    if s.p .COR_MODE t = 1 ∧ s.tileOn t then s.leaveOut k (s.tileCols t) 0 0 else s) s
  match s.ask.unmatched with
  | some u => if u.1 ≤ k then (s.leaveOut k s.devCols Ev.ASK_ARM_UNMATCHED.id (u.2 % 65536)).count .CAP_JOB_NCMP_LINES else s
  | none => s

/-- The capture of line k at x (R45, R48, R51): its record, its slot, and what counts captured lines. -/
def State.capture (s : State) (k : Nat) (x : Int) : State :=
  let s := s.count .SEQ_TICKS_CAPTURED
  let first := s.cap.captured == 0
  let tRef := match s.seq.lastCap with
    | some t => if first then none else some ((s.now - t) / 768)
    | none => none
  let held := s.seq.hold
  let s := s.cutIdle
  let s := s.updSeq (fun q => { q with tRef := tRef, lastCap := some s.now, idle := false, hold := false, afterHold := q.afterHold || held })
  let s := if held then (s.unseedAll).raise .HOLD_EXIT else s
  let rec_ : LineRec := ⟨k, x, s.glint, s.p .SEQ_NUM_PHASES, 0, s.cap.jobId, []⟩
  let s := s.updCap (fun c => { c with captured := c.captured + 1, capLine := some k, lineRecs := c.lineRecs ++ [rec_] })
  let s := s.updPwr (fun p => { p with st := match p.st with
    | .armed | .hold => .running
    | st => st })
  let s := ((((s.proofLine).countTemps).auxTick).episodeLine k).shutLine k
  let s := (List.range 4).foldl (fun (s : State) b => if (s.bar b).shut && s.p .LMP_MODE b != 0 then s.skipCols k s.devCols else s) s
  let s := s.rawLine k
  let h : HeldTick := ⟨k, s.now, x⟩
  match s.seq.flushUntil with
  | some u =>
    if s.now < u then (s.count .SEQ_TICKS_DEFERRED).updSeq (fun q => { q with deferred := some h })
    else s.startSlot h s.now s.seq.afterHold
  | none =>
    if s.slotFree then s.startSlot h s.now s.seq.afterHold
    else (s.count .SEQ_LATE_STARTS).updSeq (fun q => { q with nextSlot := some h })

/-- What R277 looks at: the repeat mode, and in MARK mode the mark offset of the reference. -/
def State.structureKey (s : State) : Nat × Nat :=
  (s.p .CMP_REPEAT_MODE, if s.p .CMP_REPEAT_MODE = 1 then s.refMarkOff s.cmp.refNow else 0)

/-- Everything at one line index: commits, the repeat boundary, the job, the lamps, then capture or refusal. Targets passed over are
    refused (R78). A run that closes at the tick captures nothing there, and its line indices end below it (R268, R261). -/
def State.tickAt (s : State) (k : Nat) (last : Bool) : State :=
  if s.cap.run ≠ .open_ then s else
  let captured := last && s.mayCapture
  let x := s.tickX k
  let s := s.updSeq (fun q => { q with lineIndex := k + 1, lastTick := some s.now, lastX := some x })
  let s := s.updCap (fun c => { c with high := k })
  let s := if captured || !s.seq.hold then s.spareTakeover else s
  let r := s.boundaryDue k captured
  let boundary := r.1.isSome
  let s := r.2
  let key := s.structureKey
  let s := s.commitTick k boundary
  if s.cap.run ≠ .open_ then ((s.lampTick k false).applyFactors).updSeq (fun q => { q with lineIndex := k }) else
  let s := (s.armTick k boundary).lateTick k boundary
  let here : Option NextBound := match s.cmp.track.next with
    | some n => if n.pos.isNone && n.line == k && n.since == 0 && s.p .CMP_REPEAT_MODE == 2 then some n else r.1
    | none => r.1
  let s := match here with
    | some n => if s.repeatOn || s.member then s.openBoundary k n (boundary && s.structureKey == key || !boundary) else s
    | none => s
  let s := (s.lampTick k (here.isSome || !s.repeatOn)).applyFactors
  (if captured then s.capture k x else s.refuse k).armKnown

/-- A tick raised for index k (R78, R246): the indices passed over before it are refused. -/
def State.raiseTick (s : State) (k : Nat) : State :=
  let from_ := (s.cap.high + 1).toNat
  let s := (List.range (k - from_)).foldl (fun (s : State) i => s.tickAt (from_ + i) false) s
  let s := s.tickAt k true
  if s.isMaster then
    let p : AskPay := ⟨1, 0, s.devId, 0, true, leBytes 8 k ++ leBytes 8 s.glint⟩
    s.updAsk (fun a => { a with own := p :: p :: a.own })
  else s

/-! ### HOLD and IDLE (R49, R50, R57) -/

/-- The hold limit (R49). -/
def State.holdLimit (s : State) : Nat := max (us (s.p .SEQ_HOLD_LIMIT)) (2 * ns s.seq.slotMin)

/-- Since when no tick has been captured in the open run (R49, R57). -/
def State.quietFrom (s : State) : Nat :=
  if s.cap.captured = 0 then s.seq.quietSince else s.seq.lastCap.getD s.seq.quietSince

/-- HOLD is entered. -/
def State.enterHold (s : State) : State :=
  if s.cap.run ≠ .open_ || s.seq.hold || s.now < s.quietFrom + s.holdLimit then s
  else
    let s := (s.updSeq (fun q => { q with hold := true })).raise .HOLD_ENTER
    s.updPwr (fun p => { p with st := if p.st = .running then .hold else p.st })

/-- The end of the last readout or flush read. -/
def State.lastReadout (s : State) : Nat :=
  max (s.seq.flushUntil.getD s.seq.quietSince) (match s.seq.slot with
    | some x => x.plans.foldl (fun (m : Nat) p => max m p.endAt) x.start
    | none => 0)

/-- A flush read (R50). -/
def State.flushRead (s : State) (tests : List LaneTest) : State :=
  if !s.seq.hold || !s.clockOk 3 || s.now < s.lastReadout + s.holdLimit then s
  else
    let stop := s.now + ns (s.p .SEQ_GUARD 0 + readoutNs s.par 0)
    let s := (s.count .SEQ_FLUSH_READS).runWaves [(0, s.now + ns (s.p .SEQ_GUARD 0))] s.now
    let s := s.laneTests 0 s.seq.lineIndex true tests
    s.updSeq (fun q => { q with flushUntil := some stop })

/-- A held tick is served at the end of the flush read (R51, R23). -/
def State.serveDeferred (s : State) : State :=
  match s.seq.deferred, s.seq.flushUntil with
  | some h, some u =>
    if s.now < u then s else (s.updSeq (fun q => { q with deferred := none, flushUntil := none })).startSlot h u true
  | _, _ => s

/-- IDLE is entered: pending IDLE commits start, cut work begins again (R57). -/
def State.enterIdle (s : State) : State :=
  if s.cap.run ≠ .open_ || s.seq.idle || s.now < s.quietFrom + ms (s.p .SEQ_IDLE_DWELL) then s
  else
    let s := (s.updSeq (fun q => { q with idle := true })).raise .IDLE_ENTER
    (s.commitIdle).resumeIdle

end Sys2Proof.Machine
end

