-- ==== Sys2Proof/Machine/Relate.lean ====
section
/-! DEFINITION. What commands of one shape share: the relations between parameters that a write must keep, and the definitions of
set commands, status commands and counter clears. -/

namespace Sys2Proof.Machine

/-! ### Relations between parameters -/

/-- A relation that a parameter table states between parameters of one instance: the parameters, and whether a store keeps it. -/
structure Relation where
  pars : List Par
  holds : Sparse Nat → Nat → Bool

/-- The relations of the parameter tables (R67, R80, R106, R151, R162, R184, R227, R369, R401, R427). -/
def relations : List Relation :=
  ([⟨[.SEN_SCLK_HIGH, .SEN_PCLK_DIV], fun m i => decide (parGet m .SEN_SCLK_HIGH i < parGet m .SEN_PCLK_DIV i)⟩,
   ⟨[.SEN_CDS_RST, .SEN_CDS_SIG], fun m i => decide (parGet m .SEN_CDS_RST i + 2 ≤ parGet m .SEN_CDS_SIG i)⟩,
   ⟨[.SEN_CLAMP_MODE, .SEN_BLACK_N], fun m i => parGet m .SEN_CLAMP_MODE i != 1 || decide (1 ≤ parGet m .SEN_BLACK_N i)⟩,
   ⟨[.POS_AMP_LO, .POS_AMP_HI], fun m _ => decide (parGet m .POS_AMP_LO 0 + 100 ≤ parGet m .POS_AMP_HI 0)⟩,
   ⟨[.POS_MODE], fun m i => i != 0 || parGet m .POS_MODE i == 0⟩,
   ⟨[.POS_REF_MODE, .POS_REF_PERIOD], fun m i => parGet m .POS_REF_MODE i != 2 || decide (8192 ≤ parGet m .POS_REF_PERIOD i)⟩] : List Relation) ++
  ([⟨[.LMP_DERATE_T0, .LMP_DERATE_T1], fun m i => decide (parGet m .LMP_DERATE_T0 i < parGet m .LMP_DERATE_T1 i)⟩,
   ⟨[.LMP_DERATE_T1, .LMP_DERATE_TSHUT], fun m i => decide (parGet m .LMP_DERATE_T1 i < parGet m .LMP_DERATE_TSHUT i)⟩,
   ⟨[.LMP_P64_MAP], fun m i =>
     let a := parGet m .LMP_P64_MAP i % 8
     let b := parGet m .LMP_P64_MAP i / 8
     a != b || decide (6 ≤ a)⟩,
   ⟨[.COR_LEVEL], fun m _ =>
     let ls := ((List.range 4).map (fun j => parGet m .COR_LEVEL j)).filter (fun v => v != 0)
     decide (ls.eraseDups.length = ls.length)⟩] : List Relation) ++
  ([⟨[.HQ_STR_COL0, .HQ_STR_COL1], fun m i => decide (parGet m .HQ_STR_COL0 i ≤ parGet m .HQ_STR_COL1 i)⟩,
   ⟨[.MOT_VSTART, .MOT_VMAX], fun m i => decide (parGet m .MOT_VSTART i ≤ parGet m .MOT_VMAX i)⟩,
   ⟨[.MOT_VMAX], fun m i => decide (parGet m .MOT_VMAX i ≤ 2000000 * 2 ^ (8 - parGet m .MOT_USTEP i))⟩,
   ⟨[.MOT_DECEL, .MOT_LIM_DECEL], fun m i => decide (parGet m .MOT_DECEL i ≤ parGet m .MOT_LIM_DECEL i)⟩,
   ⟨[.MOT_PACE_LOW, .MOT_PACE_HIGH], fun m _ => decide (parGet m .MOT_PACE_LOW 0 < parGet m .MOT_PACE_HIGH 0)⟩,
   ⟨[.AUX_EXC_IMIN, .AUX_EXC_IMAX], fun m i => decide (parGet m .AUX_EXC_IMIN i < parGet m .AUX_EXC_IMAX i)⟩,
   ⟨[.AUX_LOOP_VLO, .AUX_LOOP_VHI], fun m i => parGet m .AUX_LOOP_VLO i != parGet m .AUX_LOOP_VHI i⟩,
   ⟨[.AUX_FAULT], fun m i => parGet m .AUX_CONFIG 0 == 0 || parGet m .AUX_FAULT i != 1⟩] : List Relation)

/-- BAD_PARAM for writes that break a relation, judged with the shadows that wait: the word of the write at fault. -/
def State.relFails (s : State) (ws : List (Nat × ParWrite)) : List (Nat × Nat) :=
  let m := parSets s.shadow (ws.map (·.2))
  (ws.filter (fun w => relations.any (fun r => r.pars.contains w.2.par && !r.holds m w.2.inst))).map (fun w => (0x11, w.1))

/-! ### Shapes of commands -/

/-- The highest word written. -/
def topWord (written : Nat → Bool) : Nat → Nat
  | 0 => 0
  | n + 1 => if written (n + 1) then n + 1 else topWord written n

/-- Parameters whose IDLE commit a running capture refuses (R214). -/
def calPar (p : Par) : Bool :=
  (decide (Par.SEQ_TICK_SRC.ctorIdx ≤ p.ctorIdx) && decide (p.ctorIdx ≤ Par.SEQ_GROUP_TIMEOUT.ctorIdx)) ||
  (decide (Par.LMP_MODE.ctorIdx ≤ p.ctorIdx) && decide (p.ctorIdx ≤ Par.COR_WU_STABLE_TIME.ctorIdx))

/-- BUSY for an IDLE commit of such parameters while a capture runs (R214). -/
def State.calFails (s : State) (ctx : Ctx) : List (Nat × Nat) :=
  if s.calRuns && ctx.point == .idle && ctx.writes.any (fun w => calPar w.par && !w.atOnce) then [(0x14, 0)] else []

/-- BAD_STATE for a change of the grid or of its source while a run is open (R233). -/
def State.gridFails (s : State) (ctx : Ctx) : List (Nat × Nat) :=
  if s.cap.run == RunSt.open_ && ctx.writes.any (fun w =>
      [Par.CAP_GRID_PITCH, .CAP_ORIGIN_MODE, .CAP_ORIGIN, .SEQ_TICK_SRC, .SEQ_POS_SRC].contains w.par && w.val != s.p w.par w.inst)
  then [(0x13, 0)] else []

/-- A set command: its fields, the words its mask names, checks of its own, acts besides the writes. hi is its last word. -/
def setDef (op hi : Nat) (levels : List Nat) (points : Points) (written : Cmd → Nat → Bool) (fields : Cmd → List SetField)
    (fails : State → Cmd → Ctx → List (Nat × Nat)) (acts : State → Cmd → Ctx → List Act) : CmdDef where
  op := op
  levels := levels
  points := points
  need := fun c => topWord (written c) hi + 1
  writes := fun _ c => setWrites c (fields c) (written c)
  fails := fun s c ctx => s.relFails (setWrites c (fields c) (written c)) ++ s.calFails ctx ++ s.gridFails ctx ++ fails s c ctx
  run := fun s cid c ctx => s.submit cid ctx (acts s c ctx)

/-- No check of its own. -/
def noFails : State → Cmd → Ctx → List (Nat × Nat) := fun _ _ _ => []

/-- No act besides the writes. -/
def noActs : State → Cmd → Ctx → List Act := fun _ _ _ => []

/-- Mask bit n names word n. -/
def maskAt (c : Cmd) (n : Nat) : Bool := c.b 0 n

/-- Mask bit 7 + n names word n. -/
def maskFrom7 (c : Cmd) (n : Nat) : Bool := c.b 0 (7 + n)

/-- A command that only reads: its result words. -/
def statusDef (op : Nat) (levels : List Nat) (need : Nat) (fails : State → Cmd → Ctx → List (Nat × Nat))
    (words : State → Cmd → List Word) : CmdDef where
  op := op
  levels := levels
  need := fun _ => need
  fails := fails
  run := fun s cid c _ => s.done cid (words s c)

/-- A counter clear: word 0 masks the counters of a group. -/
def clearDef (op group : Nat) : CmdDef where
  op := op
  points := .immediate
  need := fun _ => 1
  run := fun s cid c _ => (s.clearCounters group (c.w 0)).done cid

/-- A command that commits an act at its point, with no parameter writes. -/
def actDef (op need : Nat) (levels : List Nat) (points : Points) (fails : State → Cmd → Ctx → List (Nat × Nat))
    (acts : State → Cmd → Ctx → List Act) : CmdDef where
  op := op
  levels := levels
  points := points
  need := fun _ => need
  fails := fails
  run := fun s cid c ctx => s.submit cid ctx (acts s c ctx)

/-- A failure listed where a condition holds. -/
def failIf (b : Bool) (status : Nat) (detail : Nat := 0) : List (Nat × Nat) := if b then [(status, detail)] else []

/-- The counter values of a group in table order. -/
def State.counterWords (s : State) (g : Nat) : List Word := (groupIndex g).map (fun x => w32 (s.cntOf x.1 x.2))

/-- A state after an event of the environment: next at its instant. -/
def nextAt (t : Nat) (s : State) (f : State → State) : Host.Outcome State Fault Refusal := .next (f (s.advance t))

end Sys2Proof.Machine
end

