-- ==== Sys2Proof/Machine/Flags.lean ====
section
/-! DEFINITION. What the host reads without a command: the LOAD word, the fast status block, and every register of BAR0 (R439 to R442,
R344). -/

namespace Sys2Proof.Machine

/-- Submission slots written by the host and not fetched, all four rings, saturating (R442). -/
def State.slotsWaiting (s : State) : Nat := min 65535 ((List.range 4).foldl (fun (n : Nat) r => n + s.waiting r) 0)

/-- The LOAD word (R442) with the two busy figures, which the model does not measure. -/
def State.loadWord (s : State) (command service : Nat) : Nat :=
  command % 256 + 2 ^ 8 * (service % 256) + 2 ^ 16 * s.host.outst.length + 2 ^ 32 * s.slotsWaiting + 2 ^ 48 * s.host.store.length

/-- The LOAD word with its busy figures free (log entry 3). -/
def State.takeLoad (s : State) : Nat × State :=
  let a := s.takeFree
  let b := a.2.takeFree
  (b.2.loadWord (a.1 % 101) (b.1 % 101), b.2)

/-- The words of the identification registers (R440). -/
def State.identWords (s : State) : List Nat :=
  [0x38323145, 0xB0 + bitAt Config.standardPackage 8 + 65536 * natField s.pwr.straps 3 1, s.fwVersion s.sec.bootSlot,
   s.pwr.channels + 65536 * (s.pwr.channels * s.pwr.gib % 512)]

/-- RUN state as a number (R269). -/
def RunSt.code : RunSt → Nat
  | .closed => 0
  | .open_ => 1
  | .closing => 2

/-- Device state as a number (R570). -/
def DevState.code : DevState → Nat
  | .off => 0
  | .keepAlive => 1
  | .boot => 2
  | .ready => 3
  | .armed => 4
  | .running => 5
  | .hold => 6
  | .safe => 7

/-- Ring state as a number (R441). -/
def RingSt.code : RingSt → Nat
  | .disabled => 0
  | .running => 1
  | .error => 2

/-- Queue state as a number (R369). -/
def QSt.code : QSt → Nat
  | .disabled => 0
  | .enabled => 1
  | .flushing => 2
  | .faulted => 3

/-- SEQ_STATE (R64): 0 READY, 1 TICKING, 2 HOLD, 3 IDLE. -/
def State.seqState (s : State) : Nat :=
  if s.cap.run = .closed then 0 else if s.seq.idle then 3 else if s.seq.hold then 2 else 1

/-- The heartbeat (R442). -/
def State.beat (s : State) : Nat := s.host.heartbeat + (if s.coresUp then (s.now - s.host.beatAt) / ms 1 else 0)

/-- The fast status block (R442), with the busy figures of LOAD given. -/
def State.fastStatus (s : State) (command service : Nat) : List Byte :=
  leBytes 4 (s.pwr.st.code + 16 * s.cap.run.code + 256 * s.cmpState + 65536 * s.host.link.field) ++
  leBytes 4 (s.beat % 2 ^ 32) ++ leBytes 8 s.seq.lineIndex ++ leBytes 8 s.glint ++ leBytes 8 (s.loadWord command service) ++
  leBytes 4 (s.cntOf .SYS_WDT_RESETS) ++ leBytes 4 (ofSigned 16 s.hlt.tempMax + 65536 * s.hlt.faults.length) ++
  leBytes 4 (min 0xFFFFFFFF (ceilDiv s.host.spillUsed 65536)) ++ List.replicate 20 0

/-- The 64 bytes of a ring's register block (R441). -/
def Ring.block (r : Ring) : List Byte :=
  leBytes 8 r.base ++ leBytes 4 (r.size + bitAt (r.st != .disabled) 8 + 65536 * r.st.code) ++ leBytes 4 r.err ++ leBytes 4 r.host ++
  leBytes 4 (r.dev + bitAt r.phase 16) ++ List.replicate 40 0

/-- An entry of the MSI-X table. -/
def MsixVec.block (v : MsixVec) : List Byte := leBytes 8 v.addr ++ leBytes 4 v.data ++ leBytes 4 v.ctrl

/-- The 16 bytes of a queue's registers (R344). -/
def Queue.block (q : Queue) : List Byte :=
  leBytes 4 q.cons ++ List.replicate 4 0 ++ leBytes 4 (q.pub + 65536 * q.st.code) ++ leBytes 4 q.credit

/-- Eight bits of a map over queues. -/
def State.queueBits (s : State) (f : Queue → Bool) (q : Nat) : Byte :=
  BitVec.ofNat 8 (maskOf ((List.range 8).filter (fun i => f (s.queue (q + i)))))

/-- A read of BAR0 other than a wait window (R438, R439, R344). -/
def State.bar0 (s : State) (off n : Nat) : List Byte :=
  if (n ≠ 4 ∧ n ≠ 8) ∨ off % n ≠ 0 then List.replicate n 0
  else if off < 0x10 then ((s.identWords.flatMap (fun w => leBytes 4 w)).drop off).take n
  else if 0x1000 ≤ off ∧ off < 0x1180 then (((s.ring ((off - 0x1000) / 64)).block).drop (off % 64)).take n
  else if 0x2000 ≤ off ∧ off < 0x2400 then (((s.host.vecs.getD ((off - 0x2000) / 16) MsixVec.reset).block).drop (off % 16)).take n
  else if 0x3000 ≤ off ∧ off < 0x3008 then
    ((leBytes 8 (maskOf ((List.range 64).filter (fun v => (s.host.vecs.getD v MsixVec.reset).pendingBit)))).drop (off - 0x3000)).take n
  else if 0x4000 ≤ off ∧ off < 0x4040 then ((s.fastStatus (Config.free s.freeCount) (Config.free (s.freeCount + 1))).drop (off - 0x4000)).take n
  else if 0x400000 ≤ off ∧ off < 0x500000 then (((s.queue ((off - 0x400000) / 16)).block).drop (off % 16)).take n
  else if 0x540000 ≤ off ∧ off < 0x542000 then
    (List.range n).map (fun i => s.queueBits (fun q => q.staleBit) (8 * (off - 0x540000 + i)))
  else if 0x542000 ≤ off ∧ off < 0x544000 then
    (List.range n).map (fun i => s.queueBits (fun q => q.faultBit) (8 * (off - 0x542000 + i)))
  else List.replicate n 0

end Sys2Proof.Machine
end

