-- ==== Sys2Proof/Machine/HostOps.lean ====
section
/-! DEFINITION. The host attachment's own operations: doorbells and ring control (R444 to R446), register writes (R439, R344), the BAR2
window (R368), wait windows (R345), the completion store (R457), waiting events (R462), the link (R466 to R468), management resets (R30,
R465) and the Function Level Reset (R470). -/

namespace Sys2Proof.Machine

/-- The attachment changed. -/
def State.updHost (s : State) (f : HostSt → HostSt) : State := { s with host := f s.host }

/-- Whether the host reaches the function's BARs. -/
def State.barOk (s : State) : Bool :=
  s.host.link.adapterUp && s.host.link.d0 && (match s.pwr.st with
    | .off | .keepAlive | .boot => false
    | .safe => s.pwr.safeCause != 4 && s.pwr.safeCause != 5
    | _ => true)

/-! ### Rings (R444 to R446) -/

/-- A host index that a ring accepts (R445). -/
def Ring.accepts (r : Ring) (submission : Bool) (value : Nat) : Bool :=
  if submission then decide ((value + 65536 - r.dev) % 65536 ≤ 2 ^ r.size)
  else decide ((value + 65536 - r.host) % 65536 ≤ (r.dev + 65536 - r.host) % 65536)

/-- A write of a ring's host index (R445). -/
def State.hostIndex (s : State) (r v : Nat) : State :=
  let x := s.ring r
  if x.st = .disabled then s
  else if x.accepts (decide (r < 4)) v then s.updRing r (fun y => { y with host := v })
  else (s.count .SYS_DOORBELL_BAD).raise .SYS_DOORBELL_BAD r

/-- ENABLE = 1 with a size written to a ring (R444); only a DISABLED ring takes it, and only a size from 4 to 14. -/
def State.ringEnable (s : State) (r n : Nat) : State :=
  if (s.ring r).st ≠ .disabled ∨ n < 4 ∨ 14 < n then s
  else s.updRing r (fun x => { x with size := n, st := .running, err := 0, host := 0, dev := 0, phase := true })

/-- ENABLE = 0 written to a ring (R446). -/
def State.ringDisable (s : State) (r : Nat) : State := s.updRing r (fun x => { x with st := .disabled })

/-! ### Register writes (R439, R441, R344, R463) -/

/-- Low or high word of a 64-bit register replaced. -/
def putWord (old : Nat) (high : Bool) (v : Nat) : Nat :=
  if high then old % 2 ^ 32 + 2 ^ 32 * v else old / 2 ^ 32 * 2 ^ 32 + v

/-- A word written to an MSI-X table entry; a vector that is unmasked sends the message that waits. -/
def State.vecWrite (s : State) (v word x : Nat) : State :=
  let old := s.host.vecs.getD v MsixVec.reset
  let s := s.updHost (fun h => { h with vecs := upd h.vecs v (fun e =>
    match word with
    | 0 => { e with addr := putWord e.addr false x }
    | 1 => { e with addr := putWord e.addr true x }
    | 2 => { e with data := x }
    | _ => { e with ctrl := x }) })
  if word = 3 ∧ old.pendingBit ∧ x % 2 = 0 ∧ s.host.link.msixEnable ∧ s.linkUp then
    (s.updHost (fun h => { h with vecs := upd h.vecs v (fun e => { e with pendingBit := false }) })).sendMsix v
  else s

/-- Bits of the stale or fault map cleared by writing ones (R344). -/
def State.mapClear (s : State) (fault : Bool) (first v : Nat) : State :=
  (maskList 32 v).foldl (fun (s : State) i =>
    s.updQueue (first + i) (fun q => if fault then { q with faultBit := false } else { q with staleBit := false })) s

/-- A word written to BAR0. -/
def State.reg4 (s : State) (off v : Nat) : State :=
  if 0x1000 ≤ off ∧ off < 0x1180 then
    let r := (off - 0x1000) / 64
    let o := off % 64
    let x := s.ring r
    if o = 0 ∨ o = 4 then
      if x.st = .disabled then s.updRing r (fun y => { y with base := putWord y.base (decide (o = 4)) v / 4096 * 4096 }) else s
    else if o = 8 then
      if v.testBit 8 then s.ringEnable r (v % 16)
      else
        let s := s.ringDisable r
        if x.st = .disabled then s.updRing r (fun y => { y with size := v % 16 }) else s
    else if o = 16 then s.hostIndex r (v % 65536)
    else s
  else if 0x2000 ≤ off ∧ off < 0x2400 then s.vecWrite ((off - 0x2000) / 16) (off % 16 / 4) v
  else if 0x400000 ≤ off ∧ off < 0x500000 then
    let q := (off - 0x400000) / 16
    if off % 16 = 0 then s.consWrite q (v % 65536)
    else if off % 16 = 4 then s.grantWrite q (v % 65536)
    else s
  else if 0x540000 ≤ off ∧ off < 0x542000 then s.mapClear false (8 * (off - 0x540000)) v
  else if 0x542000 ≤ off ∧ off < 0x544000 then s.mapClear true (8 * (off - 0x542000)) v
  else s

/-- An access of a wrong size or alignment (R438); it reads as zeros. -/
def State.barBad (s : State) (write : Bool) : State :=
  let s := s.count .SYS_BAR_BAD
  if write then s else s.updHost (fun h => { h with lastRead := ⟨0, [0], false⟩ })

/-- A write to BAR0 (R438, R439); an 8-byte write is its low word first. -/
def State.regWrite (s : State) (off size v : Nat) : State :=
  if (size ≠ 4 ∧ size ≠ 8) ∨ off % size ≠ 0 then s.barBad true
  else
    let s := s.reg4 off (v % 2 ^ 32)
    if size = 8 then s.reg4 (off + 4) (v / 2 ^ 32 % 2 ^ 32) else s

/-! ### The BAR2 window (R368, R284) -/

/-- Installed memory in bytes. -/
def State.installed (s : State) : Nat := s.pwr.channels * s.pwr.gib * 2 ^ 30

/-- The DRAM offset of a BAR2 offset. -/
def State.bar2Addr (s : State) (off : Nat) : Nat := s.p .HIS_BAR2_BASE * 2 ^ 30 + off

/-- A read through BAR2; poisoned where the memory answers with an uncorrectable error (R522, R527). -/
def State.bar2Read (s : State) (off n : Nat) : State :=
  let a := s.bar2Addr off
  let k := min n (s.installed - a)
  let bad := decide (0 < k) && (!s.clockOk 4 || s.cmp.refUe.any (fun u => decide (a < u + 64) && decide (u < a + k)))
  s.updHost (fun h => { h with lastRead := ⟨off, Sparse.bytes s.dram a k ++ List.replicate (n - k) 0, bad⟩ })

/-- The reference slots that bytes of DRAM lie in. -/
def State.slotsAt (s : State) (a n : Nat) : List Nat :=
  (List.range (s.p .HIS_REF_SLOTS)).filter (fun i =>
    let sz := s.p .HIS_REF_SLOT_SIZE * arenaUnit
    let b := s.arenaByte 0 + i * sz
    decide (b < a + n) && decide (a < b + sz))

/-- Whether a slot is in use, or named by a pending JOB_ARM (R284). A slot is in use while a run is open and the slot is the reference,
    resident or being learned. -/
def State.slotHeld (s : State) (slot : Nat) : Bool :=
  (s.cap.run != RunSt.closed && (s.cmp.refNow == slot || s.cmp.refSlot == slot) &&
    (s.cmp.resident.contains slot || s.cmp.ready.contains slot)) ||
  (match s.cap.arm with
   | some a => natBit a.parts 0 && a.slot == slot
   | none => false)

/-- A write through BAR2: only into the reference and the shading library, and into no slot that is held. -/
def State.bar2Write (s : State) (off : Nat) (data : List Byte) : State :=
  let a := s.bar2Addr off
  let n := data.length
  if n = 0 ∨ s.installed < a + n then s
  else if s.arenaByte 2 < a + n then (s.count .HIS_BAR2_BLOCKED).raise .HIS_BAR2_BLOCKED
  else
    let slots := s.slotsAt a n
    if slots.any (fun i => s.slotHeld i) then s.count .CMP_REF_WRITES_BLOCKED
    else
      let s := s.updCmp (fun c => { c with
        resident := c.resident.filter (fun i => !slots.contains i), ready := c.ready.filter (fun i => !slots.contains i),
        refUe := c.refUe.filter (fun x => !(decide (a ≤ x) && decide (x < a + n))) })
      s.dramWrite a data

/-! ### Wait windows (R345, R346) -/

/-- A read of a wait window. -/
def State.waitRead (s : State) (q : Nat) : State :=
  let s := s.checkQueue q
  if !(s.queue q).isEmpty then s.waitAnswer q false
  else if 256 ≤ s.host.waits.length then s.waitAnswer q true
  else s.updHost (fun h => { h with waits := h.waits ++ [⟨q, s.now, false⟩], lastRead := ⟨0x500000 + 4 * q, [], false⟩ })

/-- Stalled reads of a queue that something has released are answered. -/
def State.waitRelease (s : State) (q : Nat) : State :=
  let out := s.host.waits.filter (fun (w : WaitRead) => w.q == q && (w.due || !(s.queue q).isEmpty))
  let s := s.updHost (fun h => { h with waits := h.waits.filter (fun w => !out.contains w) })
  out.foldl (fun (s : State) _ => s.waitAnswer q false) s

/-- A stalled read that has waited for HQ_WAIT_LIMIT is answered. -/
def State.waitExpire (s : State) (q : Nat) : State :=
  match s.host.waits.find? (fun (w : WaitRead) => w.q == q && decide (w.at_ + us (s.p .HQ_WAIT_LIMIT) ≤ s.now)) with
  | none => s
  | some w => ((s.updHost (fun h => { h with waits := h.waits.erase w })).count .HQ_WAIT_TIMEOUTS).waitAnswer q false

/-! ### The completion store (R452, R457) -/

/-- The bytes of a completion entry (R452). -/
def Cpl.bytes (c : Cpl) (phase : Bool) : List Byte :=
  leBytes 2 c.tag ++ leBytes 2 c.opcode ++ leBytes 1 c.status ++ leBytes 3 c.detail ++
  leBytes 2 (c.words.length % 256 + 256 * c.ring + bitAt phase 15) ++ leBytes 2 (cmdSlots c.words.length) ++ leBytes 2 c.slot ++ leBytes 2 0 ++
  wordsBytes c.words

/-- The oldest reply leaves the completion store for the completion ring, or waits for room with all behind it, each counted once. -/
def State.completionWrite (s : State) : State :=
  match s.host.store with
  | [] => s
  | c :: rest =>
    let r := s.ring 4
    let n := cmdSlots c.words.length
    if r.st ≠ .running then s
    else if r.room < n || !s.spillTakes (16 + 4 * c.words.length) then
      let new := (s.host.store.filter (fun x => !x.waited)).length
      if new = 0 then s
      else (s.updHost (fun h => { h with store := h.store.map (fun x => { x with waited := true }) })).count .SYS_CPL_WAITS 0 new
    else
      let s := s.updHost (fun h => { h with store := rest })
      let s := s.slotsWrite 4 0 n (c.bytes r.phase)
      let s := if c.final then s.updHost (fun h => { h with outst := h.outst.filter (fun o => o.cid != c.cid) }) else s
      s.signal 0

/-! ### Waiting events (R462) -/

/-- The waiting source whose batch was raised first. -/
def State.firstWaiting (s : State) : Option Nat :=
  match s.host.evWait with
  | [] => none
  | a :: rest => some (rest.foldl (fun (m : Nat) x => if (s.evSrc x).firstTime < (s.evSrc m).firstTime then x else m) a)

/-- Waiting batches written while the event ring has slots; SYS_EVT_DELAYED once for each episode of a full ring,
    after the entries that waited. -/
def State.eventsDrain (s : State) : Nat → State
  | 0 => s
  | n + 1 =>
    match s.firstWaiting with
    | none => s
    | some src =>
      if !s.eventRoom then s else
      let s := s.updHost (fun h => { h with evWait := h.evWait.erase src })
      let s := (s.writeEvent src true).count .SYS_EVT_DELAYED
      let s := if s.host.evFull && s.host.evWait.isEmpty then (s.updHost (fun h => { h with evFull := false })).raise .SYS_EVT_DELAYED else s
      s.eventsDrain n

/-- The hold-off of a source ends (R460). -/
def State.evtHoldEnd (s : State) (src : Nat) : State :=
  let e := s.evSrc src
  if !e.holding || s.now < e.until_ then s
  else
    let s := s.updEv src (fun e => { e with holding := false })
    if e.batch = 0 then s
    else if s.p .EVT_EN src = 0 then s.updEv src (fun e => { e with batch := 0 })
    else s.readyEvent src

/-- The hold-off of a vector ends (R463). -/
def State.irqHoldEnd (s : State) (v : Nat) : State :=
  let e := s.host.vecs.getD v MsixVec.reset
  if !e.holding || s.now < e.until_ then s
  else
    let s := s.updHost (fun h => { h with vecs := upd h.vecs v (fun e => { e with holding := false }) })
    if e.dirty && !s.entriesSpill && s.host.link.msixEnable then s.sendMsix v else s

/-! ### The link (R466 to R469) -/

/-- The link stops being active (R467): 0 a retrain, 1 a data-link down, 2 a low-power state, 3 Bus Master Enable 0 or D3hot, for which
    R442 names no code of its own. -/
def State.linkDown (s : State) (cause : Nat) : State :=
  if !s.linkUp then s else
  let f := s.takeFree
  let field := if cause = 3 then f.1 % 4 else cause + 1
  let s := if cause = 3 then f.2 else s
  let s := s.updHost (fun h => { h with
    waits := [],
    link := { h.link with
      field := field, adapterUp := h.link.adapterUp && cause == 3, busMaster := cause == 0 || cause == 2, backAt := none,
      msixEnable := h.link.msixEnable && cause != 1,
      lostAt := some (h.link.lostAt.getD s.now), lostCause := if h.link.lostAt.isSome then h.link.lostCause else cause } })
  s.raise .SYS_LINK_LOST

/-- The end of R468: one message on each vector with entries written since the loss, the counter of the episode, and its event. -/
def State.linkFinish (s : State) : State :=
  match s.host.link.lostAt with
  | none => s
  | some t0 =>
    let back := s.host.link.backAt.getD s.now
    let cause := s.host.link.lostCause
    let s := s.updHost (fun h => { h with link := { h.link with lostAt := none, backAt := none } })
    let s := (List.range 64).foldl (fun (s : State) v =>
      let e := s.host.vecs.getD v MsixVec.reset
      if e.dirty && !e.holding && s.host.link.msixEnable then s.sendMsix v else s) s
    let s := s.count (if cause = 0 then .SYS_LINK_RETRAINS else .SYS_LINK_DOWNS)
    s.raise .SYS_LINK_RESTORED (min ((back - t0) / us 1) (2 ^ 24 - 1) + 2 ^ 30 * (cause % 4))

/-- The link becomes active (R468): with a spill to drain the rest waits for its end. -/
def State.linkBack (s : State) (rate width : Nat) (msix : Bool) : State :=
  if s.linkUp || !(match s.pwr.st with | .off | .keepAlive | .boot => false | _ => true) then s else
  let s := s.updHost (fun h => { h with link := { h.link with
    field := 0, adapterUp := true, busMaster := true, d0 := true, rate := rate, width := width, msixEnable := msix,
    backAt := if h.link.lostAt.isSome then some s.now else none } })
  if s.host.spill.isEmpty then s.linkFinish
  else { s with hq := { s.hq with draining := true } }

/-- A hot reset or a data-link down (R469): configuration space returns to its reset values. -/
def State.hotReset (s : State) : State :=
  let s := s.linkDown 1
  s.updHost (fun h => { h with link := { h.link with field := 2, adapterUp := false, busMaster := false, msixEnable := false } })

/-- Whether a queue holds unpublished packets (R433). -/
def State.unpublished (s : State) : Bool := s.hq.queues.any (fun q => !q.2.open_.isEmpty)

/-- A request for a low-power state (R433). -/
def State.pmRequest (s : State) : State :=
  if !s.linkUp then s
  else if s.cap.run = .closed ∧ !s.unpublished then s.linkDown 2
  else (s.count .SYS_PM_DECLINED).raise .SYS_PM_DECLINED

/-! ### Work that ends (R30, R456, R465) -/

/-- The background work of one command dropped. -/
def State.dropWork (s : State) (cid : Nat) : State :=
  let s := { s with
    sen := { s.sen with snaps := s.sen.snaps.filter (fun x => x.cid != cid) },
    cor := { s.cor with loads := s.cor.loads.filter (fun x => x.cid != cid) },
    hq := { s.hq with replays := s.hq.replays.filter (fun r => r.expose || r.cid != cid) } }
  let s := { s with
    cor := { s.cor with
      store := s.cor.store.filter (fun x => x.cid != cid), cal := s.cor.cal.filter (fun c => c.cid != cid) },
    cmp := { s.cmp with
      checks := s.cmp.checks.filter (fun x => x.cid != cid), hatchLoad := s.cmp.hatchLoad.filter (fun x => x.cid != cid) } }
  s.dropPend cid

/-- All background work dropped, at a management reset. -/
def State.endWork (s : State) : State :=
  let bars := s.lamp.bars.map (fun (b : Bar) => { b with disc := none, diag := none })
  let s := { s with
    lamp := { s.lamp with bars := bars, reads := [], applies := [] },
    sen := { s.sen with snaps := [], restore := [] },
    cor := { s.cor with loads := [], store := none, cal := none },
    cmp := { s.cmp with checks := [], hatchLoad := none } }
  let s := { s with
    hq := { s.hq with replays := s.hq.replays.filter (fun r => r.expose) },
    aux := { s.aux with inject := [], cal := none },
    hlt := { s.hlt with trimRun := none },
    ask := { s.ask with cal := none },
    pwr := { s.pwr with cmds := [] } }
  s.updTb (fun tb => { tb with load := none })

/-- The management cores reset (R30, R465): cause 1 command core, 2 service core, 3 both, 0 by the command of number own, whose reply comes
    after the restart. -/
def State.coresReset (s : State) (cause : Nat) (own : Option Nat) : State :=
  let s := (s.dropShadows.cutArm.endWork).scanCores
  s.updHost (fun h => { h with
    outst := h.outst.map (fun (o : Outst) => if o.final || some o.cid == own then o else { o with aborted := true }),
    heartbeat := s.beat, coresDown := some s.now, coreCause := cause, coreReset := own })

/-- The cores run again (R465). -/
def State.coresRun (s : State) : State :=
  if s.coresUp then s else
  let own := s.host.coreReset
  let cause := s.host.coreCause
  let cut := s.host.outst.filter (fun (o : Outst) => o.aborted && !o.final)
  let s := s.updHost (fun h => { h with
    coresDown := none, coreReset := none, beatAt := s.now,
    outst := h.outst.map (fun (o : Outst) => { o with aborted := false }) })
  let s := cut.foldl (fun (s : State) o => s.reply o.cid 0x40 1) s
  let s := match own with
    | some cid => s.done cid
    | none => s
  (s.count .SYS_WDT_RESETS).raise .SYS_WATCHDOG cause

/-- A failed DMA read (R456): of a command, or of a submission fetch. -/
def State.dmaFail (s : State) (r : Nat) (cmd : Option Nat) : State :=
  match cmd with
  | some cid =>
    match s.outOf cid with
    | some o => if o.final || o.aborted then s else ((s.count .SYS_DMA_READ_FAILS).dropWork cid).reply cid 0x40 2
    | none => s
  | none =>
    if !s.linkUp || 4 ≤ r || (s.ring r).st != .running then s
    else
      let s := ((s.count .SYS_DMA_READ_FAILS).updRing r (fun x => { x with st := .error, err := 1 })).count .SYS_RING_ERRORS
      s.raise .SYS_RING_ERROR r

/-! ### Function Level Reset (R470) -/

/-- The parameters a Function Level Reset resets. -/
def flrPars : List Par := [.SYS_EXEC_BUDGET, .SYS_BULK_WEIGHT, .SYS_EVT_HOLDOFF, .SYS_IRQ_HOLDOFF, .SYS_WDT_PERIOD, .SYS_SVC_SHARE,
  .EVT_VEC, .EVT_EN]

/-- A Function Level Reset (R470). -/
def State.flr (s : State) : State :=
  let s := (List.range 6).foldl (fun (s : State) r => s.ringDisable r) s
  let dead := s.host.store.filter (fun c => c.final)
  let s := s.updHost (fun h => { h with store := [], outst := h.outst.filter (fun o => !dead.any (fun c => c.cid == o.cid)) })
  let s := ((s.hq.queues.filter (fun q => q.2.st == .enabled || q.2.st == .flushing)).map (fun q => q.1)).foldl
    (fun (s : State) q => (s.flushQueue q).2.updQueue q (fun x => { x with st := .disabled })) s
  let s := s.updHost (fun h => { h with spill := [], spillUsed := 0, waits := [] })
  let s := { s with hq := { s.hq with replays := [], draining := false, spillRaised := false, spillFullRaised := false } }
  let shadows := s.seq.pends.map (fun p => p.cid) ++ (match s.cap.arm with
    | some a => [a.cid]
    | none => [])
  let copies := s.host.outst.filter (fun o => o.opcode == 0x0709) 
  let gone := shadows ++ copies.map (fun o => o.cid) ++ s.seq.groups.flatMap (fun g => g.ended.toList)
  let s := s.dropShadows.cutArm
  let s := s.updHost (fun h => { h with
    outst := h.outst.filter (fun o => !gone.contains o.cid), vecs := h.vecs.map (fun _ => MsixVec.reset) })
  let s := { s with par := s.par.filter (fun e => !flrPars.any (fun p => p.ctorIdx == e.1 % 512)) }
  s.count .SYS_FLRS

end Sys2Proof.Machine
end

