-- ==== Sys2Proof/Machine/Sen.lean ====
section
/-! DEFINITION. The commands of the timing generators and the lanes (chapter 5, group 0x03). -/

namespace Sys2Proof.Machine

/-- The lane place a command targets. -/
def cmdPlace (c : Cmd) : Nat := 8 * c.tile + c.lane

/-- The converter a command targets. -/
def cmdConv (c : Cmd) : Nat := 9 * c.tile + c.lane

/-- The fields of SEN_GEN_SET. -/
def senGenSetFields (c : Cmd) : List SetField :=
  let g := 2 * c.tile + c.f 0 0 0
  [⟨1, 0, .SEN_PCLK_DIV, g⟩, ⟨1, 16, .SEN_SCLK_HIGH, g⟩, ⟨1, 28, .SEN_SCLK_FREE, g⟩, ⟨1, 29, .SEN_GEN_EN, g⟩, ⟨1, 30, .SEN_CDS_MODE, g⟩,
   ⟨2, 0, .SEN_VID_LAT, g⟩, ⟨2, 8, .SEN_CDS_RST, g⟩, ⟨2, 16, .SEN_CDS_SIG, g⟩, ⟨3, 0, .SEN_RO_CLK, 6 * g⟩, ⟨3, 16, .SEN_RO_CLK, 6 * g + 1⟩,
   ⟨4, 0, .SEN_RO_CLK, 6 * g + 2⟩, ⟨4, 16, .SEN_RO_CLK, 6 * g + 3⟩, ⟨5, 0, .SEN_RO_CLK, 6 * g + 4⟩, ⟨5, 16, .SEN_RO_CLK, 6 * g + 5⟩]

/-- SEN_GEN_SET. -/
def senGenSetDef : CmdDef := setDef 0x0301 5 [1] .header maskFrom7 senGenSetFields noFails noActs

/-- SEN_GEN_SET (R155, R156, R162). -/
def execSenGenSet (t : Nat) (c : Cmd) (s : State) : Host.Outcome State Fault Refusal := .next (runHost senGenSetDef t c s)

/-- The commit points of waveform programs and substitution lists (R184). -/
def loadPoints : Points := .among [.tick, .rept, .position, .idle]

/-- Whether an edge word is allowed (R158). -/
def edgeWordOk (w : Nat) : Bool :=
  let off := toSigned 22 (w % 2 ^ 22)
  let anchor := natField w 23 22
  decide (w < 2 ^ 26) && anchor != 3 && decide (-65535 ≤ off) && (anchor != 2 || decide (off ≤ 65535))

/-- SEN_WAVE_LOAD: all 16 edge words of a program. -/
def senWaveLoadDef : CmdDef :=
  actDef 0x0302 17 [1] loadPoints
    (fun s c ctx => failIf (s.calRuns && ctx.point == .idle) 0x14 ++
      ((List.range 16).filter (fun i => !edgeWordOk (c.w (i + 1)))).map (fun i => (0x11, i + 1)) ++ failIf (decide (6 ≤ c.f 0 10 8)) 0x11 0)
    (fun _ c _ => [.waveLoad (2 * c.tile + c.f 0 0 0) (c.f 0 10 8) (c.f 0 13 12) ((List.range 16).map (fun i => c.w (i + 1)))])

/-- SEN_WAVE_LOAD (R157, R158). -/
def execSenWaveLoad (t : Nat) (c : Cmd) (s : State) : Host.Outcome State Fault Refusal := .next (runHost senWaveLoadDef t c s)

/-- The fields of SEN_LANE_SET. -/
def senLaneSetFields (c : Cmd) : List SetField :=
  let l := (cmdPlace c)
  [⟨1, 0, .SEN_LANE_EN, l⟩, ⟨1, 1, .SEN_GEN, l⟩, ⟨1, 2, .SEN_REV, l⟩, ⟨1, 4, .SEN_CLAMP_MODE, l⟩, ⟨2, 0, .SEN_COL_BASE, l⟩,
   ⟨3, 0, .SEN_LEAD, l⟩, ⟨3, 16, .SEN_BLACK_N, l⟩, ⟨4, 0, .SEN_GAP, l⟩, ⟨4, 16, .SEN_ACTIVE, l⟩, ⟨5, 0, .SEN_BLACK_NOM, l⟩,
   ⟨5, 16, .SEN_BLACK_TOL, l⟩, ⟨6, 0, .SEN_CLAMP_SHIFT, l⟩, ⟨6, 16, .SEN_PEDESTAL, l⟩]

/-- BAD_TARGET for the spare lane. -/
def spareFails (c : Cmd) : List (Nat × Nat) := failIf (c.level == 2 && c.lane == 8) 0x12

/-- SEN_LANE_SET. -/
def senLaneSetDef : CmdDef := setDef 0x0303 6 [2] .header maskAt senLaneSetFields (fun _ c _ => spareFails c) noActs

/-- SEN_LANE_SET (R163 to R174). -/
def execSenLaneSet (t : Nat) (c : Cmd) (s : State) : Host.Outcome State Fault Refusal := .next (runHost senLaneSetDef t c s)

/-- The lanes of SEN_GAIN_SET: one, or all eight of a tile. -/
def gainLanes (c : Cmd) : List Nat := if c.level = 1 then (List.range 8).map (fun i => 8 * c.tile + i) else [(cmdPlace c)]

/-- The fields of SEN_GAIN_SET. -/
def senGainSetFields (c : Cmd) : List SetField :=
  (gainLanes c).flatMap (fun l => (List.range 6).map (fun p => ⟨p + 1, 0, .SEN_GAIN, 6 * l + p⟩))

/-- SEN_GAIN_SET: bit p of the mask names word p + 1. -/
def senGainSetDef : CmdDef := setDef 0x0304 6 [1, 2] .header (fun c n => c.b 0 (n - 1)) senGainSetFields (fun _ c _ => spareFails c) noActs

/-- SEN_GAIN_SET (R166). -/
def execSenGainSet (t : Nat) (c : Cmd) (s : State) : Host.Outcome State Fault Refusal := .next (runHost senGainSetDef t c s)

/-- The entries of SEN_SUBST_LOAD. -/
def substEntries (c : Cmd) : List Nat := (List.range (c.f 0 6 0)).map (fun i => c.f (1 + i / 2) (16 * (i % 2) + 15) (16 * (i % 2)))

/-- The word of the first entry that is not allowed (R175): order, index, method, reserved bits. -/
def substFails (active : Nat) (es : List Nat) : List (Nat × Nat) :=
  ((List.range es.length).filter (fun i =>
    let e := es.getD i 0
    decide (active ≤ e % 1024) || natField e 11 10 == 3 || decide (4096 ≤ e) ||
      (i != 0 && decide (e % 1024 ≤ es.getD (i - 1) 0 % 1024)))).map (fun i => (0x11, 1 + i / 2))

/-- SEN_SUBST_LOAD. -/
def senSubstLoadDef : CmdDef where
  op := 0x0305
  levels := [2]
  points := loadPoints
  need := fun c => 1 + ceilDiv (c.f 0 6 0) 2
  fails := fun s c ctx => spareFails c ++ failIf (s.calRuns && ctx.point == .idle) 0x14 ++ failIf (decide (64 < c.f 0 6 0)) 0x11 0 ++ 
    substFails (if c.lane = 8 then 1024 else parGet s.shadow .SEN_ACTIVE (cmdPlace c)) (substEntries c)
  run := fun s cid c ctx => s.submit cid ctx [.substLoad (cmdPlace c) (substEntries c)]

/-- SEN_SUBST_LOAD (R175). -/
def execSenSubstLoad (t : Nat) (c : Cmd) (s : State) : Host.Outcome State Fault Refusal := .next (runHost senSubstLoadDef t c s)

/-- Whether a converter can be restored (R182): REPLACED or BLIND, or SPARE_FAILED. -/
def LaneSt.restorable : LaneSt → Bool
  | .replaced | .blind | .spareFailed => true
  | _ => false

/-- SEN_LANE_RESTORE. -/
def senLaneRestoreDef : CmdDef :=
  actDef 0x0306 0 [2] (.fixed .idle) (fun s c _ => failIf (!(s.lane (cmdConv c)).st.restorable) 0x13) (fun _ c _ => [.laneRestore (cmdConv c)])

/-- SEN_LANE_RESTORE (R182). -/
def execSenLaneRestore (t : Nat) (c : Cmd) (s : State) : Host.Outcome State Fault Refusal := .next (runHost senLaneRestoreDef t c s)

/-- SEN_SPARE_FORCE. -/
def senSpareForceDef : CmdDef :=
  actDef 0x0307 1 [2] (.among [.tick, .idle]) (fun s c _ => spareFails c ++ failIf (!s.forceOk (cmdPlace c) (c.b 0 0)) 0x13)
    (fun _ c _ => [.spareForce (cmdPlace c) (c.b 0 0)])

/-- SEN_SPARE_FORCE (R16). -/
def execSenSpareForce (t : Nat) (c : Cmd) (s : State) : Host.Outcome State Fault Refusal := .next (runHost senSpareForceDef t c s)

/-- The word of SEN_STATUS for converter i of a tile: m_0 rounded, or SEN_BLACK_NOM_l while it is not seeded (R173). -/
def State.laneWord (s : State) (tile i : Nat) : Word :=
  let x := s.lane (9 * tile + i)
  let serves := if i = 8 then (s.spare tile).serves else none
  let place := if i = 8 then serves.map (fun l => 8 * tile + l) else some (8 * tile + i)
  let m := match x.clamp.getD 0 none with
    | some v => ((v + 128) / 256).toNat
    | none => (place.map (fun l => s.p .SEN_BLACK_NOM l)).getD 0
  w32 (x.st.code + 16 * serves.getD 15 + 256 * x.lastKind + 65536 * (m % 16384))

/-- SEN_STATUS. -/
def execSenStatus (t : Nat) (c : Cmd) (s : State) : Host.Outcome State Fault Refusal :=
  .next (runHost (statusDef 0x0308 [1] 0 noFails (fun s c => (List.range 9).map (fun i => s.laneWord c.tile i))) t c s)

/-- SEN_SNAPSHOT: the lane's next captured sub-line of a phase goes to host memory. -/
def senSnapshotDef : CmdDef where
  op := 0x0309
  levels := [2]
  need := fun _ => 3
  fails := fun s c _ => spareFails c ++ failIf (c.w64 0 % 64 != 0) 0x11 0 ++ failIf (decide (s.p .SEQ_NUM_PHASES ≤ c.f 2 2 0)) 0x11 2 ++
    failIf (c.lane != 8 && ((s.lane (cmdConv c)).st == .off || (s.lane (cmdConv c)).st == .blind)) 0x13
  run := fun s cid c _ =>
    let s := s.defer cid
    { s with sen := { s.sen with snaps := s.sen.snaps ++ [⟨cid, c.tile, c.lane, c.f 2 2 0, c.w64 0⟩] } }

/-- SEN_SNAPSHOT. -/
def execSenSnapshot (t : Nat) (c : Cmd) (s : State) : Host.Outcome State Fault Refusal := .next (runHost senSnapshotDef t c s)

/-- The converter trims of the target tiles (R183, R532). -/
def senTrims (c : Cmd) : List (Nat × Nat) :=
  let tiles := if c.level = 1 then [c.tile] else List.range 16
  [1, 2, 3].flatMap (fun k => tiles.flatMap (fun x => (List.range 9).map (fun i => (k, 9 * x + i))))

/-- SEN_TRIM_RUN: it measures at IDLE; flag 0 holds the trims to the next repeat boundary (R183). -/
def senTrimRunDef : CmdDef where
  op := 0x030A
  levels := [0, 1]
  points := .fixed .idle
  need := fun _ => 1
  fails := fun s c _ => failIf s.hlt.trimRun.isSome 0x14 ++ failIf (c.b 0 0 && s.p .CMP_REPEAT_MODE == 0) 0x13
  run := fun s cid c _ =>
    let s := s.defer cid
    s.updHlt (fun h => { h with trimRun := some ⟨cid, senTrims c, true, c.b 0 0, if c.b 0 0 then .rept else .idle, s.idleNow, 0⟩ })

/-- SEN_TRIM_RUN. -/
def execSenTrimRun (t : Nat) (c : Cmd) (s : State) : Host.Outcome State Fault Refusal := .next (runHost senTrimRunDef t c s)

/-- SEN_COUNTERS_CLEAR. -/
def execSenCountersClear (t : Nat) (c : Cmd) (s : State) : Host.Outcome State Fault Refusal :=
  .next (runHost (clearDef 0x030B 3) t c s)

end Sys2Proof.Machine
end

