-- ==== Sys2Proof/Machine/Cor.lean ====
section
/-! DEFINITION. The commands and events of the correction pipeline and the calibration (chapter 6, group 0x04). -/

namespace Sys2Proof.Machine

/-- The correction block changed. -/
def State.updCor (s : State) (f : CorSt → CorSt) : State := { s with cor := f s.cor }

/-- The fields of COR_SET. -/
def corSetFields (_ : Cmd) : List SetField :=
  (List.range 16).map (fun t => (⟨1, t, .COR_MODE, t⟩ : SetField)) ++
  (List.range 6).map (fun p => (⟨2, 3 * p, .COR_TEMP_BAR, p⟩ : SetField)) ++
  ([⟨3, 0, .COR_CAL_LINES, 0⟩, ⟨3, 16, .COR_TILE_AXIS, 0⟩, ⟨4, 0, .COR_CAL_PERIOD, 0⟩] : List SetField) ++
  (List.range 6).map (fun p => (⟨5 + p / 2, 16 * (p % 2), .COR_WHITE_TARGET, p⟩ : SetField)) ++
  (List.range 4).map (fun j => (⟨8 + j / 2, 16 * (j % 2), .COR_LEVEL, j⟩ : SetField)) ++
  ([⟨10, 0, .COR_TILE_IN, 0⟩, ⟨11, 0, .COR_TILE_PARK, 0⟩, ⟨12, 0, .COR_SETTLE, 0⟩, ⟨12, 16, .COR_WU_INTERVAL, 0⟩,
    ⟨13, 0, .COR_WU_MAX, 0⟩, ⟨13, 16, .COR_WU_STABLE, 0⟩, ⟨13, 24, .COR_WU_STABLE_TIME, 0⟩] : List SetField)

/-- COR_SET. -/
def corSetDef : CmdDef := setDef 0x0401 13 [0] .header maskAt corSetFields noFails noActs

/-- COR_SET (R227). -/
def execCorSet (t : Nat) (c : Cmd) (s : State) : Host.Outcome State Fault Refusal := .next (runHost corSetDef t c s)

/-! ### Loads, swaps, flash -/

/-- Whether two tile masks share a tile. -/
def shareTile (a b : Nat) : Bool := (List.range 16).any (fun t => natBit a t && natBit b t)

/-- Whether a swap waits for one of some tiles (R206). -/
def State.swapWaits (s : State) (tiles : Nat) : Bool :=
  s.seq.pends.any (fun p => p.acts.any (fun a => match a with
    | .corSwap m => shareTile m tiles
    | _ => false))

/-- Whether a load runs into one of some tiles. -/
def State.loadRuns (s : State) (tiles : Nat) : Bool := s.cor.loads.any (fun l => shareTile l.tiles tiles)

/-- BAD_PARAM for a library slot whose header is bad (R204), once the slot exists. -/
def State.headerFails (s : State) (slot : Nat) : List (Nat × Nat) :=
  if s.slotFails slot = [] ∧ !headerOk (s.librarySlot slot) then [(0x11, 0xFE)] else []

/-- COR_SET_LOAD. -/
def corSetLoadDef : CmdDef where
  op := 0x0402
  need := fun _ => 2
  fails := fun s c _ => s.slotFails (c.f 0 7 0) ++ failIf (c.f 1 15 0 == 0 && s.p .HIS_SHD_SLOTS != 0) 0x11 1 ++ s.headerFails (c.f 0 7 0) ++
    failIf (s.swapWaits (c.f 1 15 0) || s.loadRuns (c.f 1 15 0) || s.calRuns) 0x14
  run := fun s cid c _ =>
    let s := s.defer cid
    s.updCor (fun x => { x with loads := x.loads ++ [⟨cid, c.f 0 7 0, c.f 1 15 0, s.now⟩] })

/-- COR_SET_LOAD (R203, R204, R206). -/
def execCorSetLoad (t : Nat) (c : Cmd) (s : State) : Host.Outcome State Fault Refusal := .next (runHost corSetLoadDef t c s)

/-- Swaps whose tiles no load fills any more reach the sequencer (R206). -/
def State.swapsReady (s : State) : State :=
  (s.seq.pends.filter (fun p => p.arrival.isNone && p.acts.any (fun a => match a with
    | .corSwap m => !s.loadRuns m
    | _ => false))).foldl (fun (s : State) p => s.prepared p.cid) s

/-- The oldest load ends, unless the thermal policy holds it (R203, R204, R529). -/
def State.corLoaded (s : State) : State :=
  match s.cor.loads with
  | [] => s
  | l :: rest =>
    if s.shed then s else
    let s := s.updCor (fun x => { x with loads := rest })
    let m := s.librarySlot l.slot
    if !headerOk m then (s.reply l.cid 0x11 0xFE).swapsReady
    else
      let tiles := maskList 16 l.tiles
      let mine := (setRecords m).filter (fun r => tiles.contains (r.lane / 8))
      let bad := mine.filter (fun r => !r.good || !s.clockOk 4)
      let s := tiles.foldl (fun (s : State) t => s.loadHalf m t) s
      let s := s.badRecords bad
      let dflt := (tiles.flatMap (fun t => s.defaultLanes t (s.tileCor t).pend)).length
      let ws := [w32 (mine.length - bad.length), w32 bad.length, w32 dflt, w32 (usBetween l.at_ s.now)]
      ((s.reply l.cid (if bad.isEmpty then 0 else 3) 0 ws).noteResident).swapsReady

/-- COR_LOAD_DONE (R204). -/
def execCorLoadDone (t : Nat) (s : State) : Host.Outcome State Fault Refusal := nextAt t s State.corLoaded

/-- Evaluations that are complete wait for the next tick (R196). -/
def State.factorsReady (s : State) : State :=
  s.updCor (fun x => { x with evals := x.evals.map (fun e => e.map (fun e => if e.due ≤ s.now then { e with ready := true } else e)) })

/-- COR_FACTORS_READY (R196). -/
def execCorFactorsReady (t : Nat) (s : State) : Host.Outcome State Fault Refusal := nextAt t s State.factorsReady

/-- COR_SET_SWAP: it waits for a load that runs into one of its tiles (R206). -/
def corSetSwapDef : CmdDef where
  op := 0x0403
  points := loadPoints
  need := fun _ => 1
  fails := fun s c _ => failIf (c.f 0 15 0 == 0) 0x11 0 ++
    failIf ((maskList 16 (c.f 0 15 0)).any (fun t => !s.halfReady t && !s.loadRuns (2 ^ t))) 0x13 ++ failIf s.calRuns 0x14
  run := fun s cid c ctx => s.submit cid ctx [.corSwap (c.f 0 15 0)] (!s.loadRuns (c.f 0 15 0))

/-- COR_SET_SWAP (R205, R206, R209). -/
def execCorSetSwap (t : Nat) (c : Cmd) (s : State) : Host.Outcome State Fault Refusal := .next (runHost corSetSwapDef t c s)

/-- COR_SET_CHECK. -/
def execCorSetCheck (t : Nat) (c : Cmd) (s : State) : Host.Outcome State Fault Refusal :=
  .next (runHost (statusDef 0x0404 [0] 1 (fun s c _ => s.slotFails (c.f 0 7 0) ++ s.headerFails (c.f 0 7 0)) (fun s c =>
    let m := s.librarySlot (c.f 0 7 0)
    let rs := setRecords m
    [w32 rs.length, w32 (rs.filter (fun r => !r.good)).length, w32 (setLe m 12 4), w32 (setLe m 8 4)])) t c s)

/-- Whether the flash takes another store or restore (R213). -/
def State.setFlashBusy (s : State) : Bool :=
  s.cor.store.isSome || (match s.cor.cal with
    | some c => (match c.st with
      | .storing _ _ => true
      | _ => false)
    | none => false)

/-- COR_SET_STORE. -/
def corSetStoreDef : CmdDef where
  op := 0x0405
  need := fun _ => 1
  fails := fun s c _ => s.slotFails (c.f 0 7 0) ++ failIf (decide (5 < c.f 0 11 8)) 0x11 0 ++ s.headerFails (c.f 0 7 0) ++ failIf s.setFlashBusy 0x14
  run := fun s cid c _ => (s.defer cid).updCor (fun x => { x with store := some ⟨cid, c.f 0 7 0, c.f 0 11 8, false⟩ })

/-- COR_SET_STORE (R213). -/
def execCorSetStore (t : Nat) (c : Cmd) (s : State) : Host.Outcome State Fault Refusal := .next (runHost corSetStoreDef t c s)

/-- COR_SET_RESTORE. -/
def corSetRestoreDef : CmdDef where
  op := 0x0406
  need := fun _ => 1
  fails := fun s c _ => s.slotFails (c.f 0 7 0) ++ failIf (decide (5 < c.f 0 11 8) || (s.dirEntry (c.f 0 11 8)).getD 3 0 != 1) 0x11 0 ++ failIf s.setFlashBusy 0x14
  run := fun s cid c _ => (s.defer cid).updCor (fun x => { x with store := some ⟨cid, c.f 0 7 0, c.f 0 11 8, true⟩ })

/-- COR_SET_RESTORE (R213). -/
def execCorSetRestore (t : Nat) (c : Cmd) (s : State) : Host.Outcome State Fault Refusal := .next (runHost corSetRestoreDef t c s)

/-- A store to flash or a restore from it ends, unless the thermal policy holds it (R213, R357, R529). -/
def State.corStored (s : State) (ok : Bool) : State :=
  if s.shed then s else
  match s.cor.store with
  | none => s.calStored ok
  | some x =>
    let s := s.updCor (fun c => { c with store := none })
    if x.restore then
      if !ok then s.reply x.cid 0x40 else
      let s := s.restoreSet x.slot x.flash
      let m := s.librarySlot x.slot
      if !headerOk m then s.reply x.cid 0x11 0xFE
      else
        let bad := (setRecords m).filter (fun r => !r.good || !s.clockOk 4)
        (s.badRecords bad).reply x.cid (if bad.isEmpty then 0 else 3) 0 [w32 bad.length]
    else if ok then (s.storeSet x.slot x.flash).done x.cid
    else (s.raise .COR_FLASH_FAIL).reply x.cid 0x40

/-- COR_STORE_DONE (R213, R218). -/
def execCorStoreDone (t : Nat) (ok : Bool) (s : State) : Host.Outcome State Fault Refusal := nextAt t s (fun s => s.corStored ok)

/-! ### Captures -/

/-- What COR_CAL_RUN needs (R214, R217). -/
def State.calReady (s : State) (kind slot tiles : Nat) : Bool :=
  s.pwr.st == .ready && s.cap.run == RunSt.closed && !s.swapWaits tiles && !s.loadRuns tiles &&
  (s.lanesOf tiles).all (fun l => (s.lane (convOf l)).st == .inService || (s.lane (convOf l)).st == .replaced) &&
  (kind == 3 || !headerOk (s.librarySlot slot) || s.setMatches slot tiles)

/-- COR_CAL_RUN. -/
def corCalRunDef : CmdDef where
  op := 0x0407
  need := fun c => if c.f 0 1 0 = 3 then 4 else 2
  fails := fun s c _ =>
    (if c.f 0 1 0 = 3 then failIf (c.w 2 % 64 != 0) 0x11 2 else s.slotFails (c.f 0 15 8)) ++
    failIf (decide (5 < c.f 0 19 16) && c.f 0 19 16 != 15) 0x11 0 ++ failIf (c.f 1 15 0 == 0) 0x11 1 ++
    failIf (decide (s.p .COR_CAL_PERIOD < s.seq.slotMin)) 0x11 0xFE ++
    failIf (!s.calReady (c.f 0 1 0) (c.f 0 15 8) (c.f 1 15 0)) 0x13 ++ failIf s.calRuns 0x14
  run := fun s cid c _ =>
    (s.defer cid).calStart cid (c.f 0 1 0) (c.f 0 15 8) (c.f 0 19 16) (c.b 0 20) (c.f 1 15 0) (c.w64 2)

/-- COR_CAL_RUN (R214 to R224). -/
def execCorCalRun (t : Nat) (c : Cmd) (s : State) : Host.Outcome State Fault Refusal := .next (runHost corCalRunDef t c s)

/-- COR_CAL_ABORT. -/
def corCalAbortDef : CmdDef where
  op := 0x0408
  points := .immediate
  fails := fun s _ _ => failIf (!s.calRuns) 0x13
  run := fun s cid _ _ => (s.calFail 1).done cid

/-- COR_CAL_ABORT (R216). -/
def execCorCalAbort (t : Nat) (c : Cmd) (s : State) : Host.Outcome State Fault Refusal := .next (runHost corCalAbortDef t c s)

/-- Samples or lines taken so far. -/
def Cal.soFar (c : Cal) : Nat := if c.kind = 2 then c.samples.length else c.level * c.lines + c.taken

/-- The words of COR_CAL_STATUS. -/
def State.calWords (s : State) : List Word :=
  (List.range 3).flatMap (fun k => w32 (s.cor.calCount.getD k 0) :: Word.ofNat64 (s.cor.calTime.getD k 0)) ++
  [match s.cor.cal with
   | some c => w32 (c.kind + 128 + 65536 * (c.soFar % 65536))
   | none => 0]

/-- COR_CAL_STATUS (R225). -/
def execCorCalStatus (t : Nat) (c : Cmd) (s : State) : Host.Outcome State Fault Refusal :=
  .next (runHost (statusDef 0x0409 [0] 0 noFails (fun s _ => s.calWords)) t c s)

/-- COR_STATE_t (R227). -/
def State.corState (s : State) (t : Nat) : Nat :=
  if s.cor.cal.any (fun c => natBit c.tiles t) then 4
  else if s.loadRuns (2 ^ t) then 2
  else if s.swapWaits (2 ^ t) then 3
  else if (s.tileCor t).act.loaded then 1 else 0

/-- The words of COR_STATUS. -/
def State.corWords (s : State) (t : Nat) : List Word :=
  let x := s.tileCor t
  [w32 (s.corState t), w32 x.act.id, w32 x.pend.id] ++
  (List.range 6).map (fun p => if s.hasSource p then w32 (ofSigned 16 (s.halfTemp x.act p)) else 0x8000)

/-- COR_STATUS. -/
def execCorStatus (t : Nat) (c : Cmd) (s : State) : Host.Outcome State Fault Refusal :=
  .next (runHost (statusDef 0x040A [1] 0 noFails (fun s c => s.corWords c.tile)) t c s)

/-- COR_COUNTERS_CLEAR. -/
def execCorCountersClear (t : Nat) (c : Cmd) (s : State) : Host.Outcome State Fault Refusal :=
  .next (runHost (clearDef 0x040B 4) t c s)

/-- CAL_CAPTURE_TICK (R215). -/
def execCalCaptureTick (t : Nat) (tests : List (List LaneTest)) (video : List (List LaneVideo)) (s : State) :
    Host.Outcome State Fault Refusal := nextAt t s (fun s => s.calTick tests video)

/-- WARMUP_SAMPLE (R222). -/
def execWarmupSample (t : Nat) (s : State) : Host.Outcome State Fault Refusal := nextAt t s State.calSample

/-- COR_CAL_DONE (R218). -/
def execCorCalDone (t : Nat) (s : State) : Host.Outcome State Fault Refusal := nextAt t s State.calDone

/-- CAL_CAPTURE_FAIL, where its cause holds (R216). -/
def execCalCaptureFail (t : Nat) (cause : Nat) (s : State) : Host.Outcome State Fault Refusal :=
  nextAt t s (fun s => if s.calCause cause then s.calFail cause else s)

/-- COR_SETTLE_EXPIRY (R220). -/
def execCorSettleExpiry (t : Nat) (s : State) : Host.Outcome State Fault Refusal := nextAt t s State.calSettled

end Sys2Proof.Machine
end

