-- ==== Sys2Proof/Machine/Slots.lean ====
section
/-! DEFINITION. What happens at ticks and within line slots (chapters 2, 4, 5 and 7): the tick sources, guards, strobes, readouts, HOLD and
IDLE, and the expiry of groups. -/

namespace Sys2Proof.Machine

/-! ### Tick sources (R32, R33, R246) -/

/-- The highest grid target the position has reached (R246); none without a grid or a position. -/
def State.reachedIndex (s : State) : Option Int :=
  let pitch := s.p .CAP_GRID_PITCH
  if pitch = 0 ∨ s.p .SEQ_POS_SRC = 4 then none else some ((s.extNow - s.cap.g0) / (pitch : Int))

/-- GRID_TICK (R246): the sequencer raises a tick for the highest target reached above the high-water mark. -/
def execGridTick (t : Nat) (s : State) : Host.Outcome State Fault Refusal :=
  nextAt t s (fun s =>
    if s.cap.run != .open_ || s.p .SEQ_TICK_SRC != 0 || s.member then s
    else match s.reachedIndex with
      | some k => if s.cap.high < k then s.raiseTick k.toNat else s
      | none => s)

/-- PERIOD_TICK (R33). -/
def execPeriodTick (t : Nat) (s : State) : Host.Outcome State Fault Refusal :=
  nextAt t s (fun s =>
    match s.seq.periodDue with
    | none => s
    | some d =>
      if s.cap.run != .open_ || s.p .SEQ_TICK_SRC != 1 || decide (s.now < d) then s
      else
        let s := s.raiseTick s.seq.lineIndex
        s.updSeq (fun q => { q with periodDue := if s.cap.run = .open_ then some (s.now + ns (s.p .SEQ_PERIOD)) else none }))

/-- TRIG_TICK (R32). -/
def execTrigTick (t : Nat) (falling : Bool) (s : State) : Host.Outcome State Fault Refusal :=
  nextAt t s (fun s =>
    if s.cap.run != .open_ || s.p .SEQ_TICK_SRC != 2 || s.p .SEQ_TRIG_EDGE != bitNat falling then s else s.raiseTick s.seq.lineIndex)

/-- The tick that waits for its index is raised at its own instant (R548, R553); an index below the high-water mark is let go, and lines that
    MASTER_LOST has cost are entered first (R559). -/
def State.memberTick (s : State) (k : Nat) : State :=
  match s.ask.tick with
  | none => s
  | some x =>
    let later := max s.now x.at_
    let s := s.updAsk (fun a => { a with tick := none, tickBad := 0, lastTick := k })
    if s.cap.run != .open_ || decide ((k : Int) ≤ s.cap.high) then s
    else
      let s := if s.ask.gap.isSome then (s.gapEnds k).updCap (fun c => { c with high := (k : Int) - 1 }) else s
      let s := ({ s with now := x.at_ } : State).raiseTick k
      { s with now := max s.now later }

/-- A tick whose TICK_INFO copies are both bad (R553). -/
def State.memberGuess (s : State) : State :=
  match s.resolveTick with
  | none => s
  | some k => (s.count .ASK_INDEX_RESOLVED).memberTick k

/-- ASKURI_TICK (R548, R550, R552, R558): the pulse arrives; the tick is raised ASK_ALIGN less the path delay later. -/
def execAskuriTick (t : Nat) (s : State) : Host.Outcome State Fault Refusal :=
  nextAt t s (fun s =>
    if !s.member then s
    else if !s.ask.calibrated || s.ask.lost then s.count .ASK_TICKS_IGNORED
    else if s.cap.run != .open_ || s.p .SEQ_TICK_SRC != 3 || s.ask.runWait then s
    else
      let s := s.memberGuess
      let at_ := s.now + ns s.ask.align - 15 * s.ask.path
      s.updAsk (fun a => { a with tick := some ⟨at_, s.streamAt (s.glintAt at_)⟩, tickBad := 0 }))

/-! ### Guards, strobes and readouts (R36, R113 to R117) -/

/-- PHASE_GUARD_START (R36, R166, R176): gains are applied and the lanes run their test. -/
def execPhaseGuardStart (t p : Nat) (tests : List LaneTest) (s : State) : Host.Outcome State Fault Refusal :=
  nextAt t s (fun s =>
    match s.seq.slot with
    | none => s
    | some x =>
      match x.plans[p]? with
      | none => s
      | some plan =>
        if p ≠ x.guardsDone ∨ p ≠ x.readsDone ∨ s.now < plan.guardAt then s
        else
          let s := s.inSlot x (fun s => (s.applyGains p).laneTests p x.line false tests)
          s.updSeq (fun q => { q with slot := some { x with guardsDone := p + 1 } }))

/-- Whether bar b has had its strobe in phase p of the running slot. -/
def State.strobed (s : State) (b p : Nat) : Bool := s.lamp.strobes.any (fun x => x.bar == b && x.phase == p)

/-- LAMP_STROBE (R113, R114). -/
def execLampStrobe (t bar p : Nat) (s : State) : Host.Outcome State Fault Refusal :=
  nextAt t s (fun s =>
    match s.seq.slot with
    | none => s
    | some x =>
      match x.plans[p]? with
      | none => s
      | some plan =>
        if p < x.readsDone ∨ s.pwr.st = .safe ∨ s.strobed bar p then s
        else s.inSlot x (fun s =>
          if s.p .LMP_SYNC_MODE ≠ 0 then s
          else match s.pulseOf bar p with
            | some (d, w) =>
              let rise := plan.openAt + ns d
              if s.now < rise then s else s.strobe bar p rise (rise + ns w)
            | none => s))

/-- The phase whose exposure window is open. -/
def State.windowOpen (s : State) : Option (Slot × Nat × PhasePlan) :=
  match s.seq.slot with
  | none => none
  | some x => ((x.plans.zipIdx).find? (fun y => decide (y.1.openAt ≤ s.now) && decide (s.now < y.1.transferAt))).map (fun y => (x, y.2, y.1))

/-- LAMP_SYNC_IN_EDGE (R117): the strobes rise within 10 ns of the edge. -/
def execLampSyncInEdge (t : Nat) (s : State) : Host.Outcome State Fault Refusal :=
  nextAt t s (fun s =>
    if s.p .LMP_SYNC_MODE ≠ 1 ∨ s.pwr.st = .safe then s
    else match s.windowOpen with
      | none => s.count .LMP_SYNC_STRAY
      | some (x, p, _) =>
        s.inSlot x (fun s => (List.range 4).foldl (fun (s : State) b =>
          if !s.barLit b p || s.strobed b p then s
          else match s.pulseOf b p with
            | some (_, w) =>
              let f := s.takeFree
              let rise := s.now + f.1 % (ns 10 + 1)
              f.2.strobe b p rise (rise + ns w)
            | none => s) s))

/-- LAMP_SYNC_MISSED (R117): a strobe whose edge has not come by the window's close less its width. -/
def execLampSyncMissed (t : Nat) (s : State) : Host.Outcome State Fault Refusal :=
  nextAt t s (fun s =>
    if s.p .LMP_SYNC_MODE ≠ 1 ∨ s.pwr.st = .safe then s
    else match s.windowOpen with
      | none => s
      | some (x, p, plan) =>
        s.inSlot x (fun s => (List.range 4).foldl (fun (s : State) b =>
          if !s.barLit b p || s.strobed b p then s
          else match s.pulseOf b p with
            | some (_, w) =>
              let rise := plan.transferAt - ns w
              if s.now < rise then s
              else ((s.strobe b p rise plan.transferAt).count .LMP_SYNC_MISSED).raise .LAMP_SYNC_MISSED
            | none => s) s))

/-- What converter c delivered in a readout. -/
def videoOf (video : List LaneVideo) (c : Nat) : Option LaneVideo := video.find? (fun v => 9 * v.tile + v.lane == c)

/-- Whether converter c, serving lane place l, delivered what R177 asks for. -/
def State.delivered (s : State) (l p : Nat) (v : Option LaneVideo) : Bool :=
  match v with
  | some v => v.codes.length == s.p .SEN_RO_CLK (6 * genOf s.par l + p) && !v.fifoFault
  | none => false

/-- MISSING judged at the end of readout p (R177 to R181). -/
def State.judgeMissing (s : State) (line p : Nat) (video : List LaneVideo) : State :=
  (List.range 16).foldl (fun (s : State) t =>
    let own := (List.range 8).filter (fun i =>
      s.p .SEN_LANE_EN (8 * t + i) == 1 && (s.lane (9 * t + i)).st == .inService && s.serving (8 * t + i) == 9 * t + i &&
      !s.delivered (8 * t + i) p (videoOf video (9 * t + i)))
    let sp : Bool := match (s.spare t).serves with
      | some i => (s.lane (9 * t + 8)).st == .spareInUse && !s.delivered (8 * t + i) p (videoOf video (9 * t + 8))
      | none => false
    let kinds : List (Nat × Nat) := (if sp then [(8, 3)] else []) ++ own.map (fun i => (i, 3))
    if kinds.isEmpty then s else s.failTile t line p false kinds) s

/-- The buffer of SEN_SNAPSHOT. -/
def State.snapBytes (s : State) (line tickAt l : Nat) (o : LaneOut) : List Byte :=
  let x := s.lane (s.serving l)
  leBytes 8 line ++ leBytes 8 (s.glintAt tickAt) ++ (List.range 4).flatMap (fun i => leBytes 2 (x.codes.getD i 0)) ++
  leBytes 2 (o.black.getD 0) ++ leBytes 2 o.words.length ++ leBytes 4 0 ++ o.words.flatMap (fun w => leBytes 2 w)

/-- Snapshots that wait for this sub-line. -/
def State.snapServe (s : State) (line tickAt l p : Nat) (o : LaneOut) : State :=
  let mine := s.sen.snaps.filter (fun x => 8 * x.tile + x.lane == l && x.phase == p)
  let s := { s with sen := { s.sen with snaps := s.sen.snaps.filter (fun x => !mine.contains x) } }
  mine.foldl (fun (s : State) x => (s.hostWrite x.addr (s.snapBytes line tickAt l o)).done x.cid) s

/-- The lane's part of a sub-line with no data: lost or BLIND. -/
def State.noData (s : State) (l : Nat) (lost blind : Bool) : LaneSub :=
  let n := s.p .SEN_ACTIVE l
  ⟨⟨l / 8, l % 8, s.p .SEN_COL_BASE l, List.replicate n 0, List.replicate n 0⟩, lost, blind,
    laneDetail (l / 8) (l % 8) (s.lane (convOf l)).lastKind⟩

/-- The black of the spare that has just claimed a lane, read in the phase in which the lane's own sub-line is lost (R180). -/
def State.readSpare (s : State) (p : Nat) (plan : PhasePlan) (video : List LaneVideo) (l : Nat) : State :=
  let t := l / 8
  match (s.spare t).claimed, videoOf video (9 * t + 8) with
  | some i, some v =>
    if i ≠ l % 8 then s
    else match s.blackOf l v plan.guardAt plan.transferAt (s.lane (9 * t + 8)).settle with
      | some (b, false) => s.updSpare t (fun y => { y with seeds := upd y.seeds p (fun _ => some b) })
      | _ => s
  | _, _ => s

/-- SEN_SETTLING, raised once. -/
def State.settleSeen (s : State) (l settling : Nat) : State :=
  if settling = 0 ∨ s.sen.settleRaised then s
  else
    let s := s.raise .SEN_SETTLING (laneDetail (l / 8) (l % 8) 0)
    { s with sen := { s.sen with settleRaised := true } }

/-- A lane's words as the slot keeps them: snapshot, correction, counts. -/
def State.keepWords (s : State) (x : Slot) (p l : Nat) (o : LaneOut) : Corrected × State :=
  let s := (s.settleSeen l o.settling).snapServe x.line x.tickAt l p o
  let c := s.correct l p o.words
  let s := s.countSat c
  (c, if c.dflt then (s.countDefault l x.line).skipCols x.line (s.laneCols l) else s)

/-- One lane place at the end of readout p (R170 to R193): its part of the sub-line. -/
def State.readLane (s : State) (x : Slot) (p : Nat) (plan : PhasePlan) (video : List LaneVideo) (l : Nat) : LaneSub × State :=
  let own := s.lane (convOf l)
  let lost := own.st == .replaced && (match own.lostLine with
    | some (k, q) => k == x.line && decide (q ≤ p)
    | none => false)
  if s.blindAt (l / 8) (l % 8) x.line p then (s.noData l false true, s)
  else if lost then
    let s := (s.count .SEN_SUBLINES_LOST).readSpare p plan video l
    (s.noData l true false, s)
  else
    match videoOf video (s.serving l) with
    | none => (s.noData l false false, s)
    | some v =>
      let o := s.lanePixels l p v plan.guardAt plan.transferAt
      let r := o.2.keepWords x p l o.1
      (⟨⟨l / 8, l % 8, r.2.p .SEN_COL_BASE l, r.1.codes, r.1.flags⟩, false, false, laneDetail (l / 8) (l % 8) own.lastKind⟩, r.2)

/-- The end of readout p: MISSING, every lane, the tag, the resample buffer (R36, R177, R237). -/
def State.readPhase (s : State) (x : Slot) (p : Nat) (plan : PhasePlan) (video : List LaneVideo) : State :=
  let s := s.judgeMissing x.line p video
  let out := s.lanesOn.foldl (fun (a : List LaneSub × State) l =>
    let r := a.2.readLane x p plan video l
    (a.1 ++ [r.1], r.2)) ([], s)
  let s := out.2
  let tag := s.takeTag p (s.rawTag p plan.openAt plan.transferAt x.x)
  tag.2.addSubLine ⟨x.line, p, tag.1, out.1⟩

/-- READOUT_END (R36, R48): after the last readout a captured tick that waits starts its slot. -/
def execReadoutEnd (t p : Nat) (video : List LaneVideo) (s : State) : Host.Outcome State Fault Refusal :=
  nextAt t s (fun s =>
    match s.seq.slot with
    | none => s
    | some x =>
      match x.plans[p]? with
      | none => s
      | some plan =>
        if p ≠ x.readsDone ∨ x.guardsDone ≤ p ∨ s.now < plan.endAt then s
        else
          let s := s.inSlot x (fun s => s.readPhase x p plan video)
          let s := s.updSeq (fun q => { q with slot := some { x with readsDone := p + 1 } })
          match s.seq.nextSlot with
          | some h =>
            if p + 1 < x.plans.length then s else (s.updSeq (fun q => { q with nextSlot := none })).startSlot h plan.endAt true
          | none => s)

/-! ### HOLD, IDLE, deferred ticks, groups -/

/-- DEFERRED_TICK_SERVE (R51). -/
def execDeferredTickServe (t : Nat) (s : State) : Host.Outcome State Fault Refusal := nextAt t s (fun s => s.serveDeferred)

/-- HOLD_ENTER (R49). -/
def execHoldEnter (t : Nat) (s : State) : Host.Outcome State Fault Refusal := nextAt t s (fun s => s.enterHold)

/-- FLUSH_READ (R50, R161, R176). -/
def execFlushRead (t : Nat) (tests : List LaneTest) (s : State) : Host.Outcome State Fault Refusal := nextAt t s (fun s => s.flushRead tests)

/-- IDLE_ENTER (R52, R57). -/
def execIdleEnter (t : Nat) (s : State) : Host.Outcome State Fault Refusal := nextAt t s (fun s => s.enterIdle)

/-- GROUP_TIMEOUT (R62). -/
def execGroupTimeout (t ring : Nat) (s : State) : Host.Outcome State Fault Refusal :=
  nextAt t s (fun s =>
    match s.groupOn ring with
    | some g => if s.now < g.begun + ms (s.p .SEQ_GROUP_TIMEOUT) then s else (s.discardGroup g).raise .GROUP_TIMEOUT
    | none => s)

/-- IMAGE_LINE_EMIT (R241). -/
def execImageLineEmit (t : Nat) (s : State) : Host.Outcome State Fault Refusal := nextAt t s (fun s => s.emitLine)

/-- LINE_COMPARE (R295). -/
def execLineCompare (t : Nat) (s : State) : Host.Outcome State Fault Refusal := nextAt t s (fun s => s.compareLine)

/-- DRIFT_READY (R298). -/
def execDriftReady (t : Nat) (s : State) : Host.Outcome State Fault Refusal := nextAt t s (fun s => s.driftReady)

/-- CMP_MARK_MISSING (R275). -/
def execCmpMarkMissing (t : Nat) (s : State) : Host.Outcome State Fault Refusal :=
  nextAt t s (fun s => if s.markMissed then s.markMissing.armKnown else s)

end Sys2Proof.Machine
end

