-- ==== Sys2Proof/Machine/Cap.lean ====
section
/-! DEFINITION. The commands and events of the capture block (chapter 7, group 0x05). -/

namespace Sys2Proof.Machine

/-! ### Runs -/

/-- Whether a RUN_OPEN waits for its commit, as a group's member. -/
def State.openWaits (s : State) : Bool :=
  s.seq.pends.any (fun p => p.acts.any (fun a => match a with
    | .runOpen _ => true
    | _ => false))

/-- RUN_OPEN. -/
def runOpenDef : CmdDef :=
  actDef 0x0501 1 [0] (.fixed .idle)
    (fun s _ _ =>
      let m := s.shadow
      failIf (parGet m .SEQ_TICK_SRC 0 == 0 && parGet m .CAP_GRID_PITCH 0 == 0) 0x11 0xFE ++
      failIf (s.cap.run != RunSt.closing && (s.cap.run == RunSt.open_ || s.pwr.st != .ready || (s.member && s.masterOpen))) 0x13 ++
      failIf (s.cap.run == RunSt.closing || s.pos.tb.load.isSome || s.calRuns) 0x14 ++ failIf (!s.covFits) 0x30)
    (fun _ c _ => [.runOpen (c.w 0)])

/-- RUN_OPEN (R267). -/
def execRunOpen (t : Nat) (c : Cmd) (s : State) : Host.Outcome State Fault Refusal := .next (runHost runOpenDef t c s)

/-- RUN_CLOSE. -/
def runCloseDef : CmdDef :=
  actDef 0x0502 0 [0] (.among [.tick, .idle]) (fun s _ _ => failIf (s.cap.run != RunSt.open_) 0x13) (fun _ _ _ => [.runClose])

/-- RUN_CLOSE (R268). -/
def execRunClose (t : Nat) (c : Cmd) (s : State) : Host.Outcome State Fault Refusal := .next (runHost runCloseDef t c s)

/-- The closing run ends once its last readout has ended (R268): held lines, bands, the map, the reply. -/
def State.runClosed (s : State) : State :=
  match s.cap.closing with
  | none => s
  | some x =>
    if !s.slotFree || s.seq.nextSlot.isSome || s.seq.deferred.isSome then s
    else
      let s := (((s.emitAll.compareAll).bandsClose).gapSealed).episodeEntry
      let s := s.sealMap
      let m := s.cap.cov.sealedMap.getD ⟨s.cap.cov.area, 0, 0, 0⟩
      let s := s.updCap (fun c => { c with run := .closed, closing := none })
      let s := s.updSeq (fun q => { q with slot := none, periodDue := none, idle := false, hold := false })
      let s := s.updPwr (fun p => { p with st := if p.st = .safe then .safe else .ready })
      let s := s.replyAt x.cid 0 x.flags (Word.ofNat64 x.line ++ Word.ofNat64 (s.bar2Of (s.covBase m.area)) ++
        [w32 m.length, w32 m.flags] ++ Word.ofNat64 m.entries) x.line
      let s := ((s.raise .CAP_RUN_CLOSED).imgSettle).testAfterRun
      s.commitIdle

/-- CAP_RUN_CLOSED (R268). -/
def execCapRunClosed (t : Nat) (s : State) : Host.Outcome State Fault Refusal := nextAt t s State.runClosed

/-! ### Jobs -/

/-- The point a JOB_ARM is armed at: its group's, or the header's. -/
def State.armPoint (s : State) (c : Cmd) : Option Pt :=
  match s.groupOn c.ring with
  | some g => some g.point
  | none => ptOf c.commit

/-- Whether a reference slot is empty with no check of it running (R252). -/
def State.refEmpty (s : State) (slot : Nat) : Bool :=
  !s.cmp.resident.contains slot && !s.cmp.ready.contains slot && s.cmp.checks.all (fun x => x.slot != slot)

/-- JOB_ARM's refusals (R252). -/
def State.armFails (s : State) (c : Cmd) : List (Nat × Nat) :=
  let parts := c.f 1 4 0
  let slot := c.f 1 13 8
  let tiles := if natBit parts 2 then c.f 2 15 0 else 0
  let bars := if natBit parts 3 then c.f 3 3 0 else 0
  let learn := c.b 1 16
  failIf (!s.member && s.armPoint c != some .rept && s.armPoint c != some .position) 0x11 0xFF ++
  failIf (learn && !natBit parts 0) 0x11 1 ++ failIf (natBit parts 2 && tiles == 0) 0x11 2 ++ failIf (natBit parts 3 && bars == 0) 0x11 3 ++
  failIf (s.cap.run != RunSt.open_ || (!s.member && s.armPoint c == some .rept && s.p .CMP_REPEAT_MODE == 0) ||
    (maskList 16 tiles).any (fun t => !(s.tileCor t).pend.loaded && !s.loadRuns (2 ^ t)) ||
    (natBit parts 0 && !learn && s.refEmpty slot) || (natBit parts 0 && learn && !s.cmp.ready.contains slot) ||
    (maskList 4 bars).any (fun b => s.p .LMP_MODE b == 0)) 0x13 ++
  failIf (s.cap.arm.isSome || (maskList 4 bars).any (fun b => s.applyPending b) || s.swapWaits tiles) 0x14

/-- JOB_ARM's effect: it is armed, the uploads begin; as a group's member it is held until the group arrives; on a member whose ARM frame
    has come already every part is late (R556). -/
def State.armJob (s : State) (cid : Nat) (c : Cmd) : State :=
  let parts := c.f 1 4 0
  let bars := if natBit parts 3 then c.f 3 3 0 else 0
  let gid := (s.groupOn c.ring).map Group.gid
  let arg := match s.groupOn c.ring with
    | some g => g.arg
    | none => c.arg
  let a : JobArm := ⟨cid, c.w 0, parts, c.f 1 13 8, c.b 1 16, c.f 1 23 20 + 1, if natBit parts 2 then c.f 2 15 0 else 0, bars,
    (s.armPoint c).getD .rept, arg, s.now, 0, none, gid, gid.isSome⟩
  let s := s.accept cid
  let s := (maskList 4 bars).foldl (fun (s : State) b => if s.native b then s.startUpload b else s) s
  let early := s.member && (match s.ask.unmatched with
    | some u => u.2 == a.job
    | none => false)
  if early then
    ((s.updAsk (fun x => { x with unmatched := none })).jobSwitch { a with gid := none } s.seq.lineIndex 0
      parts).noteResident
  else if a.held then s.updCap (fun x => { x with arm := some a })
  else s.armArrives a

/-- JOB_ARM. -/
def jobArmDef : CmdDef where
  op := 0x0503
  need := fun _ => 4
  fails := fun s c _ => s.armFails c
  run := fun s cid c _ => s.armJob cid c

/-- JOB_ARM (R251 to R257, R555, R556). -/
def execJobArm (t : Nat) (c : Cmd) (s : State) : Host.Outcome State Fault Refusal := .next (runHost jobArmDef t c s)

/-- JOB_DISARM. -/
def jobDisarmDef : CmdDef where
  op := 0x0504
  points := .immediate
  fails := fun s _ _ => failIf s.cap.arm.isNone 0x13
  run := fun s cid _ _ => ((s.disarm).groupsDone s.seq.lineIndex).done cid

/-- JOB_DISARM (R258). -/
def execJobDisarm (t : Nat) (c : Cmd) (s : State) : Host.Outcome State Fault Refusal := .next (runHost jobDisarmDef t c s)

/-- CAP_JOB_PART_ARRIVED: parts that have become resident are noted; they switch at a tick (R254). -/
def execCapJobPartArrived (t : Nat) (s : State) : Host.Outcome State Fault Refusal := nextAt t s State.noteResident

/-! ### Parameters and status -/

/-- The fields of CAP_SET. -/
def capSetFields (_ : Cmd) : List SetField :=
  [⟨1, 0, .CAP_GRID_PITCH, 0⟩, ⟨2, 0, .CAP_ORIGIN, 0⟩, ⟨3, 0, .CAP_ORIGIN_MODE, 0⟩, ⟨3, 1, .CAP_RESAMPLE, 0⟩, ⟨3, 2, .CAP_COV_LIVE, 0⟩,
   ⟨4, 0, .CAP_AXIS_SCALE, 0⟩, ⟨5, 0, .CAP_COV_SIZE, 0⟩]

/-- CAP_SET. -/
def capSetDef : CmdDef := setDef 0x0505 5 [0] .header maskAt capSetFields noFails noActs

/-- CAP_SET (R233, R269). -/
def execCapSet (t : Nat) (c : Cmd) (s : State) : Host.Outcome State Fault Refusal := .next (runHost capSetDef t c s)

/-- The words of CAP_STATUS. -/
def State.capWords (s : State) : List Word :=
  [w32 (s.cap.run.code + 256 * (match s.cap.late with
    | some l => l.await
    | none => 0)), w32 s.cap.runId, w32 s.cap.jobId] ++
  Word.ofNat64 (ofSigned 64 (s.target (s.cap.high + 1))) ++ Word.ofNat64 s.cap.cov.written ++ [w32 s.cap.cov.opens.length]

/-- CAP_STATUS. -/
def execCapStatus (t : Nat) (c : Cmd) (s : State) : Host.Outcome State Fault Refusal :=
  .next (runHost (statusDef 0x0506 [0] 0 noFails (fun s _ => s.capWords)) t c s)

/-- CAP_COV_READ. -/
def capCovReadDef : CmdDef where
  op := 0x0507
  need := fun _ => 4
  fails := fun s c _ => failIf (c.w64 1 % 64 != 0) 0x11 1 ++ failIf (if c.b 0 0 then s.cap.cov.sealedMap.isNone else !s.cap.cov.present) 0x13
  run := fun s cid _ _ => s.defer cid

/-- CAP_COV_READ (R260). -/
def execCapCovRead (t : Nat) (c : Cmd) (s : State) : Host.Outcome State Fault Refusal := .next (runHost capCovReadDef t c s)

/-- The copy of CAP_COV_READ to an address: the present map as header and closed entries, or the last sealed map whole. -/
def State.covRead (s : State) (cid : Nat) (which : Bool) (addr size : Nat) : State :=
  let bytes := if which then (match s.cap.cov.sealedMap with
      | some m => Sparse.bytes s.dram (s.covBase m.area) m.length
      | none => [])
    else if !s.cap.cov.present then []
    else s.covHeader (s.covFlags false) 0 s.cap.cov.written ++
      Sparse.bytes s.dram (s.covBase s.cap.cov.area + 96) (32 * s.cap.cov.written)
  let out := bytes.take size
  (s.hostWrite addr out).done cid [w32 out.length]

/-- CAP_COUNTERS_CLEAR. -/
def execCapCountersClear (t : Nat) (c : Cmd) (s : State) : Host.Outcome State Fault Refusal :=
  .next (runHost (clearDef 0x0508 5) t c s)

end Sys2Proof.Machine
end

