-- ==== Sys2Proof/Machine/Hq.lean ====
section
/-! DEFINITION. The commands and events of the queue engine, the arena and the history (chapter 9, group 0x07). -/

namespace Sys2Proof.Machine

/-- The history manager and the queue engine changed. -/
def State.updHq (s : State) (f : HqSt → HqSt) : State := { s with hq := f s.hq }

/-! ### Queues -/

/-- A queue set up (R325). -/
def State.queueSetup (s : State) (c : Cmd) : State :=
  s.updQueue (c.f 0 15 0) (fun x => { x with
    base := c.w64 1, size := c.f 3 3 0, cut := c.f 3 15 8, autogrant := c.b 3 16, gmac := c.b 3 17, stale := c.f 4 19 0,
    cons := 0, credit := 0, prod := 0, pub := 0, recPub := 0, split := false, seq := 1, st := .enabled, open_ := [], spans := [],
    staleSince := none, staleFired := false })

/-- QUEUE_SETUP. -/
def queueSetupDef : CmdDef where
  op := 0x0701
  points := .immediate
  need := fun _ => 5
  fails := fun s c _ => failIf (c.w64 1 % 4096 != 0) 0x11 1 ++ failIf (decide (c.f 3 3 0 < 4)) 0x11 3 ++
    failIf (c.f 4 19 0 != 0 && (decide (c.f 4 19 0 < 10) || decide (1000000 < c.f 4 19 0))) 0x11 4 ++
    failIf ((s.queue (c.f 0 15 0)).st != .disabled) 0x13
  run := fun s cid c _ => (s.queueSetup c).doneNow cid

/-- QUEUE_SETUP (R325). -/
def execQueueSetup (t : Nat) (c : Cmd) (s : State) : Host.Outcome State Fault Refusal := .next (runHost queueSetupDef t c s)

/-- QUEUE_DISABLE. -/
def queueDisableDef : CmdDef where
  op := 0x0702
  points := .immediate
  need := fun _ => 1
  fails := fun s c _ => failIf ((s.queue (c.f 0 15 0)).st == .disabled) 0x13
  run := fun s cid c _ =>
    let r := s.flushQueue (c.f 0 15 0)
    (r.2.updQueue (c.f 0 15 0) (fun x => { x with st := .disabled })).doneNow cid [w32 r.1]

/-- QUEUE_DISABLE (R349). -/
def execQueueDisable (t : Nat) (c : Cmd) (s : State) : Host.Outcome State Fault Refusal := .next (runHost queueDisableDef t c s)

/-- QUEUE_FLUSH. -/
def queueFlushDef : CmdDef where
  op := 0x0703
  points := .immediate
  need := fun _ => 1
  fails := fun s c _ => failIf ((s.queue (c.f 0 15 0)).st == .disabled || (s.queue (c.f 0 15 0)).st == .faulted) 0x13
  run := fun s cid c _ =>
    let r := s.flushQueue (c.f 0 15 0)
    r.2.doneNow cid [w32 r.1]

/-- QUEUE_FLUSH (R348). -/
def execQueueFlush (t : Nat) (c : Cmd) (s : State) : Host.Outcome State Fault Refusal := .next (runHost queueFlushDef t c s)

/-- The words of QUEUE_STATUS. -/
def Queue.words (q : Queue) : List Word :=
  [w32 (q.st.code + 256 * q.size), w32 (q.prod + 65536 * q.pub), w32 (q.cons + 65536 * q.credit), w32 q.seq, w32 q.drops]

/-- QUEUE_STATUS. -/
def execQueueStatus (t : Nat) (c : Cmd) (s : State) : Host.Outcome State Fault Refusal :=
  .next (runHost (statusDef 0x0704 [0] 1 noFails (fun s c => (s.queue (c.f 0 15 0)).words)) t c s)

/-- The fields of STREAM_SET. -/
def streamSetFields (c : Cmd) : List SetField :=
  let q := c.f 0 5 0
  [⟨1, 0, .HQ_STR_EN, q⟩, ⟨1, 1, .HQ_STR_FMT, q⟩, ⟨1, 2, .HQ_STR_FLAGS, q⟩, ⟨1, 8, .HQ_STR_PH, q⟩, ⟨2, 0, .HQ_STR_COL0, q⟩,
   ⟨3, 0, .HQ_STR_COL1, q⟩, ⟨3, 20, .HQ_STR_LINES, q⟩]

/-- BAD_PARAM for a first column outside the device, once it has columns (R369). -/
def State.colFails (s : State) (c : Cmd) : List (Nat × Nat) :=
  let v := { s with par := s.shadow }
  failIf (maskFrom7 c 2 && !v.lanesOn.isEmpty && (decide (c.f 2 19 0 < v.devCols.1) || decide (v.devCols.2 < c.f 2 19 0))) 0x11 2

/-- STREAM_SET. -/
def streamSetDef : CmdDef :=
  setDef 0x0705 3 [0] loadPoints maskFrom7 streamSetFields (fun s c _ => s.colFails c) (fun _ c _ => [.streamNeed (c.f 0 5 0)])

/-- STREAM_SET (R340, R343). -/
def execStreamSet (t : Nat) (c : Cmd) (s : State) : Host.Outcome State Fault Refusal := .next (runHost streamSetDef t c s)

/-- HQ_SET. -/
def hqSetDef : CmdDef := setDef 0x0706 0 [0] .immediate (fun _ n => n == 0) (fun _ => [⟨0, 0, .HQ_WAIT_LIMIT, 0⟩]) noFails noActs

/-- HQ_SET (R345). -/
def execHqSet (t : Nat) (c : Cmd) (s : State) : Host.Outcome State Fault Refusal := .next (runHost hqSetDef t c s)

/-- HQ_STALE, where the queue has stood for its stale time (R347). -/
def State.queueStale (s : State) (q : Nat) : State :=
  let x := s.queue q
  match x.staleSince with
  | none => s
  | some since =>
    if x.stale = 0 ∨ x.staleFired ∨ x.isEmpty ∨ s.now < since + us x.stale then s
    else (s.updQueue q (fun x => { x with staleBit := true, staleFired := true })).raise .HQ_STALE q

/-- HQ_STALE (R347). -/
def execHqStale (t : Nat) (q : Nat) (s : State) : Host.Outcome State Fault Refusal := nextAt t s (fun s => s.queueStale q)

/-! ### The arena and BAR2 -/

/-- The fields of ARENA_SET. -/
def arenaSetFields (_ : Cmd) : List SetField :=
  [⟨1, 0, .HIS_REF_SLOTS, 0⟩, ⟨2, 0, .HIS_REF_SLOT_SIZE, 0⟩, ⟨3, 0, .HIS_SHD_SLOTS, 0⟩, ⟨4, 0, .HIS_SPILL, 0⟩, ⟨5, 0, .HIS_SCRATCH, 0⟩,
   ⟨6, 0, .HIS_HIST, 0⟩]

/-- ARENA_SET's refusals (R355). -/
def State.arenaFails (s : State) (ctx : Ctx) : List (Nat × Nat) :=
  let v := { s with par := parSets s.shadow ctx.writes }
  failIf (s.pwr.st != .ready || s.cap.run != RunSt.closed) 0x13 ++
  failIf (!s.hq.replays.isEmpty || !s.cor.loads.isEmpty || s.setFlashBusy || !s.cmp.checks.isEmpty) 0x14 ++
  failIf (decide (s.installed < arenaUnit * v.arenaSizes.foldl (fun a b => a + b) 0)) 0x30

/-- ARENA_SET. -/
def arenaSetDef : CmdDef := setDef 0x0707 6 [0] (.fixed .idle) maskAt arenaSetFields (fun s _ ctx => s.arenaFails ctx) noActs

/-- ARENA_SET (R355). -/
def execArenaSet (t : Nat) (c : Cmd) (s : State) : Host.Outcome State Fault Refusal := .next (runHost arenaSetDef t c s)

/-- The words of ARENA_STATUS. -/
def State.arenaWords (s : State) : List Word :=
  (List.range 5).flatMap (fun i => [w32 (s.arenaBase i), w32 (s.arenaSizes.getD i 0)]) ++ [w32 (s.pwr.channels * s.pwr.gib)] ++
  Word.ofNat64 s.histEnds.1 ++ Word.ofNat64 s.histEnds.2 ++ [w32 s.hq.replays.length]

/-- ARENA_STATUS. -/
def execArenaStatus (t : Nat) (c : Cmd) (s : State) : Host.Outcome State Fault Refusal :=
  .next (runHost (statusDef 0x0708 [0] 0 noFails (fun s _ => s.arenaWords)) t c s)

/-- BAR2_MAP. -/
def bar2MapDef : CmdDef :=
  setDef 0x070B 0 [0] .immediate (fun _ n => n == 0) (fun _ => [⟨0, 0, .HIS_BAR2_BASE, 0⟩])
    (fun s c _ => failIf (decide (s.pwr.channels * s.pwr.gib ≤ c.f 0 7 0)) 0x11 0) noActs

/-- BAR2_MAP (R368). -/
def execBar2Map (t : Nat) (c : Cmd) (s : State) : Host.Outcome State Fault Refusal := .next (runHost bar2MapDef t c s)

/-! ### Replays -/

/-- The extended value of a 32-bit count nearest a position (R235, R362), 1/256 count. -/
def resolveAt (pos : Int) (q : Nat) : Int :=
  let cur := pos / 256
  256 * (cur + toSigned 32 (ofSigned 32 ((q : Int) - cur)))

/-- The retained lines of the run a replay addresses (R362). -/
def State.runLines (s : State) : List HistLine := s.hq.hist.filter (fun h => h.run == s.cap.runCount)

/-- The first retained line of the run, where lines of it may have been retired before it: none while an earlier run's lines are still
    retained. -/
def State.firstKept (s : State) : Option HistLine :=
  match s.hq.hist with
  | h :: _ => if h.run = s.cap.runCount then some h else none
  | [] => none

/-- The two positions of a replay by counts, lower first (R362). -/
def State.replaySpan (s : State) (c : Cmd) : Int × Int :=
  let at_ := if s.cap.run = .closed then s.hq.closeX else s.extNow
  let a := resolveAt at_ (c.w 1)
  let b := resolveAt at_ (c.w 3)
  (min a b, max a b)

/-- The lines of a replay's range, and how many of its lines are older than the oldest retained (R362, R363). By positions on ticks that
    have no grid the positions of lines no longer retained are not known, so their number is free. -/
def State.replayRange (s : State) (c : Cmd) : List HistLine × Nat × State :=
  if !c.b 0 1 then
    let lo := c.w64 1
    let hi := c.w64 3
    ((s.runLines.filter (fun h => decide (lo ≤ h.line) && decide (h.line ≤ hi))), (match s.firstKept with
      | some h => min (hi + 1) h.line - lo
      | none => 0), s)
  else
    let x := s.replaySpan c
    let hs := s.runLines.filter (fun h => decide (x.1 ≤ h.x) && decide (h.x ≤ x.2))
    match s.firstKept with
    | none => (hs, 0, s)
    | some h =>
      if h.x ≤ x.1 then (hs, 0, s)
      else if s.p .SEQ_TICK_SRC = 0 then
        let pitch : Int := s.p .CAP_GRID_PITCH
        let below := fun (y : Int) => if pitch = 0 then 0 else (clampInt 0 h.line ((y - s.cap.g0) / pitch + 1)).toNat
        (hs, below (min x.2 (h.x - 1)) - below (x.1 - 1), s)
      else
        let f := s.takeFree
        (hs, f.1 % (h.line + 1), f.2)

/-- HIST_REPLAY's refusals. -/
def State.replayFails (s : State) (c : Cmd) : List (Nat × Nat) :=
  let cols := s.devCols
  failIf (!c.b 0 1 && decide (c.w64 3 < c.w64 1)) 0x11 1 ++
  (if c.b 0 0 then [] else
    failIf (decide (c.f 5 19 0 < cols.1) || decide (cols.2 < c.f 5 19 0) || s.lanesOn.isEmpty) 0x11 5 ++
    failIf (decide (c.f 6 19 0 < c.f 5 19 0) || decide (cols.2 < c.f 6 19 0)) 0x11 6 ++ failIf (c.w64 7 % 64 != 0) 0x11 7) ++
  failIf (s.cap.runCount == 0 || s.p .HIS_HIST == 0) 0x13 ++ failIf (decide (8 ≤ s.hq.replays.length)) 0x14

/-- The pieces of the data ring from one line's record to another's: BAR2 offset and length of each (R366). -/
def State.replayPieces (s : State) (first last : HistLine) : List (Nat × Nat) :=
  let base := s.histData.1
  let n := s.histData.2
  let at_ := fun (u : Nat) => s.bar2Of (base + 64 * u)
  let stop := last.off + last.units
  if first.off < stop ∧ stop ≤ n then [(at_ first.off, 64 * (stop - first.off))]
  else if stop % n = 0 then [(at_ first.off, 64 * (n - first.off))]
  else [(at_ first.off, 64 * (n - first.off)), (at_ 0, 64 * (stop % n))]

/-- HIST_REPLAY's effect (R362 to R366). -/
def State.replayStart (s : State) (cid : Nat) (c : Cmd) : State :=
  let r := s.replayRange c
  let s := r.2.2
  let hs := r.1
  let holes := (hs.filter (fun h => h.hole)).length
  let given := hs.filter (fun h => !h.hole)
  let x : Replay := ⟨cid, s.hq.nextHandle, c.b 0 0, c.f 0 2 2, given.map (fun h => h.line), s.cap.runCount, if c.b 0 0 then 0 else r.2.1, holes,
    c.f 5 19 0, c.f 6 19 0, c.w64 7, c.w 9⟩
  let s := s.updHq (fun h => { h with replays := h.replays ++ [x], nextHandle := (h.nextHandle + 1) % 2 ^ 32 })
  if !x.expose then s.defer cid
  else
    let pieces := match given.head?, given.getLast? with
      | some a, some b => s.replayPieces a b
      | _, _ => []
    let p0 := pieces.getD 0 (0, 0)
    let p1 := pieces.getD 1 (0, 0)
    s.reply cid (if r.2.1 = 0 then 0 else 3) 0 (Word.ofNat64 ((given.head?).elim 0 (fun h => h.line)) ++
      [w32 given.length, w32 r.2.1, w32 holes, w32 x.handle] ++ Word.ofNat64 p0.1 ++ [w32 p0.2] ++ Word.ofNat64 p1.1 ++ [w32 p1.2])

/-- HIST_REPLAY. -/
def histReplayDef : CmdDef where
  op := 0x0709
  need := fun c => if c.b 0 0 then 5 else 10
  fails := fun s c _ => s.replayFails c
  run := fun s cid c _ => s.replayStart cid c

/-- HIST_REPLAY (R362 to R367). -/
def execHistReplay (t : Nat) (c : Cmd) (s : State) : Host.Outcome State Fault Refusal := .next (runHost histReplayDef t c s)

/-- The exposed replay of a handle. -/
def State.exposed (s : State) (handle : Nat) : Option Replay := s.hq.replays.find? (fun r => r.expose && r.handle == handle)

/-- HIST_RELEASE. -/
def histReleaseDef : CmdDef where
  op := 0x070A
  need := fun _ => 1
  fails := fun s c _ => failIf (s.exposed (c.w 0)).isNone 0x11 0
  run := fun s cid c _ =>
    match s.exposed (c.w 0) with
    | none => s
    | some r =>
      let s := s.updHq (fun h => { h with replays := h.replays.filter (fun x => x.handle != r.handle) })
      s.reply cid (if r.lost = 0 then 0 else 3) 0 [w32 r.lost]

/-- HIST_RELEASE (R366). -/
def execHistRelease (t : Nat) (c : Cmd) (s : State) : Host.Outcome State Fault Refusal := .next (runHost histReleaseDef t c s)

/-- The oldest copy ends, unless the thermal policy holds replay copies (R528, R529). -/
def State.replayCopied (s : State) : State :=
  match s.hq.replays.find? (fun r => !r.expose) with
  | some r => if s.shed then s else s.copyReplay r
  | none => s

/-- REPLAY_COPY_DONE (R364). -/
def execReplayCopyDone (t : Nat) (s : State) : Host.Outcome State Fault Refusal := nextAt t s State.replayCopied

/-- The counters of the group cleared; bit 31 clears the drops of every queue too. -/
def State.clearQueueCounters (s : State) (mask : Nat) : State :=
  let s := s.clearCounters 7 mask
  if natBit mask 31 then (s.hq.queues.map (fun e => e.1)).foldl (fun (s : State) q => s.updQueue q (fun x => { x with drops := 0 })) s else s

/-- HQ_COUNTERS_CLEAR. -/
def hqCountersClearDef : CmdDef where
  op := 0x070C
  points := .immediate
  need := fun _ => 1
  run := fun s cid c _ => (s.clearQueueCounters (c.w 0)).done cid

/-- HQ_COUNTERS_CLEAR (R371). -/
def execHqCountersClear (t : Nat) (c : Cmd) (s : State) : Host.Outcome State Fault Refusal := .next (runHost hqCountersClearDef t c s)

end Sys2Proof.Machine
end

