-- ==== Sys2Proof/Machine/Cmp.lean ====
section
/-! DEFINITION. The commands and events of Mirror and Etcher (chapter 8, group 0x06). -/

namespace Sys2Proof.Machine

/-- The fields of CMP_SET. -/
def cmpSetFields (_ : Cmd) : List SetField :=
  ([⟨1, 0, .CMP_ENABLE, 0⟩, ⟨1, 1, .CMP_REPEAT_MODE, 0⟩, ⟨1, 4, .CMP_MARK_CH, 0⟩, ⟨1, 8, .CMP_FLAG_MASK, 0⟩, ⟨1, 12, .CMP_EDGE_RADIUS, 0⟩,
    ⟨2, 0, .CMP_REPEAT_LINES, 0⟩, ⟨3, 0, .CMP_MARK_WIN, 0⟩, ⟨3, 8, .CMP_MARK_MISS_MAX, 0⟩, ⟨3, 16, .CMP_X0, 0⟩] : List SetField) ++
  ([⟨4, 0, .CMP_SEARCH_X, 0⟩, ⟨4, 4, .CMP_SEARCH_Y, 0⟩, ⟨4, 8, .CMP_SAD_MAX, 0⟩, ⟨4, 16, .CMP_CURV_MIN, 0⟩, ⟨4, 24, .CMP_ROW_MIN, 0⟩,
    ⟨5, 0, .CMP_OUTLIER, 0⟩, ⟨5, 8, .CMP_BLEND, 0⟩, ⟨5, 16, .CMP_SEAM_WAIT, 0⟩, ⟨6, 0, .CMP_LEARN_K, 0⟩, ⟨6, 8, .CMP_LEARN_FLOOR, 0⟩,
    ⟨6, 16, .CMP_EDGE_GRAD, 0⟩, ⟨6, 24, .CMP_EDGE_ADD, 0⟩, ⟨7, 0, .CMP_SUMMARY_QUEUE, 0⟩] : List SetField) ++
  (List.range 9).flatMap (fun i =>
    ([⟨8 + i, 0, .CMP_M, 2 * i⟩, ⟨8 + i, 16, .CMP_M, 2 * i + 1⟩] : List SetField))

/-- Whether a store's repeat mode can serve (R272): a mark channel that stamps the position source, and no comparison without repeats. -/
def repeatFits (m : Sparse Nat) (member : Bool) : Bool :=
  let ch := parGet m .CMP_MARK_CH 0
  (parGet m .CMP_REPEAT_MODE 0 != 1 || member ||
    (parGet m .TDC_MODE ch == 1 && parGet m .TDC_ENC ch == parGet m .SEQ_POS_SRC 0)) &&
  !(parGet m .CMP_ENABLE 0 == 1 && parGet m .CMP_REPEAT_MODE 0 == 0)

/-- CMP_SET's refusals: STAGE ignores the commit point (R59, R56, R235, R272). -/
def State.cmpFails (s : State) (c : Cmd) (ctx : Ctx) : List (Nat × Nat) :=
  let p := s.armPoint c
  let m := if c.b 0 31 then parSets (parSets s.shadow s.cmp.staged) ctx.writes else parSets s.shadow ctx.writes
  (if c.b 0 31 then [] else
    failIf (p != some .rept && p != some .position && p != some .idle) 0x11 0xFF ++
    failIf ((p == some .rept && s.p .CMP_REPEAT_MODE == 0) ||
      (p == some .position && s.cap.run != RunSt.open_ && (s.groupOn c.ring).isNone)) 0x13) ++
  failIf (!repeatFits m s.member) 0x11 0xFE

/-- CMP_SET: its values are held for JOB_ARM, or commit at the point named. -/
def State.cmpSet (s : State) (cid : Nat) (c : Cmd) (ctx : Ctx) : State :=
  if c.b 0 31 then
    (s.updCmp (fun x => { x with
      staged := x.staged.filter (fun w => !ctx.writes.any (fun v => v.same w)) ++ ctx.writes })).done cid
  else s.submit cid { ctx with point := (s.armPoint c).getD .idle }

/-- CMP_SET. -/
def cmpSetDef : CmdDef where
  op := 0x0601
  need := fun c => topWord (maskAt c) 16 + 1
  writes := fun _ c => setWrites c (cmpSetFields c) (maskAt c)
  fails := fun s c ctx => s.cmpFails c ctx
  run := fun s cid c ctx => s.cmpSet cid c ctx

/-- CMP_SET (R272, R318). -/
def execCmpSet (t : Nat) (c : Cmd) (s : State) : Host.Outcome State Fault Refusal := .next (runHost cmpSetDef t c s)

/-- CMP_REF_CHECK. -/
def cmpRefCheckDef : CmdDef where
  op := 0x0602
  need := fun _ => 1
  fails := fun s c _ => failIf (decide (s.p .HIS_REF_SLOTS ≤ c.f 0 5 0)) 0x11 0 ++ failIf (s.slotHeld (c.f 0 5 0)) 0x14
  run := fun s cid c _ => (s.defer cid).updCmp (fun x => { x with checks := x.checks ++ [⟨cid, c.f 0 5 0, c.b 0 8⟩] })

/-- CMP_REF_CHECK (R284). -/
def execCmpRefCheck (t : Nat) (c : Cmd) (s : State) : Host.Outcome State Fault Refusal := .next (runHost cmpRefCheckDef t c s)

/-- The oldest reference check ends, unless the thermal policy holds it (R284, R529). -/
def State.refCheckEnds (s : State) : State :=
  match s.cmp.checks with
  | [] => s
  | x :: rest =>
    if s.shed then s else ((s.updCmp (fun c => { c with checks := rest })).refChecked x).noteResident

/-- REF_CHECK_DONE (R284). -/
def execRefCheckDone (t : Nat) (s : State) : Host.Outcome State Fault Refusal := nextAt t s State.refCheckEnds

/-- Whether a JOB_ARM that names the Hatch table waits (R302). -/
def State.hatchHeld (s : State) : Bool :=
  match s.cap.arm with
  | some a => natBit a.parts 1
  | none => false

/-- CMP_HATCH_LOAD; one load at a time. -/
def cmpHatchLoadDef : CmdDef where
  op := 0x0603
  need := fun _ => 2
  fails := fun s c _ => failIf (c.w64 0 % 64 != 0) 0x11 0 ++ failIf (s.hatchHeld || s.cmp.hatchLoad.isSome) 0x14
  run := fun s cid c _ => (s.defer cid).updCmp (fun x => { x with hatchLoad := some ⟨cid, c.w64 0⟩ })

/-- CMP_HATCH_LOAD (R301, R302). -/
def execCmpHatchLoad (t : Nat) (c : Cmd) (s : State) : Host.Outcome State Fault Refusal := .next (runHost cmpHatchLoadDef t c s)

/-- The Hatch load ends (R301). -/
def State.hatchLoaded (s : State) : State :=
  match s.cmp.hatchLoad with
  | none => s
  | some x =>
    let s := s.updCmp (fun c => { c with hatchLoad := none })
    match s.readHatch x.addr with
    | .error ws => s.reply x.cid 0x11 0xFE (ws.map w32)
    | .ok tbl =>
      let s := s.updCmp (fun c => { c with hatchPend := some tbl })
      let most := (((List.range 4).filter s.sliceUsed).map (fun i => mostRects tbl (s.sliceCols i))).foldl max 0
      (s.done x.cid [w32 (tbl.filter HatchEnt.on).length, w32 most]).noteResident

/-- HATCH_LOAD_DONE (R301). -/
def execHatchLoadDone (t : Nat) (s : State) : Host.Outcome State Fault Refusal := nextAt t s State.hatchLoaded

/-- The words of CMP_STATUS. -/
def State.cmpWords (s : State) : List Word :=
  let k := s.cmp.track
  let r := s.cmp.rep
  [w32 (s.cmpState + 256 * s.cmp.refSlot + 65536 * natField s.pwr.domains 43 40),
   w32 ((r.map (fun x => x.number)).getD 0), w32 (ofSigned 16 s.cmp.xc), w32 k.sy] ++
  Word.ofNat64 ((r.map (fun x => x.line)).getD 0) ++ [w32 k.missRun]

/-- CMP_STATUS. -/
def execCmpStatus (t : Nat) (c : Cmd) (s : State) : Host.Outcome State Fault Refusal :=
  .next (runHost (statusDef 0x0604 [0] 0 noFails (fun s _ => s.cmpWords)) t c s)

/-- CMP_COUNTERS_CLEAR. -/
def execCmpCountersClear (t : Nat) (c : Cmd) (s : State) : Host.Outcome State Fault Refusal :=
  .next (runHost (clearDef 0x0605 6) t c s)

end Sys2Proof.Machine
end

