-- ==== Sys2Proof/Machine/Lmp.lean ====
section
/-! DEFINITION. The commands and events of the lamp controller (chapter 4, group 0x08). -/

namespace Sys2Proof.Machine

/-! ### Parameters -/

/-- The bar that word 0 names. -/
def cmdBar (c : Cmd) : Nat := c.f 0 1 0

/-- The fields of LMP_BAR_SET. -/
def lmpBarSetFields (c : Cmd) : List SetField :=
  let b := cmdBar c
  ([⟨1, 0, .LMP_MODE, b⟩, ⟨1, 8, .LMP_CHIPS, b⟩, ⟨1, 16, .LMP_CLK_DIV, b⟩, ⟨2, 0, .LMP_BOOST_MIN, b⟩, ⟨2, 16, .LMP_BOOST_MAX, b⟩,
    ⟨3, 0, .LMP_HR_TARGET, b⟩, ⟨3, 8, .LMP_HR_HYST, b⟩, ⟨3, 16, .LMP_BOOST_STEP_DN, b⟩, ⟨3, 24, .LMP_BOOST_ILIM, b⟩,
    ⟨4, 0, .LMP_FB_RATIO, b⟩, ⟨4, 16, .LMP_BOOST_FREQ, b⟩] : List SetField) ++
  ([⟨5, 0, .LMP_TEMP_CH, b⟩, ⟨5, 8, .LMP_DERATE_T0, b⟩, ⟨5, 16, .LMP_DERATE_T1, b⟩, ⟨5, 24, .LMP_DERATE_TSHUT, b⟩,
    ⟨6, 0, .LMP_DERATE_MIN, b⟩, ⟨6, 8, .LMP_SHORT_V, b⟩, ⟨6, 16, .LMP_P64_MAP, b⟩, ⟨6, 24, .LMP_CHAIN_RETRY, 0⟩, ⟨7, 0, .LMP_DIAG_I, b⟩] : List SetField)

/-- Whether a LMP_BAR_SET leads to the discovery of a chain: it sets native mode where the chain is not known (R127). -/
def State.discovers (s : State) (b : Nat) (ws : List ParWrite) : Bool :=
  parGet (parSets s.shadow ws) .LMP_MODE b == 1 && !(s.native b && (s.bar b).known)

/-- LMP_BAR_SET: with a discovery to run, its writes are made once that has succeeded. -/
def State.barSet (s : State) (cid : Nat) (c : Cmd) (ctx : Ctx) : State :=
  let b := cmdBar c
  if s.discovers b ctx.writes then s.submit cid { ctx with writes := [] } [.barMode b ctx.writes true]
  else s.submit cid ctx [.barMode b [] (parGet (parSets s.shadow ctx.writes) .LMP_MODE b != s.p .LMP_MODE b)]

/-- LMP_BAR_SET. -/
def lmpBarSetDef : CmdDef :=
  { setDef 0x0801 7 [0] (.fixed .idle) maskFrom7 lmpBarSetFields noFails noActs with
    run := fun s cid c ctx => s.barSet cid c ctx }

/-- LMP_BAR_SET (R127, R151). -/
def execLmpBarSet (t : Nat) (c : Cmd) (s : State) : Host.Outcome State Fault Refusal := .next (runHost lmpBarSetDef t c s)

/-- Whether LMP_PHASE_SET writes word n: a flag's word, or a phase's. -/
def phaseWritten (c : Cmd) (n : Nat) : Bool :=
  if n = 1 then c.b 0 16 || c.b 0 17 else decide (2 ≤ n) && decide (n ≤ 7) && c.b 0 (8 + (n - 2))

/-- The fields of LMP_PHASE_SET. -/
def lmpPhaseSetFields (c : Cmd) : List SetField :=
  let b := cmdBar c
  (if c.b 0 16 then ([⟨1, 0, .LMP_SYNC_MODE, 0⟩] : List SetField) else []) ++ (if c.b 0 17 then ([⟨1, 16, .LMP_PROOF_EVERY, 0⟩] : List SetField) else []) ++
  (List.range 6).flatMap (fun p => ([⟨p + 2, 0, .LMP_PULSE, 6 * b + p⟩, ⟨p + 2, 16, .LMP_DELAY, 6 * b + p⟩] : List SetField))

/-- LMP_PHASE_SET. -/
def lmpPhaseSetDef : CmdDef := setDef 0x0802 7 [0] .header phaseWritten lmpPhaseSetFields noFails noActs

/-- LMP_PHASE_SET (R113, R151). -/
def execLmpPhaseSet (t : Nat) (c : Cmd) (s : State) : Host.Outcome State Fault Refusal := .next (runHost lmpPhaseSetDef t c s)

/-! ### Patterns -/

/-- Half-word i of a list of words that starts at word n, low half first. -/
def halfAt (c : Cmd) (n i : Nat) : Nat := c.f (n + i / 2) (16 * (i % 2) + 15) (16 * (i % 2))

/-- How many strings a bar takes (LMP_PATTERN_LOAD). -/
def State.stringLimit (s : State) (b : Nat) : Nat :=
  match s.chainLen b with
  | some n => 16 * n
  | none => 4096

/-- LMP_PATTERN_LOAD. -/
def lmpPatternLoadDef : CmdDef where
  op := 0x0803
  need := fun c => 2 + ceilDiv (c.f 1 24 16) 2
  fails := fun s c _ =>
    let n := c.f 1 24 16
    failIf (decide (5 < c.f 0 4 2)) 0x11 0 ++
    failIf (n == 0 || decide (492 < n) || decide (s.stringLimit (cmdBar c) < c.f 1 11 0 + n)) 0x11 1 ++
    ((List.range n).filter (fun i => natField (halfAt c 2 i) 14 12 != 0)).map (fun i => (0x11, 2 + i / 2)) ++
    failIf (s.applyPending (cmdBar c)) 0x13
  run := fun s cid c _ =>
    let key := 4096 * c.f 0 4 2 + c.f 1 11 0
    (s.updBar (cmdBar c) (fun x => { x with
      staged := (List.range (c.f 1 24 16)).foldl (fun (m : Sparse Nat) i => Sparse.set m 0 (key + i) (halfAt c 2 i)) x.staged })).done cid

/-- LMP_PATTERN_LOAD (R130, R132). -/
def execLmpPatternLoad (t : Nat) (c : Cmd) (s : State) : Host.Outcome State Fault Refusal := .next (runHost lmpPatternLoadDef t c s)

/-- LMP_PATTERN_APPLY: native bars upload first (R131). -/
def lmpPatternApplyDef : CmdDef where
  op := 0x0804
  points := .among [.idle, .rept, .position]
  need := fun _ => 1
  fails := fun s c ctx =>
    let bs := maskList 4 (c.f 0 3 0)
    failIf bs.isEmpty 0x11 0 ++ failIf (ctx.point != .idle && bs.any (fun b => s.p64 b)) 0x11 0xFF ++
    failIf (bs.any (fun b => s.p .LMP_MODE b == 0)) 0x13 ++ failIf (bs.any (fun b => s.applyPending b)) 0x14
  run := fun s cid c ctx =>
    let nat_ := (maskList 4 (c.f 0 3 0)).filter (fun b => s.native b)
    let s := nat_.foldl (fun (s : State) b => s.startUpload b) s
    s.submit cid ctx [.patternApply (c.f 0 3 0)] nat_.isEmpty

/-- LMP_PATTERN_APPLY (R131 to R134, R150). -/
def execLmpPatternApply (t : Nat) (c : Cmd) (s : State) : Host.Outcome State Fault Refusal := .next (runHost lmpPatternApplyDef t c s)

/-- Applies whose native bars have all been uploaded reach the sequencer (R131, R133). -/
def State.appliesReady (s : State) : State :=
  (s.seq.pends.filter (fun p => p.arrival.isNone && p.acts.any (fun a => match a with
    | .patternApply bars => (maskList 4 bars).all (fun b => !s.native b || (match (s.bar b).upload with
      | some u => u.doneAt.isSome
      | none => false))
    | _ => false))).foldl (fun (s : State) p => s.prepared p.cid) s

/-- The upload of a native bar ends, once its frames have been latched and answered. -/
def State.uploadDone (s : State) (b : Nat) : State :=
  match (s.bar b).upload with
  | none => s
  | some u =>
    if !s.native b || u.doneAt.isSome || !(s.bar b).uploadSent then s
    else ((s.updBar b (fun x => { x with upload := some { u with doneAt := some s.now } })).noteResident).appliesReady

/-- PATTERN_UPLOAD_DONE (R131). -/
def execPatternUploadDone (t : Nat) (bar : Nat) (s : State) : Host.Outcome State Fault Refusal := nextAt t s (fun s => s.uploadDone bar)

/-- A P64 bar of a late job has latched (R255): with the last of them the lamp part has switched. -/
def State.lateP64 (s : State) (b : Nat) : State :=
  match s.cap.late with
  | none => s
  | some l =>
    if !natBit l.await 3 || !natBit l.bars b then s
    else
      let left := clearBit l.bars b
      let s := s.updCap (fun c => { c with late := some { l with bars := left } })
      if (maskList 4 left).all (fun b => s.native b && (match (s.bar b).upload with
          | some u => u.doneAt.isSome
          | none => false))
      then (s.switchPart s.seq.lineIndex l.slot l.tiles left 3).lateDone s.seq.lineIndex 8
      else s

/-- A P64 bar has been latched (R148, R150): its mirrors swap, and an apply that waited for it completes. -/
def State.p64Latched (s : State) (b : Nat) : State :=
  match (s.bar b).upload with
  | none => s
  | some u =>
    if !s.p64 b || !s.idleWork then s
    else
      let took := usBetween u.at_ s.now
      let s := s.syncSelect b
      let mine := s.lamp.applies.map (fun x => if natBit x.bars b then ({ x with bars := clearBit x.bars b, took := max x.took took } : LampApply) else x)
      let done := mine.filter (fun x => x.bars == 0)
      let s := { s with lamp := { s.lamp with applies := mine.filter (fun x => x.bars != 0) } }
      let s := done.foldl (fun (s : State) x => s.replyAt x.cid 0 x.flags (Word.ofNat64 x.line ++ [w32 x.took]) x.line) s
      s.lateP64 b

/-- P64_UPLOAD_DONE (R148). -/
def execP64UploadDone (t : Nat) (bar : Nat) (s : State) : Host.Outcome State Fault Refusal := nextAt t s (fun s => s.p64Latched bar)

/-- The READ frames of some strings: one string number a frame, every chip that has it in range. -/
def readFrames (set bank first n : Nat) : List ChainFrame :=
  (List.range 16).filterMap (fun str =>
    let cs := (List.range 64).filter (fun c => decide (first ≤ 16 * c + str) && decide (16 * c + str < first + n))
    if cs.isEmpty then none else some ⟨cs.map (fun c => (c, cmdWord 2 set bank str 0)), false⟩)

/-- LMP_PATTERN_READ. -/
def lmpPatternReadDef : CmdDef where
  op := 0x0805
  need := fun _ => 2
  fails := fun s c _ =>
    let n := c.f 1 24 16
    failIf (c.f 0 4 2 == 7) 0x11 0 ++
    failIf (n == 0 || decide (490 < n) || decide (s.stringLimit (cmdBar c) < c.f 1 11 0 + n)) 0x11 1 ++
    failIf (!s.native (cmdBar c) || (s.bar (cmdBar c)).lost || !(s.bar (cmdBar c)).known) 0x13
  run := fun s cid c _ =>
    let b := cmdBar c
    let x := s.bar b
    let s := s.defer cid
    let s := s.updBar b (fun y => { y with
      work := y.work ++ readFrames (if c.b 0 5 then 1 - x.setIdx else x.setIdx) (c.f 0 4 2) (c.f 1 11 0) (c.f 1 24 16) })
    { s with lamp := { s.lamp with reads := s.lamp.reads ++ [(b, ⟨cid, c.f 0 4 2, c.f 0 5 5, c.f 1 11 0, c.f 1 24 16, []⟩)] } }

/-- LMP_PATTERN_READ. -/
def execLmpPatternRead (t : Nat) (c : Cmd) (s : State) : Host.Outcome State Fault Refusal := .next (runHost lmpPatternReadDef t c s)

/-- The word read of a string, the last one where it came twice. -/
def PatRead.word (r : PatRead) (str : Nat) : Option Nat := ((r.got.filter (fun x => x.1 == str)).getLast?).map (fun x => x.2)

/-- Reads of a bar whose words have all come are answered. -/
def State.readsDone (s : State) (b : Nat) : State :=
  let full := fun (r : PatRead) => (List.range r.count).all (fun i => (r.word (r.first + i)).isSome)
  let done := s.lamp.reads.filter (fun x => x.1 == b && full x.2)
  let s := { s with lamp := { s.lamp with reads := s.lamp.reads.filter (fun x => !(x.1 == b && full x.2)) } }
  done.foldl (fun (s : State) x =>
    let r := x.2
    let m := if r.set = 0 then (s.bar b).active else (s.bar b).staged
    let ws := (List.range r.count).map (fun i => (r.word (r.first + i)).getD 0)
    let diff := if r.bank = 6 then 0
      else ((List.range r.count).filter (fun i => patWord m r.bank (r.first + i) != ws.getD i 0)).length
    let packed := (List.range (ceilDiv r.count 2)).map (fun i => w32 (ws.getD (2 * i) 0 + 65536 * ws.getD (2 * i + 1) 0))
    s.done r.cid (w32 diff :: packed)) s

/-- A frame of a native bar latches. -/
def State.chainFrame (s : State) (b : Nat) (status : List Nat) : State :=
  if s.native b && (s.bar b).known then (s.frameLatch b status).readsDone b else s

/-- CHAIN_FRAME_LATCH (R120, R128). -/
def execChainFrameLatch (t : Nat) (bar : Nat) (status : List Nat) (s : State) : Host.Outcome State Fault Refusal :=
  nextAt t s (fun s => s.chainFrame bar status)

/-! ### Discovery and diagnostics -/

/-- A discovery ends (R127): delays that answered, and the IDs of the chips found. -/
def State.discovered (s : State) (b : Nat) (delays ids : List Nat) : State :=
  match (s.bar b).disc with
  | none => s
  | some d =>
    if !s.idleWork then s else
    let s := s.updBar b (fun x => { x with disc := none })
    let n := ids.length
    let asked := parGet (parSets s.par d.writes) .LMP_CHIPS b
    let good := decide (1 ≤ n) && decide (n ≤ 64) && !delays.isEmpty && (asked == 0 || asked == n)
    match d.cid with
    | some cid =>
      if !good then s.replyAt cid 0x13 d.flags (Word.ofNat64 d.line) d.line
      else
        let line := s.seq.lineIndex
        let s := (s.committed d.writes line true).barMode b (some (n, widestRun delays, ids))
        s.replyAt cid 0 d.flags (Word.ofNat64 line ++ [w32 n]) line
    | none =>
      if good then s.updBar b (fun x => { x with chips := n, known := true, diDly := widestRun delays, ids := ids, inFlight := none })
      else match (s.bar b).diag with
        | some g => (s.updBar b (fun x => { x with diag := none })).replyAt g.cid 0x13 g.detail [] g.line
        | none => s

/-- CHAIN_DISCOVERY (R127). -/
def execChainDiscovery (t : Nat) (bar : Nat) (delays ids : List Nat) (s : State) : Host.Outcome State Fault Refusal :=
  nextAt t s (fun s => s.discovered bar delays ids)

/-- LMP_DIAG_RUN. -/
def lmpDiagRunDef : CmdDef :=
  actDef 0x0806 1 [0] (.fixed .idle) (fun s c _ => failIf (s.p64 (cmdBar c)) 0x13 ++ failIf (s.bar (cmdBar c)).diag.isSome 0x14)
    (fun _ c _ => [.diagRun (cmdBar c) (c.w 0)])

/-- LMP_DIAG_RUN (R142). -/
def execLmpDiagRun (t : Nat) (c : Cmd) (s : State) : Host.Outcome State Fault Refusal := .next (runHost lmpDiagRunDef t c s)

/-- Set bits over some masks. -/
def bitsIn (ms : List Nat) : Nat := ms.foldl (fun (n : Nat) m => n + (maskList 16 m).length) 0

/-- Bank 6 as the second pass leaves it (R142): odd strings on, even strings off. -/
def diagBank (chips current : Nat) : Sparse Nat :=
  (List.range (16 * chips)).foldl (fun (m : Sparse Nat) i => if i % 2 = 1 then Sparse.set m 0 i (32768 + current) else m) []

/-- A diagnostic run ends (R139, R142): the masks of the chips found by its strobes. -/
def State.diagDone (s : State) (b : Nat) (opens shorts leaks1 leaks2 : List Nat) : State :=
  match (s.bar b).diag with
  | none => s
  | some d =>
    if !d.running || !s.idleWork || (s.bar b).disc.isSome then s else
    let chips := (s.chainLen b).getD 0
    let neigh := natBit d.flags 8
    let lit := neigh || natBit d.flags 9
    let opens := if lit then opens.take chips else []
    let shorts := if lit then shorts.take chips else []
    let pairs := if neigh then (List.range chips).map (fun c => pairMask (leaks1.getD c 0) (leaks2.getD c 0)) else []
    let put := fun (s : State) (kind : Nat) (ms : List Nat) => ms.zipIdx.foldl (fun (s : State) x => s.newFaults b x.2 kind x.1) s
    let s := put (put (put s 0 opens) 1 shorts) 2 pairs
    let s := if neigh then s.updBar b (fun x => { x with diag6 := diagBank chips (s.p .LMP_DIAG_I b) }) else s
    let s := if natBit d.flags 9 then s.count .LMP_PROOFS b (s.p .SEQ_NUM_PHASES) else s
    let s := s.updBar b (fun x => { x with diag := none })
    s.replyAt d.cid 0 d.detail [w32 (bitsIn opens), w32 (bitsIn shorts), w32 (bitsIn pairs)] d.line

/-- LMP_DIAG_DONE (R142). -/
def execLmpDiagDone (t : Nat) (bar : Nat) (opens shorts leaks1 leaks2 : List Nat) (s : State) : Host.Outcome State Fault Refusal :=
  nextAt t s (fun s => s.diagDone bar opens shorts leaks1 leaks2)

/-- The words of LMP_FAULTS. -/
def State.faultWords (s : State) (b first n : Nat) : List Word :=
  let x := s.bar b
  (List.range n).flatMap (fun i =>
    [w32 (Sparse.get x.opens 0 (first + i)), w32 (Sparse.get x.shorts 0 (first + i)), w32 (Sparse.get x.pairs 0 (first + i)),
     w32 (Sparse.get x.status 0 (first + i))])

/-- LMP_FAULTS. -/
def execLmpFaults (t : Nat) (c : Cmd) (s : State) : Host.Outcome State Fault Refusal :=
  .next (runHost (statusDef 0x0807 [0] 1
    (fun _ c _ => failIf (c.f 0 21 16 == 0 || decide (61 < c.f 0 21 16) || decide (64 < c.f 0 13 8 + c.f 0 21 16)) 0x11 0)
    (fun s c => s.faultWords (cmdBar c) (c.f 0 13 8) (c.f 0 21 16))) t c s)

/-- LMP_FAULT_CLEAR. -/
def lmpFaultClearDef : CmdDef :=
  actDef 0x0808 3 [0] (.among [.tick, .idle]) (fun _ c _ => failIf (c.w64 1 == 0) 0x11 1) (fun _ c _ => [.faultClear (cmdBar c) (c.w64 1)])

/-- LMP_FAULT_CLEAR (R138). -/
def execLmpFaultClear (t : Nat) (c : Cmd) (s : State) : Host.Outcome State Fault Refusal := .next (runHost lmpFaultClearDef t c s)

/-! ### Status -/

/-- LMP_STATE_b (R151); of several that hold the first of off, lost, shut down, uploading. -/
def State.barState (s : State) (b : Nat) : Nat :=
  let x := s.bar b
  if s.p .LMP_MODE b = 0 then 0 else if x.lost then 3 else if x.shut then 4
  else if x.upload.any (fun u => u.doneAt.isNone) then 2 else if s.p64 b then 5 else 1

/-- The words of LMP_STATUS. -/
def State.lampWords (s : State) : List Word :=
  (List.range 4).flatMap (fun b =>
    let x := s.bar b
    [w32 (s.barState b + 256 * (s.chainLen b).getD 0 + 65536 * x.diDly),
     w32 ((openDiv 56 x.boost 10).toNat % 1024 + 65536 * x.hrMin + 2 ^ 24 * x.derate), wInt (x.temp.getD 0)])

/-- LMP_STATUS. -/
def execLmpStatus (t : Nat) (c : Cmd) (s : State) : Host.Outcome State Fault Refusal :=
  .next (runHost (statusDef 0x0809 [0] 0 noFails (fun s _ => s.lampWords)) t c s)

/-- LMP_COUNTERS_CLEAR. -/
def execLmpCountersClear (t : Nat) (c : Cmd) (s : State) : Host.Outcome State Fault Refusal :=
  .next (runHost (clearDef 0x080A 8) t c s)

/-! ### Proof pulses, boost, temperature -/

/-- PROOF_PULSE, where one is due (R140). -/
def execProofPulse (t : Nat) (s : State) : Host.Outcome State Fault Refusal :=
  nextAt t s (fun s => if s.lamp.proofDue then ({ s with lamp := { s.lamp with proofDue := false } } : State).proofPulse else s)

/-- IDLE_PROOF_PULSE, every 10 ms in HOLD and IDLE (R141). -/
def execIdleProofPulse (t : Nat) (s : State) : Host.Outcome State Fault Refusal :=
  nextAt t s (fun s =>
    if !s.proofsInLine && s.cap.run == RunSt.open_ && (s.seq.hold || s.seq.idle) && decide (s.lamp.idleProofAt ≤ s.now) then
      ({ s with lamp := { s.lamp with idleProofAt := s.now + ms 10 } } : State).proofPulse
    else s)

/-- LAMP_BOOST_OVP: the output, in mV, exceeds 1.05 times the highest setpoint (R137). -/
def execLampBoostOvp (t : Nat) (bar : Nat) (volts : Nat) (s : State) : Host.Outcome State Fault Refusal :=
  nextAt t s (fun s =>
    if s.p .LMP_MODE bar ≠ 0 ∧ !(s.bar bar).ovp ∧ 105 * s.p .LMP_BOOST_MAX bar < volts then
      (s.updBar bar (fun x => { x with ovp := true })).raise .LAMP_BOOST_OVP bar
    else s)

/-- BOOST_OVP_RELEASE: the output, in mV, is below the highest setpoint again (R137). -/
def execBoostOvpRelease (t : Nat) (bar : Nat) (volts : Nat) (s : State) : Host.Outcome State Fault Refusal :=
  nextAt t s (fun s =>
    if (s.bar bar).ovp ∧ volts < 100 * s.p .LMP_BOOST_MAX bar then s.updBar bar (fun x => { x with ovp := false }) else s)

/-- LAMP_TEMP_INVALID, after 1 s without a valid result (R147). -/
def execLampTempInvalid (t : Nat) (bar : Nat) (s : State) : Host.Outcome State Fault Refusal :=
  nextAt t s (fun s => if (s.bar bar).tempSince + secs 1 ≤ s.now then s.lampInvalid bar else s)

end Sys2Proof.Machine
end

