-- ==== Sys2Proof/Machine/Mot.lean ====
section
/-! DEFINITION. The commands and events of the motion controller (chapter 10, group 0x09). -/

namespace Sys2Proof.Machine

/-- The axis that word 0 names. -/
def cmdAxis (c : Cmd) : Nat := c.f 0 2 0

/-! ### Parameters -/

/-- The fields of MOT_AXIS_SET. -/
def motAxisFields (c : Cmd) : List SetField :=
  let a := cmdAxis c
  ([⟨1, 0, .MOT_EN, a⟩, ⟨1, 4, .MOT_USTEP, a⟩, ⟨1, 8, .MOT_IRUN, a⟩, ⟨1, 16, .MOT_IHOLD, a⟩,
    ⟨2, 0, .MOT_TOFF, a⟩, ⟨2, 8, .MOT_TBLANK, a⟩, ⟨2, 16, .MOT_SLOW, a⟩, ⟨2, 24, .MOT_STALL_LEVEL, a⟩] : List SetField) ++
  ([⟨3, 0, .MOT_HOLD_DELAY, a⟩, ⟨3, 16, .MOT_LIM_RELEASE, a⟩, ⟨4, 0, .MOT_LIM_EN, a⟩, ⟨4, 2, .MOT_LIM_POL, a⟩,
    ⟨5, 0, .MOT_LIM_DECEL, a⟩] : List SetField)

/-- Whether an axis moves, or is about to. -/
def Axis.moves (x : Axis) : Bool :=
  match x.st with
  | .moving | .jog | .geared | .homing => true
  | .off | .rest | .fault => false

/-- MOT_AXIS_SET: a change of the grain of a moving axis is refused, and so is everything on an axis that a capture holds (R399). -/
def motAxisSetDef : CmdDef :=
  setDef 0x0901 5 [0] .header maskFrom7 motAxisFields
    (fun s c _ =>
      let a := cmdAxis c
      failIf (maskFrom7 c 1 && c.f 1 7 4 != s.p .MOT_USTEP a && (s.axis a).moves) 0x13 ++ failIf (s.axisHeld a) 0x14) noActs

/-- MOT_AXIS_SET (R401, R399). -/
def execMotAxisSet (t : Nat) (c : Cmd) (s : State) : Host.Outcome State Fault Refusal := .next (runHost motAxisSetDef t c s)

/-- The fields of MOT_PROFILE_SET. -/
def motProfileFields (c : Cmd) : List SetField :=
  let a := cmdAxis c
  [⟨1, 0, .MOT_PROFILE, a⟩, ⟨2, 0, .MOT_VSTART, a⟩, ⟨3, 0, .MOT_VMAX, a⟩, ⟨4, 0, .MOT_ACCEL, a⟩, ⟨5, 0, .MOT_DECEL, a⟩,
   ⟨6, 0, .MOT_JERK, a⟩]

/-- MOT_PROFILE_SET: the profile of a running move uses the new limits from its next Burin event on (R381). -/
def motProfileSetDef : CmdDef :=
  setDef 0x0902 6 [0] .header maskFrom7 motProfileFields (fun s c _ => failIf (s.axisHeld (cmdAxis c)) 0x14) noActs

/-- MOT_PROFILE_SET (R381, R401). -/
def execMotProfileSet (t : Nat) (c : Cmd) (s : State) : Host.Outcome State Fault Refusal := .next (runHost motProfileSetDef t c s)

/-! ### Motion -/

/-- Whether a signed position is a whole number of grains of an axis (R375). -/
def State.wholeGrain (s : State) (a w : Nat) : Bool := toSigned 32 w % (s.grain a : Int) == 0

/-- The axes that MOT_MOVE names, lowest first. -/
def moveAxes (c : Cmd) : List Nat := maskList 8 (c.f 0 7 0)

/-- The target words of MOT_MOVE, by axis. -/
def moveTargets (c : Cmd) : List Nat := (List.range 8).map (fun a => c.w (1 + a))

/-- MOT_MOVE. -/
def motMoveDef : CmdDef where
  op := 0x0903
  points := .among [.tick, .position, .idle]
  need := fun c => (moveAxes c).foldl (fun (m : Nat) a => max m (2 + a)) 1
  fails := fun s c _ =>
    let axes := moveAxes c
    let bad := s.moveFails axes (moveTargets c) (c.b 0 8)
    failIf axes.isEmpty 0x11 0 ++ (axes.filter (fun a => !s.wholeGrain a (c.w (1 + a)))).map (fun a => (0x11, 1 + a)) ++
    failIf (bad != 0) bad
  run := fun s cid c ctx => s.submit cid ctx [.motMove (moveAxes c) (moveTargets c) (c.b 0 8)]

/-- MOT_MOVE (R382, R383, R385). -/
def execMotMove (t : Nat) (c : Cmd) (s : State) : Host.Outcome State Fault Refusal := .next (runHost motMoveDef t c s)

/-- MOT_JOG. -/
def motJogDef : CmdDef :=
  actDef 0x0904 2 [0] (.among [.tick, .position, .idle])
    (fun s c _ =>
      let a := cmdAxis c
      let v := toSigned 32 (c.w 1)
      failIf (decide (s.p .MOT_VMAX a < v.natAbs) || (v != 0 && decide (v.natAbs < s.p .MOT_VSTART a))) 0x11 1 ++
      failIf (s.jogFails a v) 0x13 ++ failIf (s.axisHeld a) 0x14)
    (fun _ c _ => [.motJog (cmdAxis c) (toSigned 32 (c.w 1))])

/-- MOT_JOG (R384). -/
def execMotJog (t : Nat) (c : Cmd) (s : State) : Host.Outcome State Fault Refusal := .next (runHost motJogDef t c s)

/-- MOT_STOP. -/
def motStopDef : CmdDef :=
  actDef 0x0905 1 [0] (.among [.tick, .idle]) (fun _ c _ => failIf (c.f 0 7 0 == 0) 0x11 0) (fun _ c _ => [.motStop (c.f 0 7 0) (c.b 0 8)])

/-- MOT_STOP (R384). -/
def execMotStop (t : Nat) (c : Cmd) (s : State) : Host.Outcome State Fault Refusal := .next (runHost motStopDef t c s)

/-- MOT_GEAR. -/
def motGearDef : CmdDef where
  op := 0x0906
  points := .among [.tick, .idle]
  need := fun c => if c.f 0 9 8 = 0 then 2 else if c.f 0 9 8 = 1 then 4 else 1
  fails := fun s c _ =>
    let a := cmdAxis c
    failIf (c.f 0 9 8 == 3) 0x11 0 ++ failIf (s.gearFails a (c.f 0 9 8)) 0x13 ++ failIf (s.axisHeld a) 0x14
  run := fun s cid c ctx => s.submit cid ctx [.motGear (cmdAxis c) (c.f 0 5 4) (c.f 0 9 8) (c.w 2) (c.w 1) (c.w 3)]

/-- MOT_GEAR (R386, R387). -/
def execMotGear (t : Nat) (c : Cmd) (s : State) : Host.Outcome State Fault Refusal := .next (runHost motGearDef t c s)

/-- MOT_HOME. -/
def motHomeDef : CmdDef :=
  actDef 0x0907 5 [0] (.among [.tick, .idle])
    (fun s c _ =>
      let a := cmdAxis c
      failIf (decide (c.w 1 < s.p .MOT_VSTART a) || decide (s.p .MOT_VMAX a < c.w 1)) 0x11 1 ++
      failIf (!s.wholeGrain a (c.w 2)) 0x11 2 ++
      failIf (s.homeFails a (c.b 0 8)) 0x13 ++ failIf (s.axisHeld a) 0x14)
    (fun _ c _ => [.motHome (cmdAxis c) (c.b 0 8) [c.w 1, c.w 2, c.w 3, c.w 4]])

/-- MOT_HOME (R392). -/
def execMotHome (t : Nat) (c : Cmd) (s : State) : Host.Outcome State Fault Refusal := .next (runHost motHomeDef t c s)

/-- MOT_ACK. -/
def motAckDef : CmdDef :=
  actDef 0x0908 1 [0] (.among [.tick, .idle]) (fun _ c _ => failIf (c.f 0 7 0 == 0) 0x11 0) (fun _ c _ => [.motAck (c.w 0)])

/-- MOT_ACK (R378, R390). -/
def execMotAck (t : Nat) (c : Cmd) (s : State) : Host.Outcome State Fault Refusal := .next (runHost motAckDef t c s)

/-- MOT_POS_SET. -/
def motPosSetDef : CmdDef :=
  actDef 0x0909 2 [0] (.among [.tick, .idle])
    (fun s c _ => failIf (!s.wholeGrain (cmdAxis c) (c.w 1)) 0x11 1 ++ failIf (s.posSetFails (cmdAxis c)) 0x13)
    (fun _ c _ => [.motPosSet (cmdAxis c) (c.w 1)])

/-- MOT_POS_SET. -/
def execMotPosSet (t : Nat) (c : Cmd) (s : State) : Host.Outcome State Fault Refusal := .next (runHost motPosSetDef t c s)

/-- The fields of MOT_PACE_SET. -/
def motPaceFields (_ : Cmd) : List SetField :=
  ([⟨1, 0, .MOT_PACE_AXES, 0⟩, ⟨1, 8, .MOT_PACE_LOOP, 0⟩, ⟨1, 12, .MOT_PACE_CEIL, 0⟩, ⟨2, 0, .MOT_PACE_LOW, 0⟩,
    ⟨2, 8, .MOT_PACE_HIGH, 0⟩, ⟨2, 16, .MOT_PACE_FMIN, 0⟩, ⟨2, 24, .MOT_LOG_EN, 0⟩, ⟨3, 0, .MOT_PACE_STOP, 0⟩,
    ⟨4, 0, .MOT_PACE_SMASK, 0⟩, ⟨5, 0, .MOT_PACE_SMASK, 1⟩] : List SetField) ++
  (List.range 8).flatMap (fun i =>
    ([⟨6 + i, 0, .MOT_PACE_Q, 2 * i⟩, ⟨6 + i, 16, .MOT_PACE_Q, 2 * i + 1⟩] : List SetField))

/-- MOT_PACE_SET. -/
def motPaceSetDef : CmdDef := setDef 0x090A 13 [0] .header maskAt motPaceFields noFails noActs

/-- MOT_PACE_SET (R393 to R397). -/
def execMotPaceSet (t : Nat) (c : Cmd) (s : State) : Host.Outcome State Fault Refusal := .next (runHost motPaceSetDef t c s)

/-- The words of MOT_STATUS. -/
def State.axisWords (s : State) (a : Nat) : List Word :=
  let x := s.axis a
  let lim := (List.range 2).foldl (fun (n : Nat) i =>
    n + (if x.latched.getD i false then 2 ^ i else 0) + (if x.input.getD i false then 2 ^ (2 + i) else 0)) 0
  let ratio : Int := match x.gear with
    | some g => if x.st = .geared then g.ratioAt (s.enc g.enc).pos else 0
    | none => 0
  [w32 x.pos32, wInt x.speed, w32 (x.st.code + 16 * lim + 256 * x.homeResult), wInt ratio,
   w32 (s.mot.paceF + 65536 * bitNat s.mot.paceHeld)]

/-- MOT_STATUS. -/
def execMotStatus (t : Nat) (c : Cmd) (s : State) : Host.Outcome State Fault Refusal :=
  .next (runHost (statusDef 0x090B [0] 1 noFails (fun s c => s.axisWords (cmdAxis c))) t c s)

/-- MOT_COUNTERS_CLEAR. -/
def execMotCountersClear (t : Nat) (c : Cmd) (s : State) : Host.Outcome State Fault Refusal :=
  .next (runHost (clearDef 0x090C 9) t c s)

/-! ### Events -/

/-- Whether the Burin timer of an axis has expired. -/
def State.burinDue (s : State) (a : Nat) : Bool :=
  match (s.axis a).next with
  | some n => decide (n ≤ s.now)
  | none => false

/-- A Burin event; the white tile's axis may have come to rest with it. -/
def State.burinEvent (s : State) (a : Nat) : State :=
  if !s.burinDue a then s
  else if (s.axis a).st = .geared then s.gearStep a
  else if s.tileAxis = some a then (s.burin a).calAxis
  else s.burin a

/-- BURIN_EVENT (R379, R385, R386). -/
def execBurinEvent (t : Nat) (axis : Nat) (s : State) : Host.Outcome State Fault Refusal := nextAt t s (fun s => s.burinEvent axis)

/-- MOT_GEAR_CHANGED (R387). -/
def execMotGearChanged (t : Nat) (axis : Nat) (s : State) : Host.Outcome State Fault Refusal := nextAt t s (fun s => s.gearCross axis)

/-- The blanking time of an axis (R377). -/
def State.blanking (s : State) (a : Nat) : Nat := clks (300 * (s.p .MOT_TBLANK a + 1))

/-- The comparator of a coil shows its sense voltage above the threshold: ignored during blanking; a trip at the very end of blanking was
    there before it, and sixteen of those in a row are a short (R377, R378). -/
def State.chopperTrip (s : State) (a coil : Nat) : State :=
  let c := s.coil a coil
  let ends := c.since + s.blanking a
  if !s.axisEn a || c.phase != .on_ || decide (s.now < ends) then s else
  let early := if s.now = ends then c.early + 1 else 0
  let s := (s.updCoil a coil (fun c => { c with early := early })).homeOnTime a coil (s.now - c.since)
  if 16 ≤ early then s.axisShort a coil else s.coilOff a coil false

/-- CHOPPER_TRIP (R377, R378). -/
def execChopperTrip (t : Nat) (axis : Nat) (coil : Nat) (s : State) : Host.Outcome State Fault Refusal :=
  nextAt t s (fun s => s.chopperTrip axis coil)

/-- CHOPPER_OFF_END (R377). -/
def execChopperOffEnd (t : Nat) (axis : Nat) (coil : Nat) (s : State) : Host.Outcome State Fault Refusal :=
  nextAt t s (fun s =>
    let c := s.coil axis coil
    if s.axisEn axis && c.phase == .off_ && decide (c.endAt ≤ s.now) then s.coilOn axis coil else s)

/-- HOLD_CURRENT (R376). -/
def execHoldCurrent (t : Nat) (axis : Nat) (s : State) : Host.Outcome State Fault Refusal :=
  nextAt t s (fun s =>
    let x := s.axis axis
    if (x.st == .rest || x.parked) && !x.held && decide (x.restAt + ms (s.p .MOT_HOLD_DELAY axis) ≤ s.now) then
      (s.updAxis axis (fun y => { y with held := true })).coilsFollow axis
    else s)

/-- MOT_LIMIT, on an input that is enabled (R388 to R392). -/
def execMotLimit (t : Nat) (axis : Nat) (side : Nat) (s : State) : Host.Outcome State Fault Refusal :=
  nextAt t s (fun s => if natBit (s.p .MOT_LIM_EN axis) side then s.limitTrip axis side else s)

/-- LIMIT_RELEASE: the input has been inactive for MOT_LIM_RELEASE_a (R390). -/
def execLimitRelease (t : Nat) (axis : Nat) (side : Nat) (s : State) : Host.Outcome State Fault Refusal :=
  nextAt t s (fun s =>
    if (s.axis axis).quiet.getD side 0 + ms (s.p .MOT_LIM_RELEASE axis) ≤ s.now then
      (s.updAxis axis (fun y => { y with input := upd y.input side (fun _ => false) })).limitClear axis side
    else s)

/-- PACE_EVAL, every 100 µs (R393 to R397). -/
def execPaceEval (t : Nat) (s : State) : Host.Outcome State Fault Refusal :=
  nextAt t s (fun s => if s.mot.paceDue ≤ s.now then s.paceEval else s)

end Sys2Proof.Machine
end

