-- ==== Sys2Proof/Machine/Pos.lean ====
section
/-! DEFINITION. The commands and events of the position and time unit (chapter 3, group 0x0A). -/

namespace Sys2Proof.Machine

/-! ### Encoders -/

/-- The input that word 0 of POS_SET names. -/
def cmdEnc (c : Cmd) : Nat := c.f 0 1 0

/-- The fields of POS_SET. -/
def posSetFields (c : Cmd) : List SetField :=
  let k := cmdEnc c
  ([⟨1, 0, .POS_MODE, k⟩, ⟨1, 1, .POS_DIR, k⟩, ⟨1, 2, .POS_REF_MODE, k⟩, ⟨1, 4, .POS_CORR_EN, k⟩, ⟨1, 8, .POS_CORR_SHIFT, k⟩,
    ⟨2, 0, .POS_REF_VALUE, k⟩, ⟨3, 0, .POS_REF_PERIOD, k⟩] : List SetField) ++
  ([⟨4, 0, .POS_COUNT_LEN, k⟩, ⟨5, 0, .POS_VWIN, k⟩, ⟨6, 0, .POS_AMP_LO, 0⟩, ⟨6, 16, .POS_AMP_HI, 0⟩,
    ⟨7, 0, .POS_STILL_TIME, 0⟩, ⟨7, 16, .POS_LOG_PERIOD, 0⟩] : List SetField)

/-- Whether writes would arm mode 1 on the position source of an open run (R81). -/
def State.rearmFails (s : State) (k : Nat) (ws : List ParWrite) : Bool :=
  s.cap.run == RunSt.open_ && s.p .SEQ_POS_SRC == k &&
  ws.any (fun w => w.inst == k && [Par.POS_REF_MODE, .POS_REF_VALUE, .POS_REF_PERIOD].contains w.par) &&
  parGet (parSets s.shadow ws) .POS_REF_MODE k == 1

/-- POS_SET. -/
def posSetDef : CmdDef :=
  setDef 0x0A01 7 [0] .header maskFrom7 posSetFields
    (fun s c ctx => failIf (s.rearmFails (cmdEnc c) ctx.writes) 0x13) noActs

/-- POS_SET (R67, R70, R79 to R81). -/
def execPosSet (t : Nat) (c : Cmd) (s : State) : Host.Outcome State Fault Refusal := .next (runHost posSetDef t c s)

/-- The words of POS_STATUS. -/
def State.posWords (s : State) : List Word :=
  (List.range 4).flatMap (fun k =>
    let e := s.enc k
    [wInt e.pos, wInt e.speedW, wInt (s.speedP k), w32 e.refLatch, w32 (e.amp + 65536 * e.stateBits), 0]) ++
  Word.ofNat64 s.seq.lineIndex ++ Word.ofNat64 s.glint

/-- POS_STATUS. -/
def execPosStatus (t : Nat) (c : Cmd) (s : State) : Host.Outcome State Fault Refusal :=
  .next (runHost (statusDef 0x0A02 [0] 0 noFails (fun s _ => s.posWords)) t c s)

/-- POS_COUNTERS_CLEAR. -/
def execPosCountersClear (t : Nat) (c : Cmd) (s : State) : Host.Outcome State Fault Refusal :=
  .next (runHost (clearDef 0x0A08 0x0A) t c s)

/-- Every axis geared to an encoder takes its target (R386). -/
def State.gearAll (s : State) (k : Nat) : State :=
  (List.range 8).foldl (fun (s : State) a =>
    if (s.axis a).gear.any (fun g => g.enc == k) then s.gearSample a else s) s

/-- One encoder sample, with the targets of the axes geared to it. -/
def State.positionSample (s : State) (x : EncSample) : State := (s.encSample x).gearAll x.enc

/-- POSITION_SAMPLE: the samples of the encoders at one instant (R68 to R77, R85, R386). -/
def execPositionSample (t : Nat) (xs : List EncSample) (s : State) : Host.Outcome State Fault Refusal :=
  nextAt t s (fun s => xs.foldl (fun (s : State) x => s.positionSample x) s)

/-- The amplitude that a sample has (R74). -/
def State.sampleBad (s : State) (x : EncSample) : Bool :=
  let amp := Config.trackAmplitude x.sin x.cos (s.corrList x.enc) % 4096
  decide (amp < s.p .POS_AMP_LO) || decide (s.p .POS_AMP_HI < amp)

/-- ENC_DOUBLE_CHANGE: a sample in which both change and the position cannot follow (R76, R77). -/
def execEncDoubleChange (t : Nat) (x : EncSample) (s : State) : Host.Outcome State Fault Refusal :=
  nextAt t s (fun s =>
    let e := s.enc x.enc
    if quadStep e.a e.b x.a x.b == 2 && (s.p .POS_MODE x.enc == 1 || s.sampleBad x) then s.positionSample x else s)

/-- ENC_AMPLITUDE: a sample in which the amplitude leaves its range (R74). -/
def execEncAmplitude (t : Nat) (x : EncSample) (s : State) : Host.Outcome State Fault Refusal :=
  nextAt t s (fun s => if s.p .POS_MODE x.enc == 0 && s.sampleBad x && !(s.enc x.enc).ampInvalid then s.positionSample x else s)

/-- ENC_CORR_LIMIT: a sample with which a correction saturates (R72). -/
def execEncCorrLimit (t : Nat) (x : EncSample) (s : State) : Host.Outcome State Fault Refusal :=
  nextAt t s (fun s =>
    let s' := s.positionSample x
    if !(s.enc x.enc).corrLimit && (s'.enc x.enc).corrLimit then s' else s)

/-- REFERENCE_MARK (R79, R80). -/
def execReferenceMark (t : Nat) (enc : Nat) (s : State) : Host.Outcome State Fault Refusal :=
  nextAt t s (fun s => (s.refMark enc).gearAll enc)

/-- VWIN_BLOCK_END (R84). -/
def execVwinBlockEnd (t : Nat) (enc : Nat) (s : State) : Host.Outcome State Fault Refusal :=
  nextAt t s (fun s =>
    let win := s.p .POS_VWIN enc
    if (s.enc enc).vwinAt + us win ≤ s.now then
      s.updEnc enc (fun e => { e with
        speedW := if e.still then 0 else openDiv 57 (65536 * (e.pos - e.vwinPos)) win, vwinAt := s.now, vwinPos := e.pos })
    else s)

/-- STANDSTILL (R84, R85). -/
def execStandstill (t : Nat) (enc : Nat) (s : State) : Host.Outcome State Fault Refusal :=
  nextAt t s (fun s =>
    if !(s.enc enc).still && decide ((s.enc enc).lastChange + us (100 * s.p .POS_STILL_TIME) ≤ s.now) then
      s.updEnc enc (fun e => { e with still := true, speedW := 0, speedP := 0, cellBase := none })
    else s)

/-- An entry of the position log (R86). -/
def State.posEntry (s : State) : List Byte :=
  leBytes 8 s.glint ++ (List.range 4).flatMap (fun k => leBytes 4 (ofSigned 32 (s.enc k).pos)) ++
  (List.range 4).flatMap (fun k => leBytes 4 (ofSigned 32 (s.enc k).speedW)) ++ leBytes 8 s.seq.lineIndex

/-- POS_LOG_ENTRY (R86). -/
def execPosLogEntry (t : Nat) (s : State) : Host.Outcome State Fault Refusal :=
  nextAt t s (fun s =>
    match s.pos.logDue with
    | some d =>
      if d ≤ s.now then
        ({ s with pos := { s.pos with logDue := some (d + us (s.p .POS_LOG_PERIOD)) } } : State).serviceRecord 0x42 s.posEntry
      else s
    | none => s)

/-! ### Timing inputs and channels -/

/-- The fields of TDC_INPUT_SET. -/
def tdcInputFields (c : Cmd) : List SetField :=
  let i := c.f 0 3 0
  [⟨1, 0, .TDC_THRESH, i⟩, ⟨1, 8, .TDC_HYST, i⟩, ⟨1, 16, .TDC_HOLDOFF, i⟩]

/-- TDC_INPUT_SET. -/
def tdcInputSetDef : CmdDef :=
  setDef 0x0A03 1 [0] .header (fun _ n => n == 1) tdcInputFields (fun _ c _ => failIf (decide (9 < c.f 0 3 0)) 0x11 0) noActs

/-- TDC_INPUT_SET (R89). -/
def execTdcInputSet (t : Nat) (c : Cmd) (s : State) : Host.Outcome State Fault Refusal := .next (runHost tdcInputSetDef t c s)

/-- The fields of TDC_CHANNEL_SET. -/
def tdcChannelFields (c : Cmd) : List SetField :=
  let j := c.f 0 2 0
  [⟨1, 0, .TDC_MODE, j⟩, ⟨1, 4, .TDC_START, j⟩, ⟨1, 8, .TDC_STOP, j⟩, ⟨1, 12, .TDC_EDGE, j⟩, ⟨1, 16, .TDC_ENC, j⟩,
   ⟨1, 20, .TDC_REARM, j⟩, ⟨2, 0, .TDC_TIMEOUT, j⟩, ⟨3, 0, .TDC_ORDER_WINDOW, 0⟩]

/-- TDC_CHANNEL_SET. -/
def tdcChannelSetDef : CmdDef :=
  setDef 0x0A04 3 [0] .header (fun c n => n == 1 || n == 2 || (n == 3 && c.b 3 16)) tdcChannelFields noFails noActs

/-- TDC_CHANNEL_SET (R93, R96). -/
def execTdcChannelSet (t : Nat) (c : Cmd) (s : State) : Host.Outcome State Fault Refusal := .next (runHost tdcChannelSetDef t c s)

/-- TDC_ARM. -/
def tdcArmDef : CmdDef :=
  actDef 0x0A05 1 [0] (.among [.tick, .idle])
    (fun _ c _ => failIf (c.f 0 15 0 == 0 || decide (c.f 0 7 0 &&& c.f 0 15 8 ≠ 0)) 0x11 0)
    (fun _ c _ => [.tdcArm (c.f 0 7 0) (c.f 0 15 8)])

/-- TDC_ARM (R96). -/
def execTdcArm (t : Nat) (c : Cmd) (s : State) : Host.Outcome State Fault Refusal := .next (runHost tdcArmDef t c s)

/-- An edge on a timing input: stamped, qualified, served by the channels; a mark on CMP_MARK_CH opens a repeat (R88 to R95, R275).
    The stamp of an edge whose two calibration codes are equal has no stated value (log entry 3). -/
def State.inputEdge (s : State) (e : EdgeObs) : State :=
  if 10 ≤ e.input then s else
  let r : Nat × State := match edgeStamp e with
    | some g => (g, s)
    | none => s.takeFree
  let q := r.2.admitEdge e.input r.1
  if !q.1 then q.2 else
  let x := q.2.tdcEdges e.input r.1 e.rising
  let s := x.2
  if s.cap.run == .open_ && s.p .CMP_REPEAT_MODE == 1 && !s.member then
    x.1.foldl (fun (s : State) y => if y.1 = s.p .CMP_MARK_CH then (s.mark y.2.pos).armKnown else s) s
  else s

/-- TIMING_INPUT_EDGE (R88 to R95). -/
def execTimingInputEdge (t : Nat) (edge : EdgeObs) (s : State) : Host.Outcome State Fault Refusal := nextAt t s (fun s => s.inputEdge edge)

/-- TDC_ORDER_WINDOW_EXPIRY (R95). -/
def execTdcOrderWindowExpiry (t : Nat) (ch : Nat) (s : State) : Host.Outcome State Fault Refusal :=
  nextAt t s (fun s =>
    let c := s.chan ch
    if c.early.isSome && decide (c.earlyAt + ns (s.p .TDC_ORDER_WINDOW) ≤ s.now) then
      (s.updChan ch (fun c => { c with early := none })).orphanStop
    else s)

/-- TDC_TIMEOUT (R95). -/
def execTdcTimeout (t : Nat) (ch : Nat) (s : State) : Host.Outcome State Fault Refusal :=
  nextAt t s (fun s =>
    let c := s.chan ch
    let lim := s.p .TDC_TIMEOUT ch
    match c.start with
    | some a =>
      if lim ≠ 0 ∧ c.startedAt + us lim ≤ s.now then
        (s.updChan ch (fun c => { c with start := none, stopNext := false })).tdcEntry ch 2 (4 + s.edgeFlags ch a a) a 0 0
      else s
    | none => s)

/-! ### The time base -/

/-- The fields of TIME_SET; word 6 is no parameter. -/
def timeFields (_ : Cmd) : List SetField :=
  [⟨1, 0, .TDC_FREQ_PPB, 0⟩, ⟨2, 0, .TDC_AGE_PPB_DAY, 0⟩, ⟨2, 16, .TDC_AGE_LEARN, 0⟩, ⟨2, 18, .TDC_PPS_MODE, 0⟩,
   ⟨2, 20, .TDC_PPS_KP, 0⟩, ⟨2, 24, .TDC_PPS_KI, 0⟩, ⟨3, 0, .TDC_SLEW_MAX, 0⟩, ⟨4, 0, .TDC_LOCK_WIN, 0⟩, ⟨5, 0, .TDC_PPS_REJECT, 0⟩]

/-- Bit n − 1 of the mask names word n. -/
def timeMask (c : Cmd) (n : Nat) : Bool := decide (1 ≤ n) && decide (n ≤ 6) && c.b 0 (n - 1)

/-- The checks of TIME_SET (R99, R103, R543). -/
def timeFails (s : State) (c : Cmd) (_ : Ctx) : List (Nat × Nat) :=
  let load := timeMask c 6
  failIf (load && decide (360287970 < c.w 6)) 0x11 6 ++
  failIf (load && s.cap.run != RunSt.closed) 0x13 ++
  failIf (timeMask c 1 && s.p .TDC_PPS_MODE != 0) 0x13 ++
  failIf (timeMask c 2 && c.f 2 19 18 != 0 && s.member) 0x13 ++
  failIf (load && (s.pos.tb.load.isSome || s.openWaits)) 0x14

/-- TIME_SET: a load of the seconds is pending from its acceptance (R99). -/
def State.timeSet (s : State) (cid : Nat) (c : Cmd) (ctx : Ctx) : State :=
  if timeMask c 6 then
    let s : State := { s with pos := { s.pos with tb := { s.pos.tb with load := some ⟨cid, c.w 6, false, 0, 0⟩ } } }
    s.submit cid ctx [.timeLoad (c.w 6)]
  else s.submit cid ctx []

/-- TIME_SET. -/
def timeSetDef : CmdDef :=
  { setDef 0x0A06 6 [0] (.among [.tick, .idle]) timeMask timeFields timeFails noActs with
    run := fun s cid c ctx => s.timeSet cid c ctx }

/-- TIME_SET (R98, R99, R103). -/
def execTimeSet (t : Nat) (c : Cmd) (s : State) : Host.Outcome State Fault Refusal := .next (runHost timeSetDef t c s)

/-- The words of TIME_STATUS. -/
def State.timeWords (s : State) : List Word :=
  let tb := s.pos.tb
  Word.ofNat64 s.glint ++
  [w32 tb.st.code, wInt (clampInt (-2147483648) 2147483647 tb.lastErr), w32 (s.p .TDC_FREQ_PPB), w32 (s.p .TDC_AGE_PPB_DAY),
   w32 ((s.now - tb.since) / secs 1)]

/-- TIME_STATUS. -/
def execTimeStatus (t : Nat) (c : Cmd) (s : State) : Host.Outcome State Fault Refusal :=
  .next (runHost (statusDef 0x0A07 [0] 0 noFails (fun s _ => s.timeWords)) t c s)

/-- A qualified PPS_IN edge: a waiting load takes place with it, and the loop takes its phase error (R99 to R101). -/
def State.ppsIn (s : State) (stamp : Nat) : State :=
  if s.ppsMode = 0 then s else
  match s.performLoad stamp with
  | (some l, s) => (s.loadReply l).ppsEdge (l.secs * glintsPerSec)
  | (none, s) => s.ppsEdge stamp

/-- PPS_EDGE (R99 to R101). -/
def execPpsEdge (t : Nat) (stamp : Nat) (s : State) : Host.Outcome State Fault Refusal := nextAt t s (fun s => s.ppsIn stamp)

/-- PPS_HOLDOVER: no qualified edge within 1.001 s of the last one (R101). -/
def execPpsHoldover (t : Nat) (s : State) : Host.Outcome State Fault Refusal :=
  nextAt t s (fun s =>
    match s.pos.tb.lastEdge with
    | some e =>
      if (s.pos.tb.st == .locked || s.pos.tb.st == .acquiring) && decide (e + ms 1001 ≤ s.now) then s.holdover else s
    | none => s)

/-- HOLDOVER_AGE_STEP, once a second (R102). -/
def execHoldoverAgeStep (t : Nat) (s : State) : Host.Outcome State Fault Refusal :=
  nextAt t s (fun s => if s.pos.tb.st == .holdover && decide (s.pos.tb.ageDue ≤ s.now) then s.ageStep else s)

/-- AGE_LEARN, once an hour after 24 h of LOCKED operation (R102). -/
def execAgeLearn (t : Nat) (s : State) : Host.Outcome State Fault Refusal :=
  nextAt t s (fun s =>
    if s.p .TDC_AGE_LEARN == 1 && decide (86400 ≤ s.pos.tb.learned.length) && decide (s.pos.tb.learnDue ≤ s.now) then s.ageLearn else s)

end Sys2Proof.Machine
end

