-- ==== Sys2Proof/Machine/Auxm.lean ====
section
/-! DEFINITION. The commands and events of the auxiliary measurement block (chapter 11, group 0x0B). -/

namespace Sys2Proof.Machine

/-! ### Parameters -/

/-- The fields of AUX_SET. -/
def auxSetFields (_ : Cmd) : List SetField :=
  [⟨1, 0, .AUX_CONFIG, 0⟩, ⟨1, 2, .AUX_TRIG, 0⟩, ⟨1, 8, .AUX_OPEN_COUNT, 0⟩, ⟨1, 16, .AUX_MUX_SETTLE, 0⟩,
   ⟨2, 0, .AUX_SCAN_PERIOD, 0⟩, ⟨3, 0, .AUX_TICK_DIV, 0⟩, ⟨3, 16, .AUX_CAL_SAMPLES, 0⟩, ⟨4, 0, .AUX_SCAN_MASK, 0⟩,
   ⟨5, 0, .AUX_SCAN_MASK, 1⟩]

/-- AUX_SET. -/
def auxSetDef : CmdDef := setDef 0x0B01 5 [0] .header maskAt auxSetFields noFails noActs

/-- AUX_SET (R404, R409). -/
def execAuxSet (t : Nat) (c : Cmd) (s : State) : Host.Outcome State Fault Refusal := .next (runHost auxSetDef t c s)

/-- The channel that word 0 names. -/
def cmdAuxCh (c : Cmd) : Nat := c.f 0 5 0

/-- BAD_PARAM for a channel that DIRECT does not have (R404, R427). -/
def auxChFails (s : State) (c : Cmd) : List (Nat × Nat) :=
  failIf (decide (16 ≤ cmdAuxCh c) && parGet s.shadow .AUX_CONFIG 0 == 0) 0x11 0

/-- The fields of AUX_CH_SET. -/
def auxChSetFields (c : Cmd) : List SetField :=
  let n := cmdAuxCh c
  ([⟨1, 0, .AUX_RANGE, n⟩, ⟨1, 2, .AUX_REF, n⟩, ⟨1, 4, .AUX_FAULT, n⟩, ⟨1, 8, .AUX_LIN_ORDER, n⟩, ⟨1, 16, .AUX_EXC_PIN, n⟩,
    ⟨2, 0, .AUX_TARE, n⟩, ⟨2, 16, .AUX_SPAN, n⟩, ⟨3, 0, .AUX_SPAN_TARGET, n⟩] : List SetField) ++
  ([⟨4, 0, .AUX_LIN_TCH, n⟩, ⟨4, 16, .AUX_LIN_TDEF, n⟩, ⟨5, 0, .AUX_EXC, n⟩, ⟨5, 8, .AUX_EXC_IMIN, n⟩,
    ⟨5, 16, .AUX_EXC_IMAX, n⟩] : List SetField)

/-- Whether the temperature source of channel c is one that R416 allows, in a store. -/
def tempSourceOk (m : Sparse Nat) (c : Nat) : Bool :=
  let t := parGet m .AUX_LIN_TCH c
  t == 127 || (t != c && decide (parGet m .AUX_LIN_ORDER t < 8))

/-- The checks of AUX_CH_SET (R405, R416). -/
def auxChSetFails (s : State) (c : Cmd) (ctx : Ctx) : List (Nat × Nat) :=
  let n := cmdAuxCh c
  let m := parSets s.shadow ctx.writes
  auxChFails s c ++ failIf (maskFrom7 c 5 && decide (16 ≤ n)) 0x11 0 ++
  failIf (maskFrom7 c 4 && !tempSourceOk m n) 0x11 4 ++
  failIf (maskFrom7 c 1 && (List.range 64).any (fun d => parGet m .AUX_LIN_TCH d == n && !tempSourceOk m d)) 0x11 1 ++
  failIf (s.excLow ctx.writes) 0x13

/-- AUX_CH_SET. -/
def auxChSetDef : CmdDef := setDef 0x0B02 5 [0] .header maskFrom7 auxChSetFields auxChSetFails noActs

/-- AUX_CH_SET (R405, R408, R414 to R416, R422). -/
def execAuxChSet (t : Nat) (c : Cmd) (s : State) : Host.Outcome State Fault Refusal := .next (runHost auxChSetDef t c s)

/-- AUX_LIN_LOAD. -/
def auxLinLoadDef : CmdDef :=
  actDef 0x0B03 19 [0] (.among [.tick, .idle])
    (fun s c _ => auxChFails s c ++
      ((List.range 18).filter (fun i => c.f (1 + i) 30 23 == 255)).map (fun i => (0x11, 1 + i)))
    (fun _ c _ => [.auxLin (cmdAuxCh c) ((List.range 18).map (fun i => c.w (1 + i)))])

/-- AUX_LIN_LOAD (R415). -/
def execAuxLinLoad (t : Nat) (c : Cmd) (s : State) : Host.Outcome State Fault Refusal := .next (runHost auxLinLoadDef t c s)

/-! ### Injections -/

/-- The channels that AUX_INJECT names, by converter. -/
def injectChans (c : Cmd) : List (Nat × Nat) :=
  ((List.range 4).map (fun n => (n, c.f 0 (8 * n + 6) (8 * n)))).filter (fun x => x.2 != 127)

/-- AUX_INJECT at its acceptance (R419, R420): done at once where nothing holds it back, else queued. -/
def State.inject (s : State) (cid : Nat) (c : Cmd) : State :=
  let held := s.auxLocked || s.aux.cal.isSome
  let x : AuxInj := ⟨cid, injectChans c, held⟩
  if 4 ≤ s.aux.inject.length then (s.count .AUX_INJECT_REFUSED).reply cid 0x14 0
  else if held || !s.aux.inject.isEmpty then (s.updAux (fun a => { a with inject := a.inject ++ [x] })).defer cid
  else s.injectNow x

/-- AUX_INJECT. -/
def auxInjectDef : CmdDef where
  op := 0x0B04
  points := .immediate
  need := fun _ => 1
  fails := fun s c _ =>
    let xs := injectChans c
    let limit := if s.auxMux then 64 else 16
    failIf (xs.isEmpty || xs.any (fun x => decide (limit ≤ x.2) || s.auxConv x.2 != x.1) ||
      (s.auxMux && xs.any (fun x => x.2 % 16 != (xs.headD (0, 0)).2 % 16))) 0x11 0
  run := fun s cid c _ => s.inject cid c

/-- AUX_INJECT (R419, R420). -/
def execAuxInject (t : Nat) (c : Cmd) (s : State) : Host.Outcome State Fault Refusal := .next (runHost auxInjectDef t c s)

/-! ### Tare and span -/

/-- AUX_CAL: accepted, with its capture still to come (R417). -/
def State.auxCal (s : State) (cid : Nat) (c : Cmd) (ctx : Ctx) : State :=
  let s := s.updAux (fun a => { a with cal := some ⟨cid, cmdAuxCh c, c.b 0 8, a.inject.length⟩ })
  s.submit cid ctx [.auxCalDone (cmdAuxCh c)] false

/-- AUX_CAL. -/
def auxCalDef : CmdDef where
  op := 0x0B05
  points := .among [.rept, .idle]
  need := fun _ => 1
  fails := fun s c _ => auxChFails s c ++ failIf s.aux.cal.isSome 0x14
  run := fun s cid c ctx => s.auxCal cid c ctx

/-- AUX_CAL (R417, R418, R420). -/
def execAuxCal (t : Nat) (c : Cmd) (s : State) : Host.Outcome State Fault Refusal := .next (runHost auxCalDef t c s)

/-- The capture of an AUX_CAL, once the queue ahead of it is empty: a running scan is cut, the channel is converted back to back, and the
    new tare or span goes to its commit point (R417, R418, R421). The first number is the sense voltage, the others the inputs. -/
def State.auxCalCapture (s : State) (nv : List Int) : State :=
  match s.aux.cal with
  | none => s
  | some k =>
    if k.ahead ≠ 0 ∨ s.auxLocked then s else
    let n := s.p .AUX_CAL_SAMPLES
    let s := s.scanEnd true
    let took := us n + (if s.auxMux then us (s.p .AUX_MUX_SETTLE) else 0)
    let codes := (List.range n).map (fun i => s.auxCode k.ch (nv.getD (1 + i) 0) (nv.getD 0 0))
    let r := s.auxCapture k.ch k.span codes
    let par : Par := if k.span then .AUX_SPAN else .AUX_TARE
    let s := s.updAux (fun a => { a with
      cal := none, lockUntil := s.now + took, muxAddr := if s.auxMux then k.ch % 16 else a.muxAddr })
    let ws : List ParWrite := match r.1 with
      | some v => [⟨par, k.ch, v⟩]
      | none => []
    let extra := [wInt r.2.1, w32 r.2.2, w32 (r.1.getD (s.p par k.ch))]
    let s := { s with seq := { s.seq with pends := s.seq.pends.map (fun (p : Pend) =>
      if p.cid = k.cid then { p with writes := ws, extra := extra, status := if r.1.isNone then 3 else 0 } else p) } }
    s.prepared k.cid

/-- AUX_CAL_CAPTURE (R417). -/
def execAuxCalCapture (t : Nat) (nanovolts : List Int) (s : State) : Host.Outcome State Fault Refusal :=
  nextAt t s (fun s => s.auxCalCapture nanovolts)

/-! ### Loops -/

/-- The loop that word 0 names. -/
def cmdLoop (c : Cmd) : Nat := c.f 0 1 0

/-- The fields of AUX_LOOP_CFG. -/
def auxLoopFields (c : Cmd) : List SetField :=
  let o := cmdLoop c
  [⟨1, 0, .AUX_LOOP_MODE, o⟩, ⟨1, 2, .AUX_LOOP_CH, o⟩, ⟨1, 8, .AUX_LOOP_FMODE, o⟩, ⟨2, 0, .AUX_LOOP_SET, o⟩, ⟨2, 16, .AUX_LOOP_FAULT, o⟩,
   ⟨3, 0, .AUX_LOOP_VLO, o⟩, ⟨4, 0, .AUX_LOOP_VHI, o⟩]

/-- AUX_LOOP_CFG: a setpoint that the pace governor writes is not the host's (R424). -/
def auxLoopCfgDef : CmdDef :=
  setDef 0x0B06 4 [0] .header maskFrom7 auxLoopFields
    (fun s c _ => failIf (maskFrom7 c 2 && s.p .MOT_PACE_LOOP == cmdLoop c) 0x13) noActs

/-- AUX_LOOP_CFG (R423 to R425). -/
def execAuxLoopCfg (t : Nat) (c : Cmd) (s : State) : Host.Outcome State Fault Refusal := .next (runHost auxLoopCfgDef t c s)

/-- LOOP_READBACK, every 100 µs (R426). -/
def execLoopReadback (t : Nat) (loop : Nat) (code : Nat) (atLimit : Bool) (s : State) : Host.Outcome State Fault Refusal :=
  nextAt t s (fun s => s.loopReadback loop code atLimit)

/-- LOOP_FOLLOW_TIMEOUT: the followed channel has had no valid result for 1 s (R425). -/
def execLoopFollowTimeout (t : Nat) (loop : Nat) (s : State) : Host.Outcome State Fault Refusal :=
  nextAt t s (fun s => if s.p .AUX_LOOP_MODE loop == 2 && s.followBad loop then s.loopOut loop else s)

/-! ### Status -/

/-- AUX_LOOP_STATE_o (R427). -/
def LoopSt.code : LoopSt → Nat
  | .off => 0
  | .running => 1
  | .open_ => 2
  | .fault => 3

/-- The words of AUX_STATUS. -/
def State.auxWords (s : State) : List Word :=
  let bits := fun (f : AuxCh → Bool) (base : Nat) => (List.range 32).foldl (fun (n : Nat) i => n + (if f (s.auxCh (base + i)) then 2 ^ i else 0)) 0
  [w32 (bits (fun x => x.wire) 0), w32 (bits (fun x => x.wire) 32), w32 (bits (fun x => x.exc) 0), w32 (bits (fun x => x.exc) 32),
   w32 (s.aux.muxAddr + 256 * bitNat s.aux.scan.isSome + 512 * bitNat s.auxLocked + 4096 * s.aux.inject.length)] ++
  (List.range 4).map (fun o => w32 ((s.auxLoop o).rb + 65536 * (s.auxLoop o).st.code))

/-- AUX_STATUS. -/
def execAuxStatus (t : Nat) (c : Cmd) (s : State) : Host.Outcome State Fault Refusal :=
  .next (runHost (statusDef 0x0B07 [0] 0 noFails (fun s _ => s.auxWords)) t c s)

/-- AUX_COUNTERS_CLEAR. -/
def execAuxCountersClear (t : Nat) (c : Cmd) (s : State) : Host.Outcome State Fault Refusal :=
  .next (runHost (clearDef 0x0B08 0x0B) t c s)

/-! ### Scans -/

/-- AUX_SCAN_TRIGGER: the period or the division of ticks has run out (R409). -/
def execAuxScanTrigger (t : Nat) (s : State) : Host.Outcome State Fault Refusal :=
  nextAt t s (fun s =>
    if s.p .AUX_TRIG = 1 ∧ s.aux.due ≤ s.now then (s.updAux (fun a => { a with due := a.due + us (s.p .AUX_SCAN_PERIOD) })).scanTrigger
    else if s.p .AUX_TRIG = 2 ∧ s.aux.tickDue then (s.updAux (fun a => { a with tickDue := false })).scanTrigger
    else s)

/-- The mux address of the running scan's next step. -/
def State.scanAddr (s : State) : Option Nat :=
  match s.aux.scan with
  | some k => (s.auxSteps[k.steps]?).map (fun chans => chans.headD 0 % 16)
  | none => none

/-- AUX_SCAN_STEP (R408, R410, R411): in DIRECT 100 ns + i µs after the trigger, in MUX with the step's address loaded. -/
def execAuxScanStep (t : Nat) (nanovolts : List Int) (s : State) : Host.Outcome State Fault Refusal :=
  nextAt t s (fun s =>
    match s.aux.scan with
    | some k =>
      if (if s.auxMux then s.scanAddr == some s.aux.muxAddr else decide (k.at_ + ns 100 + us k.steps ≤ s.now)) then s.scanStep nanovolts
      else s
    | none => s)

/-- MUX_ADDRESS_LOAD, by the service core (R411). -/
def execMuxAddressLoad (t : Nat) (s : State) : Host.Outcome State Fault Refusal :=
  nextAt t s (fun s =>
    match s.scanAddr with
    | some m => if s.auxMux && s.coresUp then s.updAux (fun a => { a with muxAddr := m }) else s
    | none => s)

/-- AUX_SCAN_END, after the last step (R412). -/
def execAuxScanEnd (t : Nat) (s : State) : Host.Outcome State Fault Refusal :=
  nextAt t s (fun s =>
    match s.aux.scan with
    | some k => if s.auxSteps.length ≤ k.steps then s.scanEnd false else s
    | none => s)

/-! ### Excitation -/

/-- AUX_EXC_FAULT: the current of a pin, in 0.1 mA, has left its window (R422). -/
def execAuxExcFault (t : Nat) (exc : Nat) (current : Nat) (s : State) : Host.Outcome State Fault Refusal :=
  nextAt t s (fun s => s.excCurrent exc current)

/-- AUX_WIRE_RESTORED: the current has been inside its window for 1 ms (R422). -/
def execAuxWireRestored (t : Nat) (ch : Nat) (s : State) : Host.Outcome State Fault Refusal := nextAt t s (fun s => s.excGood ch)

/-- AUX_EXC_REDUCED: VFIELD is below 4.8 V, and a pin set to 4.5 V is lowered (R407). -/
def execAuxExcReduced (t : Nat) (exc : Nat) (s : State) : Host.Outcome State Fault Refusal :=
  nextAt t s (fun s =>
    if s.p .AUX_EXC exc == 2 && !s.aux.reduced.getD exc false then
      let s := { s with pwr := { s.pwr with vfieldMv := min s.pwr.vfieldMv 4799 } }
      (s.excReduce exc true).raise .AUX_EXC_REDUCED exc
    else s)

/-- EXC_RESTORE: VFIELD has been at or above 4.9 V for 100 ms (R407). -/
def execExcRestore (t : Nat) (exc : Nat) (s : State) : Host.Outcome State Fault Refusal :=
  nextAt t s (fun s =>
    if s.p .AUX_EXC exc == 2 && s.aux.reduced.getD exc false then
      let s := { s with pwr := { s.pwr with vfieldMv := max s.pwr.vfieldMv 4900 } }
      s.excReduce exc false
    else s)

end Sys2Proof.Machine
end

