-- ==== Sys2Proof/Machine/Sec.lean ====
section
/-! DEFINITION. The commands and events of the security module (chapter 13, group 0x0C). -/

namespace Sys2Proof.Machine

/-- BAD_STATE for a service that the error state does not provide (R501). -/
def secFails (s : State) : List (Nat × Nat) := failIf s.secFailed 0x13

/-- Whether a run is open; a closing run is open until its map is sealed. -/
def State.runOn (s : State) : Bool := s.cap.run != RunSt.closed

/-- A security command that acts at once: its words needed, its checks, its effect and reply. -/
def secDef (op need : Nat) (fails : State → Cmd → List (Nat × Nat)) (run : State → Nat → Cmd → State) : CmdDef where
  op := op
  need := fun _ => need
  fails := fun s c _ => fails s c
  run := fun s cid c _ => run s cid c

/-- SEC_STATE (R507). -/
def SecMode.code : SecMode → Nat
  | .selfTest => 0
  | .operational => 1
  | .error => 2

/-! ### Identity -/

/-- The 96 bytes of the public key of a private key's number. -/
def publicKey (n : Nat) : List Byte := (List.range 96).map (fun i => Config.publicKeyByte n i)

/-- SEC_IDENTITY: when the signature over the DKK public key was made is not stated, so its nonce is a free value (log entry 3). -/
def State.identity (s : State) (cid : Nat) : State :=
  let f := s.takeFree
  let dkk := publicKey s.sec.dkk
  let sig := (List.range 96).map (fun i => Config.ecdsaByte 0 f.1 (sha384 dkk) i)
  f.2.done cid (bytesWords 4 fingerprint ++ bytesWords 24 (publicKey 0) ++ bytesWords 24 dkk ++ bytesWords 24 sig ++
    [w32 (s.sec.mode.code + 256 * s.sec.cause + 65536 * bitNat s.sec.debug + 131072 * s.sec.bootSlot), w32 s.sec.svnOtp, w32 s.sec.svnRun])

/-- SEC_IDENTITY. -/
def execSecIdentity (t : Nat) (c : Cmd) (s : State) : Host.Outcome State Fault Refusal :=
  .next (runHost (secDef 0x0C01 0 (fun _ _ => []) (fun s cid _ => s.identity cid)) t c s)

/-- SEC_CERT_READ: its work goes on after the DEFERRED reply. -/
def secCertReadDef : CmdDef :=
  secDef 0x0C02 3 (fun s c => failIf (c.w64 0 % 64 != 0) 0x11 0 ++ secFails s) (fun s cid _ => s.defer cid)

/-- SEC_CERT_READ. -/
def execSecCertRead (t : Nat) (c : Cmd) (s : State) : Host.Outcome State Fault Refusal := .next (runHost secCertReadDef t c s)

/-- The work of SEC_CERT_READ: the certificates as far as the buffer takes them. -/
def State.certRead (s : State) (cid addr size : Nat) : State :=
  let out := Config.certificates.take size
  (s.hostWrite addr out).reply cid (if size < Config.certificates.length then 3 else 0) 0 [w32 out.length]

/-! ### Keys and policy -/

/-- SEC_ROLE_KEY at its effect: the unenveloped first installation is used up by it (R504). -/
def State.roleKeySet (s : State) (c : Cmd) : State :=
  let role := c.f 0 1 0
  let install := !c.b 0 8
  s.updSec (fun x => { x with
    roleKeys := Sparse.set x.roleKeys [] (4 * role + c.f 0 5 4) (if install then wordsAt c.words 1 24 else []),
    coInstall := x.coInstall && !(install && role == 2) })

/-- SEC_ROLE_KEY. -/
def secRoleKeyDef : CmdDef where
  op := 0x0C03
  need := fun c => if c.b 0 8 then 1 else 25
  fails := fun s c _ => failIf (c.f 0 1 0 == 0) 0x11 0 ++ failIf (!c.b 0 8 && !Config.onCurve (wordsAt c.words 1 24)) 0x11 1 ++ secFails s
  run := fun s cid c _ => (s.roleKeySet c).done cid

/-- SEC_ROLE_KEY (R477, R504). -/
def execSecRoleKey (t : Nat) (c : Cmd) (s : State) : Host.Outcome State Fault Refusal := .next (runHost secRoleKeyDef t c s)

/-- SEC_RMK at its effect: generate, import, export (R483). -/
def State.rmkRun (s : State) (cid : Nat) (c : Cmd) : State :=
  match c.f 0 1 0 with
  | 0 =>
    let d := s.draw 32
    (d.2.updSec (fun x => { x with rmk := d.1 })).done cid
  | 1 => if s.rmkOpens c.words then (s.rmkImport c.words).done cid else s.reply cid 0x21 6
  | _ =>
    let r := s.rmkExport c.words
    r.2.done cid r.1

/-- SEC_RMK. -/
def secRmkDef : CmdDef where
  op := 0x0C04
  need := fun c => match c.f 0 1 0 with
    | 1 => 40
    | 2 => 25
    | _ => 1
  fails := fun s c _ => failIf (c.f 0 1 0 == 3) 0x11 0 ++ secFails s ++ failIf s.runOn 0x13
  run := fun s cid c _ => s.rmkRun cid c

/-- SEC_RMK (R481, R483). -/
def execSecRmk (t : Nat) (c : Cmd) (s : State) : Host.Outcome State Fault Refusal := .next (runHost secRmkDef t c s)

/-- The entries of SEC_POLICY_SET: opcode and mask of roles 1 to 3. -/
def policyEntries (c : Cmd) : List (Nat × Nat) := (List.range (c.f 0 6 0)).map (fun i => (c.f (1 + i) 15 0, 2 * c.f (1 + i) 19 17))

/-- SEC_POLICY_SET. -/
def secPolicySetDef : CmdDef where
  op := 0x0C05
  need := fun c => 1 + c.f 0 6 0
  fails := fun s c _ =>
    let es := policyEntries c
    failIf (decide (64 < c.f 0 6 0)) 0x11 0 ++
    ((es.zipIdx).filter (fun x => x.1.1 / 256 == 0x0C || x.1.1 / 256 == 0 || decide (0x0F < x.1.1 / 256) || x.1.2 == 0 ||
      (es.take x.2).any (fun e => e.1 == x.1.1))).map (fun x => (0x11, 1 + x.2)) ++ secFails s
  run := fun s cid c _ => (s.updSec (fun x => { x with policy := policyEntries c })).done cid

/-- SEC_POLICY_SET (R480). -/
def execSecPolicySet (t : Nat) (c : Cmd) (s : State) : Host.Outcome State Fault Refusal := .next (runHost secPolicySetDef t c s)

/-- SEC_COSIGN_KEY: the customer key takes effect once its hash stands in OTP. -/
def secCosignKeyDef : CmdDef :=
  secDef 0x0C10 24
    (fun s c => secFails s ++ failIf (s.sec.customer.isSome || !s.fwCosigned s.sec.bootSlot (wordsAt c.words 0 24)) 0x13)
    (fun s cid c => (s.updSec (fun x => { x with customer := some (wordsAt c.words 0 24) })).done cid)

/-- SEC_COSIGN_KEY (R497). -/
def execSecCosignKey (t : Nat) (c : Cmd) (s : State) : Host.Outcome State Fault Refusal := .next (runHost secCosignKeyDef t c s)

/-! ### Audit log and maps -/

/-- SEC_AUDIT_READ: its work goes on after the DEFERRED reply. -/
def secAuditReadDef : CmdDef :=
  secDef 0x0C06 5 (fun _ c => failIf (c.w64 2 % 64 != 0) 0x11 2) (fun s cid _ => s.defer cid)

/-- SEC_AUDIT_READ (R494). -/
def execSecAuditRead (t : Nat) (c : Cmd) (s : State) : Host.Outcome State Fault Refusal := .next (runHost secAuditReadDef t c s)

/-- The work of SEC_AUDIT_READ: PARTIAL from the oldest entry where earlier ones were asked for. -/
def State.auditReadDone (s : State) (cid first addr size : Nat) : State :=
  let r := s.auditRead first addr size
  r.2.2.reply cid (if first < s.sec.auditOldest then 3 else 0) 0 (Word.ofNat64 r.1 ++ [w32 r.2.1])

/-- SEC_AUDIT_SIGN (R494). -/
def execSecAuditSign (t : Nat) (c : Cmd) (s : State) : Host.Outcome State Fault Refusal :=
  .next (runHost (secDef 0x0C07 0 (fun s _ => secFails s) (fun s cid _ => let r := s.auditHead; r.2.done cid r.1)) t c s)

/-- SEC_MAP_SIGN (R489). -/
def execSecMapSign (t : Nat) (c : Cmd) (s : State) : Host.Outcome State Fault Refusal :=
  .next (runHost (secDef 0x0C08 0 (fun s _ => secFails s ++ failIf (!s.canSignMap) 0x13) (fun s cid _ => s.signMap.done cid)) t c s)

/-! ### Firmware -/

/-- SEC_FW_WRITE. -/
def secFwWriteDef : CmdDef :=
  secDef 0x0C09 3
    (fun s c => failIf (c.w 1 % 4 != 0 || decide (fwSize < c.w 1 + 4 * (c.words.length - 2))) 0x11 1 ++ secFails s ++
      failIf (c.f 0 0 0 == s.sec.bootSlot) 0x13 ++ failIf s.flashBusy 0x14)
    (fun s cid c => (s.fwWrite (c.f 0 0 0) (c.w 1) (c.words.drop 2)).done cid)

/-- SEC_FW_WRITE (R495, R498). -/
def execSecFwWrite (t : Nat) (c : Cmd) (s : State) : Host.Outcome State Fault Refusal := .next (runHost secFwWriteDef t c s)

/-- SEC_FW_VERIFY: its work goes on after the DEFERRED reply. -/
def secFwVerifyDef : CmdDef := secDef 0x0C0A 1 (fun s _ => secFails s) (fun s cid _ => s.defer cid)

/-- SEC_FW_VERIFY (R497). -/
def execSecFwVerify (t : Nat) (c : Cmd) (s : State) : Host.Outcome State Fault Refusal := .next (runHost secFwVerifyDef t c s)

/-- The work of SEC_FW_VERIFY. -/
def State.fwVerifyDone (s : State) (cid slot : Nat) : State :=
  let out := s.fwCheck slot
  (s.updSec (fun x => { x with verified := upd x.verified slot (fun _ => out == 0) })).done cid
    [w32 (s.fwSvn slot), w32 (s.fwVersion slot), w32 out]

/-- SEC_FW_ACTIVATE. -/
def secFwActivateDef : CmdDef :=
  secDef 0x0C0B 1 (fun s c => secFails s ++ failIf (!s.sec.verified.getD (c.f 0 0 0) false) 0x13)
    (fun s cid c => (s.updSec (fun x => { x with nextSlot := c.f 0 0 0 })).done cid)

/-- SEC_FW_ACTIVATE (R498). -/
def execSecFwActivate (t : Nat) (c : Cmd) (s : State) : Host.Outcome State Fault Refusal := .next (runHost secFwActivateDef t c s)

/-- SEC_SVN_COMMIT: the counter only rises. -/
def secSvnCommitDef : CmdDef :=
  secDef 0x0C0C 0 (fun s _ => failIf (decide (64 < s.sec.svnRun)) 0x11 0xFE ++ secFails s ++ failIf s.sec.fallback 0x13)
    (fun s cid _ =>
      let v := max s.sec.svnOtp s.sec.svnRun
      (s.updSec (fun x => { x with svnOtp := v })).done cid [w32 v])

/-- SEC_SVN_COMMIT (R498). -/
def execSecSvnCommit (t : Nat) (c : Cmd) (s : State) : Host.Outcome State Fault Refusal := .next (runHost secSvnCommitDef t c s)

/-! ### Self-tests, zeroisation, debug -/

/-- SEC_SELFTEST: one run of the tests answers every command that waits for it. -/
def secSelftestDef : CmdDef :=
  secDef 0x0C0D 0
    (fun s _ => failIf (if s.secFailed then s.sec.permanent || decide (3 ≤ s.sec.recoveries) else s.runOn) 0x13)
    (fun s cid _ => let s := s.defer cid; if s.sec.test.isSome then s else s.testStart (.command cid))

/-- SEC_SELFTEST (R499, R503). -/
def execSecSelftest (t : Nat) (c : Cmd) (s : State) : Host.Outcome State Fault Refusal := .next (runHost secSelftestDef t c s)

/-- SEC_ZEROISE. -/
def secZeroiseDef : CmdDef :=
  secDef 0x0C0E 1 (fun s _ => secFails s ++ failIf s.runOn 0x13) (fun s cid c => (s.zeroise (c.b 0 0)).done cid)

/-- SEC_ZEROISE (R504). -/
def execSecZeroise (t : Nat) (c : Cmd) (s : State) : Host.Outcome State Fault Refusal := .next (runHost secZeroiseDef t c s)

/-- SEC_DEBUG at its effect (R490, R505). -/
def State.debugSet (s : State) (unlock : Bool) : State :=
  let s := s.updSec (fun x => { x with debug := unlock })
  if unlock then (s.auditDevice Ev.SEC_DEBUG_UNLOCKED.id 0).raise .SEC_DEBUG_UNLOCKED else s

/-- SEC_DEBUG. -/
def secDebugDef : CmdDef :=
  secDef 0x0C0F 1 (fun s c => secFails s ++ failIf (c.b 0 0 && (s.runOn || s.pwr.st != .ready)) 0x13)
    (fun s cid c => (s.debugSet (c.b 0 0)).done cid)

/-- SEC_DEBUG (R505). -/
def execSecDebug (t : Nat) (c : Cmd) (s : State) : Host.Outcome State Fault Refusal := .next (runHost secDebugDef t c s)

/-- SEC_COUNTERS_CLEAR. -/
def execSecCountersClear (t : Nat) (c : Cmd) (s : State) : Host.Outcome State Fault Refusal :=
  .next (runHost (clearDef 0x0C11 0x0C) t c s)

/-! ### Events -/

/-- SELFTEST_DUE (R499). -/
def execSelftestDue (t : Nat) (s : State) : Host.Outcome State Fault Refusal := nextAt t s (fun s => s.testPeriod)

/-- SELFTEST_DONE: 0 for a pass, else the cause (R499, R503). -/
def execSelftestDone (t : Nat) (cause : Nat) (s : State) : Host.Outcome State Fault Refusal := nextAt t s (fun s => s.testDone cause)

/-- ENTROPY_TEST_FAIL: the cause is 2 for an entropy test, 3 for a pairwise test (R500). -/
def execEntropyTestFail (t : Nat) (cause : Nat) (s : State) : Host.Outcome State Fault Refusal := nextAt t s (fun s => s.secError cause)

/-- AUDIT_FLUSH (R493). -/
def execAuditFlush (t : Nat) (ok : Bool) (s : State) : Host.Outcome State Fault Refusal := nextAt t s (fun s => s.auditFlush ok)

end Sys2Proof.Machine
end

