-- ==== Sys2Proof/Machine/Hlt.lean ====
section
/-! DEFINITION. The commands and events of the health monitors (chapter 14, group 0x0D), and of the work that the lanes and the trims do
at IDLE (R182, R183, R533). -/

namespace Sys2Proof.Machine

/-- Bytes of a list as result words of 16-bit fields, two per word, the lower index in the low half. -/
def halfWords : List Nat → List Word
  | a :: b :: rest => w32 (a % 65536 + 65536 * (b % 65536)) :: halfWords rest
  | [a] => [w32 (a % 65536)]
  | [] => []

/-! ### Status -/

/-- The words of HLT_STATUS (R536, R538). -/
def State.hltWords (s : State) : List Word :=
  let live := fun (c : Nat) => min 255 (s.hlt.faults.filter (fun f => f.cls == c)).length
  [w32 (s.hlt.therm + 65536 * ofSigned 16 s.hlt.tempMax),
   w32 (live 0 + 2 ^ 8 * live 1 + 2 ^ 16 * live 2 + 2 ^ 24 * live 3),
   w32 (s.cntOf .HLT_FAULT_OVERFLOWS 0),
   w32 (s.exhausted 1 + 2 ^ 8 * s.exhausted 2 + 2 ^ 16 * s.exhausted 4 + 2 ^ 24 * s.exhausted 5),
   w32 s.hlt.trimRuns] ++ Word.ofNat64 s.hlt.trimTime

/-- HLT_STATUS. -/
def execHltStatus (t : Nat) (c : Cmd) (s : State) : Host.Outcome State Fault Refusal :=
  .next (runHost (statusDef 0x0D01 [0] 0 noFails (fun s _ => s.hltWords)) t c s)

/-- The eight words of a fault-queue slot, zeros for a free one (R520). -/
def State.slotWords (s : State) (i : Nat) : List Word :=
  match s.hlt.faults.find? (fun f => f.slot == i) with
  | some f => bytesWords 8 f.bytes
  | none => List.replicate 8 0

/-- HLT_FAULT_READ. -/
def hltFaultReadDef : CmdDef :=
  statusDef 0x0D02 [0] 1
    (fun _ c _ => failIf (c.f 0 12 8 == 0 || decide (64 < c.f 0 5 0 + c.f 0 12 8)) 0x11)
    (fun s c => (List.range (c.f 0 12 8)).flatMap (fun i => s.slotWords (c.f 0 5 0 + i)))

/-- HLT_FAULT_READ (R520). -/
def execHltFaultRead (t : Nat) (c : Cmd) (s : State) : Host.Outcome State Fault Refusal := .next (runHost hltFaultReadDef t c s)

/-- HLT_FAULT_ACK: slots that await acknowledgement retire. -/
def hltFaultAckDef : CmdDef where
  op := 0x0D03
  points := .immediate
  need := fun _ => 2
  run := fun s cid c _ =>
    let r := s.ackFaults (c.w64 0)
    r.2.done cid [w32 r.1]

/-- HLT_FAULT_ACK (R515). -/
def execHltFaultAck (t : Nat) (c : Cmd) (s : State) : Host.Outcome State Fault Refusal := .next (runHost hltFaultAckDef t c s)

/-! ### Settings -/

/-- The fields of HLT_SET. -/
def hltSetFields (_ : Cmd) : List SetField := [⟨1, 0, .HLT_CE_LIMIT, 0⟩, ⟨2, 0, .HLT_SCRUB_PERIOD, 0⟩, ⟨3, 0, .HLT_PM_LIMIT, 0⟩]

/-- HLT_SET. -/
def hltSetDef : CmdDef := setDef 0x0D04 3 [0] .immediate maskAt hltSetFields noFails noActs

/-- HLT_SET (R538). -/
def execHltSet (t : Nat) (c : Cmd) (s : State) : Host.Outcome State Fault Refusal := .next (runHost hltSetDef t c s)

/-- HLT_CLASS_SET: the classes of a range of sources. -/
def hltClassSetDef : CmdDef where
  op := 0x0D05
  points := .immediate
  need := fun _ => 1
  writes := fun _ c => (List.range (min (c.f 0 25 16) 247)).map (fun i => (1 + i, (⟨.HLT_CLASS, c.f 0 9 0 + i, c.f (1 + i) 2 0⟩ : ParWrite)))
  fails := fun _ c _ =>
    let n := c.f 0 25 16
    failIf (n == 0 || decide (247 < n) || decide (600 < c.f 0 9 0 + n) || c.words.length != 1 + n) 0x11 0
  run := fun s cid _ ctx => s.submit cid ctx

/-- HLT_CLASS_SET (R514). -/
def execHltClassSet (t : Nat) (c : Cmd) (s : State) : Host.Outcome State Fault Refusal := .next (runHost hltClassSetDef t c s)

/-- The words of HLT_MONITOR_READ. -/
def State.monitorWords (s : State) : List Word :=
  halfWords (s.hlt.temps.map (fun x => ofSigned 16 x)) ++ halfWords (s.hlt.volts.map (fun v => v.mv)) ++
  halfWords (s.hlt.proc.map (fun x => ofSigned 16 x))

/-- HLT_MONITOR_READ (R524 to R526). -/
def execHltMonitorRead (t : Nat) (c : Cmd) (s : State) : Host.Outcome State Fault Refusal :=
  .next (runHost (statusDef 0x0D06 [0] 0 noFails (fun s _ => s.monitorWords)) t c s)

/-! ### Trims (R183, R533 to R536) -/

/-- The trims that HLT_TRIM_RUN measures: kinds 4, 5 and 8 of its mask. -/
def hltTrims (mask : Nat) : List (Nat × Nat) :=
  ((trimKinds.filter (fun k => natBit mask k.1)).flatMap (fun k => (List.range k.2).map (fun i => (k.1, i))))

/-- HLT_TRIM_RUN: it measures in the background and commits at the point named (R533). -/
def hltTrimRunDef : CmdDef where
  op := 0x0D07
  points := .among [.rept, .idle]
  need := fun _ => 1
  fails := fun s c _ =>
    failIf ((maskList 32 (c.w 0)).any (fun n => n != 4 && n != 5 && n != 8)) 0x11 ++ failIf s.hlt.trimRun.isSome 0x14
  run := fun s cid c ctx =>
    (s.defer cid).updHlt (fun h => { h with trimRun := some ⟨cid, hltTrims (c.w 0), false, ctx.point == .rept, ctx.point, true, 0⟩ })

/-- HLT_TRIM_RUN. -/
def execHltTrimRun (t : Nat) (c : Cmd) (s : State) : Host.Outcome State Fault Refusal := .next (runHost hltTrimRunDef t c s)

/-- HLT_TRIM_STORE: DEFERRED; the store ends with DEFERRED_WORK_DONE. -/
def hltTrimStoreDef : CmdDef where
  op := 0x0D08
  fails := fun s _ _ => failIf s.flashBusy 0x14
  run := fun s cid _ _ => s.defer cid

/-- HLT_TRIM_STORE (R213, R534). -/
def execHltTrimStore (t : Nat) (c : Cmd) (s : State) : Host.Outcome State Fault Refusal := .next (runHost hltTrimStoreDef t c s)

/-- How many trims a kind has; none for a number that is no kind (R532). -/
def kindCount (kind : Nat) : Nat := ((trimKinds.find? (fun k => k.1 == kind)).map (fun k => k.2)).getD 0

/-- A trim as HLT_TRIM_READ reports it: in effect, or its factory record, zeros where none is valid. -/
def State.trimRecord (s : State) (fac : Bool) (kind i : Nat) : List Word :=
  if fac then
    match factory kind i with
    | some t => bytesWords 4 (trimBytes kind i t)
    | none => List.replicate 4 0
  else bytesWords 4 (trimBytes kind i (s.trim kind i))

/-- HLT_TRIM_READ. -/
def hltTrimReadDef : CmdDef :=
  statusDef 0x0D09 [0] 2
    (fun _ c _ =>
      let n := c.f 1 5 0
      failIf (kindCount (c.f 0 7 0) == 0 || decide (kindCount (c.f 0 7 0) ≤ c.f 0 23 8)) 0x11 ++
      failIf (n == 0 || n == 63 || decide (kindCount (c.f 0 7 0) < c.f 0 23 8 + n)) 0x11 1)
    (fun s c => (List.range (c.f 1 5 0)).flatMap (fun i => s.trimRecord (c.b 0 24) (c.f 0 7 0) (c.f 0 23 8 + i)))

/-- HLT_TRIM_READ (R534). -/
def execHltTrimRead (t : Nat) (c : Cmd) (s : State) : Host.Outcome State Fault Refusal := .next (runHost hltTrimReadDef t c s)

/-! ### Counters (R537, R539) -/

/-- HLT_COUNTERS_READ. -/
def hltCountersReadDef : CmdDef :=
  statusDef 0x0D0A [0] 1
    (fun _ c _ =>
      let n := c.f 0 27 20
      failIf (n == 0 || decide (248 < n) || decide ((groupIndex (c.f 0 7 0)).length < c.f 0 19 8 + n)) 0x11)
    (fun s c => ((s.counterWords (c.f 0 7 0)).drop (c.f 0 19 8)).take (c.f 0 27 20))

/-- HLT_COUNTERS_READ (R537). -/
def execHltCountersRead (t : Nat) (c : Cmd) (s : State) : Host.Outcome State Fault Refusal := .next (runHost hltCountersReadDef t c s)

/-- HLT_COUNTERS_CLEAR (R539). -/
def execHltCountersClear (t : Nat) (c : Cmd) (s : State) : Host.Outcome State Fault Refusal :=
  .next (runHost (clearDef 0x0D0B 0x0D) t c s)

/-! ### Events -/

/-- FAULT_HANDLE (R516): the service core runs only while the management cores do. -/
def execFaultHandle (t : Nat) (s : State) : Host.Outcome State Fault Refusal :=
  nextAt t s (fun s => if s.coresUp then s.handleFault else s)

/-- TEMP_SAMPLE (R524, R528). -/
def execTempSample (t : Nat) (temps : List Int) (s : State) : Host.Outcome State Fault Refusal := nextAt t s (fun s => s.tempSample temps)

/-- THERMAL_STEP_DOWN (R528). -/
def execThermalStepDown (t : Nat) (s : State) : Host.Outcome State Fault Refusal := nextAt t s (fun s => s.thermDown)

/-- HLT_VOLTAGE: one monitor's sample (R525); the VFIELD monitors tell the level that R404 and R407 ask for. -/
def execHltVoltage (t mon mv : Nat) (s : State) : Host.Outcome State Fault Refusal :=
  nextAt t s (fun s =>
    let s := s.voltSample mon mv
    if mon = 38 ∨ mon = 39 then s.updPwr (fun p => { p with vfieldMv := mv }) else s)

/-- VOLTAGE_FAULT_PERSIST (R525). -/
def execVoltageFaultPersist (t mon : Nat) (s : State) : Host.Outcome State Fault Refusal := nextAt t s (fun s => s.voltPersist mon)

/-- HLT_PROCESS (R526). -/
def execHltProcess (t tile : Nat) (dev : Int) (s : State) : Host.Outcome State Fault Refusal := nextAt t s (fun s => s.process tile dev)

/-- CLOCK_FAULT (R527): without the UCIe PLL the link is not active. -/
def execClockFault (t clk : Nat) (s : State) : Host.Outcome State Fault Refusal :=
  nextAt t s (fun s =>
    let s := s.clockFault clk
    if clk = 5 then s.linkDown 0 else s)

/-- CLOCK_RELOCK (R527). -/
def execClockRelock (t clk : Nat) (s : State) : Host.Outcome State Fault Refusal := nextAt t s (fun s => s.clockBack clk)

/-- DRAM_ECC_ERROR (R522). -/
def execDramEccError (t addr : Nat) (correctable : Bool) (s : State) : Host.Outcome State Fault Refusal :=
  nextAt t s (fun s => s.dramError addr correctable)

/-- SRAM_ECC_ERROR (R26, R521). -/
def execSramEccError (t mem item : Nat) (kind : EccKind) (s : State) : Host.Outcome State Fault Refusal :=
  nextAt t s (fun s => s.sramError mem item kind)

/-- One scrub of the libraries (R523): how many lines it corrects is not known, and a line of the reference library that cannot be
    corrected takes the resident state of its slot. -/
def State.scrub (s : State) : State :=
  if s.p .HLT_SCRUB_PERIOD = 0 ∨ s.now < s.hlt.scrubDue then s else
  let due := s.now + 3600 * secs 1 * s.p .HLT_SCRUB_PERIOD
  let f := s.takeFree
  let s := f.2.updHlt (fun h => { h with scrubDue := due })
  let s := s.count .HLT_SCRUB_FIXES 0 f.1
  let bad := (s.cmp.refUe.flatMap (fun a => s.slotsAt a 1)).eraseDups
  s.updCmp (fun c => { c with
    resident := c.resident.filter (fun i => !bad.contains i), ready := c.ready.filter (fun i => !bad.contains i) })

/-- SCRUB (R523). -/
def execScrub (t : Nat) (s : State) : Host.Outcome State Fault Refusal := nextAt t s (fun s => s.scrub)

/-- A command that was answered DEFERRED goes to its commit point. -/
def State.lateCommit (s : State) (cid : Nat) (point : Pt) (flags : Nat) (acts : List Act) : State :=
  let p : Pend := ⟨cid, none, point, 0, none, [], acts, flags, none, [], [], 0⟩
  let s := s.pendArrives p
  if point = .idle ∧ s.idleNow then s.commitIdle else s

/-- A measurement ends (R183, R533): its trims go to their commit point, or the run fails. -/
def State.trimDone (s : State) (ok : Bool) : State :=
  match s.hlt.trimRun with
  | none => s
  | some r =>
    if !r.running || (r.sen && !s.idleWork) || s.seq.pends.any (fun p => p.cid == r.cid) then s
    else if ok then s.lateCommit r.cid r.point r.flags [.trimRun]
    else (s.updHlt (fun h => { h with trimRun := none })).reply r.cid 0x40 r.flags

/-- TRIM_RUN_DONE (R533). -/
def execTrimRunDone (t : Nat) (ok : Bool) (s : State) : Host.Outcome State Fault Refusal := nextAt t s (fun s => s.trimDone ok)

/-- A converter back in service (R182). -/
def State.laneBack (s : State) (c : Nat) : State :=
  let tile := c / 9
  let l := c % 9
  let was := (s.lane c).st
  let s := (s.updLane c (fun x => { x with
    st := if l = 8 then .spareReady else .inService, forced := false,
    blinds := x.blinds.map (fun b => (b.1, b.2.1, some (b.2.2.getD s.seq.lineIndex))) })).unseed c
  let s := if was = .replaced then
      (s.updSpare tile (fun x => { x with serves := none, claimed := none })).updLane (9 * tile + 8) (fun x =>
        { x with st := if x.st = .spareInUse then .spareReady else x.st })
    else s
  s.raise .SEN_LANE_RESTORED (laneDetail tile l 0)

/-- The tests of a restore end (R182): the oldest restore that runs completes, with the tests that failed. -/
def State.restoreDone (s : State) (fails : List Nat) : State :=
  match s.sen.restore with
  | [] => s
  | r :: rest =>
    if !s.idleWork then s else
    let s := { s with sen := { s.sen with restore := rest } }
    let n := fails.eraseDups.length
    let line := s.seq.lineIndex
    let ok := n == 0 && (s.lane r.conv).st.restorable
    let s := if ok then s.laneBack r.conv else s
    s.replyAt r.cid (if ok then 0 else 0x13) r.flags (Word.ofNat64 line ++ [w32 n]) line

/-- LANE_RESTORE_DONE (R182). -/
def execLaneRestoreDone (t : Nat) (fails : List Nat) (s : State) : Host.Outcome State Fault Refusal := nextAt t s (fun s => s.restoreDone fails)

end Sys2Proof.Machine
end

