-- ==== Sys2Proof/Machine/Ask.lean ====
section
/-! DEFINITION. The commands and events of the cascade port (chapter 15, group 0x0E). -/

namespace Sys2Proof.Machine

/-! ### Commands -/

/-- The fields of ASK_SET: word 0 and the hop weights. -/
def askSetFields (_ : Cmd) : List SetField :=
  [⟨0, 0, .ASK_ROLE, 0⟩, ⟨0, 8, .ASK_DEVICES, 0⟩] ++
  (List.range 8).map (fun h => (⟨1 + h / 4, 8 * (h % 4), .ASK_HOP_W, h⟩ : SetField))

/-- MSTR_SEL. -/
def State.mstrSel (s : State) : Bool := natBit s.pwr.straps 0

/-- Whether a role matches the strap (R542). -/
def State.roleOk (s : State) (role : Nat) : Bool := role == 0 || (role == 1 && s.mstrSel) || (role == 2 && !s.mstrSel)

/-- ASK_SET. -/
def askSetDef : CmdDef :=
  setDef 0x0E01 2 [0] (.fixed .idle) (fun _ _ => true) askSetFields
    (fun s c _ => failIf (decide (c.f 0 11 8 ≤ s.devId)) 0x11 ++
      failIf (!s.roleOk (c.f 0 1 0) || s.runOn) 0x13)
    (fun _ _ _ => [.askSet])

/-- ASK_SET (R542, R561). -/
def execAskSet (t : Nat) (c : Cmd) (s : State) : Host.Outcome State Fault Refusal := .next (runHost askSetDef t c s)

/-- Whether a command is a member of an open group. -/
def State.inGroup (s : State) (cid : Nat) : Bool :=
  match s.outOf cid with
  | some o => (s.groupOn o.ring).isSome
  | none => false

/-- ASK_CAL: DEFERRED, then at IDLE (R549). -/
def askCalDef : CmdDef where
  op := 0x0E02
  points := .fixed .idle
  fails := fun s _ _ => failIf (!s.isMaster || !s.ask.up) 0x13
  run := fun s cid _ ctx =>
    if s.inGroup cid then s.submit cid ctx [.askCal] else (s.defer cid).lateCommit cid .idle 0 [.askCal]

/-- ASK_CAL. -/
def execAskCal (t : Nat) (c : Cmd) (s : State) : Host.Outcome State Fault Refusal := .next (runHost askCalDef t c s)

/-- The words of ASK_STATUS (R561). -/
def State.askWords (s : State) : List Word :=
  [w32 (s.askState + 16 * s.p .ASK_ROLE + 256 * bitNat s.mstrSel), w32 (s.ask.align % 256 + 65536 * (s.ask.path % 65536)),
   w32 (ofSigned 16 s.ask.timeErr)] ++ Word.ofNat64 s.ask.lastTick

/-- ASK_STATUS. -/
def execAskStatus (t : Nat) (c : Cmd) (s : State) : Host.Outcome State Fault Refusal :=
  .next (runHost (statusDef 0x0E03 [0] 0 noFails (fun s _ => s.askWords)) t c s)

/-- ASK_COUNTERS_CLEAR (R562). -/
def execAskCountersClear (t : Nat) (c : Cmd) (s : State) : Host.Outcome State Fault Refusal :=
  .next (runHost (clearDef 0x0E04 0x0E) t c s)

/-! ### Frames -/

/-- ASKURI_FRAME_RX (R545): two bad frames after a tick leave its index to R553. -/
def execAskuriFrameRx (t : Nat) (bytes : List Byte) (s : State) : Host.Outcome State Fault Refusal :=
  nextAt t s (fun s =>
    let s := s.frameIn bytes
    if 2 ≤ s.ask.tickBad then s.memberGuess else s)

/-- MASTER_FRAME_ORIGINATE (R544, R545, R557). -/
def execMasterFrameOriginate (t : Nat) (s : State) : Host.Outcome State Fault Refusal := nextAt t s (fun s => s.frameOut)

/-- TICK_INFO (R546, R553). -/
def execTickInfo (t : Nat) (payload : List Byte) (s : State) : Host.Outcome State Fault Refusal :=
  nextAt t s (fun s => if s.member then s.memberTick (frameLe payload 0 8) else s)

/-- TIME_FRAME (R551). -/
def execTimeFrame (t : Nat) (payload : List Byte) (s : State) : Host.Outcome State Fault Refusal :=
  nextAt t s (fun s => s.timeFrame (frameLe payload 0 8))

/-- RUN_FRAME (R552). -/
def execRunFrame (t : Nat) (payload : List Byte) (s : State) : Host.Outcome State Fault Refusal :=
  nextAt t s (fun s => s.runFrame (frameLe payload 0 4) (toSigned 64 (frameLe payload 4 8)) (frameLe payload 12 4))

/-- REPEAT_FRAME (R554). -/
def execRepeatFrame (t : Nat) (payload : List Byte) (s : State) : Host.Outcome State Fault Refusal :=
  nextAt t s (fun s => s.repeatFrame (frameLe payload 0 8) (frameLe payload 8 4) (frameLe payload 12 4))

/-- ARM_FRAME (R555, R556). -/
def execArmFrame (t : Nat) (payload : List Byte) (s : State) : Host.Outcome State Fault Refusal :=
  nextAt t s (fun s => s.armFrame (frameLe payload 0 4) (frameLe payload 4 8))

/-- SEAM_RECORD_RX: the 64 bytes of a record put together (R312, R313, R557). -/
def execSeamRecordRx (t : Nat) (payload : List Byte) (s : State) : Host.Outcome State Fault Refusal :=
  nextAt t s (fun s => if s.p .ASK_ROLE = 0 then s else (s.count .ASK_SEAMS_RECEIVED).seamRecord payload)

/-- CAL_FRAME (R549, R550). -/
def execCalFrame (t : Nat) (payload : List Byte) (s : State) : Host.Outcome State Fault Refusal :=
  nextAt t s (fun s => s.calFrame (frameLe payload 0 4) (frameLe payload 4 2 % 256))

/-! ### The link -/

/-- ASK_LINK_UP (R545). -/
def execAskLinkUp (t : Nat) (s : State) : Host.Outcome State Fault Refusal := nextAt t s (fun s => s.linkIn)

/-- ASK_LINK_DOWN (R545). -/
def execAskLinkDown (t : Nat) (s : State) : Host.Outcome State Fault Refusal := nextAt t s (fun s => s.linkOut)

/-- ASK_TIME_MARK_PULSE (R551). -/
def execAskTimeMarkPulse (t : Nat) (s : State) : Host.Outcome State Fault Refusal := nextAt t s (fun s => s.timeMark)

/-- ASK_CAL_PULSE (R549). -/
def execAskCalPulse (t : Nat) (s : State) : Host.Outcome State Fault Refusal := nextAt t s (fun s => s.calPulse)

/-- ASK_MASTER_LOST (R558). -/
def execAskMasterLost (t : Nat) (s : State) : Host.Outcome State Fault Refusal := nextAt t s (fun s => s.masterLost)

/-- ASK_MASTER_RESTORED (R559). -/
def execAskMasterRestored (t : Nat) (s : State) : Host.Outcome State Fault Refusal := nextAt t s (fun s => s.masterBack)

end Sys2Proof.Machine
end

