-- ==== Sys2Proof/Machine/Link.lean ====
section
/-! DEFINITION. What the host does through registers and the BARs, and what the link, the rings, the event engine and the management cores
do (chapters 9 and 12). -/

namespace Sys2Proof.Machine

/-- The opcodes the chapters define (R458). -/
def definedOpcodes : List Nat :=
  ([(1, 8), (2, 6), (3, 11), (4, 11), (5, 8), (6, 5), (7, 12), (8, 10), (9, 12), (10, 8), (11, 8), (12, 17), (13, 11), (14, 4), (15, 6)] :
    List (Nat × Nat)).flatMap (fun x => (List.range x.2).map (fun i => 256 * x.1 + i + 1))

/-- A packet whose opcode no chapter defines: it is fetched in its turn and answered BAD_OPCODE (R455, R458). -/
def State.badOpcode (s : State) (r : Nat) (ws : List Word) : State :=
  let h := fun (i : Nat) => (ws.getD i 0).toNat
  let op := h 0 % 65536
  let c : Cmd := ⟨r, (h 0).testBit 16, false, h 1 % 65536, natField (h 1) 17 16, natField (h 1) 20 18, natField (h 1) 24 21,
    natField (h 1) 28 25, h 2 % 8, h 3, ws.drop 4⟩
  if definedOpcodes.contains op || !s.fetchable c then s else (s.fetch op c).reply s.freshCid 0x10

/-- SUBMISSION_DOORBELL (R445, R448): others are packets with opcodes that no command of the table stands for. -/
def execSubmissionDoorbell (t ring value : Nat) (others : List (List Word)) (s : State) : Host.Outcome State Fault Refusal :=
  nextAt t s (fun s =>
    if !s.barOk || decide (4 ≤ ring) then s
    else others.foldl (fun (s : State) ws => s.badOpcode ring ws) (s.hostIndex ring (value % 65536)))

/-- CONSUMER_INDEX_WRITE (R445). -/
def execConsumerIndexWrite (t ring value : Nat) (s : State) : Host.Outcome State Fault Refusal :=
  nextAt t s (fun s => if s.barOk && (ring == 4 || ring == 5) then s.hostIndex ring (value % 65536) else s)

/-- RING_ENABLE (R444). -/
def execRingEnable (t ring size : Nat) (s : State) : Host.Outcome State Fault Refusal :=
  nextAt t s (fun s => if s.barOk && decide (ring < 6) then s.ringEnable ring (size % 16) else s)

/-- RING_DISABLE (R446). -/
def execRingDisable (t ring : Nat) (s : State) : Host.Outcome State Fault Refusal :=
  nextAt t s (fun s => if s.barOk && decide (ring < 6) then s.ringDisable ring else s)

/-- HQ_CONS_WRITE (R337). -/
def execHqConsWrite (t q value : Nat) (s : State) : Host.Outcome State Fault Refusal :=
  nextAt t s (fun s => if s.barOk && decide (q < 65536) then s.consWrite q (value % 65536) else s)

/-- HQ_GRANT_WRITE (R336). -/
def execHqGrantWrite (t q blocks : Nat) (s : State) : Host.Outcome State Fault Refusal :=
  nextAt t s (fun s => if s.barOk && decide (q < 65536) then s.grantWrite q (blocks % 65536) else s)

/-- WAIT_WINDOW_READ (R345, R346). -/
def execWaitWindowRead (t q : Nat) (s : State) : Host.Outcome State Fault Refusal :=
  nextAt t s (fun s => if s.barOk && decide (q < 65536) then s.waitRead q else s)

/-- WAIT_WINDOW_RELEASE (R345). -/
def execWaitWindowRelease (t q : Nat) (s : State) : Host.Outcome State Fault Refusal := nextAt t s (fun s => s.waitRelease q)

/-- WAIT_LIMIT_EXPIRY (R345). -/
def execWaitLimitExpiry (t q : Nat) (s : State) : Host.Outcome State Fault Refusal := nextAt t s (fun s => s.waitExpire q)

/-- REGISTER_WRITE (R438, R439). -/
def execRegisterWrite (t off size value : Nat) (s : State) : Host.Outcome State Fault Refusal :=
  nextAt t s (fun s => if s.barOk then s.regWrite off size value else s)

/-- BAR_BAD_ACCESS (R438). -/
def execBarBadAccess (t : Nat) (write : Bool) (s : State) : Host.Outcome State Fault Refusal :=
  nextAt t s (fun s => if s.barOk then s.barBad write else s)

/-- BAR2_READ (R368). -/
def execBar2Read (t off len : Nat) (s : State) : Host.Outcome State Fault Refusal :=
  nextAt t s (fun s => if s.barOk then s.bar2Read off len else s)

/-- BAR2_WRITE (R368, R284). -/
def execBar2Write (t off : Nat) (data : List Byte) (s : State) : Host.Outcome State Fault Refusal :=
  nextAt t s (fun s => if s.barOk then s.bar2Write off data else s)

/-- FUNCTION_LEVEL_RESET (R470). -/
def execFunctionLevelReset (t : Nat) (s : State) : Host.Outcome State Fault Refusal := nextAt t s (fun s => if s.barOk then s.flr else s)

/-- HOT_RESET (R469). -/
def execHotReset (t : Nat) (s : State) : Host.Outcome State Fault Refusal := nextAt t s (fun s => s.hotReset)

/-- PM_REQUEST (R433). -/
def execPmRequest (t : Nat) (s : State) : Host.Outcome State Fault Refusal := nextAt t s (fun s => s.pmRequest)

/-- SYS_LINK_LOST (R467). -/
def execSysLinkLost (t cause : Nat) (s : State) : Host.Outcome State Fault Refusal := nextAt t s (fun s => s.linkDown (cause % 4))

/-- SYS_LINK_RESTORED (R468). -/
def execSysLinkRestored (t rate width : Nat) (msix : Bool) (s : State) : Host.Outcome State Fault Refusal :=
  nextAt t s (fun s => s.linkBack rate width msix)

/-- The packets of the spill area, as the memory answers their reads: each one that it answers with an uncorrectable error is dropped
    (R522, R527). -/
def State.spillRead (s : State) : State :=
  if s.clockOk 4 then s
  else s.host.spill.foldl (fun (s : State) (i : SpillItem) => match i with
    | .packet .. => s.spillBad
    | .entry .. => s) s

/-- HQ_SPILL_DRAINED (R353, R468). -/
def execHqSpillDrained (t : Nat) (s : State) : Host.Outcome State Fault Refusal :=
  nextAt t s (fun s => if s.linkUp then s.spillRead.drainSpill.linkFinish else s)

/-- EXEC_BUDGET_EXPIRY (R456). -/
def execExecBudgetExpiry (t cid : Nat) (s : State) : Host.Outcome State Fault Refusal :=
  nextAt t s (fun s => match s.outOf cid with
    | some o => if o.first || o.aborted then s else s.defer cid
    | none => s)

/-- DMA_READ_FAIL (R456). -/
def execDmaReadFail (t ring : Nat) (cmd : Option Nat) (s : State) : Host.Outcome State Fault Refusal :=
  nextAt t s (fun s => s.dmaFail ring cmd)

/-- COMPLETION_WRITE (R457). -/
def execCompletionWrite (t : Nat) (s : State) : Host.Outcome State Fault Refusal := nextAt t s (fun s => s.completionWrite)

/-- EVENT_HOLDOFF_EXPIRY (R460). -/
def execEventHoldoffExpiry (t src : Nat) (s : State) : Host.Outcome State Fault Refusal := nextAt t s (fun s => s.evtHoldEnd src)

/-- SYS_EVT_DELAYED (R462). -/
def execSysEvtDelayed (t : Nat) (s : State) : Host.Outcome State Fault Refusal :=
  nextAt t s (fun s => s.eventsDrain s.host.evWait.length)

/-- IRQ_HOLDOFF_EXPIRY (R463). -/
def execIrqHoldoffExpiry (t vec : Nat) (s : State) : Host.Outcome State Fault Refusal := nextAt t s (fun s => s.irqHoldEnd vec)

/-- WATCHDOG_EXPIRY (R465). -/
def execWatchdogExpiry (t cores : Nat) (s : State) : Host.Outcome State Fault Refusal :=
  nextAt t s (fun s => if s.coresUp && decide (1 ≤ cores) && decide (cores ≤ 3) then s.coresReset cores none else s)

/-- SYS_WATCHDOG (R465). -/
def execSysWatchdog (t : Nat) (s : State) : Host.Outcome State Fault Refusal := nextAt t s (fun s => s.coresRun)

end Sys2Proof.Machine
end

