-- ==== Sys2Proof/Machine/Pwr.lean ====
section
/-! DEFINITION. The commands and events of the power controller (chapter 16, group 0x0F), and the end of work that a command has left in
the background (R456). -/

namespace Sys2Proof.Machine

/-! ### Commands -/

/-- The words of PWR_STATUS (R581). -/
def State.pwrWords (s : State) : List Word :=
  Word.ofNat64 s.pwr.domains ++
  [w32 (s.pwr.st.code + 16 * s.pwr.safeCause + 256 * s.pwr.straps + 65536 * s.p .PWR_SLICE_REQ), w32 s.pwr.bootMs]

/-- PWR_STATUS. -/
def execPwrStatus (t : Nat) (c : Cmd) (s : State) : Host.Outcome State Fault Refusal :=
  .next (runHost (statusDef 0x0F01 [0] 0 noFails (fun s _ => s.pwrWords)) t c s)

/-- PWR_DOMAIN_SET: REPEAT only when it names slices alone; the committed configuration is judged when the command is checked and again
    at its commit (R567 to R569). -/
def pwrDomainSetDef : CmdDef :=
  actDef 0x0F02 2 [0] (.among [.rept, .idle])
    (fun s c ctx => failIf (c.w 0 % 2 ^ 24 == 0) 0x11 0 ++
      failIf (ctx.point == .rept && (c.f 0 15 0 != 0 || c.f 0 23 20 != 0)) 0x11 0xFF ++
      failIf ((maskList 24 (c.w 0 % 2 ^ 24)).any (fun i => !natBit (c.w 1) i && domainWork s.par i)) 0x13)
    (fun _ c _ => [.domains (c.w 0 % 2 ^ 24) (c.w 1 % 2 ^ 24)])

/-- PWR_DOMAIN_SET. -/
def execPwrDomainSet (t : Nat) (c : Cmd) (s : State) : Host.Outcome State Fault Refusal := .next (runHost pwrDomainSetDef t c s)

/-- PWR_SAFE_EXIT. -/
def pwrSafeExitDef : CmdDef where
  op := 0x0F03
  points := .immediate
  fails := fun s _ _ => failIf (s.pwr.st != .safe || !s.pwr.cleared) 0x13
  run := fun s cid _ _ => s.safeExit.done cid

/-- PWR_SAFE_EXIT (R573). -/
def execPwrSafeExit (t : Nat) (c : Cmd) (s : State) : Host.Outcome State Fault Refusal := .next (runHost pwrSafeExitDef t c s)

/-- PWR_KEEP_ALIVE: DEFERRED; its work ends with DEFERRED_WORK_DONE. -/
def pwrKeepAliveDef : CmdDef where
  op := 0x0F04
  points := .immediate
  fails := fun s _ _ => failIf s.runOn 0x13
  run := fun s cid _ _ => s.defer cid

/-- PWR_KEEP_ALIVE (R579). -/
def execPwrKeepAlive (t : Nat) (c : Cmd) (s : State) : Host.Outcome State Fault Refusal := .next (runHost pwrKeepAliveDef t c s)

/-- Replays ended (R579): a copy completes PARTIAL with nothing copied, an exposed range is released. -/
def State.endReplays (s : State) : State :=
  let copies := s.hq.replays.filter (fun r => !r.expose)
  let s := s.updHq (fun h => { h with replays := [] })
  copies.foldl (fun (s : State) r =>
    s.reply r.cid 3 0 (Word.ofNat64 (r.lines.headD 0) ++ [w32 0, w32 r.lost, w32 r.holes, w32 0])) s

/-- Every queue disabled (R349). -/
def State.disableQueues (s : State) : State :=
  let qs := (s.hq.queues.map (fun e => e.1)).filter (fun q => (s.queue q).st != .disabled)
  qs.foldl (fun (s : State) q => (s.flushQueue q).2.updQueue q (fun x => { x with st := .disabled })) s

/-- The work of PWR_KEEP_ALIVE (R579). -/
def State.keepAliveDone (s : State) (cid : Nat) : State :=
  let s := (s.auditFlush true).endReplays.disableQueues
  (s.updPwr (fun p => { p with prepared := true })).done cid

/-- PWR_RESET: DONE, and the reset 1 ms later. -/
def pwrResetDef : CmdDef where
  op := 0x0F05
  points := .immediate
  fails := fun s _ _ => failIf s.runOn 0x13
  run := fun s cid _ _ => (s.updPwr (fun p => { p with resetAt := some (s.now + ms 1) })).done cid

/-- PWR_RESET (R574). -/
def execPwrReset (t : Nat) (c : Cmd) (s : State) : Host.Outcome State Fault Refusal := .next (runHost pwrResetDef t c s)

/-- PWR_COUNTERS_CLEAR (R582). -/
def execPwrCountersClear (t : Nat) (c : Cmd) (s : State) : Host.Outcome State Fault Refusal :=
  .next (runHost (clearDef 0x0F06 0x0F) t c s)

/-! ### Events -/

/-- SAFE_CAUSE_CLEARED (R572). -/
def execSafeCauseCleared (t : Nat) (s : State) : Host.Outcome State Fault Refusal := nextAt t s (fun s => s.safeCleared)

/-- DOMAIN_POWER_GOOD (R568). -/
def execDomainPowerGood (t dom : Nat) (s : State) : Host.Outcome State Fault Refusal := nextAt t s (fun s => s.powerGood dom)

/-- PWR_DOMAIN_FAULT (R568, R572). -/
def execPwrDomainFault (t dom : Nat) (s : State) : Host.Outcome State Fault Refusal := nextAt t s (fun s => s.domainFault dom)

/-- VFIELD_RISE: above 2.6 V, from OFF to KEEP_ALIVE (R571). -/
def execVfieldRise (t : Nat) (s : State) : Host.Outcome State Fault Refusal :=
  nextAt t s (fun s =>
    let s := s.updPwr (fun p => { p with vfieldMv := max p.vfieldMv 2601 })
    if s.pwr.st = .off then s.updPwr (fun p => { p with st := .keepAlive, domains := 2 ^ 55 }) else s)

/-- VFIELD_FALL: below 2.5 V, to OFF (R571). -/
def execVfieldFall (t : Nat) (s : State) : Host.Outcome State Fault Refusal :=
  nextAt t s (fun s => if s.pwr.st = .off then s else s.powerLoss true)

/-- RST_N_FALL (R571, R574). -/
def execRstNFall (t : Nat) (s : State) : Host.Outcome State Fault Refusal := nextAt t s (fun s => s.resetFall)

/-- RST_N_RISE (R575, R577). -/
def execRstNRise (t straps : Nat) (s : State) : Host.Outcome State Fault Refusal := nextAt t s (fun s => s.resetRise straps)

/-- The reset of PWR_RESET (R574, R575, R582): counted, prepared, and the counters of the power controller survive it. -/
def State.pwrResetNow (s : State) (straps : Nat) : State :=
  let s := (s.count .PWR_RESETS).updPwr (fun p => { p with prepared := true })
  let kept := (groupCtrs 15).map (fun c => (c, s.cntOf c 0))
  let s := s.resetFall.resetRise straps
  { s with cnt := kept.foldl (fun m x => Sparse.set m 0 (Ctr.key x.1 0) x.2) s.cnt }

/-- PWR_RESET_ACT (R574). -/
def execPwrResetAct (t straps : Nat) (s : State) : Host.Outcome State Fault Refusal :=
  nextAt t s (fun s => match s.pwr.resetAt with
    | some r => if r ≤ s.now then s.pwrResetNow straps else s
    | none => s)

/-- VCORE_COLLAPSE (R571). -/
def execVcoreCollapse (t : Nat) (s : State) : Host.Outcome State Fault Refusal := nextAt t s (fun s => s.resetFall)

/-- PWR_BOOT_DONE (R571, R577). -/
def execPwrBootDone (t : Nat) (s : State) : Host.Outcome State Fault Refusal := nextAt t s (fun s => s.bootDone)

/-! ### Work in the background (R456) -/

/-- Word i of a fetched command. -/
def Outst.word (o : Outst) (i : Nat) : Nat := (o.words.getD i 0).toNat

/-- Words i and i + 1 of a fetched command, low word first. -/
def Outst.word64 (o : Outst) (i : Nat) : Nat := o.word i + 2 ^ 32 * o.word (i + 1)

/-- The work of a command that was answered DEFERRED ends: what it comes to, by its opcode. -/
def State.workEnds (s : State) (o : Outst) : State :=
  if o.opcode = 0x0507 then s.covRead o.cid ((o.words.getD 0 0).bit 0) (o.word64 1) (o.word 3)
  else if o.opcode = 0x0B04 then s.injectServe
  else if o.opcode = 0x0C02 then s.certRead o.cid (o.word64 0) (o.word 2)
  else if o.opcode = 0x0C06 then s.auditReadDone o.cid (o.word64 0) (o.word64 2) (o.word 4)
  else if o.opcode = 0x0C0A then s.fwVerifyDone o.cid (o.word 0 % 2)
  else if o.opcode = 0x0D08 then s.trimStore.done o.cid
  else if o.opcode = 0x0F04 then s.keepAliveDone o.cid
  else s

/-- DEFERRED_WORK_DONE (R456): the work of a command ends, or fails. -/
def State.deferredDone (s : State) (cid : Nat) (ok : Bool) : State :=
  match s.outOf cid with
  | none => s
  | some o =>
    if !o.first || o.final || o.aborted || !s.coresUp then s
    else if ok then s.workEnds o
    else if [0x0507, 0x0C02, 0x0C06, 0x0C0A, 0x0D08, 0x0F04].contains o.opcode then s.reply cid 0x40
    else s

/-- DEFERRED_WORK_DONE. -/
def execDeferredWorkDone (t cid : Nat) (ok : Bool) (s : State) : Host.Outcome State Fault Refusal :=
  nextAt t s (fun s => s.deferredDone cid ok)

end Sys2Proof.Machine
end

