-- ==== Sys2Proof/Machine/Seq.lean ====
section
/-! DEFINITION. The commands of the line sequencer (chapter 2, group 0x02). -/

namespace Sys2Proof.Machine

/-- The fields of SEQ_SET. -/
def seqSetFields (_ : Cmd) : List SetField :=
  [⟨1, 0, .SEQ_TICK_SRC, 0⟩, ⟨1, 4, .SEQ_POS_SRC, 0⟩, ⟨1, 8, .SEQ_NUM_PHASES, 0⟩, ⟨1, 12, .SEQ_TRIG_EDGE, 0⟩, ⟨1, 13, .SEQ_SPREAD, 0⟩,
   ⟨2, 0, .SEQ_PERIOD, 0⟩, ⟨3, 0, .SEQ_HOLD_LIMIT, 0⟩, ⟨4, 0, .SEQ_IDLE_DWELL, 0⟩, ⟨4, 16, .SEQ_GROUP_TIMEOUT, 0⟩] ++
  (List.range 6).flatMap (fun p => ([⟨5 + p, 0, .SEQ_GUARD, p⟩, ⟨5 + p, 16, .SEQ_EXP, p⟩] : List SetField))

/-- SEQ_SET. -/
def seqSetDef : CmdDef := setDef 0x0201 10 [0] .header maskAt seqSetFields noFails noActs

/-- SEQ_SET. -/
def execSeqSet (t : Nat) (c : Cmd) (s : State) : Host.Outcome State Fault Refusal := .next (runHost seqSetDef t c s)

/-- SEQ_STATUS. -/
def execSeqStatus (t : Nat) (c : Cmd) (s : State) : Host.Outcome State Fault Refusal :=
  .next (runHost (statusDef 0x0202 [0] 0 noFails (fun s _ =>
    Word.ofNat64 s.seq.lineIndex ++ [w32 s.seqState, w32 s.seq.slotMin, w32 s.seq.darkMax] ++ s.counterWords 2)) t c s)

/-- The stall of phase p in 16 ns units, rounded up and saturating; 0 at or above the phase count (SEQ_BUDGET). -/
def stallUnits (ps : List PhaseNs) (p : Nat) : Nat :=
  match ps[p]? with
  | some x => min 255 (ceilDiv x.stall 16)
  | none => 0

/-- The words of SEQ_BUDGET for a store (R42). -/
def budgetWords (m : Sparse Nat) : List Word :=
  let ps := packed m
  let u := stallUnits ps
  [w32 (slotMinNs m), w32 (darkMaxNs m), w32 (u 0 + 2 ^ 8 * u 1 + 2 ^ 16 * u 2 + 2 ^ 24 * u 3), w32 (u 4 + 2 ^ 8 * u 5)]

/-- SEQ_BUDGET. -/
def execSeqBudget (t : Nat) (c : Cmd) (s : State) : Host.Outcome State Fault Refusal :=
  .next (runHost (statusDef 0x0203 [0] 0 noFails (fun s _ => budgetWords s.shadowConfig)) t c s)

/-- GROUP_BEGIN (R60, R63). -/
def groupBeginDef : CmdDef where
  op := 0x0204
  fails := fun s c _ => failIf (ptOf c.commit).isNone 0x11 0xFF ++ failIf (s.groupOn c.ring).isSome 0x13
  run := fun s cid c _ =>
    let g : Group := ⟨s.seq.nextGid, c.ring, (ptOf c.commit).getD .immediate, c.arg, s.now, [], 0, false, [], none⟩
    (s.updSeq (fun q => { q with nextGid := q.nextGid + 1, groups := q.groups ++ [g] })).done cid

/-- GROUP_BEGIN. -/
def execGroupBegin (t : Nat) (c : Cmd) (s : State) : Host.Outcome State Fault Refusal := .next (runHost groupBeginDef t c s)

/-- The status that discards a group at GROUP_END (R62). -/
def Group.verdict (g : Group) : Option (Nat × Nat) :=
  if g.failed ≠ 0 then some (0x13, g.failed)
  else if g.immediate then some (0x13, 0)
  else if 256 < g.members.length then some (0x30, 0)
  else none

/-- GROUP_END (R61, R62). -/
def groupEndDef : CmdDef where
  op := 0x0205
  fails := fun s c _ => failIf (s.groupOn c.ring).isNone 0x13
  run := fun s cid c _ =>
    match s.groupOn c.ring with
    | none => s
    | some g =>
      match g.verdict with
      | some f => (s.discardGroup g).reply cid f.1 f.2
      | none =>
        let g' := { g with ended := some cid }
        let s := s.updSeq (fun q => { q with groups := q.groups.map (fun x => if x.gid = g.gid then g' else x) })
        let s := if g.point = .position ∧ s.cap.run ≠ .open_ ∧ g.preparing = [] then s else s.accept cid
        s.groupArrives g'

/-- GROUP_END. -/
def execGroupEnd (t : Nat) (c : Cmd) (s : State) : Host.Outcome State Fault Refusal := .next (runHost groupEndDef t c s)

/-- SEQ_COUNTERS_CLEAR. -/
def execSeqCountersClear (t : Nat) (c : Cmd) (s : State) : Host.Outcome State Fault Refusal :=
  .next (runHost (clearDef 0x0206 2) t c s)

end Sys2Proof.Machine
end

