-- ==== Sys2Proof/Machine/Sys.lean ====
section
/-! DEFINITION. The system commands (chapter 12, group 0x01). -/

namespace Sys2Proof.Machine

/-- SYS_NOP: its words come back. -/
def sysNopDef : CmdDef where
  op := 0x0101
  run := fun s cid c _ => s.done cid c.words

/-- SYS_NOP. -/
def execSysNop (t : Nat) (c : Cmd) (s : State) : Host.Outcome State Fault Refusal := .next (runHost sysNopDef t c s)

/-- The words of SYS_INFO. -/
def State.infoWords (s : State) : List Word :=
  (s.identWords ++ [s.host.link.rate % 256 + 256 * (s.host.link.width % 256), s.sec.svnOtp]).map w32

/-- SYS_INFO (R440). -/
def execSysInfo (t : Nat) (c : Cmd) (s : State) : Host.Outcome State Fault Refusal :=
  .next (runHost (statusDef 0x0102 [0] 0 noFails (fun s _ => s.infoWords)) t c s)

/-- The fields of SYS_SET. -/
def sysSetFields (_ : Cmd) : List SetField :=
  [⟨1, 0, .SYS_EXEC_BUDGET, 0⟩, ⟨2, 0, .SYS_BULK_WEIGHT, 0⟩, ⟨3, 0, .SYS_EVT_HOLDOFF, 0⟩, ⟨4, 0, .SYS_IRQ_HOLDOFF, 0⟩,
   ⟨5, 0, .SYS_WDT_PERIOD, 0⟩, ⟨6, 0, .SYS_SVC_SHARE, 0⟩]

/-- SYS_SET (R471). -/
def sysSetDef : CmdDef := setDef 0x0103 6 [0] .immediate maskAt sysSetFields noFails noActs

/-- SYS_SET. -/
def execSysSet (t : Nat) (c : Cmd) (s : State) : Host.Outcome State Fault Refusal := .next (runHost sysSetDef t c s)

/-- EVT_ROUTE: vector and enable of sources. -/
def evtRouteDef : CmdDef where
  op := 0x0104
  points := .immediate
  need := fun _ => 1
  writes := fun _ c => (List.range (min (c.f 0 25 16) 247)).flatMap (fun i =>
    [(1 + i, ⟨.EVT_VEC, c.f 0 9 0 + i, c.f (1 + i) 5 0⟩), (1 + i, ⟨.EVT_EN, c.f 0 9 0 + i, c.f (1 + i) 8 8⟩)])
  fails := fun _ c _ =>
    let n := c.f 0 25 16
    failIf (n == 0 || decide (247 < n) || decide (600 < c.f 0 9 0 + n) || c.words.length != 1 + n) 0x11 0
  run := fun s cid _ ctx => s.submit cid ctx

/-- EVT_ROUTE. -/
def execEvtRoute (t : Nat) (c : Cmd) (s : State) : Host.Outcome State Fault Refusal := .next (runHost evtRouteDef t c s)

/-- EVT_READ: the counts of sources, cleared where bit 31 asks for it. -/
def evtReadDef : CmdDef where
  op := 0x0105
  need := fun _ => 1
  fails := fun _ c _ =>
    let n := c.f 0 25 16
    failIf (n == 0 || decide (248 < n) || decide (600 < c.f 0 9 0 + n)) 0x11 0
  run := fun s cid c _ =>
    let srcs := (List.range (c.f 0 25 16)).map (fun i => c.f 0 9 0 + i)
    let ws := srcs.map (fun x => w32 (s.evSrc x).count)
    let s := if c.b 0 31 then srcs.foldl (fun (s : State) x => s.updEv x (fun e => { e with count := 0 })) s else s
    s.done cid ws

/-- EVT_READ. -/
def execEvtRead (t : Nat) (c : Cmd) (s : State) : Host.Outcome State Fault Refusal := .next (runHost evtReadDef t c s)

/-- The words of SYS_STATUS from word 2 on. -/
def State.statusWords (s : State) : List Word :=
  [w32 (s.host.link.field + 256 * (s.host.link.rate % 256)), w32 (s.host.outst.length + 65536 * s.host.store.length),
   w32 s.host.evWait.length, w32 (((List.range 6).map (fun r => (s.ring r).st.code * 4 ^ r)).foldl (fun (a b : Nat) => a + b) 0)]

/-- SYS_STATUS (R442). -/
def sysStatusDef : CmdDef where
  op := 0x0106
  run := fun s cid _ _ =>
    let l := s.takeLoad
    l.2.done cid (Word.ofNat64 l.1 ++ l.2.statusWords)

/-- SYS_STATUS. -/
def execSysStatus (t : Nat) (c : Cmd) (s : State) : Host.Outcome State Fault Refusal := .next (runHost sysStatusDef t c s)

/-- SYS_CORE_RESET (R465): its reply comes after the restart. -/
def sysCoreResetDef : CmdDef where
  op := 0x0107
  points := .immediate
  run := fun s cid _ _ => s.coresReset 0 (some cid)

/-- SYS_CORE_RESET. -/
def execSysCoreReset (t : Nat) (c : Cmd) (s : State) : Host.Outcome State Fault Refusal := .next (runHost sysCoreResetDef t c s)

/-- SYS_COUNTERS_CLEAR. -/
def execSysCountersClear (t : Nat) (c : Cmd) (s : State) : Host.Outcome State Fault Refusal :=
  .next (runHost (clearDef 0x0108 1) t c s)

end Sys2Proof.Machine
end

