-- ==== Sys2Proof/Machine/Dispatch.lean ====
section
/-! DEFINITION. One arm for each command: a direct call of its meaning. -/

namespace Sys2Proof.Machine

/-- The effect of a command on everything but the queue. -/
def exec (i : Instr) (s : State) : Host.Outcome State Fault Refusal :=
  match i with
  | .sysNop t c => Sys2Proof.Machine.execSysNop t c s
  | .sysInfo t c => Sys2Proof.Machine.execSysInfo t c s
  | .sysSet t c => Sys2Proof.Machine.execSysSet t c s
  | .evtRoute t c => Sys2Proof.Machine.execEvtRoute t c s
  | .evtRead t c => Sys2Proof.Machine.execEvtRead t c s
  | .sysStatus t c => Sys2Proof.Machine.execSysStatus t c s
  | .sysCoreReset t c => Sys2Proof.Machine.execSysCoreReset t c s
  | .sysCountersClear t c => Sys2Proof.Machine.execSysCountersClear t c s
  | .seqSet t c => Sys2Proof.Machine.execSeqSet t c s
  | .seqStatus t c => Sys2Proof.Machine.execSeqStatus t c s
  | .seqBudget t c => Sys2Proof.Machine.execSeqBudget t c s
  | .groupBegin t c => Sys2Proof.Machine.execGroupBegin t c s
  | .groupEnd t c => Sys2Proof.Machine.execGroupEnd t c s
  | .seqCountersClear t c => Sys2Proof.Machine.execSeqCountersClear t c s
  | .senGenSet t c => Sys2Proof.Machine.execSenGenSet t c s
  | .senWaveLoad t c => Sys2Proof.Machine.execSenWaveLoad t c s
  | .senLaneSet t c => Sys2Proof.Machine.execSenLaneSet t c s
  | .senGainSet t c => Sys2Proof.Machine.execSenGainSet t c s
  | .senSubstLoad t c => Sys2Proof.Machine.execSenSubstLoad t c s
  | .senLaneRestore t c => Sys2Proof.Machine.execSenLaneRestore t c s
  | .senSpareForce t c => Sys2Proof.Machine.execSenSpareForce t c s
  | .senStatus t c => Sys2Proof.Machine.execSenStatus t c s
  | .senSnapshot t c => Sys2Proof.Machine.execSenSnapshot t c s
  | .senTrimRun t c => Sys2Proof.Machine.execSenTrimRun t c s
  | .senCountersClear t c => Sys2Proof.Machine.execSenCountersClear t c s
  | .corSet t c => Sys2Proof.Machine.execCorSet t c s
  | .corSetLoad t c => Sys2Proof.Machine.execCorSetLoad t c s
  | .corSetSwap t c => Sys2Proof.Machine.execCorSetSwap t c s
  | .corSetCheck t c => Sys2Proof.Machine.execCorSetCheck t c s
  | .corSetStore t c => Sys2Proof.Machine.execCorSetStore t c s
  | .corSetRestore t c => Sys2Proof.Machine.execCorSetRestore t c s
  | .corCalRun t c => Sys2Proof.Machine.execCorCalRun t c s
  | .corCalAbort t c => Sys2Proof.Machine.execCorCalAbort t c s
  | .corCalStatus t c => Sys2Proof.Machine.execCorCalStatus t c s
  | .corStatus t c => Sys2Proof.Machine.execCorStatus t c s
  | .corCountersClear t c => Sys2Proof.Machine.execCorCountersClear t c s
  | .runOpen t c => Sys2Proof.Machine.execRunOpen t c s
  | .runClose t c => Sys2Proof.Machine.execRunClose t c s
  | .jobArm t c => Sys2Proof.Machine.execJobArm t c s
  | .jobDisarm t c => Sys2Proof.Machine.execJobDisarm t c s
  | .capSet t c => Sys2Proof.Machine.execCapSet t c s
  | .capStatus t c => Sys2Proof.Machine.execCapStatus t c s
  | .capCovRead t c => Sys2Proof.Machine.execCapCovRead t c s
  | .capCountersClear t c => Sys2Proof.Machine.execCapCountersClear t c s
  | .cmpSet t c => Sys2Proof.Machine.execCmpSet t c s
  | .cmpRefCheck t c => Sys2Proof.Machine.execCmpRefCheck t c s
  | .cmpHatchLoad t c => Sys2Proof.Machine.execCmpHatchLoad t c s
  | .cmpStatus t c => Sys2Proof.Machine.execCmpStatus t c s
  | .cmpCountersClear t c => Sys2Proof.Machine.execCmpCountersClear t c s
  | .queueSetup t c => Sys2Proof.Machine.execQueueSetup t c s
  | .queueDisable t c => Sys2Proof.Machine.execQueueDisable t c s
  | .queueFlush t c => Sys2Proof.Machine.execQueueFlush t c s
  | .queueStatus t c => Sys2Proof.Machine.execQueueStatus t c s
  | .streamSet t c => Sys2Proof.Machine.execStreamSet t c s
  | .hqSet t c => Sys2Proof.Machine.execHqSet t c s
  | .arenaSet t c => Sys2Proof.Machine.execArenaSet t c s
  | .arenaStatus t c => Sys2Proof.Machine.execArenaStatus t c s
  | .histReplay t c => Sys2Proof.Machine.execHistReplay t c s
  | .histRelease t c => Sys2Proof.Machine.execHistRelease t c s
  | .bar2Map t c => Sys2Proof.Machine.execBar2Map t c s
  | .hqCountersClear t c => Sys2Proof.Machine.execHqCountersClear t c s
  | .lmpBarSet t c => Sys2Proof.Machine.execLmpBarSet t c s
  | .lmpPhaseSet t c => Sys2Proof.Machine.execLmpPhaseSet t c s
  | .lmpPatternLoad t c => Sys2Proof.Machine.execLmpPatternLoad t c s
  | .lmpPatternApply t c => Sys2Proof.Machine.execLmpPatternApply t c s
  | .lmpPatternRead t c => Sys2Proof.Machine.execLmpPatternRead t c s
  | .lmpDiagRun t c => Sys2Proof.Machine.execLmpDiagRun t c s
  | .lmpFaults t c => Sys2Proof.Machine.execLmpFaults t c s
  | .lmpFaultClear t c => Sys2Proof.Machine.execLmpFaultClear t c s
  | .lmpStatus t c => Sys2Proof.Machine.execLmpStatus t c s
  | .lmpCountersClear t c => Sys2Proof.Machine.execLmpCountersClear t c s
  | .motAxisSet t c => Sys2Proof.Machine.execMotAxisSet t c s
  | .motProfileSet t c => Sys2Proof.Machine.execMotProfileSet t c s
  | .motMove t c => Sys2Proof.Machine.execMotMove t c s
  | .motJog t c => Sys2Proof.Machine.execMotJog t c s
  | .motStop t c => Sys2Proof.Machine.execMotStop t c s
  | .motGear t c => Sys2Proof.Machine.execMotGear t c s
  | .motHome t c => Sys2Proof.Machine.execMotHome t c s
  | .motAck t c => Sys2Proof.Machine.execMotAck t c s
  | .motPosSet t c => Sys2Proof.Machine.execMotPosSet t c s
  | .motPaceSet t c => Sys2Proof.Machine.execMotPaceSet t c s
  | .motStatus t c => Sys2Proof.Machine.execMotStatus t c s
  | .motCountersClear t c => Sys2Proof.Machine.execMotCountersClear t c s
  | .posSet t c => Sys2Proof.Machine.execPosSet t c s
  | .posStatus t c => Sys2Proof.Machine.execPosStatus t c s
  | .tdcInputSet t c => Sys2Proof.Machine.execTdcInputSet t c s
  | .tdcChannelSet t c => Sys2Proof.Machine.execTdcChannelSet t c s
  | .tdcArm t c => Sys2Proof.Machine.execTdcArm t c s
  | .timeSet t c => Sys2Proof.Machine.execTimeSet t c s
  | .timeStatus t c => Sys2Proof.Machine.execTimeStatus t c s
  | .posCountersClear t c => Sys2Proof.Machine.execPosCountersClear t c s
  | .auxSet t c => Sys2Proof.Machine.execAuxSet t c s
  | .auxChSet t c => Sys2Proof.Machine.execAuxChSet t c s
  | .auxLinLoad t c => Sys2Proof.Machine.execAuxLinLoad t c s
  | .auxInject t c => Sys2Proof.Machine.execAuxInject t c s
  | .auxCal t c => Sys2Proof.Machine.execAuxCal t c s
  | .auxLoopCfg t c => Sys2Proof.Machine.execAuxLoopCfg t c s
  | .auxStatus t c => Sys2Proof.Machine.execAuxStatus t c s
  | .auxCountersClear t c => Sys2Proof.Machine.execAuxCountersClear t c s
  | .secIdentity t c => Sys2Proof.Machine.execSecIdentity t c s
  | .secCertRead t c => Sys2Proof.Machine.execSecCertRead t c s
  | .secRoleKey t c => Sys2Proof.Machine.execSecRoleKey t c s
  | .secRmk t c => Sys2Proof.Machine.execSecRmk t c s
  | .secPolicySet t c => Sys2Proof.Machine.execSecPolicySet t c s
  | .secAuditRead t c => Sys2Proof.Machine.execSecAuditRead t c s
  | .secAuditSign t c => Sys2Proof.Machine.execSecAuditSign t c s
  | .secMapSign t c => Sys2Proof.Machine.execSecMapSign t c s
  | .secFwWrite t c => Sys2Proof.Machine.execSecFwWrite t c s
  | .secFwVerify t c => Sys2Proof.Machine.execSecFwVerify t c s
  | .secFwActivate t c => Sys2Proof.Machine.execSecFwActivate t c s
  | .secSvnCommit t c => Sys2Proof.Machine.execSecSvnCommit t c s
  | .secSelftest t c => Sys2Proof.Machine.execSecSelftest t c s
  | .secZeroise t c => Sys2Proof.Machine.execSecZeroise t c s
  | .secDebug t c => Sys2Proof.Machine.execSecDebug t c s
  | .secCosignKey t c => Sys2Proof.Machine.execSecCosignKey t c s
  | .secCountersClear t c => Sys2Proof.Machine.execSecCountersClear t c s
  | .hltStatus t c => Sys2Proof.Machine.execHltStatus t c s
  | .hltFaultRead t c => Sys2Proof.Machine.execHltFaultRead t c s
  | .hltFaultAck t c => Sys2Proof.Machine.execHltFaultAck t c s
  | .hltSet t c => Sys2Proof.Machine.execHltSet t c s
  | .hltClassSet t c => Sys2Proof.Machine.execHltClassSet t c s
  | .hltMonitorRead t c => Sys2Proof.Machine.execHltMonitorRead t c s
  | .hltTrimRun t c => Sys2Proof.Machine.execHltTrimRun t c s
  | .hltTrimStore t c => Sys2Proof.Machine.execHltTrimStore t c s
  | .hltTrimRead t c => Sys2Proof.Machine.execHltTrimRead t c s
  | .hltCountersRead t c => Sys2Proof.Machine.execHltCountersRead t c s
  | .hltCountersClear t c => Sys2Proof.Machine.execHltCountersClear t c s
  | .askSet t c => Sys2Proof.Machine.execAskSet t c s
  | .askCal t c => Sys2Proof.Machine.execAskCal t c s
  | .askStatus t c => Sys2Proof.Machine.execAskStatus t c s
  | .askCountersClear t c => Sys2Proof.Machine.execAskCountersClear t c s
  | .pwrStatus t c => Sys2Proof.Machine.execPwrStatus t c s
  | .pwrDomainSet t c => Sys2Proof.Machine.execPwrDomainSet t c s
  | .pwrSafeExit t c => Sys2Proof.Machine.execPwrSafeExit t c s
  | .pwrKeepAlive t c => Sys2Proof.Machine.execPwrKeepAlive t c s
  | .pwrReset t c => Sys2Proof.Machine.execPwrReset t c s
  | .pwrCountersClear t c => Sys2Proof.Machine.execPwrCountersClear t c s
  | .submissionDoorbell t ring value others => Sys2Proof.Machine.execSubmissionDoorbell t ring value others s
  | .consumerIndexWrite t ring value => Sys2Proof.Machine.execConsumerIndexWrite t ring value s
  | .ringEnable t ring size => Sys2Proof.Machine.execRingEnable t ring size s
  | .ringDisable t ring => Sys2Proof.Machine.execRingDisable t ring s
  | .hqConsWrite t q value => Sys2Proof.Machine.execHqConsWrite t q value s
  | .hqGrantWrite t q blocks => Sys2Proof.Machine.execHqGrantWrite t q blocks s
  | .waitWindowRead t q => Sys2Proof.Machine.execWaitWindowRead t q s
  | .waitWindowRelease t q => Sys2Proof.Machine.execWaitWindowRelease t q s
  | .waitLimitExpiry t q => Sys2Proof.Machine.execWaitLimitExpiry t q s
  | .registerWrite t off size value => Sys2Proof.Machine.execRegisterWrite t off size value s
  | .barBadAccess t write => Sys2Proof.Machine.execBarBadAccess t write s
  | .bar2Read t off len => Sys2Proof.Machine.execBar2Read t off len s
  | .bar2Write t off data => Sys2Proof.Machine.execBar2Write t off data s
  | .functionLevelReset t => Sys2Proof.Machine.execFunctionLevelReset t s
  | .hotReset t => Sys2Proof.Machine.execHotReset t s
  | .pmRequest t => Sys2Proof.Machine.execPmRequest t s
  | .sysLinkLost t cause => Sys2Proof.Machine.execSysLinkLost t cause s
  | .sysLinkRestored t rate width msix => Sys2Proof.Machine.execSysLinkRestored t rate width msix s
  | .hqSpillDrained t => Sys2Proof.Machine.execHqSpillDrained t s
  | .execBudgetExpiry t cid => Sys2Proof.Machine.execExecBudgetExpiry t cid s
  | .dmaReadFail t ring cmd => Sys2Proof.Machine.execDmaReadFail t ring cmd s
  | .completionWrite t => Sys2Proof.Machine.execCompletionWrite t s
  | .eventHoldoffExpiry t src => Sys2Proof.Machine.execEventHoldoffExpiry t src s
  | .sysEvtDelayed t => Sys2Proof.Machine.execSysEvtDelayed t s
  | .irqHoldoffExpiry t vec => Sys2Proof.Machine.execIrqHoldoffExpiry t vec s
  | .watchdogExpiry t cores => Sys2Proof.Machine.execWatchdogExpiry t cores s
  | .sysWatchdog t => Sys2Proof.Machine.execSysWatchdog t s
  | .gridTick t => Sys2Proof.Machine.execGridTick t s
  | .periodTick t => Sys2Proof.Machine.execPeriodTick t s
  | .trigTick t falling => Sys2Proof.Machine.execTrigTick t falling s
  | .askuriTick t => Sys2Proof.Machine.execAskuriTick t s
  | .deferredTickServe t => Sys2Proof.Machine.execDeferredTickServe t s
  | .phaseGuardStart t p tests => Sys2Proof.Machine.execPhaseGuardStart t p tests s
  | .lampStrobe t bar p => Sys2Proof.Machine.execLampStrobe t bar p s
  | .lampSyncInEdge t => Sys2Proof.Machine.execLampSyncInEdge t s
  | .lampSyncMissed t => Sys2Proof.Machine.execLampSyncMissed t s
  | .readoutEnd t p video => Sys2Proof.Machine.execReadoutEnd t p video s
  | .imageLineEmit t => Sys2Proof.Machine.execImageLineEmit t s
  | .lineCompare t => Sys2Proof.Machine.execLineCompare t s
  | .driftReady t => Sys2Proof.Machine.execDriftReady t s
  | .cmpMarkMissing t => Sys2Proof.Machine.execCmpMarkMissing t s
  | .timingInputEdge t edge => Sys2Proof.Machine.execTimingInputEdge t edge s
  | .tdcOrderWindowExpiry t ch => Sys2Proof.Machine.execTdcOrderWindowExpiry t ch s
  | .tdcTimeout t ch => Sys2Proof.Machine.execTdcTimeout t ch s
  | .ppsEdge t stamp => Sys2Proof.Machine.execPpsEdge t stamp s
  | .ppsHoldover t => Sys2Proof.Machine.execPpsHoldover t s
  | .holdoverAgeStep t => Sys2Proof.Machine.execHoldoverAgeStep t s
  | .ageLearn t => Sys2Proof.Machine.execAgeLearn t s
  | .referenceMark t enc => Sys2Proof.Machine.execReferenceMark t enc s
  | .encDoubleChange t x => Sys2Proof.Machine.execEncDoubleChange t x s
  | .encAmplitude t x => Sys2Proof.Machine.execEncAmplitude t x s
  | .encCorrLimit t x => Sys2Proof.Machine.execEncCorrLimit t x s
  | .vwinBlockEnd t enc => Sys2Proof.Machine.execVwinBlockEnd t enc s
  | .standstill t enc => Sys2Proof.Machine.execStandstill t enc s
  | .posLogEntry t => Sys2Proof.Machine.execPosLogEntry t s
  | .holdEnter t => Sys2Proof.Machine.execHoldEnter t s
  | .flushRead t tests => Sys2Proof.Machine.execFlushRead t tests s
  | .idleEnter t => Sys2Proof.Machine.execIdleEnter t s
  | .groupTimeout t ring => Sys2Proof.Machine.execGroupTimeout t ring s
  | .proofPulse t => Sys2Proof.Machine.execProofPulse t s
  | .idleProofPulse t => Sys2Proof.Machine.execIdleProofPulse t s
  | .chainFrameLatch t bar status => Sys2Proof.Machine.execChainFrameLatch t bar status s
  | .chainDiscovery t bar delays ids => Sys2Proof.Machine.execChainDiscovery t bar delays ids s
  | .patternUploadDone t bar => Sys2Proof.Machine.execPatternUploadDone t bar s
  | .lampBoostOvp t bar volts => Sys2Proof.Machine.execLampBoostOvp t bar volts s
  | .lampTempInvalid t bar => Sys2Proof.Machine.execLampTempInvalid t bar s
  | .lmpDiagDone t bar opens shorts leaks1 leaks2 => Sys2Proof.Machine.execLmpDiagDone t bar opens shorts leaks1 leaks2 s
  | .p64UploadDone t bar => Sys2Proof.Machine.execP64UploadDone t bar s
  | .corLoadDone t => Sys2Proof.Machine.execCorLoadDone t s
  | .corFactorsReady t => Sys2Proof.Machine.execCorFactorsReady t s
  | .corStoreDone t ok => Sys2Proof.Machine.execCorStoreDone t ok s
  | .calCaptureTick t tests video => Sys2Proof.Machine.execCalCaptureTick t tests video s
  | .warmupSample t => Sys2Proof.Machine.execWarmupSample t s
  | .corCalDone t => Sys2Proof.Machine.execCorCalDone t s
  | .calCaptureFail t cause => Sys2Proof.Machine.execCalCaptureFail t cause s
  | .refCheckDone t => Sys2Proof.Machine.execRefCheckDone t s
  | .hatchLoadDone t => Sys2Proof.Machine.execHatchLoadDone t s
  | .capJobPartArrived t => Sys2Proof.Machine.execCapJobPartArrived t s
  | .capRunClosed t => Sys2Proof.Machine.execCapRunClosed t s
  | .replayCopyDone t => Sys2Proof.Machine.execReplayCopyDone t s
  | .hqStale t q => Sys2Proof.Machine.execHqStale t q s
  | .trimRunDone t ok => Sys2Proof.Machine.execTrimRunDone t ok s
  | .laneRestoreDone t fails => Sys2Proof.Machine.execLaneRestoreDone t fails s
  | .auxScanTrigger t => Sys2Proof.Machine.execAuxScanTrigger t s
  | .auxScanStep t nanovolts => Sys2Proof.Machine.execAuxScanStep t nanovolts s
  | .muxAddressLoad t => Sys2Proof.Machine.execMuxAddressLoad t s
  | .auxScanEnd t => Sys2Proof.Machine.execAuxScanEnd t s
  | .auxCalCapture t nanovolts => Sys2Proof.Machine.execAuxCalCapture t nanovolts s
  | .auxExcFault t exc current => Sys2Proof.Machine.execAuxExcFault t exc current s
  | .auxExcReduced t exc => Sys2Proof.Machine.execAuxExcReduced t exc s
  | .excRestore t exc => Sys2Proof.Machine.execExcRestore t exc s
  | .loopReadback t loop code atLimit => Sys2Proof.Machine.execLoopReadback t loop code atLimit s
  | .loopFollowTimeout t loop => Sys2Proof.Machine.execLoopFollowTimeout t loop s
  | .burinEvent t axis => Sys2Proof.Machine.execBurinEvent t axis s
  | .motGearChanged t axis => Sys2Proof.Machine.execMotGearChanged t axis s
  | .chopperTrip t axis coil => Sys2Proof.Machine.execChopperTrip t axis coil s
  | .chopperOffEnd t axis coil => Sys2Proof.Machine.execChopperOffEnd t axis coil s
  | .holdCurrent t axis => Sys2Proof.Machine.execHoldCurrent t axis s
  | .motLimit t axis side => Sys2Proof.Machine.execMotLimit t axis side s
  | .limitRelease t axis side => Sys2Proof.Machine.execLimitRelease t axis side s
  | .paceEval t => Sys2Proof.Machine.execPaceEval t s
  | .askuriFrameRx t bytes => Sys2Proof.Machine.execAskuriFrameRx t bytes s
  | .masterFrameOriginate t => Sys2Proof.Machine.execMasterFrameOriginate t s
  | .tickInfo t payload => Sys2Proof.Machine.execTickInfo t payload s
  | .timeFrame t payload => Sys2Proof.Machine.execTimeFrame t payload s
  | .runFrame t payload => Sys2Proof.Machine.execRunFrame t payload s
  | .repeatFrame t payload => Sys2Proof.Machine.execRepeatFrame t payload s
  | .armFrame t payload => Sys2Proof.Machine.execArmFrame t payload s
  | .seamRecordRx t payload => Sys2Proof.Machine.execSeamRecordRx t payload s
  | .calFrame t payload => Sys2Proof.Machine.execCalFrame t payload s
  | .askLinkUp t => Sys2Proof.Machine.execAskLinkUp t s
  | .askLinkDown t => Sys2Proof.Machine.execAskLinkDown t s
  | .askTimeMarkPulse t => Sys2Proof.Machine.execAskTimeMarkPulse t s
  | .askCalPulse t => Sys2Proof.Machine.execAskCalPulse t s
  | .askMasterLost t => Sys2Proof.Machine.execAskMasterLost t s
  | .askMasterRestored t => Sys2Proof.Machine.execAskMasterRestored t s
  | .faultHandle t => Sys2Proof.Machine.execFaultHandle t s
  | .tempSample t temps => Sys2Proof.Machine.execTempSample t temps s
  | .thermalStepDown t => Sys2Proof.Machine.execThermalStepDown t s
  | .hltVoltage t mon mv => Sys2Proof.Machine.execHltVoltage t mon mv s
  | .voltageFaultPersist t mon => Sys2Proof.Machine.execVoltageFaultPersist t mon s
  | .hltProcess t tile dev => Sys2Proof.Machine.execHltProcess t tile dev s
  | .clockFault t clk => Sys2Proof.Machine.execClockFault t clk s
  | .dramEccError t addr correctable => Sys2Proof.Machine.execDramEccError t addr correctable s
  | .sramEccError t mem item kind => Sys2Proof.Machine.execSramEccError t mem item kind s
  | .scrub t => Sys2Proof.Machine.execScrub t s
  | .safeCauseCleared t => Sys2Proof.Machine.execSafeCauseCleared t s
  | .domainPowerGood t dom => Sys2Proof.Machine.execDomainPowerGood t dom s
  | .pwrDomainFault t dom => Sys2Proof.Machine.execPwrDomainFault t dom s
  | .vfieldRise t => Sys2Proof.Machine.execVfieldRise t s
  | .vfieldFall t => Sys2Proof.Machine.execVfieldFall t s
  | .rstNFall t => Sys2Proof.Machine.execRstNFall t s
  | .rstNRise t straps => Sys2Proof.Machine.execRstNRise t straps s
  | .pwrResetAct t straps => Sys2Proof.Machine.execPwrResetAct t straps s
  | .vcoreCollapse t => Sys2Proof.Machine.execVcoreCollapse t s
  | .pwrBootDone t => Sys2Proof.Machine.execPwrBootDone t s
  | .selftestDue t => Sys2Proof.Machine.execSelftestDue t s
  | .entropyTestFail t cause => Sys2Proof.Machine.execEntropyTestFail t cause s
  | .auditFlush t ok => Sys2Proof.Machine.execAuditFlush t ok s
  | .positionSample t samples => Sys2Proof.Machine.execPositionSample t samples s
  | .clockRelock t clk => Sys2Proof.Machine.execClockRelock t clk s
  | .deferredWorkDone t cid ok => Sys2Proof.Machine.execDeferredWorkDone t cid ok s
  | .selftestDone t cause => Sys2Proof.Machine.execSelftestDone t cause s
  | .corSettleExpiry t => Sys2Proof.Machine.execCorSettleExpiry t s
  | .boostOvpRelease t bar volts => Sys2Proof.Machine.execBoostOvpRelease t bar volts s
  | .auxWireRestored t ch => Sys2Proof.Machine.execAuxWireRestored t ch s

end Sys2Proof.Machine
end

