-- ==== Sys2Proof/Safety.lean ====
section
/-! DEFINITION. What counts as a sound state of the block, and what one command may do to the parts of the state that no command
owns: the queue, the clock, the memories, the counters, the fault queue and the fixed sizes. -/

namespace Sys2Proof

/-- The memories hold their canonical form. -/
def memoriesCanonical (s : Machine.State) : Bool :=
  Machine.Sparse.wf (fun _ => (0 : Byte)) s.hostMem && Machine.Sparse.wf (fun _ => (0 : Byte)) s.dram
    && Machine.Sparse.wf (fun _ => (0 : Byte)) s.flash

/-- Every counter is a 32-bit number, and the counters hold their canonical form (R537). -/
def countersBounded (s : Machine.State) : Prop :=
  Machine.Sparse.wf (fun _ => 0) s.cnt = true ∧ ∀ e ∈ s.cnt, e.2 ≤ 0xFFFFFFFF

/-- The fault queue has 64 slots, of which 56 to 63 hold critical faults only, one entry a slot and one entry a source (R515). -/
def faultQueueOk (fs : List Machine.FaultEnt) : Prop :=
  (∀ f ∈ fs, f.slot < 64 ∧ (56 ≤ f.slot → f.cls = 3)) ∧ (fs.map (fun f => f.slot)).Nodup ∧ (fs.map (fun f => f.src)).Nodup

/-- How many there are of what the hardware has a fixed number of: rings, vectors, lanes, spares, encoders, timing inputs and channels,
    axes, bars, tiles, thermometers, AUX channels and loops, monitors, clocks, DRAM channels, keys. -/
def fixedSizes (s : Machine.State) : List Nat :=
  [s.host.rings.length, s.host.vecs.length, s.sen.lanes.length, s.sen.spares.length, s.pos.encs.length, s.pos.ins.length,
   s.pos.chans.length, s.mot.axes.length, s.lamp.bars.length, s.cor.tiles.length, s.cor.evals.length, s.cor.lastT.length,
   s.cor.srcValid.length, s.cor.clampOn.length, s.aux.chans.length, s.aux.loops.length, s.aux.reduced.length, s.hlt.volts.length,
   s.hlt.proc.length, s.hlt.procRaised.length, s.hlt.clocks.length, s.hlt.ce.length, s.sec.envCounters.length]

/-- The state has the hardware's number of everything. -/
def shaped (s : Machine.State) : Prop := fixedSizes s = fixedSizes Machine.State.reset

/-- A sound state: what every command keeps. -/
def sound (s : Machine.State) : Prop :=
  memoriesCanonical s = true ∧ countersBounded s ∧ faultQueueOk s.hlt.faults ∧ shaped s

/-- The instant and the packet of a host command; none for an event. -/
def Instr.packet : Instr → Option (Nat × Cmd)
  | .sysNop t c => some (t, c)
  | .sysInfo t c => some (t, c)
  | .sysSet t c => some (t, c)
  | .evtRoute t c => some (t, c)
  | .evtRead t c => some (t, c)
  | .sysStatus t c => some (t, c)
  | .sysCoreReset t c => some (t, c)
  | .sysCountersClear t c => some (t, c)
  | .seqSet t c => some (t, c)
  | .seqStatus t c => some (t, c)
  | .seqBudget t c => some (t, c)
  | .groupBegin t c => some (t, c)
  | .groupEnd t c => some (t, c)
  | .seqCountersClear t c => some (t, c)
  | .senGenSet t c => some (t, c)
  | .senWaveLoad t c => some (t, c)
  | .senLaneSet t c => some (t, c)
  | .senGainSet t c => some (t, c)
  | .senSubstLoad t c => some (t, c)
  | .senLaneRestore t c => some (t, c)
  | .senSpareForce t c => some (t, c)
  | .senStatus t c => some (t, c)
  | .senSnapshot t c => some (t, c)
  | .senTrimRun t c => some (t, c)
  | .senCountersClear t c => some (t, c)
  | .corSet t c => some (t, c)
  | .corSetLoad t c => some (t, c)
  | .corSetSwap t c => some (t, c)
  | .corSetCheck t c => some (t, c)
  | .corSetStore t c => some (t, c)
  | .corSetRestore t c => some (t, c)
  | .corCalRun t c => some (t, c)
  | .corCalAbort t c => some (t, c)
  | .corCalStatus t c => some (t, c)
  | .corStatus t c => some (t, c)
  | .corCountersClear t c => some (t, c)
  | .runOpen t c => some (t, c)
  | .runClose t c => some (t, c)
  | .jobArm t c => some (t, c)
  | .jobDisarm t c => some (t, c)
  | .capSet t c => some (t, c)
  | .capStatus t c => some (t, c)
  | .capCovRead t c => some (t, c)
  | .capCountersClear t c => some (t, c)
  | .cmpSet t c => some (t, c)
  | .cmpRefCheck t c => some (t, c)
  | .cmpHatchLoad t c => some (t, c)
  | .cmpStatus t c => some (t, c)
  | .cmpCountersClear t c => some (t, c)
  | .queueSetup t c => some (t, c)
  | .queueDisable t c => some (t, c)
  | .queueFlush t c => some (t, c)
  | .queueStatus t c => some (t, c)
  | .streamSet t c => some (t, c)
  | .hqSet t c => some (t, c)
  | .arenaSet t c => some (t, c)
  | .arenaStatus t c => some (t, c)
  | .histReplay t c => some (t, c)
  | .histRelease t c => some (t, c)
  | .bar2Map t c => some (t, c)
  | .hqCountersClear t c => some (t, c)
  | .lmpBarSet t c => some (t, c)
  | .lmpPhaseSet t c => some (t, c)
  | .lmpPatternLoad t c => some (t, c)
  | .lmpPatternApply t c => some (t, c)
  | .lmpPatternRead t c => some (t, c)
  | .lmpDiagRun t c => some (t, c)
  | .lmpFaults t c => some (t, c)
  | .lmpFaultClear t c => some (t, c)
  | .lmpStatus t c => some (t, c)
  | .lmpCountersClear t c => some (t, c)
  | .motAxisSet t c => some (t, c)
  | .motProfileSet t c => some (t, c)
  | .motMove t c => some (t, c)
  | .motJog t c => some (t, c)
  | .motStop t c => some (t, c)
  | .motGear t c => some (t, c)
  | .motHome t c => some (t, c)
  | .motAck t c => some (t, c)
  | .motPosSet t c => some (t, c)
  | .motPaceSet t c => some (t, c)
  | .motStatus t c => some (t, c)
  | .motCountersClear t c => some (t, c)
  | .posSet t c => some (t, c)
  | .posStatus t c => some (t, c)
  | .tdcInputSet t c => some (t, c)
  | .tdcChannelSet t c => some (t, c)
  | .tdcArm t c => some (t, c)
  | .timeSet t c => some (t, c)
  | .timeStatus t c => some (t, c)
  | .posCountersClear t c => some (t, c)
  | .auxSet t c => some (t, c)
  | .auxChSet t c => some (t, c)
  | .auxLinLoad t c => some (t, c)
  | .auxInject t c => some (t, c)
  | .auxCal t c => some (t, c)
  | .auxLoopCfg t c => some (t, c)
  | .auxStatus t c => some (t, c)
  | .auxCountersClear t c => some (t, c)
  | .secIdentity t c => some (t, c)
  | .secCertRead t c => some (t, c)
  | .secRoleKey t c => some (t, c)
  | .secRmk t c => some (t, c)
  | .secPolicySet t c => some (t, c)
  | .secAuditRead t c => some (t, c)
  | .secAuditSign t c => some (t, c)
  | .secMapSign t c => some (t, c)
  | .secFwWrite t c => some (t, c)
  | .secFwVerify t c => some (t, c)
  | .secFwActivate t c => some (t, c)
  | .secSvnCommit t c => some (t, c)
  | .secSelftest t c => some (t, c)
  | .secZeroise t c => some (t, c)
  | .secDebug t c => some (t, c)
  | .secCosignKey t c => some (t, c)
  | .secCountersClear t c => some (t, c)
  | .hltStatus t c => some (t, c)
  | .hltFaultRead t c => some (t, c)
  | .hltFaultAck t c => some (t, c)
  | .hltSet t c => some (t, c)
  | .hltClassSet t c => some (t, c)
  | .hltMonitorRead t c => some (t, c)
  | .hltTrimRun t c => some (t, c)
  | .hltTrimStore t c => some (t, c)
  | .hltTrimRead t c => some (t, c)
  | .hltCountersRead t c => some (t, c)
  | .hltCountersClear t c => some (t, c)
  | .askSet t c => some (t, c)
  | .askCal t c => some (t, c)
  | .askStatus t c => some (t, c)
  | .askCountersClear t c => some (t, c)
  | .pwrStatus t c => some (t, c)
  | .pwrDomainSet t c => some (t, c)
  | .pwrSafeExit t c => some (t, c)
  | .pwrKeepAlive t c => some (t, c)
  | .pwrReset t c => some (t, c)
  | .pwrCountersClear t c => some (t, c)
  | _ => none

/-- The opcode of a host command (R458); 0 for an event. -/
def Instr.opcode : Instr → Nat
  | .sysNop _ _ => 0x0101
  | .sysInfo _ _ => 0x0102
  | .sysSet _ _ => 0x0103
  | .evtRoute _ _ => 0x0104
  | .evtRead _ _ => 0x0105
  | .sysStatus _ _ => 0x0106
  | .sysCoreReset _ _ => 0x0107
  | .sysCountersClear _ _ => 0x0108
  | .seqSet _ _ => 0x0201
  | .seqStatus _ _ => 0x0202
  | .seqBudget _ _ => 0x0203
  | .groupBegin _ _ => 0x0204
  | .groupEnd _ _ => 0x0205
  | .seqCountersClear _ _ => 0x0206
  | .senGenSet _ _ => 0x0301
  | .senWaveLoad _ _ => 0x0302
  | .senLaneSet _ _ => 0x0303
  | .senGainSet _ _ => 0x0304
  | .senSubstLoad _ _ => 0x0305
  | .senLaneRestore _ _ => 0x0306
  | .senSpareForce _ _ => 0x0307
  | .senStatus _ _ => 0x0308
  | .senSnapshot _ _ => 0x0309
  | .senTrimRun _ _ => 0x030A
  | .senCountersClear _ _ => 0x030B
  | .corSet _ _ => 0x0401
  | .corSetLoad _ _ => 0x0402
  | .corSetSwap _ _ => 0x0403
  | .corSetCheck _ _ => 0x0404
  | .corSetStore _ _ => 0x0405
  | .corSetRestore _ _ => 0x0406
  | .corCalRun _ _ => 0x0407
  | .corCalAbort _ _ => 0x0408
  | .corCalStatus _ _ => 0x0409
  | .corStatus _ _ => 0x040A
  | .corCountersClear _ _ => 0x040B
  | .runOpen _ _ => 0x0501
  | .runClose _ _ => 0x0502
  | .jobArm _ _ => 0x0503
  | .jobDisarm _ _ => 0x0504
  | .capSet _ _ => 0x0505
  | .capStatus _ _ => 0x0506
  | .capCovRead _ _ => 0x0507
  | .capCountersClear _ _ => 0x0508
  | .cmpSet _ _ => 0x0601
  | .cmpRefCheck _ _ => 0x0602
  | .cmpHatchLoad _ _ => 0x0603
  | .cmpStatus _ _ => 0x0604
  | .cmpCountersClear _ _ => 0x0605
  | .queueSetup _ _ => 0x0701
  | .queueDisable _ _ => 0x0702
  | .queueFlush _ _ => 0x0703
  | .queueStatus _ _ => 0x0704
  | .streamSet _ _ => 0x0705
  | .hqSet _ _ => 0x0706
  | .arenaSet _ _ => 0x0707
  | .arenaStatus _ _ => 0x0708
  | .histReplay _ _ => 0x0709
  | .histRelease _ _ => 0x070A
  | .bar2Map _ _ => 0x070B
  | .hqCountersClear _ _ => 0x070C
  | .lmpBarSet _ _ => 0x0801
  | .lmpPhaseSet _ _ => 0x0802
  | .lmpPatternLoad _ _ => 0x0803
  | .lmpPatternApply _ _ => 0x0804
  | .lmpPatternRead _ _ => 0x0805
  | .lmpDiagRun _ _ => 0x0806
  | .lmpFaults _ _ => 0x0807
  | .lmpFaultClear _ _ => 0x0808
  | .lmpStatus _ _ => 0x0809
  | .lmpCountersClear _ _ => 0x080A
  | .motAxisSet _ _ => 0x0901
  | .motProfileSet _ _ => 0x0902
  | .motMove _ _ => 0x0903
  | .motJog _ _ => 0x0904
  | .motStop _ _ => 0x0905
  | .motGear _ _ => 0x0906
  | .motHome _ _ => 0x0907
  | .motAck _ _ => 0x0908
  | .motPosSet _ _ => 0x0909
  | .motPaceSet _ _ => 0x090A
  | .motStatus _ _ => 0x090B
  | .motCountersClear _ _ => 0x090C
  | .posSet _ _ => 0x0A01
  | .posStatus _ _ => 0x0A02
  | .tdcInputSet _ _ => 0x0A03
  | .tdcChannelSet _ _ => 0x0A04
  | .tdcArm _ _ => 0x0A05
  | .timeSet _ _ => 0x0A06
  | .timeStatus _ _ => 0x0A07
  | .posCountersClear _ _ => 0x0A08
  | .auxSet _ _ => 0x0B01
  | .auxChSet _ _ => 0x0B02
  | .auxLinLoad _ _ => 0x0B03
  | .auxInject _ _ => 0x0B04
  | .auxCal _ _ => 0x0B05
  | .auxLoopCfg _ _ => 0x0B06
  | .auxStatus _ _ => 0x0B07
  | .auxCountersClear _ _ => 0x0B08
  | .secIdentity _ _ => 0x0C01
  | .secCertRead _ _ => 0x0C02
  | .secRoleKey _ _ => 0x0C03
  | .secRmk _ _ => 0x0C04
  | .secPolicySet _ _ => 0x0C05
  | .secAuditRead _ _ => 0x0C06
  | .secAuditSign _ _ => 0x0C07
  | .secMapSign _ _ => 0x0C08
  | .secFwWrite _ _ => 0x0C09
  | .secFwVerify _ _ => 0x0C0A
  | .secFwActivate _ _ => 0x0C0B
  | .secSvnCommit _ _ => 0x0C0C
  | .secSelftest _ _ => 0x0C0D
  | .secZeroise _ _ => 0x0C0E
  | .secDebug _ _ => 0x0C0F
  | .secCosignKey _ _ => 0x0C10
  | .secCountersClear _ _ => 0x0C11
  | .hltStatus _ _ => 0x0D01
  | .hltFaultRead _ _ => 0x0D02
  | .hltFaultAck _ _ => 0x0D03
  | .hltSet _ _ => 0x0D04
  | .hltClassSet _ _ => 0x0D05
  | .hltMonitorRead _ _ => 0x0D06
  | .hltTrimRun _ _ => 0x0D07
  | .hltTrimStore _ _ => 0x0D08
  | .hltTrimRead _ _ => 0x0D09
  | .hltCountersRead _ _ => 0x0D0A
  | .hltCountersClear _ _ => 0x0D0B
  | .askSet _ _ => 0x0E01
  | .askCal _ _ => 0x0E02
  | .askStatus _ _ => 0x0E03
  | .askCountersClear _ _ => 0x0E04
  | .pwrStatus _ _ => 0x0F01
  | .pwrDomainSet _ _ => 0x0F02
  | .pwrSafeExit _ _ => 0x0F03
  | .pwrKeepAlive _ _ => 0x0F04
  | .pwrReset _ _ => 0x0F05
  | .pwrCountersClear _ _ => 0x0F06
  | _ => 0

end Sys2Proof

namespace Sys2Proof.Machine

/-! ### When a host command is carried out -/

/-- The state in which a command of opcode op is judged: its instant has come and its packet is fetched (R448). -/
def State.taken (s : State) (t op : Nat) (c : Cmd) : State := (s.advance t).fetch op c

/-- The model's number of that command. -/
def State.takenCid (s : State) (t : Nat) : Nat := (s.advance t).freshCid

/-- A bare command that passes what R447 to R455, R480 and R493 ask of every command: it can be fetched, its count and its target are
    good, no policy asks for an envelope, group 0x0C comes on ring 3, and the audit buffer has room. -/
structure Fit (op : Nat) (levels : List Nat) (s : State) (t : Nat) (c : Cmd) : Prop where
  fetched : (s.advance t).fetchable c = true
  bare : c.envelope = false
  count : c.words.length ≤ 248
  level : c.level ∈ levels
  device : c.dev = natField s.pwr.straps 3 1
  lane : c.level = 2 → c.lane ≤ 8
  free_ : s.needsEnvelope op c.words = false
  ring : op / 256 = 0x0C → c.ring = 3
  room : audited op c.words = true → (s.taken t op c).auditFull = false

/-- Such a command outside groups. -/
structure Sent (op : Nat) (levels : List Nat) (s : State) (t : Nat) (c : Cmd) : Prop extends Fit op levels s t c where
  alone : s.groupOn c.ring = none

/-- The state in which the inner command of a valid envelope is judged: fetched, and the role's envelope counter taken over (R479). -/
def State.unsealed (s : State) (t op : Nat) (c : Cmd) : State :=
  { s.taken t op c with sec := { s.sec with envCounters := upd s.sec.envCounters (c.f 0 1 0 - 1) (fun _ => c.w64 1) } }

/-- A command in an envelope that passes the checks of R479, outside groups, and whose inner command passes what every command is asked. -/
structure Signed (op : Nat) (levels : List Nat) (s : State) (t : Nat) (c : Cmd) : Prop where
  fetched : (s.advance t).fetchable c = true
  enveloped : c.envelope = true
  valid : (s.taken t op c).envelopeFail op c = none
  alone : s.groupOn c.ring = none
  count : c.inner.length ≤ 248
  level : c.level ∈ levels
  device : c.dev = natField s.pwr.straps 3 1
  lane : c.level = 2 → c.lane ≤ 8
  ring : c.ring = 3
  room : audited op c.inner = true → (s.unsealed t op c).auditFull = false

/-- The header names a commit point that the command takes and that the state allows (R56, R59, R235, R447). -/
def Pointed (s : State) (c : Cmd) (ps : List Pt) (p : Pt) : Prop :=
  ptOf c.commit = some p ∧ p ∈ ps ∧ (p = .rept → s.p .CMP_REPEAT_MODE ≠ 0) ∧ (p = .position → s.cap.run = .open_)

/-- Every value written lies in its parameter's range. -/
def InRange (ws : List ParWrite) : Prop := ∀ w ∈ ws, w.par.row.range.ok w.par.row.bits w.val = true

/-- Every value written lies in its parameter's range, takes the commit point (R59), keeps the relations of the parameter tables, is no
    IDLE commit that a running capture refuses (R214), and leaves the grid of an open run alone (R233). -/
structure Writable (s : State) (p : Pt) (arg : Nat) (ws : List (Nat × ParWrite)) : Prop where
  range : InRange (ws.map (fun w => w.2))
  points : ∀ w ∈ ws, takesPoint p w.2 = true
  relations : s.relFails ws = []
  capture : s.calFails ⟨p, arg, ws.map (fun w => w.2)⟩ = []
  grid : s.gridFails ⟨p, arg, ws.map (fun w => w.2)⟩ = []

/-- The five commit points (R447). -/
def allPoints : List Pt := [.immediate, .tick, .rept, .position, .idle]

/-- From s to u only the attachment, host memory, the monitors and the counters may have changed: what the lines, the queues, the drives,
    the keys and the power controller hold is as before. -/
structure SameWork (s u : State) : Prop where
  now : u.now = s.now
  pending : u.pending = s.pending
  par : u.par = s.par
  imgPar : u.imgPar = s.imgPar
  imgQueue : u.imgQueue = s.imgQueue
  dram : u.dram = s.dram
  flash : u.flash = s.flash
  seq : u.seq = s.seq
  pos : u.pos = s.pos
  lamp : u.lamp = s.lamp
  sen : u.sen = s.sen
  cor : u.cor = s.cor
  cap : u.cap = s.cap
  cmp : u.cmp = s.cmp
  hq : u.hq = s.hq
  mot : u.mot = s.mot
  aux : u.aux = s.aux
  sec : u.sec = s.sec
  ask : u.ask = s.ask
  pwr : u.pwr = s.pwr

/-- The command is answered DONE with result words, and does nothing else. -/
def State.answered (s : State) (t op : Nat) (c : Cmd) (ws : List Word) : Host.Outcome State Fault Refusal :=
  .next ((s.taken t op c).done (s.takenCid t) ws)

/-- The command's writes and acts go to commit point p with argument arg. -/
def State.submitted (s : State) (t op : Nat) (c : Cmd) (p : Pt) (arg : Nat) (ws : List (Nat × ParWrite)) (acts : List Act) :
    Host.Outcome State Fault Refusal :=
  .next ((s.taken t op c).submit (s.takenCid t) ⟨p, arg, ws.map (fun w => w.2)⟩ acts)

end Sys2Proof.Machine
end

