-- ==== Sys2Proof/Certificates/Slice0/Obligations.lean ====
section
/-! DEFINITION. The statements for the provers, from the spec's numbered rules. A statement about a host command has the form: sent as
`Sent` says and with its own conditions met, `exec` answers this next state; v.submit, v.done, v.reply and the like are the shared
operations, of which statements of their own say what they do. -/

open Sys2Proof Sys2Proof.Machine

/-- The queue of commands (the model's own form, log entry 10). -/
def Obligations.StepRunsFrontCommand : Prop := ∀ (s : State),
  (∀ (i : Instr) (rest : List Instr), s.pending = i :: rest → step s = exec i { s with pending := rest }) ∧
  (s.pending = [] → step s = .next s)

/-- Reset (R577; log entries 4 and 5 for what the spec leaves open). -/
def Obligations.ResetIsSound : Prop :=
  sound State.reset ∧ State.reset.pending = [] ∧ State.reset.pwr.st = .boot ∧ State.reset.cap.run = .closed ∧
  (∀ r < 6, (State.reset.ring r).st = .disabled) ∧ (∀ x i, State.reset.cntOf x i = 0) ∧
  (∀ a, Sparse.get State.reset.hostMem 0 a = 0 ∧ Sparse.get State.reset.dram 0 a = 0 ∧ Sparse.get State.reset.flash 0 a = 0) ∧
  State.reset.hlt.faults = [] ∧ State.reset.host.outst = [] ∧ State.reset.host.store = []

/-- The invariant that every step keeps (R515, R537). -/
def Obligations.EveryStepKeepsSoundness : Prop := ∀ (s t : State), sound s → step s = .next t → sound t

/-- What no command does (the queue is the model's own, log entry 10; the clock's unit is log entry 1). -/
def Obligations.CommandsLeaveQueueAndClock : Prop := ∀ (i : Instr) (s : State),
  ∃ u, exec i s = .next u ∧ u.pending = s.pending ∧ s.now ≤ u.now ∧ s.freeCount ≤ u.freeCount

/-- Commands that wait in their ring (R448 to R451, R457). -/
def Obligations.UnfetchedCommandsWait : Prop := ∀ (i : Instr) (s : State) (t : Nat) (c : Cmd),
  i.packet = some (t, c) → (s.advance t).fetchable c = false → exec i s = .next (s.advance t)

/-- Refusals that every command shares (R450, R455, R480). -/
def Obligations.RefusedCommandsOnlyReply : Prop := ∀ (i : Instr) (s : State) (t : Nat) (c : Cmd),
  i.packet = some (t, c) → (s.advance t).fetchable c = true → c.envelope = false → s.groupOn c.ring = none →
  (let v := s.taken t i.opcode c
   let cid := s.takenCid t
   let full := (v.count .SEC_AUDIT_REFUSED).raise .SEC_AUDIT_FULL
   (248 < c.words.length → exec i s = .next (v.reply cid 0x11 0xFF)) ∧
   (c.dev ≠ natField s.pwr.straps 3 1 →
     ∃ st d, 0x11 ≤ st ∧ st ≤ 0x12 ∧ exec i s = .next (v.reply cid st d)) ∧
   (i.opcode / 256 = 0x0C → c.ring ≠ 3 →
     ∃ st d, 0x11 ≤ st ∧ st ≤ 0x13 ∧ exec i s = .next (v.reply cid st d)) ∧
   (s.needsEnvelope i.opcode c.words = true →
     ∃ st d, 0x11 ≤ st ∧ st ≤ 0x20 ∧ (exec i s = .next (v.reply cid st d) ∨ st = 0x14 ∧ exec i s = .next (full.reply cid st d))))

/-- Reads of the system, the sequencer, the encoders and the time base (chapters 12, 2 and 3). -/
def Obligations.SystemAndTimeReads : Prop := ∀ (s : State) (t : Nat) (c : Cmd),
  (Sent 0x0101 [0] s t c → exec (.sysNop t c) s = s.answered t 0x0101 c c.words) ∧
  (Sent 0x0102 [0] s t c → exec (.sysInfo t c) s = s.answered t 0x0102 c
    (([0x38323145, 0xB0 + bitAt Config.standardPackage 8 + 65536 * natField s.pwr.straps 3 1, s.fwVersion s.sec.bootSlot,
       s.pwr.channels + 65536 * (s.pwr.channels * s.pwr.gib % 512),
       s.host.link.rate % 256 + 256 * (s.host.link.width % 256), s.sec.svnOtp] : List Nat).map w32)) ∧
  (Sent 0x0106 [0] s t c → exec (.sysStatus t c) s =
    .next ((s.taken t 0x0106 c).takeLoad.2.done (s.takenCid t)
      (Word.ofNat64 (s.taken t 0x0106 c).takeLoad.1 ++ (s.taken t 0x0106 c).takeLoad.2.statusWords))) ∧
  (Sent 0x0105 [0] s t c → c.f 0 25 16 ≠ 0 → c.f 0 25 16 ≤ 248 → c.f 0 9 0 + c.f 0 25 16 ≤ 600 →
    let srcs := (List.range (c.f 0 25 16)).map (fun i => c.f 0 9 0 + i)
    let v := s.taken t 0x0105 c
    let u := if c.b 0 31 then srcs.foldl (fun (u : State) x => u.updEv x (fun e => { e with count := 0 })) v else v
    exec (.evtRead t c) s = .next (u.done (s.takenCid t) (srcs.map (fun x => w32 (s.evSrc x).count)))) ∧
  (Sent 0x0202 [0] s t c → exec (.seqStatus t c) s = s.answered t 0x0202 c
    (Word.ofNat64 s.seq.lineIndex ++ [w32 (s.taken t 0x0202 c).seqState, w32 s.seq.slotMin, w32 s.seq.darkMax] ++
      (groupIndex 2).map (fun x => w32 (s.cntOf x.1 x.2)))) ∧
  (Sent 0x0203 [0] s t c → exec (.seqBudget t c) s = s.answered t 0x0203 c (budgetWords s.shadowConfig)) ∧
  (Sent 0x0A02 [0] s t c →
    let v := s.taken t 0x0A02 c
    exec (.posStatus t c) s = s.answered t 0x0A02 c ((List.range 4).flatMap (fun k =>
      [wInt (s.enc k).pos, wInt (s.enc k).speedW, wInt (v.speedP k), w32 (s.enc k).refLatch,
       w32 ((s.enc k).amp + 65536 * (s.enc k).stateBits), 0]) ++ Word.ofNat64 s.seq.lineIndex ++ Word.ofNat64 v.glint)) ∧
  (Sent 0x0A07 [0] s t c →
    let v := s.taken t 0x0A07 c
    exec (.timeStatus t c) s = s.answered t 0x0A07 c (Word.ofNat64 v.glint ++
      [w32 s.pos.tb.st.code, wInt (clampInt (-2147483648) 2147483647 s.pos.tb.lastErr), w32 (s.p .TDC_FREQ_PPB),
       w32 (s.p .TDC_AGE_PPB_DAY), w32 ((v.now - s.pos.tb.since) / secs 1)]))

/-- Reads of the lamps, the lanes and the correction (chapters 4, 5 and 6). -/
def Obligations.LampLaneAndCorrectionReads : Prop := ∀ (s : State) (t : Nat) (c : Cmd),
  (Sent 0x0807 [0] s t c → c.f 0 21 16 ≠ 0 → c.f 0 21 16 ≤ 61 → c.f 0 13 8 + c.f 0 21 16 ≤ 64 →
    exec (.lmpFaults t c) s = s.answered t 0x0807 c ((List.range (c.f 0 21 16)).flatMap (fun i =>
      let x := s.bar (c.f 0 1 0)
      [w32 (Sparse.get x.opens 0 (c.f 0 13 8 + i)), w32 (Sparse.get x.shorts 0 (c.f 0 13 8 + i)),
       w32 (Sparse.get x.pairs 0 (c.f 0 13 8 + i)), w32 (Sparse.get x.status 0 (c.f 0 13 8 + i))]))) ∧
  (Sent 0x0809 [0] s t c → exec (.lmpStatus t c) s = s.answered t 0x0809 c ((List.range 4).flatMap (fun b =>
    [w32 (s.barState b + 256 * (s.chainLen b).getD 0 + 65536 * (s.bar b).diDly),
     w32 ((openDiv 56 (s.bar b).boost 10).toNat % 1024 + 65536 * (s.bar b).hrMin + 2 ^ 24 * (s.bar b).derate),
     wInt ((s.bar b).temp.getD 0)]))) ∧
  (Sent 0x0308 [1] s t c → exec (.senStatus t c) s = s.answered t 0x0308 c ((List.range 9).map (fun i => s.laneWord c.tile i))) ∧
  (Sent 0x0404 [0] s t c → (s.taken t 0x0404 c).slotFails (c.f 0 7 0) = [] → headerOk (s.librarySlot (c.f 0 7 0)) = true →
    let m := s.librarySlot (c.f 0 7 0)
    exec (.corSetCheck t c) s = s.answered t 0x0404 c
      [w32 (setRecords m).length, w32 ((setRecords m).filter (fun r => !r.good)).length, w32 (setLe m 12 4), w32 (setLe m 8 4)]) ∧
  (Sent 0x0409 [0] s t c → exec (.corCalStatus t c) s = s.answered t 0x0409 c
    ((List.range 3).flatMap (fun k => w32 (s.cor.calCount.getD k 0) :: Word.ofNat64 (s.cor.calTime.getD k 0)) ++
      [match s.cor.cal with
       | some x => w32 (x.kind + 128 + 65536 * (x.soFar % 65536))
       | none => 0])) ∧
  (Sent 0x040A [1] s t c → exec (.corStatus t c) s = s.answered t 0x040A c
    ([w32 (s.corState c.tile), w32 (s.tileCor c.tile).act.id, w32 (s.tileCor c.tile).pend.id] ++
      (List.range 6).map (fun p => if s.hasSource p then w32 (ofSigned 16 (s.halfTemp (s.tileCor c.tile).act p)) else 0x8000)))

/-- Reads of the capture, the comparison, a queue and the arena (chapters 7, 8 and 9). -/
def Obligations.CaptureQueueAndArenaReads : Prop := ∀ (s : State) (t : Nat) (c : Cmd),
  (Sent 0x0506 [0] s t c → exec (.capStatus t c) s = s.answered t 0x0506 c
    ([w32 (s.cap.run.code + 256 * (match s.cap.late with
        | some l => l.await
        | none => 0)), w32 s.cap.runId, w32 s.cap.jobId] ++
      Word.ofNat64 (ofSigned 64 (s.target (s.cap.high + 1))) ++ Word.ofNat64 s.cap.cov.written ++ [w32 s.cap.cov.opens.length])) ∧
  (Sent 0x0604 [0] s t c → exec (.cmpStatus t c) s = s.answered t 0x0604 c
    ([w32 ((s.taken t 0x0604 c).cmpState + 256 * s.cmp.refSlot + 65536 * natField s.pwr.domains 43 40),
      w32 ((s.cmp.rep.map (fun x => x.number)).getD 0), w32 (ofSigned 16 s.cmp.xc), w32 s.cmp.track.sy] ++
      Word.ofNat64 ((s.cmp.rep.map (fun x => x.line)).getD 0) ++ [w32 s.cmp.track.missRun])) ∧
  (Sent 0x0704 [0] s t c →
    let q := s.queue (c.f 0 15 0)
    exec (.queueStatus t c) s = s.answered t 0x0704 c
      [w32 (q.st.code + 256 * q.size), w32 (q.prod + 65536 * q.pub), w32 (q.cons + 65536 * q.credit), w32 q.seq, w32 q.drops]) ∧
  (Sent 0x0708 [0] s t c → exec (.arenaStatus t c) s = s.answered t 0x0708 c
    ((List.range 5).flatMap (fun i => [w32 (s.arenaBase i), w32 (s.arenaSizes.getD i 0)]) ++ [w32 (s.pwr.channels * s.pwr.gib)] ++
      Word.ofNat64 s.histEnds.1 ++ Word.ofNat64 s.histEnds.2 ++ [w32 s.hq.replays.length]))

/-- Reads of motion, auxiliary measurement, health, trims, counters, cascade and power (chapters 10, 11, 14 to 16). -/
def Obligations.MotionHealthAndPowerReads : Prop := ∀ (s : State) (t : Nat) (c : Cmd),
  (Sent 0x090B [0] s t c → exec (.motStatus t c) s = s.answered t 0x090B c (s.axisWords (c.f 0 2 0))) ∧
  (Sent 0x0B07 [0] s t c → exec (.auxStatus t c) s = s.answered t 0x0B07 c (s.taken t 0x0B07 c).auxWords) ∧
  (Sent 0x0D01 [0] s t c → exec (.hltStatus t c) s = s.answered t 0x0D01 c
    ([w32 (s.hlt.therm + 65536 * ofSigned 16 s.hlt.tempMax),
      w32 (((List.range 4).map (fun k => 2 ^ (8 * k) * min 255 (s.hlt.faults.filter (fun f => f.cls == k)).length)).foldl
        (fun (a b : Nat) => a + b) 0),
      w32 (s.cntOf .HLT_FAULT_OVERFLOWS),
      w32 (s.exhausted 1 + 2 ^ 8 * s.exhausted 2 + 2 ^ 16 * s.exhausted 4 + 2 ^ 24 * s.exhausted 5), w32 s.hlt.trimRuns] ++
      Word.ofNat64 s.hlt.trimTime)) ∧
  (Sent 0x0D02 [0] s t c → c.f 0 12 8 ≠ 0 → c.f 0 5 0 + c.f 0 12 8 ≤ 64 →
    exec (.hltFaultRead t c) s = s.answered t 0x0D02 c ((List.range (c.f 0 12 8)).flatMap (fun i =>
      match s.hlt.faults.find? (fun f => f.slot == c.f 0 5 0 + i) with
      | some f => bytesWords 8 f.bytes
      | none => List.replicate 8 0))) ∧
  (Sent 0x0D06 [0] s t c → exec (.hltMonitorRead t c) s = s.answered t 0x0D06 c
    (halfWords (s.hlt.temps.map (fun x => ofSigned 16 x)) ++ halfWords (s.hlt.volts.map (fun v => v.mv)) ++
      halfWords (s.hlt.proc.map (fun x => ofSigned 16 x)))) ∧
  (Sent 0x0D09 [0] s t c → kindCount (c.f 0 7 0) ≠ 0 → c.f 0 23 8 < kindCount (c.f 0 7 0) → c.f 1 5 0 ≠ 0 → c.f 1 5 0 ≠ 63 →
    c.f 0 23 8 + c.f 1 5 0 ≤ kindCount (c.f 0 7 0) →
    exec (.hltTrimRead t c) s = s.answered t 0x0D09 c
      ((List.range (c.f 1 5 0)).flatMap (fun i => s.trimRecord (c.b 0 24) (c.f 0 7 0) (c.f 0 23 8 + i)))) ∧
  (Sent 0x0D0A [0] s t c → c.f 0 27 20 ≠ 0 → c.f 0 27 20 ≤ 248 → c.f 0 19 8 + c.f 0 27 20 ≤ (groupIndex (c.f 0 7 0)).length →
    exec (.hltCountersRead t c) s = s.answered t 0x0D0A c
      ((((groupIndex (c.f 0 7 0)).map (fun x => w32 (s.cntOf x.1 x.2))).drop (c.f 0 19 8)).take (c.f 0 27 20))) ∧
  (Sent 0x0E03 [0] s t c → exec (.askStatus t c) s = s.answered t 0x0E03 c
    ([w32 ((s.taken t 0x0E03 c).askState + 16 * s.p .ASK_ROLE + 256 * bitNat s.mstrSel),
      w32 (s.ask.align % 256 + 65536 * (s.ask.path % 65536)), w32 (ofSigned 16 s.ask.timeErr)] ++ Word.ofNat64 s.ask.lastTick)) ∧
  (Sent 0x0F01 [0] s t c → exec (.pwrStatus t c) s = s.answered t 0x0F01 c
    (Word.ofNat64 s.pwr.domains ++
      [w32 (s.pwr.st.code + 16 * s.pwr.safeCause + 256 * s.pwr.straps + 65536 * s.p .PWR_SLICE_REQ), w32 s.pwr.bootMs]))

/-- The counter clears of the fifteen groups (R537; each chapter's command). -/
def Obligations.CounterClears : Prop := ∀ (s : State) (t : Nat) (c : Cmd),
  let clears := fun (g : Nat) (m : Sparse Nat) =>
    (∀ x ∈ (groupCtrs g).zipIdx, (c.w 0).testBit x.2 = true → ∀ i < x.1.insts, Sparse.get m 0 (x.1.key i) = 0) ∧
    (∀ k, (∀ x ∈ (groupCtrs g).zipIdx, (c.w 0).testBit x.2 = true → ∀ i < x.1.insts, k ≠ x.1.key i) → Sparse.get m 0 k = Sparse.get s.cnt 0 k)
  let clearing := fun (op g : Nat) (o : Host.Outcome State Fault Refusal) =>
    Sent op [0] s t c → ∃ m, o = .next (({ s.taken t op c with cnt := m } : State).done (s.takenCid t)) ∧ clears g m
  clearing 0x0108 1 (exec (.sysCountersClear t c) s) ∧
  clearing 0x0206 2 (exec (.seqCountersClear t c) s) ∧
  clearing 0x030B 3 (exec (.senCountersClear t c) s) ∧
  clearing 0x040B 4 (exec (.corCountersClear t c) s) ∧
  clearing 0x0508 5 (exec (.capCountersClear t c) s) ∧
  clearing 0x0605 6 (exec (.cmpCountersClear t c) s) ∧
  clearing 0x080A 8 (exec (.lmpCountersClear t c) s) ∧
  clearing 0x090C 9 (exec (.motCountersClear t c) s) ∧
  clearing 0x0A08 10 (exec (.posCountersClear t c) s) ∧
  clearing 0x0B08 11 (exec (.auxCountersClear t c) s) ∧
  clearing 0x0C11 12 (exec (.secCountersClear t c) s) ∧
  clearing 0x0D0B 13 (exec (.hltCountersClear t c) s) ∧
  clearing 0x0E04 14 (exec (.askCountersClear t c) s) ∧
  clearing 0x0F06 15 (exec (.pwrCountersClear t c) s) ∧
  (Sent 0x070C [0] s t c → ∃ (m : Sparse Nat) (qs : Sparse Queue),
    exec (.hqCountersClear t c) s = .next (({ s.taken t 0x070C c with cnt := m, hq := { s.hq with queues := qs } } : State).done (s.takenCid t)) ∧
    clears 7 m ∧
    ∀ q, Sparse.get qs Queue.reset q = if (c.w 0).testBit 31 then { s.queue q with drops := 0 } else s.queue q)

/-- Set commands of parameters that take effect on their write (R58, R59). -/
def Obligations.ImmediateSets : Prop := ∀ (s : State) (t : Nat) (c : Cmd),
  let setsNow := fun (op : Nat) (ws : List (Nat × ParWrite)) =>
    (Host.Outcome.next ((({ s.taken t op c with par := parSets s.par (ws.map (fun w => w.2)) } : State).doneNow (s.takenCid t)).imgSettle) :
      Host.Outcome State Fault Refusal)
  (let ws := setWrites c [⟨1, 0, .SYS_EXEC_BUDGET, 0⟩, ⟨2, 0, .SYS_BULK_WEIGHT, 0⟩, ⟨3, 0, .SYS_EVT_HOLDOFF, 0⟩, ⟨4, 0, .SYS_IRQ_HOLDOFF, 0⟩,
     ⟨5, 0, .SYS_WDT_PERIOD, 0⟩, ⟨6, 0, .SYS_SVC_SHARE, 0⟩] (maskAt c)
   Sent 0x0103 [0] s t c → Writable (s.taken t 0x0103 c) .immediate c.arg ws → exec (.sysSet t c) s = setsNow 0x0103 ws) ∧
  (let ws := setWrites c [⟨0, 0, .HQ_WAIT_LIMIT, 0⟩] (fun n => n == 0)
   Sent 0x0706 [0] s t c → Writable (s.taken t 0x0706 c) .immediate c.arg ws → exec (.hqSet t c) s = setsNow 0x0706 ws) ∧
  (let ws := setWrites c [⟨0, 0, .HIS_BAR2_BASE, 0⟩] (fun n => n == 0)
   Sent 0x070B [0] s t c → Writable (s.taken t 0x070B c) .immediate c.arg ws → c.f 0 7 0 < s.pwr.channels * s.pwr.gib →
   exec (.bar2Map t c) s = setsNow 0x070B ws) ∧
  (let ws := setWrites c [⟨1, 0, .HLT_CE_LIMIT, 0⟩, ⟨2, 0, .HLT_SCRUB_PERIOD, 0⟩, ⟨3, 0, .HLT_PM_LIMIT, 0⟩] (maskAt c)
   Sent 0x0D04 [0] s t c → Writable (s.taken t 0x0D04 c) .immediate c.arg ws → exec (.hltSet t c) s = setsNow 0x0D04 ws) ∧
  (let ws := (List.range (c.f 0 25 16)).flatMap (fun i =>
     [(1 + i, (⟨.EVT_VEC, c.f 0 9 0 + i, c.f (1 + i) 5 0⟩ : ParWrite)), (1 + i, ⟨.EVT_EN, c.f 0 9 0 + i, c.f (1 + i) 8 8⟩)])
   Sent 0x0104 [0] s t c → InRange (ws.map (fun w => w.2)) → c.f 0 25 16 ≠ 0 → c.f 0 25 16 ≤ 247 → c.f 0 9 0 + c.f 0 25 16 ≤ 600 →
   c.words.length = 1 + c.f 0 25 16 → exec (.evtRoute t c) s = setsNow 0x0104 ws) ∧
  (let ws := (List.range (c.f 0 25 16)).map (fun i => (1 + i, (⟨.HLT_CLASS, c.f 0 9 0 + i, c.f (1 + i) 2 0⟩ : ParWrite)))
   Sent 0x0D05 [0] s t c → InRange (ws.map (fun w => w.2)) → c.f 0 25 16 ≠ 0 → c.f 0 25 16 ≤ 247 → c.f 0 9 0 + c.f 0 25 16 ≤ 600 →
   c.words.length = 1 + c.f 0 25 16 → exec (.hltClassSet t c) s = setsNow 0x0D05 ws)

/-- Set commands of the sequencer, the encoders, the timing inputs, the channels and the time base (chapters 2 and 3). -/
def Obligations.SequencerAndTimeSets : Prop := ∀ (s : State) (t : Nat) (c : Cmd) (p : Pt),
  (let ws := setWrites c
      ([⟨1, 0, .SEQ_TICK_SRC, 0⟩, ⟨1, 4, .SEQ_POS_SRC, 0⟩, ⟨1, 8, .SEQ_NUM_PHASES, 0⟩, ⟨1, 12, .SEQ_TRIG_EDGE, 0⟩,
      ⟨1, 13, .SEQ_SPREAD, 0⟩, ⟨2, 0, .SEQ_PERIOD, 0⟩, ⟨3, 0, .SEQ_HOLD_LIMIT, 0⟩, ⟨4, 0, .SEQ_IDLE_DWELL, 0⟩,
      ⟨4, 16, .SEQ_GROUP_TIMEOUT, 0⟩] ++ (List.range 6).flatMap (fun p => ([⟨5 + p, 0, .SEQ_GUARD, p⟩, ⟨5 + p, 16, .SEQ_EXP, p⟩] : List
      SetField)))
      (maskAt c)
   Sent 0x0201 [0] s t c → Pointed s c allPoints p → Writable (s.taken t 0x0201 c) p c.arg ws →
   exec (.seqSet t c) s = s.submitted t 0x0201 c p c.arg ws []) ∧
  (let ws := setWrites c
      (([⟨1, 0, .POS_MODE, c.f 0 1 0⟩, ⟨1, 1, .POS_DIR, c.f 0 1 0⟩, ⟨1, 2, .POS_REF_MODE, c.f 0 1 0⟩, ⟨1, 4, .POS_CORR_EN, c.f 0 1 0⟩,
      ⟨1, 8, .POS_CORR_SHIFT, c.f 0 1 0⟩, ⟨2, 0, .POS_REF_VALUE, c.f 0 1 0⟩, ⟨3, 0, .POS_REF_PERIOD, c.f 0 1 0⟩] : List SetField) ++
      ([⟨4, 0, .POS_COUNT_LEN, c.f 0 1 0⟩, ⟨5, 0, .POS_VWIN, c.f 0 1 0⟩, ⟨6, 0, .POS_AMP_LO, 0⟩, ⟨6, 16, .POS_AMP_HI, 0⟩,
      ⟨7, 0, .POS_STILL_TIME, 0⟩, ⟨7, 16, .POS_LOG_PERIOD, 0⟩] : List SetField))
      (maskFrom7 c)
   Sent 0x0A01 [0] s t c → Pointed s c allPoints p → Writable (s.taken t 0x0A01 c) p c.arg ws → (s.taken t 0x0A01 c).rearmFails (c.f 0 1
   0) (ws.map (fun w => w.2)) = false →
   exec (.posSet t c) s = s.submitted t 0x0A01 c p c.arg ws []) ∧
  (let ws := setWrites c
      ([⟨1, 0, .TDC_THRESH, c.f 0 3 0⟩, ⟨1, 8, .TDC_HYST, c.f 0 3 0⟩, ⟨1, 16, .TDC_HOLDOFF, c.f 0 3 0⟩])
      (fun n => n == 1)
   Sent 0x0A03 [0] s t c → Pointed s c allPoints p → Writable (s.taken t 0x0A03 c) p c.arg ws → c.f 0 3 0 ≤ 9 →
   exec (.tdcInputSet t c) s = s.submitted t 0x0A03 c p c.arg ws []) ∧
  (let ws := setWrites c
      ([⟨1, 0, .TDC_MODE, c.f 0 2 0⟩, ⟨1, 4, .TDC_START, c.f 0 2 0⟩, ⟨1, 8, .TDC_STOP, c.f 0 2 0⟩, ⟨1, 12, .TDC_EDGE, c.f 0 2 0⟩,
      ⟨1, 16, .TDC_ENC, c.f 0 2 0⟩, ⟨1, 20, .TDC_REARM, c.f 0 2 0⟩, ⟨2, 0, .TDC_TIMEOUT, c.f 0 2 0⟩, ⟨3, 0, .TDC_ORDER_WINDOW, 0⟩])
      (fun n => n == 1 || n == 2 || (n == 3 && c.b 3 16))
   Sent 0x0A04 [0] s t c → Pointed s c allPoints p → Writable (s.taken t 0x0A04 c) p c.arg ws →
   exec (.tdcChannelSet t c) s = s.submitted t 0x0A04 c p c.arg ws []) ∧
  (let ws := setWrites c
      ([⟨1, 0, .TDC_FREQ_PPB, 0⟩, ⟨2, 0, .TDC_AGE_PPB_DAY, 0⟩, ⟨2, 16, .TDC_AGE_LEARN, 0⟩, ⟨2, 18, .TDC_PPS_MODE, 0⟩,
      ⟨2, 20, .TDC_PPS_KP, 0⟩, ⟨2, 24, .TDC_PPS_KI, 0⟩, ⟨3, 0, .TDC_SLEW_MAX, 0⟩, ⟨4, 0, .TDC_LOCK_WIN, 0⟩, ⟨5, 0, .TDC_PPS_REJECT, 0⟩])
      (fun n => decide (1 ≤ n) && decide (n ≤ 6) && c.b 0 (n - 1))
   Sent 0x0A06 [0] s t c → Pointed s c [.tick, .idle] p → Writable (s.taken t 0x0A06 c) p c.arg ws → c.b 0 5 = false → (c.b 0 0 = true →
   s.p .TDC_PPS_MODE = 0) → (c.b 0 1 = true → c.f 2 19 18 ≠ 0 → s.member = false) →
   exec (.timeSet t c) s = s.submitted t 0x0A06 c p c.arg ws []) ∧
  (let ws := setWrites c
      ([⟨1, 0, .TDC_FREQ_PPB, 0⟩, ⟨2, 0, .TDC_AGE_PPB_DAY, 0⟩, ⟨2, 16, .TDC_AGE_LEARN, 0⟩, ⟨2, 18, .TDC_PPS_MODE, 0⟩,
      ⟨2, 20, .TDC_PPS_KP, 0⟩, ⟨2, 24, .TDC_PPS_KI, 0⟩, ⟨3, 0, .TDC_SLEW_MAX, 0⟩, ⟨4, 0, .TDC_LOCK_WIN, 0⟩, ⟨5, 0, .TDC_PPS_REJECT, 0⟩])
      (fun n => decide (1 ≤ n) && decide (n ≤ 6) && c.b 0 (n - 1))
   let v := s.taken t 0x0A06 c
   Sent 0x0A06 [0] s t c → Pointed s c [.tick, .idle] p → Writable v p c.arg ws → c.b 0 5 = true →
   c.w 6 ≤ 360287970 → s.cap.run = .closed → s.pos.tb.load = none → s.openWaits = false →
   (c.b 0 0 = true → s.p .TDC_PPS_MODE = 0) → (c.b 0 1 = true → c.f 2 19 18 ≠ 0 → s.member = false) →
   let u : State := { v with pos := { v.pos with tb := { v.pos.tb with load := some ⟨s.takenCid t, c.w 6, false, 0, 0⟩ } } }
   exec (.timeSet t c) s = .next (u.submit (s.takenCid t) ⟨p, c.arg, ws.map (fun w => w.2)⟩ [.timeLoad (c.w 6)]))

/-- Set commands of the generators, the lanes, the gains, the correction and the lamps (chapters 4, 5 and 6). -/
def Obligations.LaneCorrectionAndLampSets : Prop := ∀ (s : State) (t : Nat) (c : Cmd) (p : Pt),
  (let ws := setWrites c
      ([⟨1, 0, .SEN_PCLK_DIV, 2 * c.tile + c.f 0 0 0⟩, ⟨1, 16, .SEN_SCLK_HIGH, 2 * c.tile + c.f 0 0 0⟩,
      ⟨1, 28, .SEN_SCLK_FREE, 2 * c.tile + c.f 0 0 0⟩, ⟨1, 29, .SEN_GEN_EN, 2 * c.tile + c.f 0 0 0⟩,
      ⟨1, 30, .SEN_CDS_MODE, 2 * c.tile + c.f 0 0 0⟩, ⟨2, 0, .SEN_VID_LAT, 2 * c.tile + c.f 0 0 0⟩,
      ⟨2, 8, .SEN_CDS_RST, 2 * c.tile + c.f 0 0 0⟩, ⟨2, 16, .SEN_CDS_SIG, 2 * c.tile + c.f 0 0 0⟩,
      ⟨3, 0, .SEN_RO_CLK, 6 * (2 * c.tile + c.f 0 0 0)⟩, ⟨3, 16, .SEN_RO_CLK, 6 * (2 * c.tile + c.f 0 0 0) + 1⟩,
      ⟨4, 0, .SEN_RO_CLK, 6 * (2 * c.tile + c.f 0 0 0) + 2⟩, ⟨4, 16, .SEN_RO_CLK, 6 * (2 * c.tile + c.f 0 0 0) + 3⟩,
      ⟨5, 0, .SEN_RO_CLK, 6 * (2 * c.tile + c.f 0 0 0) + 4⟩, ⟨5, 16, .SEN_RO_CLK, 6 * (2 * c.tile + c.f 0 0 0) + 5⟩])
      (maskFrom7 c)
   Sent 0x0301 [1] s t c → Pointed s c allPoints p → Writable (s.taken t 0x0301 c) p c.arg ws →
   exec (.senGenSet t c) s = s.submitted t 0x0301 c p c.arg ws []) ∧
  (let ws := setWrites c
      ([⟨1, 0, .SEN_LANE_EN, 8 * c.tile + c.lane⟩, ⟨1, 1, .SEN_GEN, 8 * c.tile + c.lane⟩, ⟨1, 2, .SEN_REV, 8 * c.tile + c.lane⟩,
      ⟨1, 4, .SEN_CLAMP_MODE, 8 * c.tile + c.lane⟩, ⟨2, 0, .SEN_COL_BASE, 8 * c.tile + c.lane⟩, ⟨3, 0, .SEN_LEAD, 8 * c.tile + c.lane⟩,
      ⟨3, 16, .SEN_BLACK_N, 8 * c.tile + c.lane⟩, ⟨4, 0, .SEN_GAP, 8 * c.tile + c.lane⟩, ⟨4, 16, .SEN_ACTIVE, 8 * c.tile + c.lane⟩,
      ⟨5, 0, .SEN_BLACK_NOM, 8 * c.tile + c.lane⟩, ⟨5, 16, .SEN_BLACK_TOL, 8 * c.tile + c.lane⟩,
      ⟨6, 0, .SEN_CLAMP_SHIFT, 8 * c.tile + c.lane⟩, ⟨6, 16, .SEN_PEDESTAL, 8 * c.tile + c.lane⟩])
      (maskAt c)
   Sent 0x0303 [2] s t c → Pointed s c allPoints p → Writable (s.taken t 0x0303 c) p c.arg ws → c.lane ≠ 8 →
   exec (.senLaneSet t c) s = s.submitted t 0x0303 c p c.arg ws []) ∧
  (let ws := setWrites c
      ((if c.level = 1 then (List.range 8).map (fun i => 8 * c.tile + i) else [8 * c.tile + c.lane]).flatMap (fun l => (List.range 6).map
      (fun p => (⟨p + 1, 0, .SEN_GAIN, 6 * l + p⟩ : SetField))))
      (fun n => c.b 0 (n - 1))
   Sent 0x0304 [1, 2] s t c → Pointed s c allPoints p → Writable (s.taken t 0x0304 c) p c.arg ws → (c.level = 2 → c.lane ≠ 8) →
   exec (.senGainSet t c) s = s.submitted t 0x0304 c p c.arg ws []) ∧
  (let ws := setWrites c
      ((List.range 16).map (fun t => (⟨1, t, .COR_MODE, t⟩ : SetField)) ++ (List.range 6).map (fun p => (⟨2, 3 * p, .COR_TEMP_BAR, p⟩ :
      SetField)) ++ ([⟨3, 0, .COR_CAL_LINES, 0⟩, ⟨3, 16, .COR_TILE_AXIS, 0⟩, ⟨4, 0, .COR_CAL_PERIOD, 0⟩] : List SetField) ++ (List.range
      6).map (fun p => (⟨5 + p / 2, 16 * (p % 2), .COR_WHITE_TARGET, p⟩ : SetField)) ++ (List.range 4).map (fun j =>
      (⟨8 + j / 2, 16 * (j % 2), .COR_LEVEL, j⟩ : SetField)) ++ ([⟨10, 0, .COR_TILE_IN, 0⟩, ⟨11, 0, .COR_TILE_PARK, 0⟩,
      ⟨12, 0, .COR_SETTLE, 0⟩, ⟨12, 16, .COR_WU_INTERVAL, 0⟩, ⟨13, 0, .COR_WU_MAX, 0⟩, ⟨13, 16, .COR_WU_STABLE, 0⟩,
      ⟨13, 24, .COR_WU_STABLE_TIME, 0⟩] : List SetField))
      (maskAt c)
   Sent 0x0401 [0] s t c → Pointed s c allPoints p → Writable (s.taken t 0x0401 c) p c.arg ws →
   exec (.corSet t c) s = s.submitted t 0x0401 c p c.arg ws []) ∧
  (let ws := setWrites c
      ((if c.b 0 16 then ([⟨1, 0, .LMP_SYNC_MODE, 0⟩] : List SetField) else []) ++ (if c.b 0 17 then ([⟨1, 16, .LMP_PROOF_EVERY, 0⟩] :
      List SetField) else []) ++ (List.range 6).flatMap (fun p => ([⟨p + 2, 0, .LMP_PULSE, 6 * (c.f 0 1 0) + p⟩,
      ⟨p + 2, 16, .LMP_DELAY, 6 * (c.f 0 1 0) + p⟩] : List SetField)))
      (phaseWritten c)
   Sent 0x0802 [0] s t c → Pointed s c allPoints p → Writable (s.taken t 0x0802 c) p c.arg ws →
   exec (.lmpPhaseSet t c) s = s.submitted t 0x0802 c p c.arg ws []) ∧
  (let ws := setWrites c
      (([⟨1, 0, .LMP_MODE, c.f 0 1 0⟩, ⟨1, 8, .LMP_CHIPS, c.f 0 1 0⟩, ⟨1, 16, .LMP_CLK_DIV, c.f 0 1 0⟩,
      ⟨2, 0, .LMP_BOOST_MIN, c.f 0 1 0⟩, ⟨2, 16, .LMP_BOOST_MAX, c.f 0 1 0⟩, ⟨3, 0, .LMP_HR_TARGET, c.f 0 1 0⟩,
      ⟨3, 8, .LMP_HR_HYST, c.f 0 1 0⟩, ⟨3, 16, .LMP_BOOST_STEP_DN, c.f 0 1 0⟩, ⟨3, 24, .LMP_BOOST_ILIM, c.f 0 1 0⟩,
      ⟨4, 0, .LMP_FB_RATIO, c.f 0 1 0⟩, ⟨4, 16, .LMP_BOOST_FREQ, c.f 0 1 0⟩] : List SetField) ++ ([⟨5, 0, .LMP_TEMP_CH, c.f 0 1 0⟩,
      ⟨5, 8, .LMP_DERATE_T0, c.f 0 1 0⟩, ⟨5, 16, .LMP_DERATE_T1, c.f 0 1 0⟩, ⟨5, 24, .LMP_DERATE_TSHUT, c.f 0 1 0⟩,
      ⟨6, 0, .LMP_DERATE_MIN, c.f 0 1 0⟩, ⟨6, 8, .LMP_SHORT_V, c.f 0 1 0⟩, ⟨6, 16, .LMP_P64_MAP, c.f 0 1 0⟩,
      ⟨6, 24, .LMP_CHAIN_RETRY, 0⟩, ⟨7, 0, .LMP_DIAG_I, c.f 0 1 0⟩] : List SetField))
      (maskFrom7 c)
   let v := s.taken t 0x0801 c
   let qs := ws.map (fun w => w.2)
   Sent 0x0801 [0] s t c → Writable v .idle c.arg ws →
   exec (.lmpBarSet t c) s =
      if parGet (parSets s.shadow qs) .LMP_MODE (c.f 0 1 0) = 1 ∧ ¬(s.native (c.f 0 1 0) = true ∧ (s.bar (c.f 0 1 0)).known = true)
      then .next (v.submit (s.takenCid t) ⟨.idle, c.arg, []⟩ [.barMode (c.f 0 1 0) qs true])
      else .next (v.submit (s.takenCid t) ⟨.idle, c.arg, qs⟩
        [.barMode (c.f 0 1 0) [] (parGet (parSets s.shadow qs) .LMP_MODE (c.f 0 1 0) != s.p .LMP_MODE (c.f 0 1 0))]))

/-- Set commands of the capture, the comparison, the streams and the arena (chapters 7, 8 and 9). -/
def Obligations.CaptureCompareAndQueueSets : Prop := ∀ (s : State) (t : Nat) (c : Cmd) (p : Pt),
  (let ws := setWrites c
      ([⟨1, 0, .CAP_GRID_PITCH, 0⟩, ⟨2, 0, .CAP_ORIGIN, 0⟩, ⟨3, 0, .CAP_ORIGIN_MODE, 0⟩, ⟨3, 1, .CAP_RESAMPLE, 0⟩,
      ⟨3, 2, .CAP_COV_LIVE, 0⟩, ⟨4, 0, .CAP_AXIS_SCALE, 0⟩, ⟨5, 0, .CAP_COV_SIZE, 0⟩])
      (maskAt c)
   Sent 0x0505 [0] s t c → Pointed s c allPoints p → Writable (s.taken t 0x0505 c) p c.arg ws →
   exec (.capSet t c) s = s.submitted t 0x0505 c p c.arg ws []) ∧
  (let ws := setWrites c
      (([⟨1, 0, .CMP_ENABLE, 0⟩, ⟨1, 1, .CMP_REPEAT_MODE, 0⟩, ⟨1, 4, .CMP_MARK_CH, 0⟩, ⟨1, 8, .CMP_FLAG_MASK, 0⟩,
      ⟨1, 12, .CMP_EDGE_RADIUS, 0⟩, ⟨2, 0, .CMP_REPEAT_LINES, 0⟩, ⟨3, 0, .CMP_MARK_WIN, 0⟩, ⟨3, 8, .CMP_MARK_MISS_MAX, 0⟩,
      ⟨3, 16, .CMP_X0, 0⟩] : List SetField) ++ ([⟨4, 0, .CMP_SEARCH_X, 0⟩, ⟨4, 4, .CMP_SEARCH_Y, 0⟩, ⟨4, 8, .CMP_SAD_MAX, 0⟩,
      ⟨4, 16, .CMP_CURV_MIN, 0⟩, ⟨4, 24, .CMP_ROW_MIN, 0⟩, ⟨5, 0, .CMP_OUTLIER, 0⟩, ⟨5, 8, .CMP_BLEND, 0⟩, ⟨5, 16, .CMP_SEAM_WAIT, 0⟩,
      ⟨6, 0, .CMP_LEARN_K, 0⟩, ⟨6, 8, .CMP_LEARN_FLOOR, 0⟩, ⟨6, 16, .CMP_EDGE_GRAD, 0⟩, ⟨6, 24, .CMP_EDGE_ADD, 0⟩,
      ⟨7, 0, .CMP_SUMMARY_QUEUE, 0⟩] : List SetField) ++ (List.range 9).flatMap (fun i => ([⟨8 + i, 0, .CMP_M, 2 * i⟩,
      ⟨8 + i, 16, .CMP_M, 2 * i + 1⟩] : List SetField)))
      (maskAt c)
   let v := s.taken t 0x0601 c
   let qs := ws.map (fun w => w.2)
   Sent 0x0601 [0] s t c → InRange qs → c.b 0 31 = true →
   repeatFits (parSets (parSets s.shadow s.cmp.staged) qs) s.member = true →
   exec (.cmpSet t c) s = .next (({ v with cmp := { s.cmp with
      staged := s.cmp.staged.filter (fun w => !qs.any (fun x => x.same w)) ++ qs } } : State).done (s.takenCid t))) ∧
  (let ws := setWrites c
      (([⟨1, 0, .CMP_ENABLE, 0⟩, ⟨1, 1, .CMP_REPEAT_MODE, 0⟩, ⟨1, 4, .CMP_MARK_CH, 0⟩, ⟨1, 8, .CMP_FLAG_MASK, 0⟩,
      ⟨1, 12, .CMP_EDGE_RADIUS, 0⟩, ⟨2, 0, .CMP_REPEAT_LINES, 0⟩, ⟨3, 0, .CMP_MARK_WIN, 0⟩, ⟨3, 8, .CMP_MARK_MISS_MAX, 0⟩,
      ⟨3, 16, .CMP_X0, 0⟩] : List SetField) ++ ([⟨4, 0, .CMP_SEARCH_X, 0⟩, ⟨4, 4, .CMP_SEARCH_Y, 0⟩, ⟨4, 8, .CMP_SAD_MAX, 0⟩,
      ⟨4, 16, .CMP_CURV_MIN, 0⟩, ⟨4, 24, .CMP_ROW_MIN, 0⟩, ⟨5, 0, .CMP_OUTLIER, 0⟩, ⟨5, 8, .CMP_BLEND, 0⟩, ⟨5, 16, .CMP_SEAM_WAIT, 0⟩,
      ⟨6, 0, .CMP_LEARN_K, 0⟩, ⟨6, 8, .CMP_LEARN_FLOOR, 0⟩, ⟨6, 16, .CMP_EDGE_GRAD, 0⟩, ⟨6, 24, .CMP_EDGE_ADD, 0⟩,
      ⟨7, 0, .CMP_SUMMARY_QUEUE, 0⟩] : List SetField) ++ (List.range 9).flatMap (fun i => ([⟨8 + i, 0, .CMP_M, 2 * i⟩,
      ⟨8 + i, 16, .CMP_M, 2 * i + 1⟩] : List SetField)))
      (maskAt c)
   Sent 0x0601 [0] s t c → InRange (ws.map (fun w => w.2)) → c.b 0 31 = false → Pointed s c [.rept, .position, .idle] p →
   repeatFits (parSets s.shadow (ws.map (fun w => w.2))) s.member = true →
   exec (.cmpSet t c) s = s.submitted t 0x0601 c p c.arg ws []) ∧
  (let ws := setWrites c
      ([⟨1, 0, .HQ_STR_EN, c.f 0 5 0⟩, ⟨1, 1, .HQ_STR_FMT, c.f 0 5 0⟩, ⟨1, 2, .HQ_STR_FLAGS, c.f 0 5 0⟩, ⟨1, 8, .HQ_STR_PH, c.f 0 5 0⟩,
      ⟨2, 0, .HQ_STR_COL0, c.f 0 5 0⟩, ⟨3, 0, .HQ_STR_COL1, c.f 0 5 0⟩, ⟨3, 20, .HQ_STR_LINES, c.f 0 5 0⟩])
      (maskFrom7 c)
   Sent 0x0705 [0] s t c → Pointed s c [.tick, .rept, .position, .idle] p → Writable (s.taken t 0x0705 c) p c.arg ws → (s.taken t 0x0705
   c).colFails c = [] →
   exec (.streamSet t c) s = s.submitted t 0x0705 c p c.arg ws [.streamNeed (c.f 0 5 0)]) ∧
  (let ws := setWrites c
      ([⟨1, 0, .HIS_REF_SLOTS, 0⟩, ⟨2, 0, .HIS_REF_SLOT_SIZE, 0⟩, ⟨3, 0, .HIS_SHD_SLOTS, 0⟩, ⟨4, 0, .HIS_SPILL, 0⟩,
      ⟨5, 0, .HIS_SCRATCH, 0⟩, ⟨6, 0, .HIS_HIST, 0⟩])
      (maskAt c)
   Sent 0x0707 [0] s t c → Writable (s.taken t 0x0707 c) .idle c.arg ws → (s.taken t 0x0707 c).arenaFails
   ⟨.idle, c.arg, ws.map (fun w => w.2)⟩ = [] →
   exec (.arenaSet t c) s = s.submitted t 0x0707 c .idle c.arg ws [])

/-- Set commands of motion, auxiliary measurement and the cascade (chapters 10, 11 and 15). -/
def Obligations.MotionAuxAndCascadeSets : Prop := ∀ (s : State) (t : Nat) (c : Cmd) (p : Pt),
  (let ws := setWrites c
      (([⟨1, 0, .MOT_EN, c.f 0 2 0⟩, ⟨1, 4, .MOT_USTEP, c.f 0 2 0⟩, ⟨1, 8, .MOT_IRUN, c.f 0 2 0⟩, ⟨1, 16, .MOT_IHOLD, c.f 0 2 0⟩,
      ⟨2, 0, .MOT_TOFF, c.f 0 2 0⟩, ⟨2, 8, .MOT_TBLANK, c.f 0 2 0⟩, ⟨2, 16, .MOT_SLOW, c.f 0 2 0⟩, ⟨2, 24, .MOT_STALL_LEVEL, c.f 0 2 0⟩]
      : List SetField) ++ ([⟨3, 0, .MOT_HOLD_DELAY, c.f 0 2 0⟩, ⟨3, 16, .MOT_LIM_RELEASE, c.f 0 2 0⟩, ⟨4, 0, .MOT_LIM_EN, c.f 0 2 0⟩,
      ⟨4, 2, .MOT_LIM_POL, c.f 0 2 0⟩, ⟨5, 0, .MOT_LIM_DECEL, c.f 0 2 0⟩] : List SetField))
      (maskFrom7 c)
   Sent 0x0901 [0] s t c → Pointed s c allPoints p → Writable (s.taken t 0x0901 c) p c.arg ws → s.axisHeld (c.f 0 2 0) = false → (c.b 0 8
   = true → c.f 1 7 4 ≠ s.p .MOT_USTEP (c.f 0 2 0) → (s.axis (c.f 0 2 0)).moves = false) →
   exec (.motAxisSet t c) s = s.submitted t 0x0901 c p c.arg ws []) ∧
  (let ws := setWrites c
      ([⟨1, 0, .MOT_PROFILE, c.f 0 2 0⟩, ⟨2, 0, .MOT_VSTART, c.f 0 2 0⟩, ⟨3, 0, .MOT_VMAX, c.f 0 2 0⟩, ⟨4, 0, .MOT_ACCEL, c.f 0 2 0⟩,
      ⟨5, 0, .MOT_DECEL, c.f 0 2 0⟩, ⟨6, 0, .MOT_JERK, c.f 0 2 0⟩])
      (maskFrom7 c)
   Sent 0x0902 [0] s t c → Pointed s c allPoints p → Writable (s.taken t 0x0902 c) p c.arg ws → s.axisHeld (c.f 0 2 0) = false →
   exec (.motProfileSet t c) s = s.submitted t 0x0902 c p c.arg ws []) ∧
  (let ws := setWrites c
      (([⟨1, 0, .MOT_PACE_AXES, 0⟩, ⟨1, 8, .MOT_PACE_LOOP, 0⟩, ⟨1, 12, .MOT_PACE_CEIL, 0⟩, ⟨2, 0, .MOT_PACE_LOW, 0⟩,
      ⟨2, 8, .MOT_PACE_HIGH, 0⟩, ⟨2, 16, .MOT_PACE_FMIN, 0⟩, ⟨2, 24, .MOT_LOG_EN, 0⟩, ⟨3, 0, .MOT_PACE_STOP, 0⟩,
      ⟨4, 0, .MOT_PACE_SMASK, 0⟩, ⟨5, 0, .MOT_PACE_SMASK, 1⟩] : List SetField) ++ (List.range 8).flatMap (fun i =>
      ([⟨6 + i, 0, .MOT_PACE_Q, 2 * i⟩, ⟨6 + i, 16, .MOT_PACE_Q, 2 * i + 1⟩] : List SetField)))
      (maskAt c)
   Sent 0x090A [0] s t c → Pointed s c allPoints p → Writable (s.taken t 0x090A c) p c.arg ws →
   exec (.motPaceSet t c) s = s.submitted t 0x090A c p c.arg ws []) ∧
  (let ws := setWrites c
      ([⟨1, 0, .AUX_CONFIG, 0⟩, ⟨1, 2, .AUX_TRIG, 0⟩, ⟨1, 8, .AUX_OPEN_COUNT, 0⟩, ⟨1, 16, .AUX_MUX_SETTLE, 0⟩,
      ⟨2, 0, .AUX_SCAN_PERIOD, 0⟩, ⟨3, 0, .AUX_TICK_DIV, 0⟩, ⟨3, 16, .AUX_CAL_SAMPLES, 0⟩, ⟨4, 0, .AUX_SCAN_MASK, 0⟩,
      ⟨5, 0, .AUX_SCAN_MASK, 1⟩])
      (maskAt c)
   Sent 0x0B01 [0] s t c → Pointed s c allPoints p → Writable (s.taken t 0x0B01 c) p c.arg ws →
   exec (.auxSet t c) s = s.submitted t 0x0B01 c p c.arg ws []) ∧
  (let ws := setWrites c
      (([⟨1, 0, .AUX_RANGE, c.f 0 5 0⟩, ⟨1, 2, .AUX_REF, c.f 0 5 0⟩, ⟨1, 4, .AUX_FAULT, c.f 0 5 0⟩, ⟨1, 8, .AUX_LIN_ORDER, c.f 0 5 0⟩,
      ⟨1, 16, .AUX_EXC_PIN, c.f 0 5 0⟩, ⟨2, 0, .AUX_TARE, c.f 0 5 0⟩, ⟨2, 16, .AUX_SPAN, c.f 0 5 0⟩, ⟨3, 0, .AUX_SPAN_TARGET, c.f 0 5 0⟩]
      : List SetField) ++ ([⟨4, 0, .AUX_LIN_TCH, c.f 0 5 0⟩, ⟨4, 16, .AUX_LIN_TDEF, c.f 0 5 0⟩, ⟨5, 0, .AUX_EXC, c.f 0 5 0⟩,
      ⟨5, 8, .AUX_EXC_IMIN, c.f 0 5 0⟩, ⟨5, 16, .AUX_EXC_IMAX, c.f 0 5 0⟩] : List SetField))
      (maskFrom7 c)
   Sent 0x0B02 [0] s t c → Pointed s c allPoints p → Writable (s.taken t 0x0B02 c) p c.arg ws → auxChSetFails (s.taken t 0x0B02 c) c
   ⟨p, c.arg, ws.map (fun w => w.2)⟩ = [] →
   exec (.auxChSet t c) s = s.submitted t 0x0B02 c p c.arg ws []) ∧
  (let ws := setWrites c
      ([⟨1, 0, .AUX_LOOP_MODE, c.f 0 1 0⟩, ⟨1, 2, .AUX_LOOP_CH, c.f 0 1 0⟩, ⟨1, 8, .AUX_LOOP_FMODE, c.f 0 1 0⟩,
      ⟨2, 0, .AUX_LOOP_SET, c.f 0 1 0⟩, ⟨2, 16, .AUX_LOOP_FAULT, c.f 0 1 0⟩, ⟨3, 0, .AUX_LOOP_VLO, c.f 0 1 0⟩,
      ⟨4, 0, .AUX_LOOP_VHI, c.f 0 1 0⟩])
      (maskFrom7 c)
   Sent 0x0B06 [0] s t c → Pointed s c allPoints p → Writable (s.taken t 0x0B06 c) p c.arg ws → (c.b 0 9 = true → s.p .MOT_PACE_LOOP ≠
   c.f 0 1 0) →
   exec (.auxLoopCfg t c) s = s.submitted t 0x0B06 c p c.arg ws []) ∧
  (let ws := setWrites c
      ([⟨0, 0, .ASK_ROLE, 0⟩, ⟨0, 8, .ASK_DEVICES, 0⟩] ++ (List.range 8).map (fun h => (⟨1 + h / 4, 8 * (h % 4), .ASK_HOP_W, h⟩ :
      SetField)))
      (fun _ => true)
   Sent 0x0E01 [0] s t c → Writable (s.taken t 0x0E01 c) .idle c.arg ws → s.devId < c.f 0 11 8 → s.roleOk (c.f 0 1 0) = true → s.cap.run
   = .closed →
   exec (.askSet t c) s = s.submitted t 0x0E01 c .idle c.arg ws [.askSet])

/-- Commands of chapters 3, 5 and 6 that submit an act. -/
def Obligations.SensorCorrectionAndTimingActs : Prop := ∀ (s : State) (t : Nat) (c : Cmd) (p : Pt),
  (Sent 0x0302 [1] s t c → Pointed s c [.tick, .rept, .position, .idle] p → (p = .idle → s.calRuns = false) → (∀ i < 16, edgeWordOk (c.w
  (i + 1)) = true) → c.f 0 10 8 < 6 →
   exec (.senWaveLoad t c) s = s.submitted t 0x0302 c p c.arg [] [.waveLoad (2 * c.tile + c.f 0 0 0) (c.f 0 10 8) (c.f 0 13 12)
     ((List.range 16).map (fun i => c.w (i + 1)))]) ∧
  (Sent 0x0305 [2] s t c → Pointed s c [.tick, .rept, .position, .idle] p → c.lane ≠ 8 → (p = .idle → s.calRuns = false) → c.f 0 6 0 ≤ 64
  → substFails (parGet s.shadow .SEN_ACTIVE (8 * c.tile + c.lane)) (substEntries c) = [] →
   exec (.senSubstLoad t c) s = s.submitted t 0x0305 c p c.arg [] [.substLoad (8 * c.tile + c.lane)
     ((List.range (c.f 0 6 0)).map (fun i => c.f (1 + i / 2) (16 * (i % 2) + 15) (16 * (i % 2))))]) ∧
  (Sent 0x0306 [2] s t c → (s.lane (9 * c.tile + c.lane)).st.restorable = true →
   exec (.senLaneRestore t c) s = s.submitted t 0x0306 c .idle c.arg [] [.laneRestore (9 * c.tile + c.lane)]) ∧
  (Sent 0x0307 [2] s t c → Pointed s c [.tick, .idle] p → c.lane ≠ 8 → s.forceOk (8 * c.tile + c.lane) (c.b 0 0) = true →
   exec (.senSpareForce t c) s = s.submitted t 0x0307 c p c.arg [] [.spareForce (8 * c.tile + c.lane) (c.b 0 0)]) ∧
  (Sent 0x0403 [0] s t c → Pointed s c [.tick, .rept, .position, .idle] p → c.f 0 15 0 ≠ 0 → (∀ x ∈ maskList 16 (c.f 0 15 0), s.halfReady
  x = true ∨ s.loadRuns (2 ^ x) = true) → s.calRuns = false → s.loadRuns (c.f 0 15 0) = false →
   exec (.corSetSwap t c) s = s.submitted t 0x0403 c p c.arg [] [.corSwap (c.f 0 15 0)]) ∧
  (Sent 0x0403 [0] s t c → Pointed s c [.tick, .rept, .position, .idle] p → c.f 0 15 0 ≠ 0 → (∀ x ∈ maskList 16 (c.f 0 15 0), s.halfReady
  x = true ∨ s.loadRuns (2 ^ x) = true) → s.calRuns = false → s.loadRuns (c.f 0 15 0) = true →
   exec (.corSetSwap t c) s = .next ((s.taken t 0x0403 c).submit (s.takenCid t) ⟨p, c.arg, []⟩ [.corSwap (c.f 0 15 0)] false)) ∧
  (Sent 0x0A05 [0] s t c → Pointed s c [.tick, .idle] p → c.f 0 15 0 ≠ 0 → c.f 0 7 0 &&& c.f 0 15 8 = 0 →
   exec (.tdcArm t c) s = s.submitted t 0x0A05 c p c.arg [] [.tdcArm (c.f 0 7 0) (c.f 0 15 8)])

/-- Commands of chapters 4, 7, 11 and 16 that submit an act. -/
def Obligations.RunLampAndPowerActs : Prop := ∀ (s : State) (t : Nat) (c : Cmd) (p : Pt),
  (Sent 0x0501 [0] s t c → (parGet s.shadow .SEQ_TICK_SRC 0 = 0 → parGet s.shadow .CAP_GRID_PITCH 0 ≠ 0) → s.cap.run = .closed → s.pwr.st
  = .ready → ¬(s.member = true ∧ (s.taken t 0x0501 c).masterOpen = true) → s.pos.tb.load = none → s.calRuns = false → (s.taken t 0x0501
  c).covFits = true →
   exec (.runOpen t c) s = s.submitted t 0x0501 c .idle c.arg [] [.runOpen (c.w 0)]) ∧
  (Sent 0x0502 [0] s t c → Pointed s c [.tick, .idle] p → s.cap.run = .open_ →
   exec (.runClose t c) s = s.submitted t 0x0502 c p c.arg [] [.runClose]) ∧
  (let bs := maskList 4 (c.f 0 3 0)
   Sent 0x0804 [0] s t c → Pointed s c [.idle, .rept, .position] p → bs ≠ [] → (p ≠ .idle → ∀ b ∈ bs, s.p64 b = false) → (∀ b ∈ bs, s.p
   .LMP_MODE b ≠ 0) → (∀ b ∈ bs, s.applyPending b = false) →
   let nat_ := bs.filter (fun b => s.native b)
   exec (.lmpPatternApply t c) s = .next ((nat_.foldl (fun (u : State) b => u.startUpload b) (s.taken t 0x0804 c)).submit (s.takenCid t)
     ⟨p, c.arg, []⟩ [.patternApply (c.f 0 3 0)] nat_.isEmpty)) ∧
  (Sent 0x0806 [0] s t c → s.p64 (c.f 0 1 0) = false → (s.bar (c.f 0 1 0)).diag = none →
   exec (.lmpDiagRun t c) s = s.submitted t 0x0806 c .idle c.arg [] [.diagRun (c.f 0 1 0) (c.w 0)]) ∧
  (Sent 0x0808 [0] s t c → Pointed s c [.tick, .idle] p → c.w64 1 ≠ 0 →
   exec (.lmpFaultClear t c) s = s.submitted t 0x0808 c p c.arg [] [.faultClear (c.f 0 1 0) (c.w64 1)]) ∧
  (Sent 0x0F02 [0] s t c → Pointed s c [.rept, .idle] p → c.w 0 % 2 ^ 24 ≠ 0 → (p = .rept → c.f 0 15 0 = 0 ∧ c.f 0 23 20 = 0) → (∀ i ∈
  maskList 24 (c.w 0 % 2 ^ 24), natBit (c.w 1) i = true ∨ domainWork s.par i = false) →
   exec (.pwrDomainSet t c) s = s.submitted t 0x0F02 c p c.arg [] [.domains (c.w 0 % 2 ^ 24) (c.w 1 % 2 ^ 24)]) ∧
  (Sent 0x0B03 [0] s t c → Pointed s c [.tick, .idle] p → (16 ≤ c.f 0 5 0 → parGet s.shadow .AUX_CONFIG 0 ≠ 0) → (∀ i < 18, c.f (1 + i)
  30 23 ≠ 255) →
   exec (.auxLinLoad t c) s = s.submitted t 0x0B03 c p c.arg [] [.auxLin (c.f 0 5 0) ((List.range 18).map (fun i => c.w (1 + i)))]) ∧
  (let v := s.taken t 0x0B05 c
   Sent 0x0B05 [0] s t c → Pointed s c [.rept, .idle] p → (16 ≤ c.f 0 5 0 → parGet s.shadow .AUX_CONFIG 0 ≠ 0) → s.aux.cal = none →
   let u : State := { v with aux := { s.aux with cal := some ⟨s.takenCid t, c.f 0 5 0, c.b 0 8, s.aux.inject.length⟩ } }
   exec (.auxCal t c) s = .next (u.submit (s.takenCid t) ⟨p, c.arg, []⟩ [.auxCalDone (c.f 0 5 0)] false))

/-- Commands of chapter 10 that submit an act. -/
def Obligations.MotionActs : Prop := ∀ (s : State) (t : Nat) (c : Cmd) (p : Pt),
  (Sent 0x0903 [0] s t c → Pointed s c [.tick, .position, .idle] p → maskList 8 (c.f 0 7 0) ≠ [] → (∀ a ∈ maskList 8 (c.f 0 7 0),
  s.wholeGrain a (c.w (1 + a)) = true) → (s.taken t 0x0903 c).moveFails (maskList 8 (c.f 0 7 0)) ((List.range 8).map (fun a => c.w (1 +
  a))) (c.b 0 8) = 0 →
   exec (.motMove t c) s = s.submitted t 0x0903 c p c.arg [] 
     [.motMove (maskList 8 (c.f 0 7 0)) ((List.range 8).map (fun a => c.w (1 + a))) (c.b 0 8)]) ∧
  (Sent 0x0904 [0] s t c → Pointed s c [.tick, .position, .idle] p → (toSigned 32 (c.w 1)).natAbs ≤ s.p .MOT_VMAX (c.f 0 2 0) → (toSigned
  32 (c.w 1) ≠ 0 → s.p .MOT_VSTART (c.f 0 2 0) ≤ (toSigned 32 (c.w 1)).natAbs) → s.jogFails (c.f 0 2 0) (toSigned 32 (c.w 1)) = false →
  s.axisHeld (c.f 0 2 0) = false →
   exec (.motJog t c) s = s.submitted t 0x0904 c p c.arg [] [.motJog (c.f 0 2 0) (toSigned 32 (c.w 1))]) ∧
  (Sent 0x0905 [0] s t c → Pointed s c [.tick, .idle] p → c.f 0 7 0 ≠ 0 →
   exec (.motStop t c) s = s.submitted t 0x0905 c p c.arg [] [.motStop (c.f 0 7 0) (c.b 0 8)]) ∧
  (Sent 0x0906 [0] s t c → Pointed s c [.tick, .idle] p → c.f 0 9 8 ≠ 3 → s.gearFails (c.f 0 2 0) (c.f 0 9 8) = false → s.axisHeld (c.f 0
  2 0) = false →
   exec (.motGear t c) s = s.submitted t 0x0906 c p c.arg [] 
     [.motGear (c.f 0 2 0) (c.f 0 5 4) (c.f 0 9 8) (c.w 2) (c.w 1) (c.w 3)]) ∧
  (Sent 0x0907 [0] s t c → Pointed s c [.tick, .idle] p → s.p .MOT_VSTART (c.f 0 2 0) ≤ c.w 1 → c.w 1 ≤ s.p .MOT_VMAX (c.f 0 2 0) →
  s.wholeGrain (c.f 0 2 0) (c.w 2) = true → s.homeFails (c.f 0 2 0) (c.b 0 8) = false → s.axisHeld (c.f 0 2 0) = false →
   exec (.motHome t c) s = s.submitted t 0x0907 c p c.arg [] 
     [.motHome (c.f 0 2 0) (c.b 0 8) [c.w 1, c.w 2, c.w 3, c.w 4]]) ∧
  (Sent 0x0908 [0] s t c → Pointed s c [.tick, .idle] p → c.f 0 7 0 ≠ 0 →
   exec (.motAck t c) s = s.submitted t 0x0908 c p c.arg [] [.motAck (c.w 0)]) ∧
  (Sent 0x0909 [0] s t c → Pointed s c [.tick, .idle] p → s.wholeGrain (c.f 0 2 0) (c.w 1) = true → s.posSetFails (c.f 0 2 0) = false →
   exec (.motPosSet t c) s = s.submitted t 0x0909 c p c.arg [] [.motPosSet (c.f 0 2 0) (c.w 1)])

/-- Groups and jobs (R60 to R63, R251 to R258). -/
def Obligations.GroupsAndJobs : Prop := ∀ (s : State) (t : Nat) (c : Cmd) (p : Pt) (g : Group),
  (Sent 0x0204 [0] s t c → ptOf c.commit = some p →
    let v := s.taken t 0x0204 c
    exec (.groupBegin t c) s = .next (({ v with seq := { s.seq with
      nextGid := s.seq.nextGid + 1,
      groups := s.seq.groups ++ [⟨s.seq.nextGid, c.ring, p, c.arg, v.now, [], 0, false, [], none⟩] } } : State).done (s.takenCid t))) ∧
  (Fit 0x0205 [0] s t c → s.groupOn c.ring = some g →
    let v := s.taken t 0x0205 c
    (g.failed ≠ 0 → exec (.groupEnd t c) s = .next ((v.discardGroup g).reply (s.takenCid t) 0x13 g.failed)) ∧
    (g.failed = 0 → g.immediate = false → g.members.length ≤ 256 → g.point ≠ .position →
      let g' := { g with ended := some (s.takenCid t) }
      let u : State := { v with seq := { s.seq with groups := s.seq.groups.map (fun x => if x.gid = g.gid then g' else x) } }
      exec (.groupEnd t c) s = .next ((u.accept (s.takenCid t)).groupArrives g'))) ∧
  (Sent 0x0503 [0] s t c → s.member = false → ptOf c.commit = some p → (s.taken t 0x0503 c).armFails c = [] →
    let v := s.taken t 0x0503 c
    let bars := if natBit (c.f 1 4 0) 3 then c.f 3 3 0 else 0
    let a : JobArm := ⟨s.takenCid t, c.w 0, c.f 1 4 0, c.f 1 13 8, c.b 1 16, c.f 1 23 20 + 1,
      if natBit (c.f 1 4 0) 2 then c.f 2 15 0 else 0, bars, p, c.arg, v.now, 0, none, none, false⟩
    exec (.jobArm t c) s = .next (((maskList 4 bars).foldl (fun (u : State) b => if u.native b then u.startUpload b else u)
      (v.accept (s.takenCid t))).armArrives a)) ∧
  (Sent 0x0504 [0] s t c → s.cap.arm.isSome = true →
    exec (.jobDisarm t c) s = .next (((s.taken t 0x0504 c).disarm.groupsDone s.seq.lineIndex).done (s.takenCid t)))

/-- Commands of chapters 5 to 8 and 14 that leave work in the background (R456). -/
def Obligations.CorrectionAndSensorWork : Prop := ∀ (s : State) (t : Nat) (c : Cmd) (p : Pt),
  (let u := (s.taken t 0x0402 c).defer (s.takenCid t)
   Sent 0x0402 [0] s t c → s.slotFails (c.f 0 7 0) = [] → (c.f 1 15 0 ≠ 0 ∨ s.p .HIS_SHD_SLOTS = 0) →
   s.headerFails (c.f 0 7 0) = [] → s.swapWaits (c.f 1 15 0) = false → s.loadRuns (c.f 1 15 0) = false → s.calRuns = false →
   exec (.corSetLoad t c) s = .next { u with cor := { u.cor with
     loads := s.cor.loads ++ [⟨s.takenCid t, c.f 0 7 0, c.f 1 15 0, u.now⟩] } }) ∧
  (let u := (s.taken t 0x0405 c).defer (s.takenCid t)
   Sent 0x0405 [0] s t c → s.slotFails (c.f 0 7 0) = [] → c.f 0 11 8 ≤ 5 → s.headerFails (c.f 0 7 0) = [] → s.setFlashBusy = false →
   exec (.corSetStore t c) s = .next { u with cor := { u.cor with store := some ⟨s.takenCid t, c.f 0 7 0, c.f 0 11 8, false⟩ } }) ∧
  (let u := (s.taken t 0x0406 c).defer (s.takenCid t)
   Sent 0x0406 [0] s t c → s.slotFails (c.f 0 7 0) = [] → c.f 0 11 8 ≤ 5 → (s.dirEntry (c.f 0 11 8)).getD 3 0 = 1 → s.setFlashBusy = false →
   exec (.corSetRestore t c) s = .next { u with cor := { u.cor with store := some ⟨s.takenCid t, c.f 0 7 0, c.f 0 11 8, true⟩ } }) ∧
  (Sent 0x0407 [0] s t c → (c.f 0 1 0 = 3 → c.w 2 % 64 = 0) → (c.f 0 1 0 ≠ 3 → s.slotFails (c.f 0 15 8) = []) →
   (c.f 0 19 16 ≤ 5 ∨ c.f 0 19 16 = 15) → c.f 1 15 0 ≠ 0 → s.seq.slotMin ≤ s.p .COR_CAL_PERIOD →
   s.calReady (c.f 0 1 0) (c.f 0 15 8) (c.f 1 15 0) = true → s.calRuns = false →
   exec (.corCalRun t c) s = .next (((s.taken t 0x0407 c).defer (s.takenCid t)).calStart (s.takenCid t) (c.f 0 1 0) (c.f 0 15 8)
     (c.f 0 19 16) (c.b 0 20) (c.f 1 15 0) (c.w64 2))) ∧
  (Sent 0x0408 [0] s t c → s.calRuns = true →
   exec (.corCalAbort t c) s = .next (((s.taken t 0x0408 c).calFail 1).done (s.takenCid t))) ∧
  (let u := (s.taken t 0x0602 c).defer (s.takenCid t)
   Sent 0x0602 [0] s t c → c.f 0 5 0 < s.p .HIS_REF_SLOTS → s.slotHeld (c.f 0 5 0) = false →
   exec (.cmpRefCheck t c) s = .next { u with cmp := { u.cmp with checks := s.cmp.checks ++ [⟨s.takenCid t, c.f 0 5 0, c.b 0 8⟩] } }) ∧
  (let u := (s.taken t 0x0603 c).defer (s.takenCid t)
   Sent 0x0603 [0] s t c → c.w64 0 % 64 = 0 → s.hatchHeld = false → s.cmp.hatchLoad = none →
   exec (.cmpHatchLoad t c) s = .next { u with cmp := { u.cmp with hatchLoad := some ⟨s.takenCid t, c.w64 0⟩ } }) ∧
  (let u := (s.taken t 0x0309 c).defer (s.takenCid t)
   Sent 0x0309 [2] s t c → c.lane ≠ 8 → c.w64 0 % 64 = 0 → c.f 2 2 0 < s.p .SEQ_NUM_PHASES →
   (s.lane (9 * c.tile + c.lane)).st ≠ .off → (s.lane (9 * c.tile + c.lane)).st ≠ .blind →
   exec (.senSnapshot t c) s = .next { u with sen := { u.sen with
     snaps := s.sen.snaps ++ [⟨s.takenCid t, c.tile, c.lane, c.f 2 2 0, c.w64 0⟩] } }) ∧
  (let u := (s.taken t 0x030A c).defer (s.takenCid t)
   Sent 0x030A [0, 1] s t c → s.hlt.trimRun = none → (c.b 0 0 = true → s.p .CMP_REPEAT_MODE ≠ 0) →
   exec (.senTrimRun t c) s = .next { u with hlt := { u.hlt with
     trimRun := some ⟨s.takenCid t, senTrims c, true, c.b 0 0, if c.b 0 0 then .rept else .idle, u.idleNow, 0⟩ } }) ∧
  (let u := (s.taken t 0x0D07 c).defer (s.takenCid t)
   Sent 0x0D07 [0] s t c → Pointed s c [.rept, .idle] p → (∀ n ∈ maskList 32 (c.w 0), n = 4 ∨ n = 5 ∨ n = 8) → s.hlt.trimRun = none →
   exec (.hltTrimRun t c) s = .next { u with hlt := { u.hlt with
     trimRun := some ⟨s.takenCid t, hltTrims (c.w 0), false, p == .rept, p, true, 0⟩ } }) ∧
  (Sent 0x0507 [0] s t c → c.w64 1 % 64 = 0 → (c.b 0 0 = true → s.cap.cov.sealedMap.isSome = true) →
   (c.b 0 0 = false → s.cap.cov.present = true) →
   exec (.capCovRead t c) s = .next ((s.taken t 0x0507 c).defer (s.takenCid t)))

/-- Commands of chapters 4, 11, 12, 14, 15 and 16 with effects of their own. -/
def Obligations.LampHealthAndPowerWork : Prop := ∀ (s : State) (t : Nat) (c : Cmd),
  (let v := s.taken t 0x0803 c
   let half := fun (i : Nat) => c.f (2 + i / 2) (16 * (i % 2) + 15) (16 * (i % 2))
   Sent 0x0803 [0] s t c → c.f 0 4 2 ≤ 5 → c.f 1 24 16 ≠ 0 → c.f 1 24 16 ≤ 492 → c.f 1 11 0 + c.f 1 24 16 ≤ s.stringLimit (c.f 0 1 0) →
   (∀ i < c.f 1 24 16, natField (half i) 14 12 = 0) → s.applyPending (c.f 0 1 0) = false →
   let put := fun (m : Sparse Nat) => (List.range (c.f 1 24 16)).foldl (fun (m : Sparse Nat) i =>
     Sparse.set m 0 (4096 * c.f 0 4 2 + c.f 1 11 0 + i) (half i)) m
   exec (.lmpPatternLoad t c) s = .next ((v.updBar (c.f 0 1 0) (fun x => { x with staged := put x.staged })).done (s.takenCid t))) ∧
  (let u := (s.taken t 0x0805 c).defer (s.takenCid t)
   let b := c.f 0 1 0
   Sent 0x0805 [0] s t c → c.f 0 4 2 ≠ 7 → c.f 1 24 16 ≠ 0 → c.f 1 24 16 ≤ 490 → c.f 1 11 0 + c.f 1 24 16 ≤ s.stringLimit b →
   s.native b = true → (s.bar b).lost = false → (s.bar b).known = true →
   let frames := readFrames (if c.b 0 5 then 1 - (s.bar b).setIdx else (s.bar b).setIdx) (c.f 0 4 2) (c.f 1 11 0) (c.f 1 24 16)
   let w := u.updBar b (fun y => { y with work := y.work ++ frames })
   exec (.lmpPatternRead t c) s = .next { w with lamp := { w.lamp with
     reads := s.lamp.reads ++ [(b, ⟨s.takenCid t, c.f 0 4 2, c.f 0 5 5, c.f 1 11 0, c.f 1 24 16, []⟩)] } }) ∧
  (let v := s.taken t 0x0B04 c
   let xs := ((List.range 4).map (fun n => (n, c.f 0 (8 * n + 6) (8 * n)))).filter (fun x => x.2 != 127)
   let limit := if s.auxMux then 64 else 16
   Sent 0x0B04 [0] s t c → xs ≠ [] → (∀ x ∈ xs, x.2 < limit ∧ s.auxConv x.2 = x.1) →
   (s.auxMux = true → ∀ x ∈ xs, x.2 % 16 = (xs.headD (0, 0)).2 % 16) →
   (4 ≤ s.aux.inject.length → exec (.auxInject t c) s = .next ((v.count .AUX_INJECT_REFUSED).reply (s.takenCid t) 0x14 0)) ∧
   (s.aux.inject.length < 4 → (v.auxLocked = true ∨ s.aux.cal.isSome = true ∨ s.aux.inject ≠ []) →
     exec (.auxInject t c) s = .next (({ v with aux := { s.aux with
       inject := s.aux.inject ++ [⟨s.takenCid t, xs, v.auxLocked || s.aux.cal.isSome⟩] } } : State).defer (s.takenCid t))) ∧
   (s.aux.inject = [] → v.auxLocked = false → s.aux.cal = none →
     exec (.auxInject t c) s = .next (v.injectNow ⟨s.takenCid t, xs, false⟩))) ∧
  (Sent 0x0D08 [0] s t c → (s.taken t 0x0D08 c).flashBusy = false →
   exec (.hltTrimStore t c) s = .next ((s.taken t 0x0D08 c).defer (s.takenCid t))) ∧
  (Sent 0x0E02 [0] s t c → s.isMaster = true → s.ask.up = true →
   exec (.askCal t c) s = .next (((s.taken t 0x0E02 c).defer (s.takenCid t)).lateCommit (s.takenCid t) .idle 0 [.askCal])) ∧
  (Sent 0x0F04 [0] s t c → s.cap.run = .closed →
   exec (.pwrKeepAlive t c) s = .next ((s.taken t 0x0F04 c).defer (s.takenCid t))) ∧
  (Sent 0x0107 [0] s t c → exec (.sysCoreReset t c) s = .next ((s.taken t 0x0107 c).coresReset 0 (some (s.takenCid t)))) ∧
  (let r := (s.taken t 0x0D03 c).ackFaults (c.w64 0)
   Sent 0x0D03 [0] s t c → exec (.hltFaultAck t c) s = .next (r.2.done (s.takenCid t) [w32 r.1])) ∧
  (Sent 0x0F03 [0] s t c → s.pwr.st = .safe → s.pwr.cleared = true →
   exec (.pwrSafeExit t c) s = .next ((s.taken t 0x0F03 c).safeExit.done (s.takenCid t))) ∧
  (let v := s.taken t 0x0F05 c
   Sent 0x0F05 [0] s t c → s.cap.run = .closed →
   exec (.pwrReset t c) s = .next (({ v with pwr := { s.pwr with resetAt := some (v.now + ms 1) } } : State).done (s.takenCid t)))

/-- Queues and history replays (chapter 9). -/
def Obligations.QueuesAndHistory : Prop := ∀ (s : State) (t : Nat) (c : Cmd) (r : Replay),
  (let v := s.taken t 0x0701 c
   Sent 0x0701 [0] s t c → c.w64 1 % 4096 = 0 → 4 ≤ c.f 3 3 0 → (c.f 4 19 0 = 0 ∨ 10 ≤ c.f 4 19 0 ∧ c.f 4 19 0 ≤ 1000000) →
   (s.queue (c.f 0 15 0)).st = .disabled →
   exec (.queueSetup t c) s = .next ((v.updQueue (c.f 0 15 0) (fun x => { x with
     base := c.w64 1, size := c.f 3 3 0, cut := c.f 3 15 8, autogrant := c.b 3 16, gmac := c.b 3 17, stale := c.f 4 19 0,
     cons := 0, credit := 0, prod := 0, pub := 0, recPub := 0, split := false, seq := 1, st := .enabled, open_ := [], spans := [],
     staleSince := none, staleFired := false })).doneNow (s.takenCid t))) ∧
  (let f := (s.taken t 0x0702 c).flushQueue (c.f 0 15 0)
   Sent 0x0702 [0] s t c → (s.queue (c.f 0 15 0)).st ≠ .disabled →
   exec (.queueDisable t c) s = .next ((f.2.updQueue (c.f 0 15 0) (fun x => { x with st := .disabled })).doneNow (s.takenCid t) [w32 f.1])) ∧
  (let f := (s.taken t 0x0703 c).flushQueue (c.f 0 15 0)
   Sent 0x0703 [0] s t c → (s.queue (c.f 0 15 0)).st ≠ .disabled → (s.queue (c.f 0 15 0)).st ≠ .faulted →
   exec (.queueFlush t c) s = .next (f.2.doneNow (s.takenCid t) [w32 f.1])) ∧
  (let v := s.taken t 0x0709 c
   let g := v.replayRange c
   let given := g.1.filter (fun h => !h.hole)
   let x : Replay := ⟨s.takenCid t, g.2.2.hq.nextHandle, false, c.f 0 2 2, given.map (fun h => h.line), g.2.2.cap.runCount, g.2.1,
     (g.1.filter (fun h => h.hole)).length, c.f 5 19 0, c.f 6 19 0, c.w64 7, c.w 9⟩
   Sent 0x0709 [0] s t c → v.replayFails c = [] → c.b 0 0 = false →
   exec (.histReplay t c) s = .next (({ g.2.2 with hq := { g.2.2.hq with
     replays := g.2.2.hq.replays ++ [x], nextHandle := (g.2.2.hq.nextHandle + 1) % 2 ^ 32 } } : State).defer (s.takenCid t))) ∧
  (Sent 0x0709 [0] s t c → (s.taken t 0x0709 c).replayFails c = [] → c.b 0 0 = true →
   exec (.histReplay t c) s = .next ((s.taken t 0x0709 c).replayStart (s.takenCid t) c)) ∧
  (let v := s.taken t 0x070A c
   Sent 0x070A [0] s t c → s.exposed (c.w 0) = some r →
   exec (.histRelease t c) s = .next (({ v with hq := { s.hq with
     replays := s.hq.replays.filter (fun x => x.handle != r.handle) } } : State).reply (s.takenCid t) (if r.lost = 0 then 0 else 3) 0 [w32 r.lost]))

/-- Protected commands in a valid envelope (chapter 13). -/
def Obligations.SignedSecurityCommands : Prop := ∀ (s : State) (t : Nat) (c : Cmd),
  let cid := s.takenCid t
  (let k := c.opened.padded (if c.opened.b 0 8 then 1 else 25)
   let v := s.unsealed t 0x0C03 c
   Signed 0x0C03 [0] s t c → k.f 0 1 0 ≠ 0 → (k.b 0 8 = false → Config.onCurve (wordsAt k.words 1 24) = true) → s.secFailed = false →
   exec (.secRoleKey t c) s = .next (({ v with sec := { v.sec with
     roleKeys := Sparse.set s.sec.roleKeys [] (4 * k.f 0 1 0 + k.f 0 5 4) (if k.b 0 8 then [] else wordsAt k.words 1 24),
     coInstall := s.sec.coInstall && !(!k.b 0 8 && k.f 0 1 0 == 2) } } : State).done cid)) ∧
  (let k := c.padded 25
   let v := s.taken t 0x0C03 c
   Sent 0x0C03 [0] s t c → k.f 0 1 0 = 2 → k.b 0 8 = false → Config.onCurve (wordsAt k.words 1 24) = true → s.secFailed = false →
   exec (.secRoleKey t c) s = .next (({ v with sec := { v.sec with
     roleKeys := Sparse.set s.sec.roleKeys [] (8 + k.f 0 5 4) (wordsAt k.words 1 24), coInstall := false } } : State).done cid)) ∧
  (let k := c.opened.padded (if c.opened.f 0 1 0 = 1 then 40 else if c.opened.f 0 1 0 = 2 then 25 else 1)
   let v := s.unsealed t 0x0C04 c
   Signed 0x0C04 [0] s t c → s.secFailed = false → s.cap.run = .closed →
   (k.f 0 1 0 = 0 → exec (.secRmk t c) s = .next (({ v with sec := { v.sec with
     rmk := (List.range 32).map (fun i => Config.drbgByte s.sec.draws i), draws := s.sec.draws + 1 } } : State).done cid)) ∧
   (k.f 0 1 0 = 1 → v.rmkOpens k.words = true → exec (.secRmk t c) s = .next ((v.rmkImport k.words).done cid)) ∧
   (k.f 0 1 0 = 1 → v.rmkOpens k.words = false → exec (.secRmk t c) s = .next (v.reply cid 0x21 6)) ∧
   (k.f 0 1 0 = 2 → exec (.secRmk t c) s = .next ((v.rmkExport k.words).2.done cid (v.rmkExport k.words).1))) ∧
  (let k := c.opened.padded (1 + c.opened.f 0 6 0)
   let v := s.unsealed t 0x0C05 c
   Signed 0x0C05 [0] s t c → s.secFailed = false → k.f 0 6 0 ≤ 64 →
   (∀ x ∈ (policyEntries k).zipIdx, 1 ≤ x.1.1 / 256 ∧ x.1.1 / 256 ≤ 0x0F ∧ x.1.1 / 256 ≠ 0x0C ∧ x.1.2 ≠ 0 ∧
     ∀ e ∈ (policyEntries k).take x.2, e.1 ≠ x.1.1) →
   let es := (List.range (k.f 0 6 0)).map (fun i => (k.f (1 + i) 15 0, 2 * k.f (1 + i) 19 17))
   exec (.secPolicySet t c) s = .next (({ v with sec := { v.sec with policy := es } } : State).done cid)) ∧
  (let v := s.unsealed t 0x0C0B c
   let slot := c.opened.f 0 0 0
   Signed 0x0C0B [0] s t c → s.secFailed = false → s.sec.verified.getD slot false = true →
   exec (.secFwActivate t c) s = .next (({ v with sec := { v.sec with nextSlot := slot } } : State).done cid)) ∧
  (let v := s.unsealed t 0x0C0C c
   Signed 0x0C0C [0] s t c → s.secFailed = false → s.sec.fallback = false → s.sec.svnRun ≤ 64 →
   exec (.secSvnCommit t c) s = .next (({ v with sec := { v.sec with svnOtp := max s.sec.svnOtp s.sec.svnRun } } : State).done cid
     [w32 (max s.sec.svnOtp s.sec.svnRun)])) ∧
  (Signed 0x0C0E [0] s t c → s.secFailed = false → s.cap.run = .closed →
   exec (.secZeroise t c) s = .next (((s.unsealed t 0x0C0E c).zeroise (c.opened.b 0 0)).done cid)) ∧
  (let v := s.unsealed t 0x0C0F c
   Signed 0x0C0F [0] s t c → c.opened.b 0 0 = true → s.secFailed = false → s.cap.run = .closed → s.pwr.st = .ready →
   exec (.secDebug t c) s = .next (((({ v with sec := { v.sec with debug := true } } : State).auditDevice Ev.SEC_DEBUG_UNLOCKED.id 0).raise
     .SEC_DEBUG_UNLOCKED).done cid)) ∧
  (let k := c.opened.padded 24
   let v := s.unsealed t 0x0C10 c
   Signed 0x0C10 [0] s t c → s.secFailed = false → s.sec.customer = none → s.fwCosigned s.sec.bootSlot (wordsAt k.words 0 24) = true →
   exec (.secCosignKey t c) s = .next (({ v with sec := { v.sec with customer := some (wordsAt k.words 0 24) } } : State).done cid))

/-- Security commands without an envelope (chapter 13). The nonce of the identity's signature is a free value (log entry 3). -/
def Obligations.OtherSecurityCommands : Prop := ∀ (s : State) (t : Nat) (c : Cmd),
  let cid := s.takenCid t
  (Sent 0x0C01 [0] s t c → exec (.secIdentity t c) s = .next ((s.taken t 0x0C01 c).identity cid)) ∧
  (Sent 0x0C02 [0] s t c → c.w64 0 % 64 = 0 → s.secFailed = false →
   exec (.secCertRead t c) s = .next ((s.taken t 0x0C02 c).defer cid)) ∧
  (Sent 0x0C06 [0] s t c → c.w64 2 % 64 = 0 →
   exec (.secAuditRead t c) s = .next ((s.taken t 0x0C06 c).defer cid)) ∧
  (let v := s.taken t 0x0C07 c
   Sent 0x0C07 [0] s t c → s.secFailed = false →
   exec (.secAuditSign t c) s = .next (v.auditHead.2.done cid v.auditHead.1)) ∧
  (Sent 0x0C08 [0] s t c → s.secFailed = false → s.canSignMap = true →
   exec (.secMapSign t c) s = .next ((s.taken t 0x0C08 c).signMap.done cid)) ∧
  (let k := c.padded 3
   Sent 0x0C09 [0] s t c → k.w 1 % 4 = 0 → k.w 1 + 4 * (k.words.length - 2) ≤ fwSize → s.secFailed = false →
   k.f 0 0 0 ≠ s.sec.bootSlot → (s.taken t 0x0C09 c).flashBusy = false →
   exec (.secFwWrite t c) s = .next (((s.taken t 0x0C09 c).fwWrite (k.f 0 0 0) (k.w 1) (k.words.drop 2)).done cid)) ∧
  (Sent 0x0C0A [0] s t c → s.secFailed = false →
   exec (.secFwVerify t c) s = .next ((s.taken t 0x0C0A c).defer cid)) ∧
  (let u := (s.taken t 0x0C0D c).defer cid
   Sent 0x0C0D [0] s t c → (s.secFailed = false → s.cap.run = .closed) →
   (s.secFailed = true → s.sec.permanent = false ∧ s.sec.recoveries < 3) →
   exec (.secSelftest t c) s = .next (if u.sec.test.isSome then u else u.testStart (.command cid))) ∧
  (let v := s.taken t 0x0C0F c
   Sent 0x0C0F [0] s t c → c.b 0 0 = false → s.secFailed = false →
   exec (.secDebug t c) s = .next (({ v with sec := { v.sec with debug := false } } : State).done cid))

/-- Host index writes (R445). -/
def Obligations.HostIndexWrites : Prop := ∀ (s : State) (t r v : Nat), s.barOk = true →
  (let w := s.advance t
   let x := w.ring r
   let new := v % 65536
   let bad : Host.Outcome State Fault Refusal := .next ((w.count .SYS_DOORBELL_BAD).raise .SYS_DOORBELL_BAD r)
   let good : Host.Outcome State Fault Refusal := .next (w.updRing r (fun y => { y with host := new }))
   let rule := if r < 4 then (new + 65536 - x.dev) % 65536 ≤ 2 ^ x.size
     else (new + 65536 - x.host) % 65536 ≤ (x.dev + 65536 - x.host) % 65536
   ∀ i : Instr, (r < 4 ∧ i = .submissionDoorbell t r v [] ∨ (r = 4 ∨ r = 5) ∧ i = .consumerIndexWrite t r v ∨
       r < 6 ∧ v < 65536 ∧ i = .registerWrite t (0x1000 + 64 * r + 16) 4 v) →
     (x.st = .disabled → exec i s = .next w) ∧
     (x.st ≠ .disabled → rule → exec i s = good) ∧
     (x.st ≠ .disabled → ¬ rule → exec i s = bad))

/-- Ring registers (R438, R441, R444, R446). -/
def Obligations.RingRegisters : Prop := ∀ (s : State) (t r n v off size : Nat), s.barOk = true → r < 6 →
  (let w := s.advance t
   (4 ≤ n → n ≤ 14 → (w.ring r).st = .disabled →
     exec (.ringEnable t r n) s =
       .next (w.updRing r (fun x => { x with size := n, st := .running, err := 0, host := 0, dev := 0, phase := true }))) ∧
   exec (.ringDisable t r) s = .next (w.updRing r (fun x => { x with st := .disabled })) ∧
   (v < 2 ^ 64 → (w.ring r).st = .disabled →
     exec (.registerWrite t (0x1000 + 64 * r) 8 v) s = .next (w.updRing r (fun x => { x with base := v / 4096 * 4096 }))) ∧
   (v < 2 ^ 64 → (w.ring r).st ≠ .disabled → exec (.registerWrite t (0x1000 + 64 * r) 8 v) s = .next w) ∧
   ((size ≠ 4 ∧ size ≠ 8) ∨ off % size ≠ 0 → exec (.registerWrite t off size v) s = .next (w.count .SYS_BAR_BAD)) ∧
   exec (.barBadAccess t true) s = .next (w.count .SYS_BAR_BAD) ∧
   (∃ u : State, exec (.barBadAccess t false) s = .next u ∧ u.host.lastRead = ⟨0, [0], false⟩ ∧ u.cnt = (w.count .SYS_BAR_BAD).cnt))

/-- Consumer index writes (R337). -/
def Obligations.ConsumerIndexRule : Prop := ∀ (s : State) (t q v : Nat), s.barOk = true → q < 65536 → (s.queue q).split = false →
  (let w := s.advance t
   let x := w.queue q
   let new := v % 65536
   ((new + 65536 - x.cons) % 65536 ≤ (x.pub + 65536 - x.cons) % 65536 → x.cons < 65536 →
     ∃ u : State, exec (.hqConsWrite t q v) s = .next u ∧ (u.queue q).cons = new) ∧
   (¬ (new + 65536 - x.cons) % 65536 ≤ (x.pub + 65536 - x.cons) % 65536 →
     exec (.hqConsWrite t q v) s = .next (w.count .HQ_CONS_BAD)))

/-- Credits and wait windows (R336, R345, R346). -/
def Obligations.CreditsAndWaitWindows : Prop := ∀ (s : State) (t q n : Nat), s.barOk = true → q < 65536 → (s.queue q).split = false →
  (let w := s.advance t
   let x := w.queue q
   let word (busy : Bool) : HostRead := ⟨0x500000 + 4 * q, leBytes 4 (x.waitWord busy), false⟩
   (n < 65536 → x.credit + n ≤ x.free →
     exec (.hqGrantWrite t q n) s = .next (w.updQueue q (fun y => { y with credit := y.credit + n }))) ∧
   (n < 65536 → x.free < x.credit + n →
     ∃ u : State, exec (.hqGrantWrite t q n) s = .next ((u.count .HQ_CREDIT_OVER).raise .HQ_CREDIT_OVER q) ∧
       u.queue q = { x with credit := x.free } ∧ u.host = w.host) ∧
   (x.pub ≠ x.cons → ∃ u : State, exec (.waitWindowRead t q) s = .next u ∧ u.host = { w.host with lastRead := word false } ∧
     u.queue q = { x with flushed := false, fault := false }) ∧
   (x.pub = x.cons → 256 ≤ w.host.waits.length → ∃ u : State, exec (.waitWindowRead t q) s = .next u ∧
     u.host = { w.host with lastRead := word true } ∧ u.queue q = { x with flushed := false, fault := false }) ∧
   (x.pub = x.cons → w.host.waits.length < 256 → ∃ u : State, exec (.waitWindowRead t q) s = .next u ∧
     u.host.waits = w.host.waits ++ [⟨q, w.now, false⟩] ∧ u.queue q = x ∧ u.cnt = w.cnt) ∧
   (∃ u : State, exec (.waitWindowRelease t q) s = .next u ∧ u.cnt = w.cnt ∧
     ∀ y ∈ u.host.waits, y ∈ w.host.waits ∧ (y.q = q → y.due = false ∧ x.pub = x.cons)) ∧
   (∀ y, w.host.waits.find? (fun (y : WaitRead) => y.q == q && decide (y.at_ + us (w.p .HQ_WAIT_LIMIT) ≤ w.now)) = some y →
     ∃ u : State, exec (.waitLimitExpiry t q) s = .next u ∧ u.host.waits = w.host.waits.erase y ∧
       u.cnt = (({ w with host := { w.host with waits := w.host.waits.erase y } } : State).count .HQ_WAIT_TIMEOUTS).cnt))

/-- The BAR2 window (R368, R284). -/
def Obligations.Bar2Window : Prop := ∀ (s : State) (t off n : Nat) (data : List Byte), s.barOk = true →
  (let w := s.advance t
   let a := w.p .HIS_BAR2_BASE * 2 ^ 30 + off
   let k := min n (w.installed - a)
   let len := data.length
   let slots := w.slotsAt a len
   (w.clockOk 4 = true → (∀ u ∈ w.cmp.refUe, ¬ (a < u + 64 ∧ u < a + k)) →
     exec (.bar2Read t off n) s = .next { w with host := { w.host with
       lastRead := ⟨off, (List.range k).map (fun i => Sparse.get w.dram 0 (a + i)) ++ List.replicate (n - k) 0, false⟩ } }) ∧
   (w.installed < a + len → exec (.bar2Write t off data) s = .next w) ∧
   (len ≠ 0 → a + len ≤ w.installed → w.arenaByte 2 < a + len →
     exec (.bar2Write t off data) s = .next ((w.count .HIS_BAR2_BLOCKED).raise .HIS_BAR2_BLOCKED)) ∧
   (len ≠ 0 → a + len ≤ w.installed → a + len ≤ w.arenaByte 2 → (∃ i ∈ slots, w.slotHeld i = true) →
     exec (.bar2Write t off data) s = .next (w.count .CMP_REF_WRITES_BLOCKED)) ∧
   (len ≠ 0 → a + len ≤ w.installed → a + len ≤ w.arenaByte 2 → (∀ i ∈ slots, w.slotHeld i = false) →
     ∃ u : State, exec (.bar2Write t off data) s = .next u ∧
       (∀ (b : Nat), b < a ∨ a + len ≤ b → Sparse.get u.dram 0 b = Sparse.get w.dram 0 b) ∧
       (∀ (i : Nat) (h : i < len), Sparse.get u.dram 0 (a + i) = data[i]'h) ∧
       (∀ i ∈ slots, i ∉ u.cmp.resident ∧ i ∉ u.cmp.ready) ∧
       (∀ i, i ∉ slots → (i ∈ u.cmp.resident ↔ i ∈ w.cmp.resident) ∧ (i ∈ u.cmp.ready ↔ i ∈ w.cmp.ready)) ∧ u.host = w.host))

/-- The link (R433, R466 to R469). -/
def Obligations.LinkLossAndReturn : Prop := ∀ (s : State) (t c rate width : Nat) (msix : Bool),
  (let w := s.advance t
   let kept (u : State) := SameWork w u ∧ u.host.outst = w.host.outst ∧ u.host.store = w.host.store
   (w.linkUp = true → c < 3 → ∃ u : State, exec (.sysLinkLost t c) s = .next u ∧ u.linkUp = false ∧ u.host.waits = [] ∧
     u.host.link.field = c + 1 ∧ u.host.link.lostAt = some (w.host.link.lostAt.getD w.now) ∧
     u.host.link.msixEnable = (w.host.link.msixEnable && c != 1) ∧ u.host.link.busMaster = (c != 1) ∧ kept u) ∧
   (w.linkUp = false → exec (.sysLinkLost t c) s = .next w) ∧
   (w.linkUp = false → w.pwr.st = .ready ∨ w.pwr.st = .running → w.host.spill = [] → ∃ u : State,
     exec (.sysLinkRestored t rate width msix) s = .next u ∧ u.linkUp = true ∧ u.host.link.rate = rate ∧ u.host.link.width = width ∧
     u.host.link.msixEnable = msix ∧ u.host.link.lostAt = none ∧ kept u) ∧
   (∃ u : State, exec (.hotReset t) s = .next u ∧ u.linkUp = false ∧ u.host.link.busMaster = false ∧
     u.host.link.msixEnable = false ∧ kept u) ∧
   (w.linkUp = true → w.cap.run = .closed → w.unpublished = false →
     ∃ u : State, exec (.pmRequest t) s = .next u ∧ u.linkUp = false ∧ u.host.link.field = 3 ∧ kept u) ∧
   (w.linkUp = true → w.cap.run ≠ .closed ∨ w.unpublished = true →
     exec (.pmRequest t) s = .next ((w.count .SYS_PM_DECLINED).raise .SYS_PM_DECLINED)))

/-- Replies (R452, R453, R456, R457). -/
def Obligations.RepliesReachTheRing : Prop := ∀ (s : State),
  (∀ (cid st det line : Nat) (ws : List Word) (o : Outst), s.outOf cid = some o → o.final = false → o.aborted = false →
    (s.replyAt cid st det ws line).host = { s.host with
      outst := s.host.outst.map (fun x => if x.cid = cid then { x with first := true, final := decide (st ≠ 1 ∧ st ≠ 2) } else x),
      store := s.host.store ++
        [⟨cid, o.ring, o.tag, o.opcode, o.slot, st, det % 2 ^ 24, ws, decide (st ≠ 1 ∧ st ≠ 2), false⟩] }) ∧
  (∀ (cid st det line : Nat) (ws : List Word) (o : Outst), s.outOf cid = some o → o.final = true → s.replyAt cid st det ws line = s) ∧
  (∀ (t : Nat),
   let w := s.advance t
   let ring := w.ring 4
   (∀ (c : Cpl) (rest : List Cpl), w.host.store = c :: rest → ring.st = .running → w.linkUp = true → w.host.spill = [] →
     c.words.length ≤ 12 → 1 ≤ ring.room → ∃ u : State, exec (.completionWrite t) s = .next u ∧ u.host.store = rest ∧
       (u.ring 4).dev = (ring.dev + 1) % 65536 ∧
       u.host.outst = (if c.final then w.host.outst.filter (fun o => o.cid != c.cid) else w.host.outst) ∧ SameWork w u ∧
       (w.host.link.msixEnable = false →
         u.hostMem = Sparse.write w.hostMem (ring.base + 64 * (ring.dev % 2 ^ ring.size)) ((c.bytes ring.phase).take 64))) ∧
   (∀ (c : Cpl) (rest : List Cpl), w.host.store = c :: rest → ring.st = .running → ring.room < cmdSlots c.words.length →
     ∃ u : State, exec (.completionWrite t) s = .next u ∧ u.host.store.map (fun x => { x with waited := true }) =
       w.host.store.map (fun x => { x with waited := true }) ∧ (∀ x ∈ u.host.store, x.waited = true) ∧ SameWork w u) ∧
   (ring.st ≠ .running → exec (.completionWrite t) s = .next w) ∧
   (∀ (cid : Nat) (o : Outst), w.outOf cid = some o → o.first = false → o.aborted = false →
     exec (.execBudgetExpiry t cid) s = .next ((w.reply cid 2).count .SYS_DEFERRED)))

/-- Hold-offs and delayed entries (R460, R462, R463). -/
def Obligations.HoldoffsAndDelayedEvents : Prop := ∀ (s : State) (t x v : Nat),
  (let w := s.advance t
   let e := w.evSrc x
   let m := w.host.vecs.getD v MsixVec.reset
   let ended := w.updEv x (fun e => { e with holding := false })
   let free : State := { w with host := { w.host with vecs := upd w.host.vecs v (fun y => { y with holding := false }) } }
   (e.holding = false ∨ w.now < e.until_ → exec (.eventHoldoffExpiry t x) s = .next w) ∧
   (e.holding = true → e.until_ ≤ w.now → e.batch = 0 → exec (.eventHoldoffExpiry t x) s = .next ended) ∧
   (e.holding = true → e.until_ ≤ w.now → e.batch ≠ 0 → w.p .EVT_EN x = 0 →
     exec (.eventHoldoffExpiry t x) s = .next (w.updEv x (fun e => { e with holding := false, batch := 0 }))) ∧
   (e.holding = true → e.until_ ≤ w.now → e.batch ≠ 0 → w.p .EVT_EN x ≠ 0 → w.eventRoom = true → w.host.evWait = [] →
     exec (.eventHoldoffExpiry t x) s = .next (ended.writeEvent x false)) ∧
   (m.holding = false ∨ w.now < m.until_ → exec (.irqHoldoffExpiry t v) s = .next w) ∧
   (m.holding = true → m.until_ ≤ w.now → m.dirty = false → exec (.irqHoldoffExpiry t v) s = .next free) ∧
   (m.holding = true → m.until_ ≤ w.now → m.dirty = true → w.linkUp = true → w.host.spill = [] → w.host.link.msixEnable = true →
     exec (.irqHoldoffExpiry t v) s = .next (free.sendMsix v)) ∧
   (w.host.evWait = [] ∨ w.eventRoom = false → exec (.sysEvtDelayed t) s = .next w) ∧
   (w.host.evWait = [x] → w.eventRoom = true →
     ∃ z : State, z = (({ w with host := { w.host with evWait := [] } } : State).writeEvent x true).count .SYS_EVT_DELAYED ∧
       (z.host.evFull = false ∨ z.host.evWait ≠ [] → exec (.sysEvtDelayed t) s = .next z) ∧
       (z.host.evFull = true → z.host.evWait = [] →
         exec (.sysEvtDelayed t) s = .next (({ z with host := { z.host with evFull := false } } : State).raise .SYS_EVT_DELAYED))))

/-- The cores and their reads (R30, R456, R465). -/
def Obligations.CoresAndReads : Prop := ∀ (s : State) (t c r : Nat),
  (let w := s.advance t
   (w.coresUp = true → 1 ≤ c → c ≤ 3 → ∃ u : State, exec (.watchdogExpiry t c) s = .next u ∧ u.coresUp = false ∧ u.host.coreCause = c ∧
     (∀ o ∈ u.host.outst, o.final = false → o.aborted = true) ∧
     (w.aux.scan = none → u.host.coresDown = some w.now ∧ u.seq.pends = [] ∧ u.seq.groups = [] ∧ u.cap.arm = none ∧
       u.cap.run = w.cap.run ∧ u.par = w.par ∧ u.mot = w.mot ∧ u.sec = w.sec ∧ u.hq.queues = w.hq.queues ∧
       u.host.store = w.host.store ∧ u.host.rings = w.host.rings)) ∧
   (w.coresUp = true → exec (.sysWatchdog t) s = .next w) ∧
   (w.coresUp = false → ∃ z : State, exec (.sysWatchdog t) s = .next ((z.count .SYS_WDT_RESETS).raise .SYS_WATCHDOG w.host.coreCause) ∧
     z.coresUp = true ∧ (∀ o ∈ z.host.outst, o.aborted = false) ∧ z.host.beatAt = w.now ∧ z.par = w.par ∧ z.seq = w.seq ∧ z.mot = w.mot) ∧
   (∀ (cid : Nat) (o : Outst), w.outOf cid = some o → o.final = false → o.aborted = false →
     exec (.dmaReadFail t r (some cid)) s = .next (((w.count .SYS_DMA_READ_FAILS).dropWork cid).reply cid 0x40 2)) ∧
   (w.linkUp = false → exec (.dmaReadFail t r none) s = .next w) ∧
   (w.linkUp = true → r < 4 → (w.ring r).st = .running → exec (.dmaReadFail t r none) s =
     .next ((((w.count .SYS_DMA_READ_FAILS).updRing r (fun x => { x with st := .error, err := 1 })).count .SYS_RING_ERRORS).raise
       .SYS_RING_ERROR r)))

/-- Function Level Reset (R470). -/
def Obligations.FunctionLevelReset : Prop := ∀ (s : State) (t : Nat), s.barOk = true →
  ∃ z : State, exec (.functionLevelReset t) s = .next (z.count .SYS_FLRS) ∧
    (∀ r < 6, (z.ring r).st = .disabled) ∧ z.host.store = [] ∧ z.host.spill = [] ∧ z.host.spillUsed = 0 ∧ z.host.waits = [] ∧
    z.hq.replays = [] ∧ z.seq.pends = [] ∧ z.seq.groups = [] ∧ z.cap.arm = none ∧ (∀ v ∈ z.host.vecs, v = MsixVec.reset) ∧
    (∀ p ∈ flrPars, ∀ i, z.p p i = State.reset.p p i) ∧
    (∀ p, p ∉ flrPars → ∀ i, z.p p i = s.p p i) ∧ z.cap.run = s.cap.run

/-- Tick sources (R32, R33, R246, R51, R548). -/
def Obligations.TickSources : Prop := ∀ (s : State) (t d : Nat) (falling : Bool) (h : HeldTick),
  (let w := s.advance t
   let k := (w.extNow - w.cap.g0) / (w.p .CAP_GRID_PITCH : Int)
   let ticked := w.raiseTick w.seq.lineIndex
   (w.cap.run ≠ .open_ → exec (.gridTick t) s = .next w ∧ exec (.periodTick t) s = .next w ∧ exec (.trigTick t falling) s = .next w) ∧
   (w.cap.run = .open_ → w.p .SEQ_TICK_SRC = 0 → w.member = false → w.p .CAP_GRID_PITCH ≠ 0 → w.p .SEQ_POS_SRC ≠ 4 →
     (w.cap.high < k → exec (.gridTick t) s = .next (w.raiseTick k.toNat)) ∧ (k ≤ w.cap.high → exec (.gridTick t) s = .next w)) ∧
   (w.cap.run = .open_ → w.p .SEQ_TICK_SRC = 1 → w.seq.periodDue = some d →
     (w.now < d → exec (.periodTick t) s = .next w) ∧
     (d ≤ w.now → exec (.periodTick t) s = .next { ticked with seq := { ticked.seq with
       periodDue := if ticked.cap.run = .open_ then some (ticked.now + ns (ticked.p .SEQ_PERIOD)) else none } })) ∧
   (w.cap.run = .open_ → w.p .SEQ_TICK_SRC = 2 →
     (w.p .SEQ_TRIG_EDGE = bitNat falling → exec (.trigTick t falling) s = .next ticked) ∧
     (w.p .SEQ_TRIG_EDGE ≠ bitNat falling → exec (.trigTick t falling) s = .next w)) ∧
   (w.member = true → w.ask.calibrated = false ∨ w.ask.lost = true → exec (.askuriTick t) s = .next (w.count .ASK_TICKS_IGNORED)) ∧
   (w.member = true → w.ask.calibrated = true → w.ask.lost = false → w.cap.run = .open_ → w.p .SEQ_TICK_SRC = 3 → w.ask.runWait = false →
     w.ask.tick = none → w.resolveTick = none →
     let due := w.now + ns w.ask.align - 15 * w.ask.path
     exec (.askuriTick t) s = .next { w with ask := { w.ask with tick := some ⟨due, w.streamAt (w.glintAt due)⟩, tickBad := 0 } }) ∧
   (w.seq.deferred = some h → w.seq.flushUntil = some d →
     (w.now < d → exec (.deferredTickServe t) s = .next w) ∧
     (d ≤ w.now → exec (.deferredTickServe t) s =
       .next (({ w with seq := { w.seq with deferred := none, flushUntil := none } } : State).startSlot h d true))) ∧
   (w.seq.deferred = none → exec (.deferredTickServe t) s = .next w))
end

