-- ==== Sys2Proof/Laws/Host.lean ====
section
/-! SUPPORT. The path of a host command that passes its checks: it is carried out on the state its fetch leaves. -/

set_option Elab.async false

namespace Sys2Proof.Machine

/-! ### Absent words -/

theorem Cmd.padded_getD (c : Cmd) (n i : Nat) : (c.padded n).words.getD i 0 = c.words.getD i 0 := by
  simp only [Cmd.padded, List.getD_eq_getElem?_getD]
  by_cases h : i < c.words.length
  · rw [List.getElem?_append_left h]
  · rw [List.getElem?_append_right (by omega), List.getElem?_eq_none (l := c.words) (by omega), List.getElem?_replicate]
    split <;> rfl

@[simp] theorem Cmd.padded_w (c : Cmd) (n i : Nat) : (c.padded n).w i = c.w i := by
  simp only [Cmd.w, Cmd.padded_getD]

@[simp] theorem Cmd.padded_f (c : Cmd) (n i hi lo : Nat) : (c.padded n).f i hi lo = c.f i hi lo := by
  simp only [Cmd.f, Cmd.padded_w]

@[simp] theorem Cmd.padded_b (c : Cmd) (n i k : Nat) : (c.padded n).b i k = c.b i k := by
  simp only [Cmd.b, Cmd.padded_w]

@[simp] theorem Cmd.padded_w64 (c : Cmd) (n i : Nat) : (c.padded n).w64 i = c.w64 i := by
  simp only [Cmd.w64, Cmd.padded_w]

@[simp] theorem Cmd.padded_ring (c : Cmd) (n : Nat) : (c.padded n).ring = c.ring := rfl
@[simp] theorem Cmd.padded_level (c : Cmd) (n : Nat) : (c.padded n).level = c.level := rfl
@[simp] theorem Cmd.padded_dev (c : Cmd) (n : Nat) : (c.padded n).dev = c.dev := rfl
@[simp] theorem Cmd.padded_tile (c : Cmd) (n : Nat) : (c.padded n).tile = c.tile := rfl
@[simp] theorem Cmd.padded_lane (c : Cmd) (n : Nat) : (c.padded n).lane = c.lane := rfl
@[simp] theorem Cmd.padded_commit (c : Cmd) (n : Nat) : (c.padded n).commit = c.commit := rfl
@[simp] theorem Cmd.padded_arg (c : Cmd) (n : Nat) : (c.padded n).arg = c.arg := rfl
@[simp] theorem Cmd.padded_zero (c : Cmd) : c.padded 0 = c := by simp [Cmd.padded]

theorem Cmd.padded_length (c : Cmd) (n : Nat) : (c.padded n).words.length = max c.words.length n := by
  simp only [Cmd.padded, List.length_append, List.length_replicate]
  omega

theorem fixedRole_padded (op : Nat) (c : Cmd) (n : Nat) : fixedRole op (c.padded n).words = fixedRole op c.words := by
  simp only [fixedRole, Cmd.padded_getD]

theorem needsEnvelope_padded (s : State) (op : Nat) (c : Cmd) (n : Nat) :
    s.needsEnvelope op (c.padded n).words = s.needsEnvelope op c.words := by
  simp only [State.needsEnvelope, State.firstOfficer, fixedRole_padded, Cmd.padded_getD]

theorem audited_padded (op : Nat) (c : Cmd) (n : Nat) : audited op (c.padded n).words = audited op c.words := by
  simp only [audited, Cmd.padded_getD]

/-! ### What the fetch leaves alone -/

@[simp] theorem taken_now (s : State) (t op : Nat) (c : Cmd) : (s.taken t op c).now = max s.now t := rfl
@[simp] theorem taken_par (s : State) (t op : Nat) (c : Cmd) : (s.taken t op c).par = s.par := rfl
@[simp] theorem taken_seq (s : State) (t op : Nat) (c : Cmd) : (s.taken t op c).seq = s.seq := rfl
@[simp] theorem taken_pos (s : State) (t op : Nat) (c : Cmd) : (s.taken t op c).pos = s.pos := rfl
@[simp] theorem taken_lamp (s : State) (t op : Nat) (c : Cmd) : (s.taken t op c).lamp = s.lamp := rfl
@[simp] theorem taken_sen (s : State) (t op : Nat) (c : Cmd) : (s.taken t op c).sen = s.sen := rfl
@[simp] theorem taken_cor (s : State) (t op : Nat) (c : Cmd) : (s.taken t op c).cor = s.cor := rfl
@[simp] theorem taken_cap (s : State) (t op : Nat) (c : Cmd) : (s.taken t op c).cap = s.cap := rfl
@[simp] theorem taken_cmp (s : State) (t op : Nat) (c : Cmd) : (s.taken t op c).cmp = s.cmp := rfl
@[simp] theorem taken_hq (s : State) (t op : Nat) (c : Cmd) : (s.taken t op c).hq = s.hq := rfl
@[simp] theorem taken_mot (s : State) (t op : Nat) (c : Cmd) : (s.taken t op c).mot = s.mot := rfl
@[simp] theorem taken_aux (s : State) (t op : Nat) (c : Cmd) : (s.taken t op c).aux = s.aux := rfl
@[simp] theorem taken_sec (s : State) (t op : Nat) (c : Cmd) : (s.taken t op c).sec = s.sec := rfl
@[simp] theorem taken_hlt (s : State) (t op : Nat) (c : Cmd) : (s.taken t op c).hlt = s.hlt := rfl
@[simp] theorem taken_ask (s : State) (t op : Nat) (c : Cmd) : (s.taken t op c).ask = s.ask := rfl
@[simp] theorem taken_pwr (s : State) (t op : Nat) (c : Cmd) : (s.taken t op c).pwr = s.pwr := rfl

/-! ### Commands that pass their checks -/

/-- The commit context of a command outside groups. -/
def ctxOf (d : CmdDef) (v : State) (c : Cmd) : Ctx :=
  ⟨(v.pointOf d c).getD .immediate, c.arg, (d.writes v c).map (fun w => w.2)⟩

theorem judge_run {d : CmdDef} {v : State} {c : Cmd} {cid : Nat} (alone : (if groupOp d.op then none else v.groupOn c.ring) = none)
    (free : v.needsEnvelope d.op c.words = false) (ring : d.op / 256 = 0x0C → c.ring = 3)
    (room : audited d.op c.words = true → v.auditFull = false)
    (hc : v.commonFails d (c.padded (d.need c)) (d.writes v (c.padded (d.need c))) = [])
    (hf : d.fails v (c.padded (d.need c)) (ctxOf d v (c.padded (d.need c))) = []) :
    v.judge d cid c false = d.run v cid (c.padded (d.need c)) (ctxOf d v (c.padded (d.need c))) := by
  have e1 : (if groupOp d.op = true then none else v.groupOn (c.padded (d.need c)).ring) = none := by
    rw [Cmd.padded_ring]
    exact alone
  have e2 : (if d.op / 256 = 0x0C ∧ (c.padded (d.need c)).ring ≠ 3 then [((0x13 : Nat), (0 : Nat))] else []) = [] := by
    rw [if_neg]
    exact fun h => h.2 (ring h.1)
  have e3 : (if (!false && v.needsEnvelope d.op (c.padded (d.need c)).words) = true then [((0x20 : Nat), (0 : Nat))] else []) = [] := by
    rw [needsEnvelope_padded, free]
    rfl
  have e4 : (if (audited d.op (c.padded (d.need c)).words && v.auditFull) = true then [((0x14 : Nat), (0 : Nat))] else []) = [] := by
    rw [audited_padded]
    cases h : audited d.op c.words
    · rfl
    · rw [room h]
      rfl
  unfold State.judge
  simp only [e1, e2, e3, e4, hc, List.append_nil, List.nil_append]
  have hf' := hf
  unfold ctxOf at hf'
  rw [hf']
  rfl

/-- A command that is fit, and outside groups or one that acts on a group. -/
theorem runHost_fit {d : CmdDef} {s : State} {t : Nat} {c : Cmd} (h : Fit d.op d.levels s t c)
    (alone : (if groupOp d.op then none else s.groupOn c.ring) = none)
    (hc : (s.taken t d.op c).commonFails d (c.padded (d.need c)) (d.writes (s.taken t d.op c) (c.padded (d.need c))) = [])
    (hf : d.fails (s.taken t d.op c) (c.padded (d.need c)) (ctxOf d (s.taken t d.op c) (c.padded (d.need c))) = []) :
    runHost d t c s = d.run (s.taken t d.op c) (s.takenCid t) (c.padded (d.need c)) (ctxOf d (s.taken t d.op c) (c.padded (d.need c))) := by
  have e : runHost d t c s = (s.taken t d.op c).judge d (s.takenCid t) c false := by
    unfold runHost
    simp only [h.fetched, h.bare]
    rfl
  rw [e]
  exact judge_run alone h.free_ h.ring h.room hc hf

theorem runHost_run {d : CmdDef} {s : State} {t : Nat} {c : Cmd} (h : Sent d.op d.levels s t c)
    (hc : (s.taken t d.op c).commonFails d (c.padded (d.need c)) (d.writes (s.taken t d.op c) (c.padded (d.need c))) = [])
    (hf : d.fails (s.taken t d.op c) (c.padded (d.need c)) (ctxOf d (s.taken t d.op c) (c.padded (d.need c))) = []) :
    runHost d t c s = d.run (s.taken t d.op c) (s.takenCid t) (c.padded (d.need c)) (ctxOf d (s.taken t d.op c) (c.padded (d.need c))) :=
  runHost_fit h.toFit (by rw [h.alone]; split <;> rfl) hc hf

/-! ### The checks that every command shares -/

theorem badRange_nil {ws : List (Nat × ParWrite)} (h : InRange (ws.map (fun w => w.2))) :
    ((ws.filter (fun w => !w.2.par.row.range.ok w.2.par.row.bits w.2.val)).map (fun w => ((0x11 : Nat), w.1))) = [] := by
  rw [List.filter_eq_nil_iff.2]
  · rfl
  · intro w hw
    simp [h w.2 (List.mem_map_of_mem hw)]

theorem target_nil {op : Nat} {levels : List Nat} {s : State} {t : Nat} {c : Cmd} (h : Fit op levels s t c) (n : Nat) :
    (if (!levels.contains (c.padded n).level || (c.padded n).dev != natField (s.taken t op c).pwr.straps 3 1 ||
      ((c.padded n).level == 2 && decide (8 < (c.padded n).lane))) = true then [((0x12 : Nat), (0 : Nat))] else []) = [] := by
  rw [if_neg]
  have h1 := h.level
  have h2 := h.device
  have h3 := h.lane
  simp only [Cmd.padded_level, Cmd.padded_dev, Cmd.padded_lane, taken_pwr, Bool.or_eq_true, Bool.and_eq_true, not_or, not_and,
    decide_eq_true_eq, bne_iff_ne, beq_iff_eq, Bool.not_eq_true', Bool.not_eq_false, List.contains_eq_mem]
  exact ⟨⟨by simpa using h1, by simpa using h2⟩, fun e k => Nat.not_lt.2 (h3 e) (of_decide_eq_true k)⟩

/-- The shared checks of a command that names no commit point. -/
theorem commonFails_ignored {d : CmdDef} {s : State} {t : Nat} {c : Cmd} (h : Fit d.op d.levels s t c) (hp : d.points = .ignored)
    (hn : d.need c ≤ 248) {ws : List (Nat × ParWrite)} (hw : InRange (ws.map (fun w => w.2))) :
    (s.taken t d.op c).commonFails d (c.padded (d.need c)) ws = [] := by
  have hl : ¬ 248 < (c.padded (d.need c)).words.length := by
    rw [Cmd.padded_length]
    have := h.count
    omega
  have hpt : (s.taken t d.op c).pointOf d (c.padded (d.need c)) = some .immediate := by
    unfold State.pointOf
    rw [hp]
  unfold State.commonFails
  simp only [hpt, target_nil h, badRange_nil hw, if_neg hl, hp, Points.takes]
  simp

/-- The shared checks of a command at one fixed point that is neither REPEAT nor POSITION. -/
theorem commonFails_fixed {d : CmdDef} {s : State} {t : Nat} {c : Cmd} (h : Sent d.op d.levels s t c) {p : Pt}
    (hp : d.points = .fixed p ∨ (d.points = .immediate ∧ p = .immediate)) (hr : p ≠ .rept) (hq : p ≠ .position)
    (hn : d.need c ≤ 248) {ws : List (Nat × ParWrite)} (hw : InRange (ws.map (fun w => w.2))) :
    (s.taken t d.op c).commonFails d (c.padded (d.need c)) ws = [] := by
  have hl : ¬ 248 < (c.padded (d.need c)).words.length := by
    rw [Cmd.padded_length]
    have := h.count
    omega
  have ha : (s.taken t d.op c).groupOn (c.padded (d.need c)).ring = none := h.alone
  have hpt : (s.taken t d.op c).pointOf d (c.padded (d.need c)) = some p := by
    unfold State.pointOf
    rw [ha]
    rcases hp with hp | ⟨hp, rfl⟩ <;> rw [hp]
  unfold State.commonFails
  rcases hp with hp | ⟨hp, rfl⟩ <;>
  · simp only [hpt, ha, target_nil h.toFit, badRange_nil hw, if_neg hl, hp, Points.takes]
    simp [hr, hq]

/-- The shared checks of a command whose point the header chooses. -/
theorem commonFails_among {d : CmdDef} {s : State} {t : Nat} {c : Cmd} (h : Sent d.op d.levels s t c) {p : Pt} {ps : List Pt}
    (hp : d.points = .among ps) (hq : Pointed s c ps p)
    (hn : d.need c ≤ 248) {ws : List (Nat × ParWrite)} (hw : InRange (ws.map (fun w => w.2))) :
    (s.taken t d.op c).commonFails d (c.padded (d.need c)) ws = [] := by
  have hl : ¬ 248 < (c.padded (d.need c)).words.length := by
    rw [Cmd.padded_length]
    have := h.count
    omega
  have ha : (s.taken t d.op c).groupOn (c.padded (d.need c)).ring = none := h.alone
  obtain ⟨h1, h2, h3, h4⟩ := hq
  have hpt : (s.taken t d.op c).pointOf d (c.padded (d.need c)) = some p := by
    unfold State.pointOf
    rw [ha, hp]
    exact h1
  unfold State.commonFails
  simp only [hpt, ha, target_nil h.toFit, badRange_nil hw, if_neg hl, hp, Points.takes]
  cases p <;> simp_all [State.p]

/-- The shared checks of a set command, whose parameters all take the header's point. -/
theorem commonFails_header {d : CmdDef} {s : State} {t : Nat} {c : Cmd} (h : Sent d.op d.levels s t c) {p : Pt}
    (hp : d.points = .header) (hq : Pointed s c [.immediate, .tick, .rept, .position, .idle] p)
    (hn : d.need c ≤ 248) {ws : List (Nat × ParWrite)} (hw : InRange (ws.map (fun w => w.2)))
    (ht : ∀ w ∈ ws.map (fun w => w.2), takesPoint p w = true) :
    (s.taken t d.op c).commonFails d (c.padded (d.need c)) ws = [] := by
  have hl : ¬ 248 < (c.padded (d.need c)).words.length := by
    rw [Cmd.padded_length]
    have := h.count
    omega
  have ha : (s.taken t d.op c).groupOn (c.padded (d.need c)).ring = none := h.alone
  obtain ⟨h1, h2, h3, h4⟩ := hq
  have hpt : (s.taken t d.op c).pointOf d (c.padded (d.need c)) = some p := by
    unfold State.pointOf
    rw [ha, hp]
    exact h1
  have hall : ws.all (fun w => takesPoint p w.2) = true := by
    rw [List.all_eq_true]
    exact fun w hw => ht _ (List.mem_map_of_mem hw)
  unfold State.commonFails
  simp only [hpt, ha, target_nil h.toFit, badRange_nil hw, if_neg hl, hp, Points.takes]
  cases p <;> simp_all [State.p] <;> assumption

/-! ### Kinds of commands -/

/-- No parameter written: nothing out of range. -/
theorem inRange_nil : InRange ((([] : List (Nat × ParWrite))).map (fun w => w.2)) := by
  intro w hw
  cases hw

/-- A command that only reads. -/
theorem runHost_status {op need : Nat} {levels : List Nat} {fails : State → Cmd → Ctx → List (Nat × Nat)} {words : State → Cmd → List Word}
    {s : State} {t : Nat} {c : Cmd} (h : Sent op levels s t c) (hn : need ≤ 248)
    (hf : ∀ ctx, fails (s.taken t op c) (c.padded need) ctx = []) :
    runHost (statusDef op levels need fails words) t c s =
      (s.taken t op c).done (s.takenCid t) (words (s.taken t op c) (c.padded need)) :=
  runHost_run (d := statusDef op levels need fails words) h
    (commonFails_ignored (d := statusDef op levels need fails words) h.toFit rfl hn inRange_nil) (hf _)

/-- A counter clear. -/
theorem runHost_clear {op g : Nat} {s : State} {t : Nat} {c : Cmd} (h : Sent op [0] s t c) :
    runHost (clearDef op g) t c s = ((s.taken t op c).clearCounters g (c.w 0)).done (s.takenCid t) := by
  rw [runHost_run (d := clearDef op g) h (commonFails_fixed (d := clearDef op g) h (Or.inr ⟨rfl, rfl⟩) (by decide) (by decide)
    (show 1 ≤ 248 by decide) inRange_nil) rfl]
  show ((s.taken t op c).clearCounters g ((c.padded 1).w 0)).done (s.takenCid t) = _
  rw [Cmd.padded_w]

/-! ### Set commands and acts -/

theorem setWrites_padded (c : Cmd) (n : Nat) (fs : List SetField) (m : Nat → Bool) : setWrites (c.padded n) fs m = setWrites c fs m := by
  simp only [setWrites, Cmd.padded_f]

@[simp] theorem maskAt_padded (c : Cmd) (n : Nat) : maskAt (c.padded n) = maskAt c := by
  funext k
  simp only [maskAt, Cmd.padded_b]

@[simp] theorem maskFrom7_padded (c : Cmd) (n : Nat) : maskFrom7 (c.padded n) = maskFrom7 c := by
  funext k
  simp only [maskFrom7, Cmd.padded_b]

theorem topWord_le (m : Nat → Bool) : ∀ n, topWord m n ≤ n
  | 0 => Nat.le_refl 0
  | n + 1 => by
    unfold topWord
    split
    · exact Nat.le_refl _
    · exact Nat.le_succ_of_le (topWord_le m n)

/-- Where a bare command outside groups takes effect, by its definition. -/
def PointsTo (s : State) (c : Cmd) : Points → Pt → Prop
  | .header, p => Pointed s c allPoints p
  | .among ps, p => Pointed s c ps p
  | .fixed q, p => p = q ∧ q ≠ .rept ∧ q ≠ .position
  | .immediate, p => p = .immediate
  | .ignored, p => p = .immediate

theorem commonFails_points {d : CmdDef} {s : State} {t : Nat} {c : Cmd} (h : Sent d.op d.levels s t c) {p : Pt}
    (hp : PointsTo s c d.points p) (hn : d.need c ≤ 248) {ws : List (Nat × ParWrite)} (hw : InRange (ws.map (fun w => w.2)))
    (ht : ∀ w ∈ ws, takesPoint p w.2 = true) :
    (s.taken t d.op c).commonFails d (c.padded (d.need c)) ws = [] ∧ (s.taken t d.op c).pointOf d (c.padded (d.need c)) = some p := by
  have ha : (s.taken t d.op c).groupOn (c.padded (d.need c)).ring = none := h.alone
  have ht' : ∀ w ∈ ws.map (fun w => w.2), takesPoint p w = true := by
    intro w hw
    obtain ⟨x, hx, rfl⟩ := List.mem_map.1 hw
    exact ht x hx
  unfold PointsTo at hp
  split at hp
  · rename_i e
    exact ⟨commonFails_header h e hp hn hw ht', by unfold State.pointOf; rw [ha, e]; exact hp.1⟩
  · rename_i ps p e
    exact ⟨commonFails_among h e hp hn hw, by unfold State.pointOf; rw [ha, e]; exact hp.1⟩
  · rename_i q p e
    obtain ⟨rfl, h1, h2⟩ := hp
    exact ⟨commonFails_fixed h (Or.inl e) h1 h2 hn hw, by unfold State.pointOf; rw [ha, e]⟩
  · rename_i p e
    subst hp
    exact ⟨commonFails_fixed h (Or.inr ⟨e, rfl⟩) (by decide) (by decide) hn hw, by unfold State.pointOf; rw [ha, e]⟩
  · rename_i p e
    subst hp
    exact ⟨commonFails_ignored h.toFit e hn hw, by unfold State.pointOf; rw [ha, e]⟩

/-- A command outside groups that passes every check. -/
theorem runHost_point {d : CmdDef} {s : State} {t : Nat} {c : Cmd} {p : Pt} (h : Sent d.op d.levels s t c) (hp : PointsTo s c d.points p)
    (hn : d.need c ≤ 248) {ws : List (Nat × ParWrite)} (e : d.writes (s.taken t d.op c) (c.padded (d.need c)) = ws)
    (hw : InRange (ws.map (fun w => w.2))) (ht : ∀ w ∈ ws, takesPoint p w.2 = true)
    (hf : d.fails (s.taken t d.op c) (c.padded (d.need c)) ⟨p, c.arg, ws.map (fun w => w.2)⟩ = []) :
    runHost d t c s = d.run (s.taken t d.op c) (s.takenCid t) (c.padded (d.need c)) ⟨p, c.arg, ws.map (fun w => w.2)⟩ := by
  obtain ⟨hc, hq⟩ := commonFails_points h hp hn hw ht
  have ec : ctxOf d (s.taken t d.op c) (c.padded (d.need c)) = ⟨p, c.arg, ws.map (fun w => w.2)⟩ := by
    unfold ctxOf
    rw [hq, e]
    rfl
  rw [runHost_run h (by rw [e]; exact hc) (by rw [ec]; exact hf), ec]

/-- A command that writes no parameter. -/
theorem runHost_plain {d : CmdDef} {s : State} {t : Nat} {c : Cmd} {p : Pt} (h : Sent d.op d.levels s t c) (hp : PointsTo s c d.points p)
    (hn : d.need c ≤ 248) (e : d.writes (s.taken t d.op c) (c.padded (d.need c)) = [])
    (hf : d.fails (s.taken t d.op c) (c.padded (d.need c)) ⟨p, c.arg, []⟩ = []) :
    runHost d t c s = d.run (s.taken t d.op c) (s.takenCid t) (c.padded (d.need c)) ⟨p, c.arg, []⟩ :=
  runHost_point h hp hn e inRange_nil (by intro w hw; cases hw) hf

/-- A set command that passes every check. -/
theorem runHost_set {op hi : Nat} {levels : List Nat} {points : Points} {written : Cmd → Nat → Bool} {fields : Cmd → List SetField}
    {fails : State → Cmd → Ctx → List (Nat × Nat)} {acts : State → Cmd → Ctx → List Act} {s : State} {t : Nat} {c : Cmd} {p : Pt}
    {fs : List SetField} {m : Nat → Bool} (h : Sent op levels s t c) (hp : PointsTo s c points p) (hn : hi < 248)
    (ef : ∀ n, fields (c.padded n) = fs) (em : ∀ n, written (c.padded n) = m)
    (w : Writable (s.taken t op c) p c.arg (setWrites c fs m))
    (hf : fails (s.taken t op c) (c.padded (topWord (written c) hi + 1)) ⟨p, c.arg, (setWrites c fs m).map (fun w => w.2)⟩ = []) :
    runHost (setDef op hi levels points written fields fails acts) t c s =
      (s.taken t op c).submit (s.takenCid t) ⟨p, c.arg, (setWrites c fs m).map (fun w => w.2)⟩
        (acts (s.taken t op c) (c.padded (topWord (written c) hi + 1)) ⟨p, c.arg, (setWrites c fs m).map (fun w => w.2)⟩) := by
  have e : ∀ n, setWrites (c.padded n) (fields (c.padded n)) (written (c.padded n)) = setWrites c fs m := by
    intro n
    rw [ef, em, setWrites_padded]
  refine runHost_point (d := setDef op hi levels points written fields fails acts) h hp
    (show topWord (written c) hi + 1 ≤ 248 from by have := topWord_le (written c) hi; omega) (e _) w.range w.points ?_
  show (s.taken t op c).relFails (setWrites (c.padded (topWord (written c) hi + 1)) (fields (c.padded (topWord (written c) hi + 1)))
    (written (c.padded (topWord (written c) hi + 1)))) ++ (s.taken t op c).calFails _ ++
    (s.taken t op c).gridFails _ ++ fails (s.taken t op c) (c.padded (topWord (written c) hi + 1)) _ = []
  rw [e, w.relations, w.capture, w.grid, hf]
  rfl

/-! ### The fetched command -/

theorem le_fresh : ∀ (l : List Nat) (b : Nat), b ≤ l.foldl (fun (n : Nat) c => max n (c + 1)) b ∧
    ∀ x ∈ l, x < l.foldl (fun (n : Nat) c => max n (c + 1)) b
  | [], b => ⟨Nat.le_refl b, by intro x hx; cases hx⟩
  | a :: l, b => by
    obtain ⟨h1, h2⟩ := le_fresh l (max b (a + 1))
    refine ⟨by rw [List.foldl_cons]; omega, ?_⟩
    intro x hx
    rw [List.foldl_cons]
    rcases List.mem_cons.1 hx with rfl | hx
    · omega
    · exact h2 x hx

/-- A fresh number is above that of every command outstanding and of every commit that waits. -/
theorem freshCid_above (s : State) : (∀ o ∈ s.host.outst, o.cid < s.freshCid) ∧ ∀ p ∈ s.seq.pends, p.cid < s.freshCid := by
  have h := (le_fresh (s.host.outst.map Outst.cid ++ s.seq.pends.map Pend.cid) s.host.nextCid).2
  exact ⟨fun o ho => h _ (List.mem_append_left _ (List.mem_map_of_mem ho)), fun p hp => h _ (List.mem_append_right _ (List.mem_map_of_mem hp))⟩

/-- The command as the fetch records it. -/
def fetched (s : State) (t op : Nat) (c : Cmd) : Outst :=
  ⟨s.takenCid t, c.ring, c.tag, op, ((s.advance t).ring c.ring).dev, c.fence, false, false, false,
    if c.envelope then c.f 0 1 0 else 0, if c.envelope then c.f 0 5 4 else 0, if c.envelope then c.w64 1 else 0, c.commit, c.arg, c.inner⟩

theorem taken_outst (s : State) (t op : Nat) (c : Cmd) : (s.taken t op c).host.outst = s.host.outst ++ [fetched s t op c] := rfl

theorem taken_outOf (s : State) (t op : Nat) (c : Cmd) : (s.taken t op c).outOf (s.takenCid t) = some (fetched s t op c) := by
  unfold State.outOf
  rw [taken_outst, List.find?_append, List.find?_eq_none.2]
  · simp [fetched]
  · intro o ho
    have := (freshCid_above (s.advance t)).1 o ho
    simp only [beq_iff_eq]
    unfold State.takenCid
    omega

/-- Outside groups, parameters that take effect on their write are in effect, and the command is DONE. -/
theorem submit_once {s : State} {t op : Nat} {c : Cmd} {arg : Nat} {ws : List ParWrite} (alone : s.groupOn c.ring = none)
    (ha : ∀ w ∈ ws, w.atOnce = true) :
    (s.taken t op c).submit (s.takenCid t) ⟨.immediate, arg, ws⟩ =
      (({ s.taken t op c with par := parSets s.par ws } : State).doneNow (s.takenCid t)).imgSettle := by
  have h1 : ws.filter ParWrite.atOnce = ws := List.filter_eq_self.2 ha
  have h2 : ws.filter (fun w => !w.atOnce) = [] := by
    rw [List.filter_eq_nil_iff]
    intro w hw
    simp [ha w hw]
  unfold State.submit
  rw [taken_outOf]
  have ha' : (s.taken t op c).groupOn (fetched s t op c).ring = none := alone
  simp only [ha', Option.map_none, Option.isSome_none, h1, h2, if_true, if_false, true_or, Bool.false_eq_true]
  rfl

/-! ### Commands in envelopes -/

/-- A command in a valid envelope that names no commit point and writes no parameter. -/
theorem runHost_signed {d : CmdDef} {s : State} {t : Nat} {c : Cmd} (h : Signed d.op d.levels s t c) (hp : d.points = .ignored)
    (hn : d.need c.opened ≤ 248) (hw : ∀ x, d.writes (s.unsealed t d.op c) x = [])
    (hf : ∀ ctx, d.fails (s.unsealed t d.op c) (c.opened.padded (d.need c.opened)) ctx = []) :
    ∃ ctx, runHost d t c s = d.run (s.unsealed t d.op c) (s.takenCid t) (c.opened.padded (d.need c.opened)) ctx := by
  have e : runHost d t c s = (s.unsealed t d.op c).judge d (s.takenCid t) c.opened true := by
    unfold runHost
    have hv : ((s.advance t).fetch d.op c).envelopeFail d.op c = none := h.valid
    simp only [h.fetched, h.enveloped, hv]
    rfl
  have ha : (s.unsealed t d.op c).groupOn (c.opened.padded (d.need c.opened)).ring = none := h.alone
  have hl : ¬ 248 < (c.opened.padded (d.need c.opened)).words.length := by
    rw [Cmd.padded_length]
    have : c.opened.words.length = c.inner.length := rfl
    have := h.count
    omega
  have hpt : (s.unsealed t d.op c).pointOf d (c.opened.padded (d.need c.opened)) = some .immediate := by
    unfold State.pointOf
    rw [hp]
  have ht : (!d.levels.contains c.level || c.dev != natField s.pwr.straps 3 1 || (c.level == 2 && decide (8 < c.lane))) = false := by
    have h1 := h.level
    have h2 := h.device
    have h3 := h.lane
    by_cases k : c.level = 2
    · have := h3 k
      simp [h1, ← h2, Nat.not_lt.2 this]
    · simp [h1, ← h2, k]
  have hc : (s.unsealed t d.op c).commonFails d (c.opened.padded (d.need c.opened)) [] = [] := by
    unfold State.commonFails
    simp only [hpt, ha, if_neg hl, hp, Points.takes]
    have ht' : (!d.levels.contains (c.opened.padded (d.need c.opened)).level || (c.opened.padded (d.need c.opened)).dev != natField (s.unsealed t d.op c).pwr.straps 3 1 ||
      ((c.opened.padded (d.need c.opened)).level == 2 && decide (8 < (c.opened.padded (d.need c.opened)).lane))) = false := ht
    rw [ht']
    simp
  have hr : (if d.op / 256 = 0x0C ∧ (c.opened.padded (d.need c.opened)).ring ≠ 3 then [((0x13 : Nat), (0 : Nat))] else []) = [] :=
    if_neg (fun k => k.2 h.ring)
  have hfull : (if (audited d.op (c.opened.padded (d.need c.opened)).words && (s.unsealed t d.op c).auditFull) = true then [((0x14 : Nat), (0 : Nat))] else []) = [] := by
    rw [audited_padded]
    cases k : audited d.op c.opened.words
    · rfl
    · rw [h.room k]
      rfl
  refine ⟨⟨.immediate, c.arg, []⟩, e.trans ?_⟩
  unfold State.judge
  simp only [hw, hc, hr, hfull, hf, ha, hpt, ite_self]
  rfl

end Sys2Proof.Machine
end

