-- ==== Sys2Proof/Laws/Exec.lean ====
section
/-! SUPPORT. Every host command is the path of runHost with a definition of its own, whose checks answer error statuses only. -/

namespace Sys2Proof.Machine

set_option Elab.async false
set_option linter.all false

/-- Failures whose statuses are errors (R454). -/
def Refusals (l : List (Nat × Nat)) : Prop := ∀ f ∈ l, 0x11 ≤ f.1
theorem Refusals.nil : Refusals [] := by intro f h; cases h
theorem Refusals.append {a b : List (Nat × Nat)} (x : Refusals a) (y : Refusals b) : Refusals (a ++ b) := by
  intro f h; rcases List.mem_append.1 h with h | h
  · exact x f h
  · exact y f h
theorem Refusals.one {a b : Nat} (h : 0x11 ≤ a) : Refusals [(a, b)] := by intro f m; cases List.mem_singleton.1 m; exact h
theorem Refusals.cons {a b : Nat} {l : List (Nat × Nat)} (h : 0x11 ≤ a) (x : Refusals l) : Refusals ((a, b) :: l) := by
  intro f m; rcases List.mem_cons.1 m with rfl | m
  · exact h
  · exact x f m
theorem Refusals.failIf {p : Bool} {a b : Nat} (h : 0x11 ≤ a) : Refusals (failIf p a b) := by
  unfold Machine.failIf; split
  · exact Refusals.one h
  · exact Refusals.nil
theorem Refusals.flatMap {α : Type} {l : List α} {g : α → List (Nat × Nat)} (h : ∀ a, Refusals (g a)) : Refusals (l.flatMap g) := by
  intro f m; obtain ⟨a, -, m⟩ := List.mem_flatMap.1 m; exact h a f m
theorem Refusals.map {α : Type} {l : List α} {g : α → Nat × Nat} (h : ∀ a, 0x11 ≤ (g a).1) : Refusals (l.map g) := by
  intro f m; obtain ⟨a, -, rfl⟩ := List.mem_map.1 m; exact h a
theorem Refusals.ite {p : Prop} [Decidable p] {a b : List (Nat × Nat)} (x : Refusals a) (y : Refusals b) : Refusals (if p then a else b) := by
  split <;> assumption
theorem Refusals.take {l : List (Nat × Nat)} (n : Nat) (x : Refusals l) : Refusals (l.take n) := fun f m => x f (List.mem_of_mem_take m)
theorem Refusals.toList {o : Option (Nat × Nat)} (x : ∀ f, o = some f → 0x11 ≤ f.1) : Refusals o.toList := by
  cases o with
  | none => exact Refusals.nil
  | some f => intro g m; simp at m; subst m; exact x _ rfl

theorem State.moveFails_codes (s : State) (as ts : List Nat) (r : Bool) :
    s.moveFails as ts r = 0x13 ∨ s.moveFails as ts r = 0x14 ∨ s.moveFails as ts r = 0 := by
  unfold State.moveFails
  split
  · exact Or.inl rfl
  · split
    · exact Or.inr (Or.inl rfl)
    · exact Or.inr (Or.inr rfl)

/-- What the checks are put together from. -/
theorem refusals_append {a b : List (Nat × Nat)} : Refusals (a ++ b) ↔ Refusals a ∧ Refusals b :=
  ⟨fun h => ⟨fun f m => h f (List.mem_append_left _ m), fun f m => h f (List.mem_append_right _ m)⟩, fun h => h.1.append h.2⟩

theorem refusals_failIf {p : Bool} {a b : Nat} : Refusals (failIf p a b) ↔ (p = true → 0x11 ≤ a) := by
  cases p <;> simp [Machine.failIf, Refusals]

theorem refusals_ite {p : Prop} [Decidable p] {a b : List (Nat × Nat)} :
    Refusals (if p then a else b) ↔ (p → Refusals a) ∧ (¬p → Refusals b) := by
  by_cases h : p <;> simp [h]

theorem refusals_map {α : Type} {l : List α} {g : α → Nat} {n : Nat} : Refusals (l.map fun a => (n, g a)) ↔ l = [] ∨ 0x11 ≤ n := by
  cases l with
  | nil => simp [Refusals]
  | cons a l => exact ⟨fun h => Or.inr (h _ List.mem_cons_self), fun h => Refusals.map fun _ => h.resolve_left (by simp)⟩

theorem relFails_error (s : State) (ws : List (Nat × ParWrite)) : Refusals (s.relFails ws) := by
  unfold State.relFails
  repeat' first
    | exact Refusals.nil
    | refine Refusals.append ?_ ?_
    | exact Refusals.one (by decide)
    | refine Refusals.ite ?_ ?_
    | exact Refusals.map fun _ => Nat.le_of_ble_eq_true rfl
    | refine Refusals.flatMap fun _ => ?_

theorem calFails_error (s : State) (ctx : Ctx) : Refusals (s.calFails ctx) := Refusals.ite (Refusals.one (by decide)) Refusals.nil

theorem gridFails_error (s : State) (ctx : Ctx) : Refusals (s.gridFails ctx) := Refusals.ite (Refusals.one (by decide)) Refusals.nil

theorem moveFails_least (s : State) (as ts : List Nat) (r : Bool) : (¬ s.moveFails as ts r = 0 → 0x11 ≤ s.moveFails as ts r) ↔ True := by
  rcases s.moveFails_codes as ts r with h | h | h <;> simp [h]

theorem refusals_1 {d : CmdDef} (h : d ∈ [arenaSetDef, askCalDef, askSetDef, auxCalDef,
    auxChSetDef, auxInjectDef, auxLinLoadDef]) (s : State) (c : Cmd) (ctx : Ctx) : Refusals (d.fails s c ctx) := by
  simp only [List.mem_cons, List.not_mem_nil, or_false] at h
  rcases h with rfl | rfl | rfl | rfl | rfl | rfl | rfl <;>
    simp [refusals_append, refusals_failIf, refusals_ite, refusals_map, Refusals.nil, Refusals.one, relFails_error, calFails_error,
      gridFails_error, moveFails_least, setDef, statusDef, clearDef, secDef, actDef, noFails, secFails, spareFails, substFails, timeFails,
      auxChFails, auxChSetFails, State.arenaFails, State.cmpFails, State.slotFails, State.replayFails, State.armFails, State.headerFails,
      State.colFails, arenaSetDef, askCalDef, askSetDef, auxCalDef, auxChSetDef, auxInjectDef, auxLinLoadDef]

theorem refusals_2 {d : CmdDef} (h : d ∈ [auxLoopCfgDef, auxSetDef, bar2MapDef, capCovReadDef,
    capSetDef, cmpHatchLoadDef, cmpRefCheckDef]) (s : State) (c : Cmd) (ctx : Ctx) : Refusals (d.fails s c ctx) := by
  simp only [List.mem_cons, List.not_mem_nil, or_false] at h
  rcases h with rfl | rfl | rfl | rfl | rfl | rfl | rfl <;>
    simp [refusals_append, refusals_failIf, refusals_ite, refusals_map, Refusals.nil, Refusals.one, relFails_error, calFails_error,
      gridFails_error, moveFails_least, setDef, statusDef, clearDef, secDef, actDef, noFails, secFails, spareFails, substFails, timeFails,
      auxChFails, auxChSetFails, State.arenaFails, State.cmpFails, State.slotFails, State.replayFails, State.armFails, State.headerFails,
      State.colFails, auxLoopCfgDef, auxSetDef, bar2MapDef, capCovReadDef, capSetDef, cmpHatchLoadDef, cmpRefCheckDef]

theorem refusals_3 {d : CmdDef} (h : d ∈ [cmpSetDef, corCalAbortDef, corCalRunDef, corSetDef,
    corSetLoadDef, corSetRestoreDef, corSetStoreDef]) (s : State) (c : Cmd) (ctx : Ctx) : Refusals (d.fails s c ctx) := by
  simp only [List.mem_cons, List.not_mem_nil, or_false] at h
  rcases h with rfl | rfl | rfl | rfl | rfl | rfl | rfl <;>
    simp [refusals_append, refusals_failIf, refusals_ite, refusals_map, Refusals.nil, Refusals.one, relFails_error, calFails_error,
      gridFails_error, moveFails_least, setDef, statusDef, clearDef, secDef, actDef, noFails, secFails, spareFails, substFails, timeFails,
      auxChFails, auxChSetFails, State.arenaFails, State.cmpFails, State.slotFails, State.replayFails, State.armFails, State.headerFails,
      State.colFails, cmpSetDef, corCalAbortDef, corCalRunDef, corSetDef, corSetLoadDef, corSetRestoreDef, corSetStoreDef]

theorem refusals_4 {d : CmdDef} (h : d ∈ [corSetSwapDef, evtReadDef, evtRouteDef, groupBeginDef,
    groupEndDef, histReleaseDef, histReplayDef]) (s : State) (c : Cmd) (ctx : Ctx) : Refusals (d.fails s c ctx) := by
  simp only [List.mem_cons, List.not_mem_nil, or_false] at h
  rcases h with rfl | rfl | rfl | rfl | rfl | rfl | rfl <;>
    simp [refusals_append, refusals_failIf, refusals_ite, refusals_map, Refusals.nil, Refusals.one, relFails_error, calFails_error,
      gridFails_error, moveFails_least, setDef, statusDef, clearDef, secDef, actDef, noFails, secFails, spareFails, substFails, timeFails,
      auxChFails, auxChSetFails, State.arenaFails, State.cmpFails, State.slotFails, State.replayFails, State.armFails, State.headerFails,
      State.colFails, corSetSwapDef, evtReadDef, evtRouteDef, groupBeginDef, groupEndDef, histReleaseDef, histReplayDef]

theorem refusals_5 {d : CmdDef} (h : d ∈ [hltClassSetDef, hltCountersReadDef, hltFaultAckDef, hltFaultReadDef,
    hltSetDef, hltTrimReadDef, hltTrimRunDef]) (s : State) (c : Cmd) (ctx : Ctx) : Refusals (d.fails s c ctx) := by
  simp only [List.mem_cons, List.not_mem_nil, or_false] at h
  rcases h with rfl | rfl | rfl | rfl | rfl | rfl | rfl <;>
    simp [refusals_append, refusals_failIf, refusals_ite, refusals_map, Refusals.nil, Refusals.one, relFails_error, calFails_error,
      gridFails_error, moveFails_least, setDef, statusDef, clearDef, secDef, actDef, noFails, secFails, spareFails, substFails, timeFails,
      auxChFails, auxChSetFails, State.arenaFails, State.cmpFails, State.slotFails, State.replayFails, State.armFails, State.headerFails,
      State.colFails, hltClassSetDef, hltCountersReadDef, hltFaultAckDef, hltFaultReadDef, hltSetDef, hltTrimReadDef, hltTrimRunDef]

theorem refusals_6 {d : CmdDef} (h : d ∈ [hltTrimStoreDef, hqCountersClearDef, hqSetDef, jobArmDef,
    jobDisarmDef, lmpBarSetDef, lmpDiagRunDef]) (s : State) (c : Cmd) (ctx : Ctx) : Refusals (d.fails s c ctx) := by
  simp only [List.mem_cons, List.not_mem_nil, or_false] at h
  rcases h with rfl | rfl | rfl | rfl | rfl | rfl | rfl <;>
    simp [refusals_append, refusals_failIf, refusals_ite, refusals_map, Refusals.nil, Refusals.one, relFails_error, calFails_error,
      gridFails_error, moveFails_least, setDef, statusDef, clearDef, secDef, actDef, noFails, secFails, spareFails, substFails, timeFails,
      auxChFails, auxChSetFails, State.arenaFails, State.cmpFails, State.slotFails, State.replayFails, State.armFails, State.headerFails,
      State.colFails, hltTrimStoreDef, hqCountersClearDef, hqSetDef, jobArmDef, jobDisarmDef, lmpBarSetDef, lmpDiagRunDef]

theorem refusals_7 {d : CmdDef} (h : d ∈ [lmpFaultClearDef, lmpPatternApplyDef, lmpPatternLoadDef, lmpPatternReadDef,
    lmpPhaseSetDef, motAckDef, motAxisSetDef]) (s : State) (c : Cmd) (ctx : Ctx) : Refusals (d.fails s c ctx) := by
  simp only [List.mem_cons, List.not_mem_nil, or_false] at h
  rcases h with rfl | rfl | rfl | rfl | rfl | rfl | rfl <;>
    simp [refusals_append, refusals_failIf, refusals_ite, refusals_map, Refusals.nil, Refusals.one, relFails_error, calFails_error,
      gridFails_error, moveFails_least, setDef, statusDef, clearDef, secDef, actDef, noFails, secFails, spareFails, substFails, timeFails,
      auxChFails, auxChSetFails, State.arenaFails, State.cmpFails, State.slotFails, State.replayFails, State.armFails, State.headerFails,
      State.colFails, lmpFaultClearDef, lmpPatternApplyDef, lmpPatternLoadDef, lmpPatternReadDef, lmpPhaseSetDef, motAckDef, motAxisSetDef]

theorem refusals_8 {d : CmdDef} (h : d ∈ [motGearDef, motHomeDef, motJogDef, motMoveDef,
    motPaceSetDef, motPosSetDef, motProfileSetDef]) (s : State) (c : Cmd) (ctx : Ctx) : Refusals (d.fails s c ctx) := by
  simp only [List.mem_cons, List.not_mem_nil, or_false] at h
  rcases h with rfl | rfl | rfl | rfl | rfl | rfl | rfl <;>
    simp [refusals_append, refusals_failIf, refusals_ite, refusals_map, Refusals.nil, Refusals.one, relFails_error, calFails_error,
      gridFails_error, moveFails_least, setDef, statusDef, clearDef, secDef, actDef, noFails, secFails, spareFails, substFails, timeFails,
      auxChFails, auxChSetFails, State.arenaFails, State.cmpFails, State.slotFails, State.replayFails, State.armFails, State.headerFails,
      State.colFails, motGearDef, motHomeDef, motJogDef, motMoveDef, motPaceSetDef, motPosSetDef, motProfileSetDef]

theorem refusals_9 {d : CmdDef} (h : d ∈ [motStopDef, posSetDef, pwrDomainSetDef, pwrKeepAliveDef,
    pwrResetDef, pwrSafeExitDef, queueDisableDef]) (s : State) (c : Cmd) (ctx : Ctx) : Refusals (d.fails s c ctx) := by
  simp only [List.mem_cons, List.not_mem_nil, or_false] at h
  rcases h with rfl | rfl | rfl | rfl | rfl | rfl | rfl <;>
    simp [refusals_append, refusals_failIf, refusals_ite, refusals_map, Refusals.nil, Refusals.one, relFails_error, calFails_error,
      gridFails_error, moveFails_least, setDef, statusDef, clearDef, secDef, actDef, noFails, secFails, spareFails, substFails, timeFails,
      auxChFails, auxChSetFails, State.arenaFails, State.cmpFails, State.slotFails, State.replayFails, State.armFails, State.headerFails,
      State.colFails, motStopDef, posSetDef, pwrDomainSetDef, pwrKeepAliveDef, pwrResetDef, pwrSafeExitDef, queueDisableDef]

theorem refusals_10 {d : CmdDef} (h : d ∈ [queueFlushDef, queueSetupDef, runCloseDef, runOpenDef,
    secAuditReadDef, secCertReadDef, secCosignKeyDef]) (s : State) (c : Cmd) (ctx : Ctx) : Refusals (d.fails s c ctx) := by
  simp only [List.mem_cons, List.not_mem_nil, or_false] at h
  rcases h with rfl | rfl | rfl | rfl | rfl | rfl | rfl <;>
    simp [refusals_append, refusals_failIf, refusals_ite, refusals_map, Refusals.nil, Refusals.one, relFails_error, calFails_error,
      gridFails_error, moveFails_least, setDef, statusDef, clearDef, secDef, actDef, noFails, secFails, spareFails, substFails, timeFails,
      auxChFails, auxChSetFails, State.arenaFails, State.cmpFails, State.slotFails, State.replayFails, State.armFails, State.headerFails,
      State.colFails, queueFlushDef, queueSetupDef, runCloseDef, runOpenDef, secAuditReadDef, secCertReadDef, secCosignKeyDef]

theorem refusals_11 {d : CmdDef} (h : d ∈ [secDebugDef, secFwActivateDef, secFwVerifyDef, secFwWriteDef,
    secPolicySetDef, secRmkDef, secRoleKeyDef]) (s : State) (c : Cmd) (ctx : Ctx) : Refusals (d.fails s c ctx) := by
  simp only [List.mem_cons, List.not_mem_nil, or_false] at h
  rcases h with rfl | rfl | rfl | rfl | rfl | rfl | rfl <;>
    simp [refusals_append, refusals_failIf, refusals_ite, refusals_map, Refusals.nil, Refusals.one, relFails_error, calFails_error,
      gridFails_error, moveFails_least, setDef, statusDef, clearDef, secDef, actDef, noFails, secFails, spareFails, substFails, timeFails,
      auxChFails, auxChSetFails, State.arenaFails, State.cmpFails, State.slotFails, State.replayFails, State.armFails, State.headerFails,
      State.colFails, secDebugDef, secFwActivateDef, secFwVerifyDef, secFwWriteDef, secPolicySetDef, secRmkDef, secRoleKeyDef]

theorem refusals_12 {d : CmdDef} (h : d ∈ [secSelftestDef, secSvnCommitDef, secZeroiseDef, senGainSetDef,
    senGenSetDef, senLaneRestoreDef, senLaneSetDef]) (s : State) (c : Cmd) (ctx : Ctx) : Refusals (d.fails s c ctx) := by
  simp only [List.mem_cons, List.not_mem_nil, or_false] at h
  rcases h with rfl | rfl | rfl | rfl | rfl | rfl | rfl <;>
    simp [refusals_append, refusals_failIf, refusals_ite, refusals_map, Refusals.nil, Refusals.one, relFails_error, calFails_error,
      gridFails_error, moveFails_least, setDef, statusDef, clearDef, secDef, actDef, noFails, secFails, spareFails, substFails, timeFails,
      auxChFails, auxChSetFails, State.arenaFails, State.cmpFails, State.slotFails, State.replayFails, State.armFails, State.headerFails,
      State.colFails, secSelftestDef, secSvnCommitDef, secZeroiseDef, senGainSetDef, senGenSetDef, senLaneRestoreDef, senLaneSetDef]

theorem refusals_13 {d : CmdDef} (h : d ∈ [senSnapshotDef, senSpareForceDef, senSubstLoadDef, senTrimRunDef,
    senWaveLoadDef, seqSetDef, streamSetDef]) (s : State) (c : Cmd) (ctx : Ctx) : Refusals (d.fails s c ctx) := by
  simp only [List.mem_cons, List.not_mem_nil, or_false] at h
  rcases h with rfl | rfl | rfl | rfl | rfl | rfl | rfl <;>
    simp [refusals_append, refusals_failIf, refusals_ite, refusals_map, Refusals.nil, Refusals.one, relFails_error, calFails_error,
      gridFails_error, moveFails_least, setDef, statusDef, clearDef, secDef, actDef, noFails, secFails, spareFails, substFails, timeFails,
      auxChFails, auxChSetFails, State.arenaFails, State.cmpFails, State.slotFails, State.replayFails, State.armFails, State.headerFails,
      State.colFails, senSnapshotDef, senSpareForceDef, senSubstLoadDef, senTrimRunDef, senWaveLoadDef, seqSetDef, streamSetDef]

theorem refusals_14 {d : CmdDef} (h : d ∈ [sysCoreResetDef, sysNopDef, sysSetDef, sysStatusDef,
    tdcArmDef, tdcChannelSetDef, tdcInputSetDef]) (s : State) (c : Cmd) (ctx : Ctx) : Refusals (d.fails s c ctx) := by
  simp only [List.mem_cons, List.not_mem_nil, or_false] at h
  rcases h with rfl | rfl | rfl | rfl | rfl | rfl | rfl <;>
    simp [refusals_append, refusals_failIf, refusals_ite, refusals_map, Refusals.nil, Refusals.one, relFails_error, calFails_error,
      gridFails_error, moveFails_least, setDef, statusDef, clearDef, secDef, actDef, noFails, secFails, spareFails, substFails, timeFails,
      auxChFails, auxChSetFails, State.arenaFails, State.cmpFails, State.slotFails, State.replayFails, State.armFails, State.headerFails,
      State.colFails, sysCoreResetDef, sysNopDef, sysSetDef, sysStatusDef, tdcArmDef, tdcChannelSetDef, tdcInputSetDef]

theorem refusals_15 {d : CmdDef} (h : d ∈ [timeSetDef,
    ]) (s : State) (c : Cmd) (ctx : Ctx) : Refusals (d.fails s c ctx) := by
  simp only [List.mem_cons, List.not_mem_nil, or_false] at h
  rcases h with rfl <;>
    simp [refusals_append, refusals_failIf, refusals_ite, refusals_map, Refusals.nil, Refusals.one, relFails_error, calFails_error,
      gridFails_error, moveFails_least, setDef, statusDef, clearDef, secDef, actDef, noFails, secFails, spareFails, substFails, timeFails,
      auxChFails, auxChSetFails, State.arenaFails, State.cmpFails, State.slotFails, State.replayFails, State.armFails, State.headerFails,
      State.colFails, timeSetDef]

/-- A host command runs by its definition, which has the opcode of R458 and refuses with error statuses. -/
theorem exec_runHost {t : Nat} {c : Cmd} : ∀ {i : Instr}, i.packet = some (t, c) →
    ∃ d : CmdDef, d.op = i.opcode ∧ (∀ s c ctx, Refusals (d.fails s c ctx)) ∧ ∀ s, exec i s = .next (runHost d t c s)
  | .sysNop _ _, rfl => ⟨_, rfl, refusals_14 (d := sysNopDef) (by simp), fun _ => rfl⟩
  | .sysInfo _ _, rfl => ⟨_, rfl, fun _ _ _ => Refusals.nil, fun _ => rfl⟩
  | .sysSet _ _, rfl => ⟨_, rfl, refusals_14 (d := sysSetDef) (by simp), fun _ => rfl⟩
  | .evtRoute _ _, rfl => ⟨_, rfl, refusals_4 (d := evtRouteDef) (by simp), fun _ => rfl⟩
  | .evtRead _ _, rfl => ⟨_, rfl, refusals_4 (d := evtReadDef) (by simp), fun _ => rfl⟩
  | .sysStatus _ _, rfl => ⟨_, rfl, refusals_14 (d := sysStatusDef) (by simp), fun _ => rfl⟩
  | .sysCoreReset _ _, rfl => ⟨_, rfl, refusals_14 (d := sysCoreResetDef) (by simp), fun _ => rfl⟩
  | .sysCountersClear _ _, rfl => ⟨_, rfl, fun _ _ _ => Refusals.nil, fun _ => rfl⟩
  | .seqSet _ _, rfl => ⟨_, rfl, refusals_13 (d := seqSetDef) (by simp), fun _ => rfl⟩
  | .seqStatus _ _, rfl => ⟨_, rfl, fun _ _ _ => Refusals.nil, fun _ => rfl⟩
  | .seqBudget _ _, rfl => ⟨_, rfl, fun _ _ _ => Refusals.nil, fun _ => rfl⟩
  | .groupBegin _ _, rfl => ⟨_, rfl, refusals_4 (d := groupBeginDef) (by simp), fun _ => rfl⟩
  | .groupEnd _ _, rfl => ⟨_, rfl, refusals_4 (d := groupEndDef) (by simp), fun _ => rfl⟩
  | .seqCountersClear _ _, rfl => ⟨_, rfl, fun _ _ _ => Refusals.nil, fun _ => rfl⟩
  | .senGenSet _ _, rfl => ⟨_, rfl, refusals_12 (d := senGenSetDef) (by simp), fun _ => rfl⟩
  | .senWaveLoad _ _, rfl => ⟨_, rfl, refusals_13 (d := senWaveLoadDef) (by simp), fun _ => rfl⟩
  | .senLaneSet _ _, rfl => ⟨_, rfl, refusals_12 (d := senLaneSetDef) (by simp), fun _ => rfl⟩
  | .senGainSet _ _, rfl => ⟨_, rfl, refusals_12 (d := senGainSetDef) (by simp), fun _ => rfl⟩
  | .senSubstLoad _ _, rfl => ⟨_, rfl, refusals_13 (d := senSubstLoadDef) (by simp), fun _ => rfl⟩
  | .senLaneRestore _ _, rfl => ⟨_, rfl, refusals_12 (d := senLaneRestoreDef) (by simp), fun _ => rfl⟩
  | .senSpareForce _ _, rfl => ⟨_, rfl, refusals_13 (d := senSpareForceDef) (by simp), fun _ => rfl⟩
  | .senStatus _ _, rfl => ⟨_, rfl, fun _ _ _ => Refusals.nil, fun _ => rfl⟩
  | .senSnapshot _ _, rfl => ⟨_, rfl, refusals_13 (d := senSnapshotDef) (by simp), fun _ => rfl⟩
  | .senTrimRun _ _, rfl => ⟨_, rfl, refusals_13 (d := senTrimRunDef) (by simp), fun _ => rfl⟩
  | .senCountersClear _ _, rfl => ⟨_, rfl, fun _ _ _ => Refusals.nil, fun _ => rfl⟩
  | .corSet _ _, rfl => ⟨_, rfl, refusals_3 (d := corSetDef) (by simp), fun _ => rfl⟩
  | .corSetLoad _ _, rfl => ⟨_, rfl, refusals_3 (d := corSetLoadDef) (by simp), fun _ => rfl⟩
  | .corSetSwap _ _, rfl => ⟨_, rfl, refusals_4 (d := corSetSwapDef) (by simp), fun _ => rfl⟩
  | .corSetCheck _ _, rfl => ⟨_, rfl, by simp [statusDef, secDef, refusals_append, refusals_failIf, refusals_map, secFails, State.slotFails, State.headerFails, refusals_ite, Refusals.nil, Refusals.one], fun _ => rfl⟩
  | .corSetStore _ _, rfl => ⟨_, rfl, refusals_3 (d := corSetStoreDef) (by simp), fun _ => rfl⟩
  | .corSetRestore _ _, rfl => ⟨_, rfl, refusals_3 (d := corSetRestoreDef) (by simp), fun _ => rfl⟩
  | .corCalRun _ _, rfl => ⟨_, rfl, refusals_3 (d := corCalRunDef) (by simp), fun _ => rfl⟩
  | .corCalAbort _ _, rfl => ⟨_, rfl, refusals_3 (d := corCalAbortDef) (by simp), fun _ => rfl⟩
  | .corCalStatus _ _, rfl => ⟨_, rfl, fun _ _ _ => Refusals.nil, fun _ => rfl⟩
  | .corStatus _ _, rfl => ⟨_, rfl, fun _ _ _ => Refusals.nil, fun _ => rfl⟩
  | .corCountersClear _ _, rfl => ⟨_, rfl, fun _ _ _ => Refusals.nil, fun _ => rfl⟩
  | .runOpen _ _, rfl => ⟨_, rfl, refusals_10 (d := runOpenDef) (by simp), fun _ => rfl⟩
  | .runClose _ _, rfl => ⟨_, rfl, refusals_10 (d := runCloseDef) (by simp), fun _ => rfl⟩
  | .jobArm _ _, rfl => ⟨_, rfl, refusals_6 (d := jobArmDef) (by simp), fun _ => rfl⟩
  | .jobDisarm _ _, rfl => ⟨_, rfl, refusals_6 (d := jobDisarmDef) (by simp), fun _ => rfl⟩
  | .capSet _ _, rfl => ⟨_, rfl, refusals_2 (d := capSetDef) (by simp), fun _ => rfl⟩
  | .capStatus _ _, rfl => ⟨_, rfl, fun _ _ _ => Refusals.nil, fun _ => rfl⟩
  | .capCovRead _ _, rfl => ⟨_, rfl, refusals_2 (d := capCovReadDef) (by simp), fun _ => rfl⟩
  | .capCountersClear _ _, rfl => ⟨_, rfl, fun _ _ _ => Refusals.nil, fun _ => rfl⟩
  | .cmpSet _ _, rfl => ⟨_, rfl, refusals_3 (d := cmpSetDef) (by simp), fun _ => rfl⟩
  | .cmpRefCheck _ _, rfl => ⟨_, rfl, refusals_2 (d := cmpRefCheckDef) (by simp), fun _ => rfl⟩
  | .cmpHatchLoad _ _, rfl => ⟨_, rfl, refusals_2 (d := cmpHatchLoadDef) (by simp), fun _ => rfl⟩
  | .cmpStatus _ _, rfl => ⟨_, rfl, fun _ _ _ => Refusals.nil, fun _ => rfl⟩
  | .cmpCountersClear _ _, rfl => ⟨_, rfl, fun _ _ _ => Refusals.nil, fun _ => rfl⟩
  | .queueSetup _ _, rfl => ⟨_, rfl, refusals_10 (d := queueSetupDef) (by simp), fun _ => rfl⟩
  | .queueDisable _ _, rfl => ⟨_, rfl, refusals_9 (d := queueDisableDef) (by simp), fun _ => rfl⟩
  | .queueFlush _ _, rfl => ⟨_, rfl, refusals_10 (d := queueFlushDef) (by simp), fun _ => rfl⟩
  | .queueStatus _ _, rfl => ⟨_, rfl, fun _ _ _ => Refusals.nil, fun _ => rfl⟩
  | .streamSet _ _, rfl => ⟨_, rfl, refusals_13 (d := streamSetDef) (by simp), fun _ => rfl⟩
  | .hqSet _ _, rfl => ⟨_, rfl, refusals_6 (d := hqSetDef) (by simp), fun _ => rfl⟩
  | .arenaSet _ _, rfl => ⟨_, rfl, refusals_1 (d := arenaSetDef) (by simp), fun _ => rfl⟩
  | .arenaStatus _ _, rfl => ⟨_, rfl, fun _ _ _ => Refusals.nil, fun _ => rfl⟩
  | .histReplay _ _, rfl => ⟨_, rfl, refusals_4 (d := histReplayDef) (by simp), fun _ => rfl⟩
  | .histRelease _ _, rfl => ⟨_, rfl, refusals_4 (d := histReleaseDef) (by simp), fun _ => rfl⟩
  | .bar2Map _ _, rfl => ⟨_, rfl, refusals_2 (d := bar2MapDef) (by simp), fun _ => rfl⟩
  | .hqCountersClear _ _, rfl => ⟨_, rfl, refusals_6 (d := hqCountersClearDef) (by simp), fun _ => rfl⟩
  | .lmpBarSet _ _, rfl => ⟨_, rfl, refusals_6 (d := lmpBarSetDef) (by simp), fun _ => rfl⟩
  | .lmpPhaseSet _ _, rfl => ⟨_, rfl, refusals_7 (d := lmpPhaseSetDef) (by simp), fun _ => rfl⟩
  | .lmpPatternLoad _ _, rfl => ⟨_, rfl, refusals_7 (d := lmpPatternLoadDef) (by simp), fun _ => rfl⟩
  | .lmpPatternApply _ _, rfl => ⟨_, rfl, refusals_7 (d := lmpPatternApplyDef) (by simp), fun _ => rfl⟩
  | .lmpPatternRead _ _, rfl => ⟨_, rfl, refusals_7 (d := lmpPatternReadDef) (by simp), fun _ => rfl⟩
  | .lmpDiagRun _ _, rfl => ⟨_, rfl, refusals_6 (d := lmpDiagRunDef) (by simp), fun _ => rfl⟩
  | .lmpFaults _ _, rfl => ⟨_, rfl, by simp [statusDef, secDef, refusals_append, refusals_failIf, refusals_map, secFails, State.slotFails, State.headerFails], fun _ => rfl⟩
  | .lmpFaultClear _ _, rfl => ⟨_, rfl, refusals_7 (d := lmpFaultClearDef) (by simp), fun _ => rfl⟩
  | .lmpStatus _ _, rfl => ⟨_, rfl, fun _ _ _ => Refusals.nil, fun _ => rfl⟩
  | .lmpCountersClear _ _, rfl => ⟨_, rfl, fun _ _ _ => Refusals.nil, fun _ => rfl⟩
  | .motAxisSet _ _, rfl => ⟨_, rfl, refusals_7 (d := motAxisSetDef) (by simp), fun _ => rfl⟩
  | .motProfileSet _ _, rfl => ⟨_, rfl, refusals_8 (d := motProfileSetDef) (by simp), fun _ => rfl⟩
  | .motMove _ _, rfl => ⟨_, rfl, refusals_8 (d := motMoveDef) (by simp), fun _ => rfl⟩
  | .motJog _ _, rfl => ⟨_, rfl, refusals_8 (d := motJogDef) (by simp), fun _ => rfl⟩
  | .motStop _ _, rfl => ⟨_, rfl, refusals_9 (d := motStopDef) (by simp), fun _ => rfl⟩
  | .motGear _ _, rfl => ⟨_, rfl, refusals_8 (d := motGearDef) (by simp), fun _ => rfl⟩
  | .motHome _ _, rfl => ⟨_, rfl, refusals_8 (d := motHomeDef) (by simp), fun _ => rfl⟩
  | .motAck _ _, rfl => ⟨_, rfl, refusals_7 (d := motAckDef) (by simp), fun _ => rfl⟩
  | .motPosSet _ _, rfl => ⟨_, rfl, refusals_8 (d := motPosSetDef) (by simp), fun _ => rfl⟩
  | .motPaceSet _ _, rfl => ⟨_, rfl, refusals_8 (d := motPaceSetDef) (by simp), fun _ => rfl⟩
  | .motStatus _ _, rfl => ⟨_, rfl, fun _ _ _ => Refusals.nil, fun _ => rfl⟩
  | .motCountersClear _ _, rfl => ⟨_, rfl, fun _ _ _ => Refusals.nil, fun _ => rfl⟩
  | .posSet _ _, rfl => ⟨_, rfl, refusals_9 (d := posSetDef) (by simp), fun _ => rfl⟩
  | .posStatus _ _, rfl => ⟨_, rfl, fun _ _ _ => Refusals.nil, fun _ => rfl⟩
  | .tdcInputSet _ _, rfl => ⟨_, rfl, refusals_14 (d := tdcInputSetDef) (by simp), fun _ => rfl⟩
  | .tdcChannelSet _ _, rfl => ⟨_, rfl, refusals_14 (d := tdcChannelSetDef) (by simp), fun _ => rfl⟩
  | .tdcArm _ _, rfl => ⟨_, rfl, refusals_14 (d := tdcArmDef) (by simp), fun _ => rfl⟩
  | .timeSet _ _, rfl => ⟨_, rfl, refusals_15 (d := timeSetDef) (by simp), fun _ => rfl⟩
  | .timeStatus _ _, rfl => ⟨_, rfl, fun _ _ _ => Refusals.nil, fun _ => rfl⟩
  | .posCountersClear _ _, rfl => ⟨_, rfl, fun _ _ _ => Refusals.nil, fun _ => rfl⟩
  | .auxSet _ _, rfl => ⟨_, rfl, refusals_2 (d := auxSetDef) (by simp), fun _ => rfl⟩
  | .auxChSet _ _, rfl => ⟨_, rfl, refusals_1 (d := auxChSetDef) (by simp), fun _ => rfl⟩
  | .auxLinLoad _ _, rfl => ⟨_, rfl, refusals_1 (d := auxLinLoadDef) (by simp), fun _ => rfl⟩
  | .auxInject _ _, rfl => ⟨_, rfl, refusals_1 (d := auxInjectDef) (by simp), fun _ => rfl⟩
  | .auxCal _ _, rfl => ⟨_, rfl, refusals_1 (d := auxCalDef) (by simp), fun _ => rfl⟩
  | .auxLoopCfg _ _, rfl => ⟨_, rfl, refusals_2 (d := auxLoopCfgDef) (by simp), fun _ => rfl⟩
  | .auxStatus _ _, rfl => ⟨_, rfl, fun _ _ _ => Refusals.nil, fun _ => rfl⟩
  | .auxCountersClear _ _, rfl => ⟨_, rfl, fun _ _ _ => Refusals.nil, fun _ => rfl⟩
  | .secIdentity _ _, rfl => ⟨_, rfl, fun _ _ _ => Refusals.nil, fun _ => rfl⟩
  | .secCertRead _ _, rfl => ⟨_, rfl, refusals_10 (d := secCertReadDef) (by simp), fun _ => rfl⟩
  | .secRoleKey _ _, rfl => ⟨_, rfl, refusals_11 (d := secRoleKeyDef) (by simp), fun _ => rfl⟩
  | .secRmk _ _, rfl => ⟨_, rfl, refusals_11 (d := secRmkDef) (by simp), fun _ => rfl⟩
  | .secPolicySet _ _, rfl => ⟨_, rfl, refusals_11 (d := secPolicySetDef) (by simp), fun _ => rfl⟩
  | .secAuditRead _ _, rfl => ⟨_, rfl, refusals_10 (d := secAuditReadDef) (by simp), fun _ => rfl⟩
  | .secAuditSign _ _, rfl => ⟨_, rfl, fun _ _ _ => Refusals.failIf (by decide), fun _ => rfl⟩
  | .secMapSign _ _, rfl => ⟨_, rfl, fun _ _ _ => Refusals.append (Refusals.failIf (by decide)) (Refusals.failIf (by decide)), fun _ => rfl⟩
  | .secFwWrite _ _, rfl => ⟨_, rfl, refusals_11 (d := secFwWriteDef) (by simp), fun _ => rfl⟩
  | .secFwVerify _ _, rfl => ⟨_, rfl, refusals_11 (d := secFwVerifyDef) (by simp), fun _ => rfl⟩
  | .secFwActivate _ _, rfl => ⟨_, rfl, refusals_11 (d := secFwActivateDef) (by simp), fun _ => rfl⟩
  | .secSvnCommit _ _, rfl => ⟨_, rfl, refusals_12 (d := secSvnCommitDef) (by simp), fun _ => rfl⟩
  | .secSelftest _ _, rfl => ⟨_, rfl, refusals_12 (d := secSelftestDef) (by simp), fun _ => rfl⟩
  | .secZeroise _ _, rfl => ⟨_, rfl, refusals_12 (d := secZeroiseDef) (by simp), fun _ => rfl⟩
  | .secDebug _ _, rfl => ⟨_, rfl, refusals_11 (d := secDebugDef) (by simp), fun _ => rfl⟩
  | .secCosignKey _ _, rfl => ⟨_, rfl, refusals_10 (d := secCosignKeyDef) (by simp), fun _ => rfl⟩
  | .secCountersClear _ _, rfl => ⟨_, rfl, fun _ _ _ => Refusals.nil, fun _ => rfl⟩
  | .hltStatus _ _, rfl => ⟨_, rfl, fun _ _ _ => Refusals.nil, fun _ => rfl⟩
  | .hltFaultRead _ _, rfl => ⟨_, rfl, refusals_5 (d := hltFaultReadDef) (by simp), fun _ => rfl⟩
  | .hltFaultAck _ _, rfl => ⟨_, rfl, refusals_5 (d := hltFaultAckDef) (by simp), fun _ => rfl⟩
  | .hltSet _ _, rfl => ⟨_, rfl, refusals_5 (d := hltSetDef) (by simp), fun _ => rfl⟩
  | .hltClassSet _ _, rfl => ⟨_, rfl, refusals_5 (d := hltClassSetDef) (by simp), fun _ => rfl⟩
  | .hltMonitorRead _ _, rfl => ⟨_, rfl, fun _ _ _ => Refusals.nil, fun _ => rfl⟩
  | .hltTrimRun _ _, rfl => ⟨_, rfl, refusals_5 (d := hltTrimRunDef) (by simp), fun _ => rfl⟩
  | .hltTrimStore _ _, rfl => ⟨_, rfl, refusals_6 (d := hltTrimStoreDef) (by simp), fun _ => rfl⟩
  | .hltTrimRead _ _, rfl => ⟨_, rfl, refusals_5 (d := hltTrimReadDef) (by simp), fun _ => rfl⟩
  | .hltCountersRead _ _, rfl => ⟨_, rfl, refusals_5 (d := hltCountersReadDef) (by simp), fun _ => rfl⟩
  | .hltCountersClear _ _, rfl => ⟨_, rfl, fun _ _ _ => Refusals.nil, fun _ => rfl⟩
  | .askSet _ _, rfl => ⟨_, rfl, refusals_1 (d := askSetDef) (by simp), fun _ => rfl⟩
  | .askCal _ _, rfl => ⟨_, rfl, refusals_1 (d := askCalDef) (by simp), fun _ => rfl⟩
  | .askStatus _ _, rfl => ⟨_, rfl, fun _ _ _ => Refusals.nil, fun _ => rfl⟩
  | .askCountersClear _ _, rfl => ⟨_, rfl, fun _ _ _ => Refusals.nil, fun _ => rfl⟩
  | .pwrStatus _ _, rfl => ⟨_, rfl, fun _ _ _ => Refusals.nil, fun _ => rfl⟩
  | .pwrDomainSet _ _, rfl => ⟨_, rfl, refusals_9 (d := pwrDomainSetDef) (by simp), fun _ => rfl⟩
  | .pwrSafeExit _ _, rfl => ⟨_, rfl, refusals_9 (d := pwrSafeExitDef) (by simp), fun _ => rfl⟩
  | .pwrKeepAlive _ _, rfl => ⟨_, rfl, refusals_9 (d := pwrKeepAliveDef) (by simp), fun _ => rfl⟩
  | .pwrReset _ _, rfl => ⟨_, rfl, refusals_9 (d := pwrResetDef) (by simp), fun _ => rfl⟩
  | .pwrCountersClear _ _, rfl => ⟨_, rfl, fun _ _ _ => Refusals.nil, fun _ => rfl⟩

/-! ### Refusals -/

/-- The first failure is one of them, with a status no greater than any (R455). -/
theorem firstFail_le : ∀ {l : List (Nat × Nat)} {g : Nat × Nat}, g ∈ l → ∃ f, firstFail l = some f ∧ f ∈ l ∧ f.1 ≤ g.1
  | a :: l, g, h => by
    unfold firstFail
    rcases List.mem_cons.1 h with rfl | h
    · split
      · exact ⟨_, rfl, List.mem_cons_self, le_rfl⟩
      · next x e =>
        split
        · next lt =>
          obtain ⟨f, ef, hf, -⟩ := firstFail_mem e
          exact ⟨x, rfl, List.mem_cons_of_mem _ hf, lt.le⟩
        · exact ⟨_, rfl, List.mem_cons_self, le_rfl⟩
    · obtain ⟨f, e, m, le⟩ := firstFail_le h
      simp only [e]
      split
      · exact ⟨f, rfl, List.mem_cons_of_mem _ m, le⟩
      · next nlt => exact ⟨a, rfl, List.mem_cons_self, by omega⟩
where firstFail_mem : ∀ {l : List (Nat × Nat)} {x : Nat × Nat}, firstFail l = some x → ∃ f, f = x ∧ x ∈ l ∧ True
  | a :: l, x, h => by
    unfold firstFail at h
    split at h
    · cases h; exact ⟨_, rfl, List.mem_cons_self, trivial⟩
    · next y e =>
      obtain ⟨_, -, m, -⟩ := firstFail_mem e
      split at h
      · cases h; exact ⟨_, rfl, List.mem_cons_of_mem _ m, trivial⟩
      · cases h; exact ⟨_, rfl, List.mem_cons_self, trivial⟩

theorem firstFail_head {a : Nat × Nat} {l : List (Nat × Nat)} (h : ∀ f ∈ l, a.1 ≤ f.1) : firstFail (a :: l) = some a := by
  unfold firstFail
  split
  · rfl
  · next x e =>
    obtain ⟨_, -, m, -⟩ := firstFail_le.firstFail_mem e
    rw [if_neg (by have := h _ m; omega)]

theorem commonFails_error (s : State) (d : CmdDef) (c : Cmd) (ws : List (Nat × ParWrite)) : Refusals (s.commonFails d c ws) := by
  unfold State.commonFails
  refine .append (.append (.append (.ite (.one (by decide)) .nil) ?_) (.map fun _ => Nat.le_refl _)) (.ite (.one (by decide)) .nil)
  split
  · exact .one (by decide)
  · exact .ite .nil (.append (.append (.ite .nil (.one (by decide))) (.ite (.one (by decide)) .nil)) (.ite (.one (by decide)) .nil))

/-- A command with a failure is refused with a status no greater than that one's. -/
theorem judge_refused {d : CmdDef} {v : State} {c : Cmd} {cid : Nat} (alone : v.groupOn c.ring = none)
    (ok : ∀ s c ctx, Refusals (d.fails s c ctx)) {g : Nat × Nat}
    (m : g ∈ v.commonFails d (c.padded (d.need c)) (d.writes v (c.padded (d.need c))) ++
      (if d.op / 256 = 0x0C ∧ (c.padded (d.need c)).ring ≠ 3 then [(0x13, 0)] else []) ++
      (if !false && v.needsEnvelope d.op (c.padded (d.need c)).words then [(0x20, 0)] else [])) :
    ∃ f : Nat × Nat, 0x11 ≤ f.1 ∧ f.1 ≤ g.1 ∧ (v.judge d cid c false = v.reply cid f.1 f.2 ∨
      (f.1 = 0x14 ∧ 0x14 < g.1 ∧ v.judge d cid c false = ((v.count .SEC_AUDIT_REFUSED).raise .SEC_AUDIT_FULL).reply cid f.1 f.2)) := by
  have grp : (if groupOp d.op then none else v.groupOn (c.padded (d.need c)).ring) = none := by split <;> [rfl; exact alone]
  unfold State.judge
  generalize c.padded (d.need c) = c' at grp m ⊢
  simp only [grp]
  generalize hr : (if d.op / 256 = 0x0C ∧ c'.ring ≠ 3 then [(0x13, 0)] else [] : List (Nat × Nat)) = ringFail at m ⊢
  generalize ha : (if !false && v.needsEnvelope d.op c'.words then [(0x20, 0)] else [] : List (Nat × Nat)) = auth at m ⊢
  generalize hc : v.commonFails d c' (d.writes v c') = common at m ⊢
  generalize hf : d.fails v _ _ = fs
  have rf : Refusals fs := hf ▸ ok _ _ _
  have rc : Refusals common := hc ▸ commonFails_error _ _ _ _
  have rr : Refusals ringFail := hr ▸ .ite (.one (by decide)) .nil
  have ra : Refusals auth := ha ▸ .ite (.one (by decide)) .nil
  have all : Refusals (common ++ ringFail ++ fs ++ auth) := ((rc.append rr).append rf).append ra
  have m' : g ∈ common ++ ringFail ++ fs ++ auth := by
    simp only [List.mem_append] at m ⊢; tauto
  obtain ⟨o, eo, mo, lo⟩ := firstFail_le m'
  have oge := all o mo
  rw [eo]
  by_cases full : (audited d.op c'.words && v.auditFull) = true
  · rw [if_pos full]
    simp only [Option.toList, List.cons_append, List.nil_append]
    by_cases lt : 0x14 < o.1
    · have : firstFail [o, (0x14, 0)] = some (0x14, 0) := by simp [firstFail, lt]
      rw [this]
      have ne : ¬ (o = (0x14, 0)) := by rintro rfl; simp at lt
      exact ⟨(0x14, 0), by decide, by show 0x14 ≤ g.1; omega, Or.inr ⟨rfl, by omega, by simp [ne]⟩⟩
    · have : firstFail [o, (0x14, 0)] = some o := by simp [firstFail, lt]
      rw [this]
      exact ⟨o, oge, lo, Or.inl (by simp)⟩
  · rw [if_neg full]
    have : firstFail ((some o).toList ++ []) = some o := by simp [firstFail]
    rw [this]
    exact ⟨o, oge, lo, Or.inl (by simp)⟩

/-- A count above 248 is refused before everything else (R455). -/
theorem judge_count {d : CmdDef} {v : State} {c : Cmd} {cid : Nat} (alone : v.groupOn c.ring = none)
    (ok : ∀ s c ctx, Refusals (d.fails s c ctx)) (h : 248 < c.words.length) : v.judge d cid c false = v.reply cid 0x11 0xFF := by
  have grp : (if groupOp d.op then none else v.groupOn (c.padded (d.need c)).ring) = none := by split <;> [rfl; exact alone]
  unfold State.judge
  have h : 248 < (c.padded (d.need c)).words.length := by rw [Cmd.padded_length]; omega
  generalize c.padded (d.need c) = c' at grp h ⊢
  simp only [grp]
  obtain ⟨rest, er, rr⟩ : ∃ rest, v.commonFails d c' (d.writes v c') = (0x11, 0xFF) :: rest ∧ Refusals rest := by
    have := commonFails_error v d c' (d.writes v c')
    unfold State.commonFails at this ⊢
    rw [if_pos h] at this ⊢
    exact ⟨_, rfl, fun f m => this f (List.mem_cons_of_mem _ m)⟩
  simp only [er, List.cons_append]
  generalize hx : _ ++ (if !false && v.needsEnvelope d.op c'.words then [(0x20, 0)] else [] : List (Nat × Nat)) = tail
  have e := firstFail_head (a := (0x11, 0xFF)) (l := tail)
    (hx ▸ ((rr.append (.ite (.one (by decide)) .nil)).append (ok _ _ _)).append (.ite (.one (by decide)) .nil))
  simp only [e]
  by_cases full : (audited d.op c'.words && v.auditFull) = true <;> simp [full, firstFail]

end Sys2Proof.Machine
end

