-- ==== Sys2Proof/Laws/Sparse.lean ====
section
/-! SUPPORT. What reads of a finite map give after writes, and that writes keep the canonical form. -/

set_option Elab.async false

namespace Sys2Proof.Machine

variable {α : Type}

@[simp] theorem Sparse.get_nil (d : α) (k : Nat) : Sparse.get ([] : Sparse α) d k = d := rfl

theorem Sparse.get_drop_self (m : Sparse α) (d : α) (k : Nat) : Sparse.get (Sparse.drop m k) d k = d := by
  induction m with
  | nil => rfl
  | cons x m ih =>
    obtain ⟨j, v⟩ := x
    by_cases h : j = k <;> simp [Sparse.drop, Sparse.get, h, ih]

theorem Sparse.get_drop_ne (m : Sparse α) (d : α) {k k' : Nat} (h : k' ≠ k) :
    Sparse.get (Sparse.drop m k) d k' = Sparse.get m d k' := by
  induction m with
  | nil => rfl
  | cons x m ih =>
    obtain ⟨j, v⟩ := x
    by_cases hj : j = k
    · subst hj
      simp [Sparse.drop, Sparse.get, ih, Ne.symm h]
    · simp [Sparse.drop, Sparse.get, hj, ih]

theorem Sparse.get_put_self (m : Sparse α) (d : α) (k : Nat) (x : α) : Sparse.get (Sparse.put m k x) d k = x := by
  induction m with
  | nil => simp [Sparse.put, Sparse.get]
  | cons y m ih =>
    obtain ⟨j, v⟩ := y
    by_cases hj : j = k
    · simp [Sparse.put, Sparse.get, hj]
    · by_cases hk : k < j <;> simp [Sparse.put, Sparse.get, hj, hk, ih]

theorem Sparse.get_put_ne (m : Sparse α) (d : α) {k k' : Nat} (x : α) (h : k' ≠ k) :
    Sparse.get (Sparse.put m k x) d k' = Sparse.get m d k' := by
  induction m with
  | nil => simp [Sparse.put, Sparse.get, Ne.symm h]
  | cons y m ih =>
    obtain ⟨j, v⟩ := y
    by_cases hj : j = k
    · subst hj
      simp [Sparse.put, Sparse.get, Ne.symm h]
    · by_cases hk : k < j
      · simp [Sparse.put, Sparse.get, hj, hk, Ne.symm h]
      · simp [Sparse.put, Sparse.get, hj, hk, ih]

/-- A read of the key written gives the value written. -/
@[simp] theorem Sparse.get_set_self [DecidableEq α] (m : Sparse α) (d : α) (k : Nat) (x : α) :
    Sparse.get (Sparse.set m d k x) d k = x := by
  by_cases h : x = d
  · simp [Sparse.set, h, Sparse.get_drop_self]
  · simp [Sparse.set, h, Sparse.get_put_self]

/-- A read of any other key gives what it gave, whatever that key reads as unlisted. -/
theorem Sparse.get_set_ne [DecidableEq α] (m : Sparse α) (d d' : α) {k k' : Nat} (x : α) (h : k' ≠ k) :
    Sparse.get (Sparse.set m d k x) d' k' = Sparse.get m d' k' := by
  by_cases hx : x = d
  · simp [Sparse.set, hx, Sparse.get_drop_ne _ _ h]
  · simp [Sparse.set, hx, Sparse.get_put_ne _ _ _ h]

/-! ### The canonical form -/

theorem Sparse.wfFrom_mono [DecidableEq α] (f : Nat → α) {lo lo' : Nat} (h : lo' ≤ lo) :
    ∀ (m : Sparse α), Sparse.wfFrom f lo m = true → Sparse.wfFrom f lo' m = true
  | [], _ => rfl
  | (k, v) :: m, w => by
    simp only [Sparse.wfFrom, Bool.and_eq_true, decide_eq_true_eq] at w ⊢
    exact ⟨⟨le_trans h w.1.1, w.1.2⟩, w.2⟩

theorem Sparse.drop_wfFrom [DecidableEq α] (f : Nat → α) (k : Nat) :
    ∀ (m : Sparse α) (lo : Nat), Sparse.wfFrom f lo m = true → Sparse.wfFrom f lo (Sparse.drop m k) = true
  | [], _, _ => rfl
  | (j, v) :: m, lo, w => by
    simp only [Sparse.wfFrom, Bool.and_eq_true, decide_eq_true_eq] at w
    have ih := Sparse.drop_wfFrom f k m (j + 1) w.2
    by_cases h : j = k
    · simp only [Sparse.drop, h, if_true]
      subst h
      exact Sparse.wfFrom_mono f (by omega) _ ih
    · simp only [Sparse.drop, h, if_false, Sparse.wfFrom, Bool.and_eq_true, decide_eq_true_eq]
      exact ⟨w.1, ih⟩

theorem Sparse.put_wfFrom [DecidableEq α] (f : Nat → α) (k : Nat) (x : α) (hx : x ≠ f k) :
    ∀ (m : Sparse α) (lo : Nat), lo ≤ k → Sparse.wfFrom f lo m = true → Sparse.wfFrom f lo (Sparse.put m k x) = true
  | [], lo, hl, _ => by simp [Sparse.put, Sparse.wfFrom, hl, hx]
  | (j, v) :: m, lo, hl, w => by
    have w' := w
    simp only [Sparse.wfFrom, Bool.and_eq_true, decide_eq_true_eq] at w
    by_cases h : j = k
    · subst h
      simp only [Sparse.put, if_true, Sparse.wfFrom, Bool.and_eq_true, decide_eq_true_eq]
      exact ⟨⟨hl, hx⟩, w.2⟩
    · by_cases hk : k < j
      · simp only [Sparse.put, h, if_false, hk, if_true, Sparse.wfFrom, Bool.and_eq_true, decide_eq_true_eq]
        exact ⟨⟨hl, hx⟩, ⟨⟨by omega, w.1.2⟩, w.2⟩⟩
      · simp only [Sparse.put, h, if_false, hk, Sparse.wfFrom, Bool.and_eq_true, decide_eq_true_eq]
        exact ⟨w.1, Sparse.put_wfFrom f k x hx m (j + 1) (by omega) w.2⟩

/-- A write keeps the canonical form. -/
theorem Sparse.set_wf [DecidableEq α] (f : Nat → α) (m : Sparse α) (k : Nat) (x : α) (w : Sparse.wf f m = true) :
    Sparse.wf f (Sparse.set m (f k) k x) = true := by
  by_cases h : x = f k
  · simp only [Sparse.set, h, if_true]
    exact Sparse.drop_wfFrom f k m 0 w
  · simp only [Sparse.set, h, if_false]
    exact Sparse.put_wfFrom f k x h m 0 (Nat.zero_le _) w

/-- Removing an entry keeps the canonical form. -/
theorem Sparse.drop_wf [DecidableEq α] (f : Nat → α) (m : Sparse α) (k : Nat) (w : Sparse.wf f m = true) :
    Sparse.wf f (Sparse.drop m k) = true := Sparse.drop_wfFrom f k m 0 w

theorem Sparse.filter_wfFrom [DecidableEq α] (f : Nat → α) (p : Nat × α → Bool) :
    ∀ (m : Sparse α) (lo : Nat), Sparse.wfFrom f lo m = true → Sparse.wfFrom f lo (m.filter p) = true
  | [], _, _ => rfl
  | (k, v) :: m, lo, w => by
    simp only [Sparse.wfFrom, Bool.and_eq_true, decide_eq_true_eq] at w
    have ih := Sparse.filter_wfFrom f p m (k + 1) w.2
    by_cases h : p (k, v) = true
    · rw [List.filter_cons_of_pos h]
      simp only [Sparse.wfFrom, Bool.and_eq_true, decide_eq_true_eq]
      exact ⟨w.1, ih⟩
    · rw [List.filter_cons_of_neg h]
      exact Sparse.wfFrom_mono f (by omega) _ ih

/-- Leaving entries out keeps the canonical form. -/
theorem Sparse.filter_wf [DecidableEq α] (f : Nat → α) (p : Nat × α → Bool) (m : Sparse α) (w : Sparse.wf f m = true) :
    Sparse.wf f (m.filter p) = true := Sparse.filter_wfFrom f p m 0 w

/-- Every memory write keeps the canonical form. -/
theorem Sparse.write_wf (bs : List Byte) : ∀ (m : Sparse Byte) (a : Nat), Sparse.wf (fun _ => (0 : Byte)) m = true →
    Sparse.wf (fun _ => (0 : Byte)) (Sparse.write m a bs) = true := by
  induction bs with
  | nil => intro m a w; exact w
  | cons b bs ih => intro m a w; exact ih _ _ (Sparse.set_wf (fun _ => (0 : Byte)) m a b w)

/-- A byte outside the bytes written reads as before. -/
theorem Sparse.get_write_outside (bs : List Byte) : ∀ (m : Sparse Byte) (a k : Nat), k < a ∨ a + bs.length ≤ k →
    Sparse.get (Sparse.write m a bs) 0 k = Sparse.get m 0 k := by
  induction bs with
  | nil => intro m a k _; rfl
  | cons b bs ih =>
    intro m a k h
    simp only [List.length_cons] at h
    rw [Sparse.write, ih _ _ _ (by omega), Sparse.get_set_ne _ _ _ _ (by omega)]

/-- A byte that is written reads as the byte written to it. -/
theorem Sparse.get_write_inside (bs : List Byte) : ∀ (m : Sparse Byte) (a i : Nat) (h : i < bs.length),
    Sparse.get (Sparse.write m a bs) 0 (a + i) = bs[i] := by
  induction bs with
  | nil => intro m a i h; exact absurd h (Nat.not_lt_zero _)
  | cons b bs ih =>
    intro m a i h
    cases i with
    | zero =>
      rw [Sparse.write, Sparse.get_write_outside _ _ _ _ (by omega)]
      simp
    | succ i =>
      have e : a + (i + 1) = a + 1 + i := by omega
      rw [Sparse.write, e, ih _ _ _ (by simpa using h)]
      simp

end Sys2Proof.Machine
end

