-- ==== Sys2Proof/Laws/Keeps.lean ====
section
/-! SUPPORT. One relation that every operation of the model keeps: the queue is left alone, the clock does not run back, free values are
taken in order, and memories, counters, fault queue and sizes stay sound. -/

set_option Elab.async false

namespace Sys2Proof.Machine

@[simp] theorem length_upd {α : Type} (f : α → α) : ∀ (l : List α) (i : Nat), (upd l i f).length = l.length
  | [], _ => by cases ‹Nat› <;> rfl
  | _ :: _, 0 => rfl
  | _ :: as, i + 1 => by simp [upd, length_upd f as i]

/-- What an operation keeps between two states. -/
structure Keeps (s t : State) : Prop where
  pending : t.pending = s.pending
  now : s.now ≤ t.now
  free : s.freeCount ≤ t.freeCount
  hostMem : Sparse.wf (fun _ => (0 : Byte)) s.hostMem = true → Sparse.wf (fun _ => (0 : Byte)) t.hostMem = true
  dram : Sparse.wf (fun _ => (0 : Byte)) s.dram = true → Sparse.wf (fun _ => (0 : Byte)) t.dram = true
  flash : Sparse.wf (fun _ => (0 : Byte)) s.flash = true → Sparse.wf (fun _ => (0 : Byte)) t.flash = true
  cnt : countersBounded s → countersBounded t
  faults : faultQueueOk s.hlt.faults → faultQueueOk t.hlt.faults
  sizes : shaped s → shaped t

theorem Keeps.refl (s : State) : Keeps s s := ⟨rfl, le_rfl, le_rfl, id, id, id, id, id, id⟩

theorem Keeps.trans {s t u : State} (h : Keeps s t) (k : Keeps t u) : Keeps s u :=
  ⟨k.1.trans h.1, h.2.trans k.2, h.3.trans k.3, k.4 ∘ h.4, k.5 ∘ h.5, k.6 ∘ h.6, k.7 ∘ h.7, k.8 ∘ h.8, k.9 ∘ h.9⟩

/-- A sound state stays sound. -/
theorem Keeps.sound {s t : State} (h : Keeps s t) (w : sound s) : sound t := by
  obtain ⟨m, c, f, z⟩ := w
  simp only [memoriesCanonical, Bool.and_eq_true] at m
  exact ⟨by simp only [memoriesCanonical, Bool.and_eq_true]; exact ⟨⟨h.4 m.1.1, h.5 m.1.2⟩, h.6 m.2⟩, h.7 c, h.8 f, h.9 z⟩

/-- An update of anything but the queue, the clock, the memories and the counters. -/
theorem Keeps.set {s₀ s : State} (h : Keeps s₀ s) {par imgPar : Sparse Nat} {iq : List ImgBatch} {ho : HostSt} {se : SeqSt} {po : PosSt}
    {la : LampSt} {sn : SenSt} {co : CorSt} {ca : CapSt} {cm : CmpSt} {hq : HqSt} {mo : MotSt} {au : AuxSt} {sc : SecSt} {hl : HltSt}
    {ak : AskSt} {pw : PwrSt}
    (f : hl.faults = s.hlt.faults := by rfl)
    (z : fixedSizes ⟨s.now, s.pending, s.freeCount, par, imgPar, iq, s.cnt, s.hostMem, s.dram, s.flash, ho, se, po, la, sn, co, ca, cm, hq,
      mo, au, sc, hl, ak, pw⟩ = fixedSizes s := by rfl) :
    Keeps s₀ ⟨s.now, s.pending, s.freeCount, par, imgPar, iq, s.cnt, s.hostMem, s.dram, s.flash, ho, se, po, la, sn, co, ca, cm, hq,
      mo, au, sc, hl, ak, pw⟩ :=
  ⟨h.1, h.2, h.3, h.4, h.5, h.6, h.7, fun w => by show faultQueueOk hl.faults; rw [f]; exact h.8 w,
    fun w => by show fixedSizes _ = _; rw [z]; exact h.9 w⟩

theorem Keeps.atLater {s₀ s : State} (h : Keeps s₀ s) {n : Nat} (hn : s.now ≤ n) : Keeps s₀ { s with now := n } :=
  ⟨h.1, h.2.trans hn, h.3, h.4, h.5, h.6, h.7, h.8, h.9⟩

theorem Keeps.taken {s₀ s : State} (h : Keeps s₀ s) {n : Nat} (hn : s.freeCount ≤ n) : Keeps s₀ { s with freeCount := n } :=
  ⟨h.1, h.2, h.3.trans hn, h.4, h.5, h.6, h.7, h.8, h.9⟩

theorem Keeps.setHostMem {s₀ s : State} (h : Keeps s₀ s) {m : Sparse Byte}
    (hm : Sparse.wf (fun _ => (0 : Byte)) s.hostMem = true → Sparse.wf (fun _ => (0 : Byte)) m = true) :
    Keeps s₀ { s with hostMem := m } := ⟨h.1, h.2, h.3, hm ∘ h.4, h.5, h.6, h.7, h.8, h.9⟩

theorem Keeps.setDram {s₀ s : State} (h : Keeps s₀ s) {m : Sparse Byte}
    (hm : Sparse.wf (fun _ => (0 : Byte)) s.dram = true → Sparse.wf (fun _ => (0 : Byte)) m = true) :
    Keeps s₀ { s with dram := m } := ⟨h.1, h.2, h.3, h.4, hm ∘ h.5, h.6, h.7, h.8, h.9⟩

theorem Keeps.setFlash {s₀ s : State} (h : Keeps s₀ s) {m : Sparse Byte}
    (hm : Sparse.wf (fun _ => (0 : Byte)) s.flash = true → Sparse.wf (fun _ => (0 : Byte)) m = true) :
    Keeps s₀ { s with flash := m } := ⟨h.1, h.2, h.3, h.4, h.5, hm ∘ h.6, h.7, h.8, h.9⟩

theorem Keeps.setCnt {s₀ s : State} (h : Keeps s₀ s) {m : Sparse Nat}
    (hm : countersBounded s → countersBounded { s with cnt := m }) :
    Keeps s₀ { s with cnt := m } := ⟨h.1, h.2, h.3, h.4, h.5, h.6, hm ∘ h.7, h.8, h.9⟩

theorem Keeps.setFaults {s₀ s : State} (h : Keeps s₀ s) {fs : List FaultEnt} (hf : faultQueueOk s.hlt.faults → faultQueueOk fs) :
    Keeps s₀ { s with hlt := { s.hlt with faults := fs } } := ⟨h.1, h.2, h.3, h.4, h.5, h.6, h.7, hf ∘ h.8, h.9⟩

theorem Keeps.step {s₀ s t : State} (h : Keeps s₀ s) (k : Keeps s₀ s → Keeps s₀ t) : Keeps s₀ t := k h

theorem Keeps.ite {s₀ a b : State} {c : Prop} [Decidable c] (ha : Keeps s₀ a) (hb : Keeps s₀ b) : Keeps s₀ (if c then a else b) := by
  split <;> assumption

theorem Keeps.foldl {α : Type} {s₀ : State} {f : State → α → State} (hf : ∀ s a, Keeps s₀ s → Keeps s₀ (f s a)) :
    ∀ (l : List α) (s : State), Keeps s₀ s → Keeps s₀ (l.foldl f s)
  | [], _, h => h
  | a :: l, s, h => Keeps.foldl hf l _ (hf s a h)

theorem Keeps.foldlSnd {α β : Type} {s₀ : State} {f : β × State → α → β × State} (hf : ∀ r a, Keeps s₀ r.2 → Keeps s₀ (f r a).2) :
    ∀ (l : List α) (r : β × State), Keeps s₀ r.2 → Keeps s₀ (l.foldl f r).2
  | [], _, h => h
  | a :: l, r, h => Keeps.foldlSnd hf l _ (hf r a h)

/-! ### Counters and faults -/

theorem Sparse.mem_drop {α : Type} {k : Nat} {e : Nat × α} : ∀ {m : Sparse α}, e ∈ Sparse.drop m k → e ∈ m
  | [], h => h
  | (j, v) :: m, h => by
    by_cases hj : j = k
    · simp only [Sparse.drop, hj, if_true] at h
      exact List.mem_cons_of_mem _ (Sparse.mem_drop h)
    · simp only [Sparse.drop, hj, if_false, List.mem_cons] at h
      exact List.mem_cons.2 (h.imp id Sparse.mem_drop)

theorem Sparse.mem_put {α : Type} {k : Nat} {x : α} {e : Nat × α} : ∀ {m : Sparse α}, e ∈ Sparse.put m k x → e = (k, x) ∨ e ∈ m
  | [], h => by simpa [Sparse.put] using h
  | (j, v) :: m, h => by
    by_cases hj : j = k
    · simp only [Sparse.put, hj, if_true, List.mem_cons] at h
      exact h.imp id (fun y => List.mem_cons_of_mem _ y)
    · by_cases hk : k < j
      · simp only [Sparse.put, hj, if_false, hk, if_true, List.mem_cons] at h
        exact h.imp id (fun y => List.mem_cons.2 y)
      · simp only [Sparse.put, hj, if_false, hk, List.mem_cons] at h
        rcases h with h | h
        · exact Or.inr (List.mem_cons.2 (Or.inl h))
        · exact (Sparse.mem_put h).imp id (fun y => List.mem_cons_of_mem _ y)

/-- A counter store after one counter is set to a 32-bit value. -/
theorem countersBounded_set {s : State} {k x : Nat} (hx : x ≤ 0xFFFFFFFF) (h : countersBounded s) :
    countersBounded { s with cnt := Sparse.set s.cnt 0 k x } := by
  refine ⟨Sparse.set_wf (fun _ => 0) s.cnt k x h.1, fun e he => ?_⟩
  simp only [Sparse.set] at he
  split at he
  · exact h.2 e (Sparse.mem_drop he)
  · rcases Sparse.mem_put he with rfl | he
    · exact hx
    · exact h.2 e he

theorem countersBounded_drop {s : State} {k : Nat} (h : countersBounded s) : countersBounded { s with cnt := Sparse.drop s.cnt k } :=
  ⟨Sparse.drop_wf (fun _ => 0) s.cnt k h.1, fun e he => h.2 e (Sparse.mem_drop he)⟩

end Sys2Proof.Machine
end

