-- ==== Sys2Proof/Laws/KeepsOps.lean ====
section
/-! SUPPORT. What every operation keeps: the shared operations, the sensor, correction and lamp operations. One lemma an operation. -/

set_option Elab.async false
set_option linter.all false
set_option linter.tactic.unusedName false

namespace Sys2Proof.Machine

/-! ### Machine/Ops.lean -/

theorem Keeps.advance {s₀ s : State} (h : Keeps s₀ s) (t : Nat) : Keeps s₀ (s.advance t) := h.atLater (Nat.le_max_left ..)

theorem Keeps.setPars {s₀ s : State} (h : Keeps s₀ s) (ws : List ParWrite) :
    Keeps s₀ (s.setPars ws) := by
  unfold State.setPars
  repeat' first | with_reducible assumption | (with_reducible rfl) |
                  (simp only [fixedSizes, length_upd, List.length_map, List.length_zipIdx]; first | done | rfl) | split |
                  (intro _ _ _) | (with_reducible refine Keeps.set (by with_reducible assumption) ?_ ?_) | dsimp only

theorem Keeps.takeFree {s₀ s : State} (h : Keeps s₀ s) : Keeps s₀ s.takeFree.2 := h.taken (Nat.le_succ _)

theorem Keeps.rebase {s₀ s : State} (h : Keeps s₀ s) :
    Keeps s₀ (s.rebase) := by
  unfold State.rebase
  extract_lets a1 a2
  repeat' first | with_reducible assumption | (with_reducible rfl) |
                  (simp only [fixedSizes, length_upd, List.length_map, List.length_zipIdx]; first | done | rfl) | split |
                  (intro _ _ _) | (with_reducible refine Keeps.set (by with_reducible assumption) ?_ ?_) | unfold a1 | unfold a2 |
                  dsimp only

theorem Keeps.updRing {s₀ s : State} (h : Keeps s₀ s) (r : Nat) (f : Ring → Ring) :
    Keeps s₀ (s.updRing r f) := by
  unfold State.updRing
  extract_lets a1
  repeat' first | with_reducible assumption | (with_reducible rfl) |
                  (simp only [fixedSizes, length_upd, List.length_map, List.length_zipIdx]; first | done | rfl) | split |
                  (intro _ _ _) | (with_reducible refine Keeps.set (by with_reducible assumption) ?_ ?_) | unfold a1 | dsimp only

theorem Keeps.hostWrite {s₀ s : State} (h : Keeps s₀ s) (addr : Nat) (bs : List Byte) : Keeps s₀ (s.hostWrite addr bs) :=
  h.setHostMem (Sparse.write_wf bs _ _)

theorem Keeps.sendMsix {s₀ s : State} (h : Keeps s₀ s) (v : Nat) :
    Keeps s₀ (s.sendMsix v) := by
  unfold State.sendMsix
  extract_lets a1 a2 a3 a4 a5
  refine Keeps.step (s := a4) ?_ (fun ba4 => ?_); rotate_left; try clear_value a4
  repeat' first | with_reducible assumption | (with_reducible apply Keeps.hostWrite) | (with_reducible rfl) |
                  (simp only [fixedSizes, length_upd, List.length_map, List.length_zipIdx]; first | done | rfl) | split |
                  (intro _ _ _) | (with_reducible refine Keeps.set (by with_reducible assumption) ?_ ?_) | unfold a1 | unfold a2 |
                  unfold a3 | unfold a4 | unfold a5 | dsimp only

theorem Keeps.signal {s₀ s : State} (h : Keeps s₀ s) (v : Nat) :
    Keeps s₀ (s.signal v) := by
  unfold State.signal
  extract_lets a1 a2
  repeat' first | with_reducible assumption | (with_reducible apply Keeps.sendMsix) | (with_reducible rfl) |
                  (simp only [fixedSizes, length_upd, List.length_map, List.length_zipIdx]; first | done | rfl) | split |
                  (intro _ _ _) | (with_reducible refine Keeps.set (by with_reducible assumption) ?_ ?_) | unfold a1 | unfold a2 |
                  dsimp only

theorem Keeps.entryWrite {s₀ s : State} (h : Keeps s₀ s) (addr : Nat) (bs : List Byte) (vec : Nat) :
    Keeps s₀ (s.entryWrite addr bs vec) := by
  unfold State.entryWrite
  extract_lets a1
  repeat' first | with_reducible assumption | (with_reducible apply Keeps.hostWrite) | (with_reducible rfl) |
                  (simp only [fixedSizes, length_upd, List.length_map, List.length_zipIdx]; first | done | rfl) | split |
                  (intro _ _ _) | (with_reducible refine Keeps.set (by with_reducible assumption) ?_ ?_) | unfold a1 | dsimp only

theorem Keeps.slotsWrite {s₀ : State} (r vec : Nat) : ∀ {s : State} (_ : Keeps s₀ s) (n : Nat) (bs : List Byte), Keeps s₀ (s.slotsWrite r vec n bs)
  | _, h, 0, _ => h
  | _, h, n + 1, bs => Keeps.slotsWrite r vec ((h.entryWrite _ _ _).updRing _ _) n _

theorem Keeps.updEv {s₀ s : State} (h : Keeps s₀ s) (src : Nat) (f : EvSrc → EvSrc) :
    Keeps s₀ (s.updEv src f) := by
  unfold State.updEv
  extract_lets a1
  repeat' first | with_reducible assumption | (with_reducible rfl) |
                  (simp only [fixedSizes, length_upd, List.length_map, List.length_zipIdx]; first | done | rfl) | split |
                  (intro _ _ _) | (with_reducible refine Keeps.set (by with_reducible assumption) ?_ ?_) | unfold a1 | dsimp only

theorem Keeps.writeEvent {s₀ s : State} (h : Keeps s₀ s) (src : Nat) (delayed : Bool) :
    Keeps s₀ (s.writeEvent src delayed) := by
  unfold State.writeEvent
  extract_lets a1 a2 a3 a4
  refine Keeps.step (s := a2) ?_ (fun ba2 => ?_); rotate_left; try clear_value a2
  refine Keeps.step (s := a4) ?_ (fun ba4 => ?_); rotate_left; try clear_value a4
  repeat' first | with_reducible assumption | (with_reducible apply Keeps.signal) | (with_reducible apply Keeps.slotsWrite) |
                  (with_reducible apply Keeps.updEv) | (with_reducible rfl) |
                  (simp only [fixedSizes, length_upd, List.length_map, List.length_zipIdx]; first | done | rfl) | split |
                  (intro _ _ _) | (with_reducible refine Keeps.set (by with_reducible assumption) ?_ ?_) | unfold a1 | unfold a2 |
                  unfold a3 | unfold a4 | dsimp only

theorem Keeps.readyEvent {s₀ s : State} (h : Keeps s₀ s) (src : Nat) :
    Keeps s₀ (s.readyEvent src) := by
  unfold State.readyEvent
  extract_lets a1 a2
  refine Keeps.step (s := a1) ?_ (fun ba1 => ?_); rotate_left; try clear_value a1
  repeat' first | with_reducible assumption | (with_reducible apply Keeps.updEv) | (with_reducible apply Keeps.writeEvent) |
                  (with_reducible rfl) | (simp only [fixedSizes, length_upd, List.length_map, List.length_zipIdx]; first | done |
                  rfl) | split | (intro _ _ _) | (with_reducible refine Keeps.set (by with_reducible assumption) ?_ ?_) | unfold a1 |
                  unfold a2 | dsimp only

theorem Keeps.raiseEvent {s₀ s : State} (h : Keeps s₀ s) (src : Nat) (detail : Nat) :
    Keeps s₀ (s.raiseEvent src detail) := by
  unfold State.raiseEvent
  extract_lets a1 a2 a3
  refine Keeps.step (s := a1) ?_ (fun ba1 => ?_); rotate_left; try clear_value a1
  refine Keeps.step (s := a3) ?_ (fun ba3 => ?_); rotate_left; try clear_value a3
  repeat' first | with_reducible assumption | (with_reducible apply Keeps.count) | (with_reducible apply Keeps.readyEvent) |
                  (with_reducible apply Keeps.updEv) | (with_reducible rfl) |
                  (simp only [fixedSizes, length_upd, List.length_map, List.length_zipIdx]; first | done | rfl) | split |
                  (intro _ _ _) | (with_reducible refine Keeps.set (by with_reducible assumption) ?_ ?_) | unfold a1 | unfold a2 |
                  unfold a3 | dsimp only

theorem Keeps.bump {s₀ s : State} (h : Keeps s₀ s) (c : Ctr) (i n : Nat) : Keeps s₀ (s.bump c i n) :=
  h.setCnt (countersBounded_set (by unfold satAdd32; split <;> omega))

theorem faultQueueOk_map {fs : List FaultEnt} {f : FaultEnt → FaultEnt} (h1 : ∀ x, (f x).slot = x.slot) (h2 : ∀ x, (f x).src = x.src)
    (h3 : ∀ x, (f x).cls = x.cls) (h : faultQueueOk fs) : faultQueueOk (fs.map f) := by
  obtain ⟨a, b, c⟩ := h
  refine ⟨?_, ?_, ?_⟩
  · intro x hx
    obtain ⟨y, hy, rfl⟩ := List.mem_map.1 hx
    rw [h1, h3]
    exact a y hy
  · rw [List.map_map, show ((fun f : FaultEnt => f.slot) ∘ f) = (fun f : FaultEnt => f.slot) from funext h1]
    exact b
  · rw [List.map_map, show ((fun f : FaultEnt => f.src) ∘ f) = (fun f : FaultEnt => f.src) from funext h2]
    exact c

theorem faultQueueOk_filter {fs : List FaultEnt} (p : FaultEnt → Bool) (h : faultQueueOk fs) : faultQueueOk (fs.filter p) :=
  ⟨fun f hf => h.1 f (List.mem_of_mem_filter hf), h.2.1.sublist (List.filter_sublist.map _), h.2.2.sublist (List.filter_sublist.map _)⟩

theorem faultQueueOk_add {fs : List FaultEnt} {e : FaultEnt} (hs : freeSlot fs e.cls = some e.slot)
    (hr : fs.any (fun f => f.src == e.src) = false) (h : faultQueueOk fs) : faultQueueOk (fs ++ [e]) := by
  have hm := List.mem_of_find?_eq_some hs
  have hf := List.find?_some hs
  simp only [List.mem_range] at hm
  simp only [List.all_eq_true, bne_iff_ne, ne_eq] at hf
  simp only [List.any_eq_false, beq_iff_eq] at hr
  obtain ⟨a, b, c⟩ := h
  refine ⟨?_, ?_, ?_⟩
  · intro x hx
    rcases List.mem_append.1 hx with hx | hx
    · exact a x hx
    · obtain rfl := List.mem_singleton.1 hx
      split at hm <;> constructor <;> omega
  · rw [List.map_append, List.nodup_append]
    refine ⟨b, by simp, ?_⟩
    intro x hx y hy
    obtain ⟨f, hf', rfl⟩ := List.mem_map.1 hx
    simp only [List.map_cons, List.map_nil, List.mem_singleton] at hy
    subst hy
    exact hf f hf'
  · rw [List.map_append, List.nodup_append]
    refine ⟨c, by simp, ?_⟩
    intro x hx y hy
    obtain ⟨f, hf', rfl⟩ := List.mem_map.1 hx
    simp only [List.map_cons, List.map_nil, List.mem_singleton] at hy
    subst hy
    exact hr f hf'

theorem Keeps.raiseFault {s₀ s : State} (h : Keeps s₀ s) (src detail : Nat) : Keeps s₀ (s.raiseFault src detail) := by
  unfold State.raiseFault
  dsimp only
  split
  · exact h
  · rename_i hc
    split
    · exact h.setFaults (faultQueueOk_map (fun x => by split <;> rfl) (fun x => by split <;> rfl) (fun x => by split <;> rfl))
    · rename_i hs
      split
      · rename_i i hi
        exact h.setFaults (faultQueueOk_add hi (by simpa using hs))
      · exact h.bump _ _ _

theorem Keeps.raise {s₀ s : State} (h : Keeps s₀ s) (e : Ev) (detail : Nat) :
    Keeps s₀ (s.raise e detail) := by
  unfold State.raise
  repeat' first | with_reducible assumption | (with_reducible apply Keeps.raiseEvent) | (with_reducible apply Keeps.raiseFault) |
                  (with_reducible rfl) | (simp only [fixedSizes, length_upd, List.length_map, List.length_zipIdx]; first | done |
                  rfl) | split | (intro _ _ _) | (with_reducible refine Keeps.set (by with_reducible assumption) ?_ ?_) | dsimp only

theorem Keeps.count {s₀ s : State} (h : Keeps s₀ s) (c : Ctr) (i : Nat) (n : Nat) :
    Keeps s₀ (s.count c i n) := by
  unfold State.count
  extract_lets a1
  refine Keeps.step (s := a1) ?_ (fun ba1 => ?_); rotate_left; try clear_value a1
  repeat' first | with_reducible assumption | (with_reducible apply Keeps.bump) | (with_reducible apply Keeps.raise) |
                  (with_reducible rfl) | (simp only [fixedSizes, length_upd, List.length_map, List.length_zipIdx]; first | done |
                  rfl) | split | (intro _ _ _) | (with_reducible refine Keeps.set (by with_reducible assumption) ?_ ?_) | unfold a1 |
                  dsimp only

theorem countersBounded_drops {α : Type} (key : α → Nat) : ∀ (l : List α) {s : State}, countersBounded s →
    countersBounded { s with cnt := l.foldl (fun m a => Sparse.drop m (key a)) s.cnt }
  | [], _, h => h
  | a :: l, s, h => countersBounded_drops key l (s := { s with cnt := Sparse.drop s.cnt (key a) }) (countersBounded_drop h)

theorem countersBounded_dropAll (hit : List (Ctr × Nat)) : ∀ {s : State}, countersBounded s →
    countersBounded { s with cnt := hit.foldl (fun m x => (List.range x.1.insts).foldl (fun m i => Sparse.drop m (x.1.key i)) m) s.cnt } := by
  induction hit with
  | nil => intro s h; exact h
  | cons x l ih =>
    intro s h
    exact ih (s := { s with cnt := (List.range x.1.insts).foldl (fun m i => Sparse.drop m (x.1.key i)) s.cnt })
      (countersBounded_drops (fun i => x.1.key i) _ h)

theorem Keeps.clearCounters {s₀ s : State} (h : Keeps s₀ s) (g mask : Nat) : Keeps s₀ (s.clearCounters g mask) :=
  h.setCnt (countersBounded_dropAll _)

theorem Keeps.auditAppend {s₀ s : State} (h : Keeps s₀ s) (device : Bool) (opcode : Nat) (who : Nat) (status : Nat) (counter : Nat) (line : Nat) (hdr : List Byte) (words : List Word) :
    Keeps s₀ (s.auditAppend device opcode who status counter line hdr words) := by
  unfold State.auditAppend
  extract_lets a1 a2 a3 a4 a5
  repeat' first | with_reducible assumption | (with_reducible rfl) |
                  (simp only [fixedSizes, length_upd, List.length_map, List.length_zipIdx]; first | done | rfl) | split |
                  (intro _ _ _) | (with_reducible refine Keeps.set (by with_reducible assumption) ?_ ?_) | unfold a1 | unfold a2 |
                  unfold a3 | unfold a4 | unfold a5 | dsimp only

theorem Keeps.auditDevice {s₀ s : State} (h : Keeps s₀ s) (event : Nat) (detail : Nat) :
    Keeps s₀ (s.auditDevice event detail) := by
  unfold State.auditDevice
  repeat' first | with_reducible assumption | (with_reducible apply Keeps.auditAppend) | (with_reducible rfl) |
                  (simp only [fixedSizes, length_upd, List.length_map, List.length_zipIdx]; first | done | rfl) | split |
                  (intro _ _ _) | (with_reducible refine Keeps.set (by with_reducible assumption) ?_ ?_) | dsimp only

theorem Keeps.replyAt {s₀ s : State} (h : Keeps s₀ s) (cid : Nat) (status : Nat) (detail : Nat) (ws : List Word) (line : Nat) :
    Keeps s₀ (s.replyAt cid status detail ws line) := by
  unfold State.replyAt
  extract_lets a1 a2
  repeat' first | with_reducible assumption | (with_reducible apply Keeps.auditAppend) | (with_reducible rfl) |
                  (simp only [fixedSizes, length_upd, List.length_map, List.length_zipIdx]; first | done | rfl) | split |
                  (intro _ _ _) | (with_reducible refine Keeps.set (by with_reducible assumption) ?_ ?_) | unfold a1 | unfold a2 |
                  dsimp only

theorem Keeps.reply {s₀ s : State} (h : Keeps s₀ s) (cid : Nat) (status : Nat) (detail : Nat) (ws : List Word) :
    Keeps s₀ (s.reply cid status detail ws) := by
  unfold State.reply
  repeat' first | with_reducible assumption | (with_reducible apply Keeps.replyAt) | (with_reducible rfl) |
                  (simp only [fixedSizes, length_upd, List.length_map, List.length_zipIdx]; first | done | rfl) | split |
                  (intro _ _ _) | (with_reducible refine Keeps.set (by with_reducible assumption) ?_ ?_) | dsimp only

theorem Keeps.done {s₀ s : State} (h : Keeps s₀ s) (cid : Nat) (ws : List Word) :
    Keeps s₀ (s.done cid ws) := by
  unfold State.done
  repeat' first | with_reducible assumption | (with_reducible apply Keeps.reply) | (with_reducible rfl) |
                  (simp only [fixedSizes, length_upd, List.length_map, List.length_zipIdx]; first | done | rfl) | split |
                  (intro _ _ _) | (with_reducible refine Keeps.set (by with_reducible assumption) ?_ ?_) | dsimp only

theorem Keeps.doneNow {s₀ s : State} (h : Keeps s₀ s) (cid : Nat) (more : List Word) :
    Keeps s₀ (s.doneNow cid more) := by
  unfold State.doneNow
  repeat' first | with_reducible assumption | (with_reducible apply Keeps.reply) | (with_reducible rfl) |
                  (simp only [fixedSizes, length_upd, List.length_map, List.length_zipIdx]; first | done | rfl) | split |
                  (intro _ _ _) | (with_reducible refine Keeps.set (by with_reducible assumption) ?_ ?_) | dsimp only

theorem Keeps.accept {s₀ s : State} (h : Keeps s₀ s) (cid : Nat) :
    Keeps s₀ (s.accept cid) := by
  unfold State.accept
  repeat' first | with_reducible assumption | (with_reducible apply Keeps.reply) | (with_reducible rfl) |
                  (simp only [fixedSizes, length_upd, List.length_map, List.length_zipIdx]; first | done | rfl) | split |
                  (intro _ _ _) | (with_reducible refine Keeps.set (by with_reducible assumption) ?_ ?_) | dsimp only

theorem Keeps.defer {s₀ s : State} (h : Keeps s₀ s) (cid : Nat) :
    Keeps s₀ (s.defer cid) := by
  unfold State.defer
  repeat' first | with_reducible assumption | (with_reducible apply Keeps.count) | (with_reducible apply Keeps.reply) |
                  (with_reducible rfl) | (simp only [fixedSizes, length_upd, List.length_map, List.length_zipIdx]; first | done |
                  rfl) | split | (intro _ _ _) | (with_reducible refine Keeps.set (by with_reducible assumption) ?_ ?_) | dsimp only

/-! ### Machine/Coverage.lean -/

theorem Keeps.dramWrite {s₀ s : State} (h : Keeps s₀ s) (a : Nat) (bs : List Byte) : Keeps s₀ (s.dramWrite a bs) :=
  h.setDram (Sparse.write_wf bs _ _)

theorem Keeps.updQueue {s₀ s : State} (h : Keeps s₀ s) (q : Nat) (f : Queue → Queue) :
    Keeps s₀ (s.updQueue q f) := by
  unfold State.updQueue
  extract_lets a1
  repeat' first | with_reducible assumption | (with_reducible rfl) |
                  (simp only [fixedSizes, length_upd, List.length_map, List.length_zipIdx]; first | done | rfl) | split |
                  (intro _ _ _) | (with_reducible refine Keeps.set (by with_reducible assumption) ?_ ?_) | unfold a1 | dsimp only

theorem Keeps.pktWrite {s₀ s : State} (h : Keeps s₀ s) (q : Nat) (blk : Nat) (off : Nat) (bs : List Byte) :
    Keeps s₀ (s.pktWrite q blk off bs) := by
  unfold State.pktWrite
  extract_lets a1 a2
  repeat' first | with_reducible assumption | (with_reducible apply Keeps.hostWrite) | (with_reducible rfl) |
                  (simp only [fixedSizes, length_upd, List.length_map, List.length_zipIdx]; first | done | rfl) | split |
                  (intro _ _ _) | (with_reducible refine Keeps.set (by with_reducible assumption) ?_ ?_) | unfold a1 | unfold a2 |
                  dsimp only

theorem Keeps.publish {s₀ s : State} (h : Keeps s₀ s) (q : Nat) :
    Keeps s₀ (s.publish q) := by
  unfold State.publish
  extract_lets a1 a2 a3
  refine Keeps.step (s := a3) ?_ (fun ba3 => ?_); rotate_left; try clear_value a3
  repeat' first | with_reducible assumption | (with_reducible apply Keeps.count) | (with_reducible apply Keeps.updQueue) |
                  (with_reducible rfl) | (simp only [fixedSizes, length_upd, List.length_map, List.length_zipIdx]; first | done |
                  rfl) | split | (intro _ _ _) | (with_reducible refine Keeps.set (by with_reducible assumption) ?_ ?_) | unfold a1 |
                  unfold a2 | unfold a3 | dsimp only

theorem Keeps.takeSpill {s₀ s : State} (h : Keeps s₀ s) (q : Nat) (blk : Nat) (n : Nat) :
    Keeps s₀ (s.takeSpill q blk n) := by
  unfold State.takeSpill
  extract_lets a1 a2 a3 a4 a5
  refine Keeps.step (s := a2) ?_ (fun ba2 => ?_); rotate_left; try clear_value a2
  refine Keeps.step (s := a3) ?_ (fun ba3 => ?_); rotate_left; try clear_value a3
  refine Keeps.step (s := a4) ?_ (fun ba4 => ?_); rotate_left; try clear_value a4
  repeat' first | with_reducible assumption | (with_reducible apply Keeps.count) | (with_reducible apply Keeps.raise) |
                  (with_reducible rfl) | (simp only [fixedSizes, length_upd, List.length_map, List.length_zipIdx]; first | done |
                  rfl) | split | (intro _ _ _) | (with_reducible refine Keeps.set (by with_reducible assumption) ?_ ?_) | unfold a1 |
                  unfold a2 | unfold a3 | unfold a4 | unfold a5 | dsimp only

theorem Keeps.writePad {s₀ s : State} (h : Keeps s₀ s) (q : Nat) (pad : Nat) :
    Keeps s₀ (s.writePad q pad) := by
  unfold State.writePad
  extract_lets a1 a2 a3 a4 a5
  refine Keeps.step (s := a3) ?_ (fun ba3 => ?_); rotate_left; try clear_value a3
  refine Keeps.step (s := a4) ?_ (fun ba4 => ?_); rotate_left; try clear_value a4
  refine Keeps.step (s := a5) ?_ (fun ba5 => ?_); rotate_left; try clear_value a5
  repeat' first | with_reducible assumption | (with_reducible apply Keeps.count) | (with_reducible apply Keeps.pktWrite) |
                  (with_reducible apply Keeps.takeSpill) | (with_reducible apply Keeps.updQueue) | (with_reducible rfl) |
                  (simp only [fixedSizes, length_upd, List.length_map, List.length_zipIdx]; first | done | rfl) | split |
                  (intro _ _ _) | (with_reducible refine Keeps.set (by with_reducible assumption) ?_ ?_) | unfold a1 | unfold a2 |
                  unfold a3 | unfold a4 | unfold a5 | dsimp only

theorem Keeps.countDrop {s₀ s : State} (h : Keeps s₀ s) (q : Nat) (n : Nat) :
    Keeps s₀ (s.countDrop q n) := by
  unfold State.countDrop
  extract_lets a1 a2 a3
  refine Keeps.step (s := a2) ?_ (fun ba2 => ?_); rotate_left; try clear_value a2
  refine Keeps.step (s := a3) ?_ (fun ba3 => ?_); rotate_left; try clear_value a3
  repeat' first | with_reducible assumption | (with_reducible apply Keeps.count) | (with_reducible apply Keeps.raise) |
                  (with_reducible apply Keeps.updQueue) | (with_reducible rfl) |
                  (simp only [fixedSizes, length_upd, List.length_map, List.length_zipIdx]; first | done | rfl) | split |
                  (intro _ _ _) | (with_reducible refine Keeps.set (by with_reducible assumption) ?_ ?_) | unfold a1 | unfold a2 |
                  unfold a3 | dsimp only

theorem Keeps.countSpillDrop {s₀ s : State} (h : Keeps s₀ s) (q : Nat) :
    Keeps s₀ (s.countSpillDrop q) := by
  unfold State.countSpillDrop
  extract_lets a1 a2 a3
  refine Keeps.step (s := a1) ?_ (fun ba1 => ?_); rotate_left; try clear_value a1
  refine Keeps.step (s := a2) ?_ (fun ba2 => ?_); rotate_left; try clear_value a2
  repeat' first | with_reducible assumption | (with_reducible apply Keeps.count) | (with_reducible apply Keeps.countDrop) |
                  (with_reducible apply Keeps.raise) | (with_reducible rfl) |
                  (simp only [fixedSizes, length_upd, List.length_map, List.length_zipIdx]; first | done | rfl) | split |
                  (intro _ _ _) | (with_reducible refine Keeps.set (by with_reducible assumption) ?_ ?_) | unfold a1 | unfold a2 |
                  unfold a3 | dsimp only

theorem Keeps.countUnsigned {s₀ s : State} (h : Keeps s₀ s) (line : Nat) :
    Keeps s₀ (s.countUnsigned line) := by
  unfold State.countUnsigned
  extract_lets a1 a2
  refine Keeps.step (s := a1) ?_ (fun ba1 => ?_); rotate_left; try clear_value a1
  repeat' first | with_reducible assumption | (with_reducible apply Keeps.count) | (with_reducible rfl) |
                  (simp only [fixedSizes, length_upd, List.length_map, List.length_zipIdx]; first | done | rfl) | split |
                  (intro _ _ _) | (with_reducible refine Keeps.set (by with_reducible assumption) ?_ ?_) | unfold a1 | unfold a2 |
                  dsimp only

theorem Keeps.place {s₀ s : State} (h : Keeps s₀ s) (q : Nat) (typ : PktType) (source : Nat) (line : Nat) (line1 : Nat) (col0 : Nat) (col1 : Nat) (items : Nat) (tilesDropped : Nat) (body : List Byte) :
    Keeps s₀ (s.place q typ source line line1 col0 col1 items tilesDropped body) := by
  unfold State.place
  extract_lets a1 a2 a3 a4 a5 a6 a7 a8 a9 a10 a11 a12 a13 a14
  refine Keeps.step (s := a2) ?_ (fun ba2 => ?_); rotate_left; try clear_value a2
  refine Keeps.step (s := a9) ?_ (fun ba9 => ?_); rotate_left; try clear_value a9
  refine Keeps.step (s := a10) ?_ (fun ba10 => ?_); rotate_left; try clear_value a10
  refine Keeps.step (s := a11) ?_ (fun ba11 => ?_); rotate_left; try clear_value a11
  refine Keeps.step (s := a12) ?_ (fun ba12 => ?_); rotate_left; try clear_value a12
  refine Keeps.step (s := a13) ?_ (fun ba13 => ?_); rotate_left; try clear_value a13
  refine Keeps.step (s := a14) ?_ (fun ba14 => ?_); rotate_left; try clear_value a14
  repeat' first | with_reducible assumption | (with_reducible apply Keeps.countUnsigned) | (with_reducible apply Keeps.pktWrite) |
                  (with_reducible apply Keeps.publish) | (with_reducible apply Keeps.takeSpill) |
                  (with_reducible apply Keeps.updQueue) | (with_reducible apply Keeps.writePad) | (with_reducible rfl) |
                  (simp only [fixedSizes, length_upd, List.length_map, List.length_zipIdx]; first | done | rfl) | split |
                  (intro _ _ _) | (with_reducible refine Keeps.set (by with_reducible assumption) ?_ ?_) | unfold a1 | unfold a2 |
                  unfold a3 | unfold a4 | unfold a5 | unfold a6 | unfold a7 | unfold a8 | unfold a9 | unfold a10 | unfold a11 |
                  unfold a12 | unfold a13 | unfold a14 | dsimp only

theorem Keeps.dropSpilled {s₀ s : State} (h : Keeps s₀ s) (q : Nat) :
    Keeps s₀ (s.dropSpilled q) := by
  unfold State.dropSpilled
  extract_lets a1 a2
  repeat' first | with_reducible assumption | (with_reducible apply Keeps.foldl) | (with_reducible apply Keeps.foldlSnd) |
                  (with_reducible rfl) | (simp only [fixedSizes, length_upd, List.length_map, List.length_zipIdx]; first | done |
                  rfl) | split | (intro _ _ _) | (with_reducible refine Keeps.set (by with_reducible assumption) ?_ ?_) | unfold a1 |
                  unfold a2 | dsimp only

theorem Keeps.waitsDue {s₀ s : State} (h : Keeps s₀ s) (q : Nat) :
    Keeps s₀ (s.waitsDue q) := by
  unfold State.waitsDue
  extract_lets a1
  repeat' first | with_reducible assumption | (with_reducible rfl) |
                  (simp only [fixedSizes, length_upd, List.length_map, List.length_zipIdx]; first | done | rfl) | split |
                  (intro _ _ _) | (with_reducible refine Keeps.set (by with_reducible assumption) ?_ ?_) | unfold a1 | dsimp only

theorem Keeps.resetQueue {s₀ s : State} (h : Keeps s₀ s) (q : Nat) :
    Keeps s₀ (s.resetQueue q) := by
  unfold State.resetQueue
  extract_lets a1 a2 a3 a4 a5 a6
  refine Keeps.step (s := a3) ?_ (fun ba3 => ?_); rotate_left; try clear_value a3
  refine Keeps.step (s := a4) ?_ (fun ba4 => ?_); rotate_left; try clear_value a4
  refine Keeps.step (s := a5) ?_ (fun ba5 => ?_); rotate_left; try clear_value a5
  refine Keeps.step (s := a6) ?_ (fun ba6 => ?_); rotate_left; try clear_value a6
  repeat' first | with_reducible assumption | (with_reducible apply Keeps.count) | (with_reducible apply Keeps.countDrop) |
                  (with_reducible apply Keeps.dropSpilled) | (with_reducible apply Keeps.hostWrite) |
                  (with_reducible apply Keeps.raise) | (with_reducible apply Keeps.updQueue) | (with_reducible apply Keeps.waitsDue) |
                  (with_reducible apply Keeps.foldl) | (with_reducible apply Keeps.foldlSnd) | (with_reducible rfl) |
                  (simp only [fixedSizes, length_upd, List.length_map, List.length_zipIdx]; first | done | rfl) | split |
                  (intro _ _ _) | (with_reducible refine Keeps.set (by with_reducible assumption) ?_ ?_) | unfold a1 | unfold a2 |
                  unfold a3 | unfold a4 | unfold a5 | unfold a6 | dsimp only

theorem Keeps.serviceRecord {s₀ s : State} (h : Keeps s₀ s) (q : Nat) (body : List Byte) :
    Keeps s₀ (s.serviceRecord q body) := by
  unfold State.serviceRecord
  extract_lets a1
  refine Keeps.step (s := a1) ?_ (fun ba1 => ?_); rotate_left; try clear_value a1
  repeat' first | with_reducible assumption | (with_reducible apply Keeps.countDrop) | (with_reducible apply Keeps.countSpillDrop) |
                  (with_reducible apply Keeps.place) | (with_reducible apply Keeps.resetQueue) | (with_reducible rfl) |
                  (simp only [fixedSizes, length_upd, List.length_map, List.length_zipIdx]; first | done | rfl) | split |
                  (intro _ _ _) | (with_reducible refine Keeps.set (by with_reducible assumption) ?_ ?_) | unfold a1 | dsimp only

theorem Keeps.covWrite {s₀ s : State} (h : Keeps s₀ s) (bs : List Byte) :
    Keeps s₀ (s.covWrite bs) := by
  unfold State.covWrite
  extract_lets a1 a2 a3 a4 a5
  refine Keeps.step (s := a1) ?_ (fun ba1 => ?_); rotate_left; try clear_value a1
  refine Keeps.step (s := a4) ?_ (fun ba4 => ?_); rotate_left; try clear_value a4
  refine Keeps.step (s := a5) ?_ (fun ba5 => ?_); rotate_left; try clear_value a5
  repeat' first | with_reducible assumption | (with_reducible apply Keeps.count) | (with_reducible apply Keeps.dramWrite) |
                  (with_reducible apply Keeps.serviceRecord) | (with_reducible rfl) |
                  (simp only [fixedSizes, length_upd, List.length_map, List.length_zipIdx]; first | done | rfl) | split |
                  (intro _ _ _) | (with_reducible refine Keeps.set (by with_reducible assumption) ?_ ?_) | unfold a1 | unfold a2 |
                  unfold a3 | unfold a4 | unfold a5 | dsimp only

theorem Keeps.covClose {s₀ s : State} (h : Keeps s₀ s) (e : CovEnt) :
    Keeps s₀ (s.covClose e) := by
  unfold State.covClose
  extract_lets a1 a2 a3
  refine Keeps.step (s := a3) ?_ (fun ba3 => ?_); rotate_left; try clear_value a3
  repeat' first | with_reducible assumption | (with_reducible apply Keeps.covWrite) | (with_reducible rfl) |
                  (simp only [fixedSizes, length_upd, List.length_map, List.length_zipIdx]; first | done | rfl) | split |
                  (intro _ _ _) | (with_reducible refine Keeps.set (by with_reducible assumption) ?_ ?_) | unfold a1 | unfold a2 |
                  unfold a3 | dsimp only

theorem Keeps.covReport {s₀ s : State} (h : Keeps s₀ s) (r : CovEnt) :
    Keeps s₀ (s.covReport r) := by
  unfold State.covReport
  extract_lets a1 a2 a3 a4 a5
  refine Keeps.step (s := a3) ?_ (fun ba3 => ?_); rotate_left; try clear_value a3
  repeat' first | with_reducible assumption | (with_reducible apply Keeps.count) | (with_reducible apply Keeps.covClose) |
                  (with_reducible rfl) | (simp only [fixedSizes, length_upd, List.length_map, List.length_zipIdx]; first | done |
                  rfl) | split | (intro _ _ _) | (with_reducible refine Keeps.set (by with_reducible assumption) ?_ ?_) | unfold a1 |
                  unfold a2 | unfold a3 | unfold a4 | unfold a5 | dsimp only

theorem Keeps.covPass {s₀ s : State} (h : Keeps s₀ s) (b : Branch) (line : Nat) :
    Keeps s₀ (s.covPass b line) := by
  unfold State.covPass
  repeat' first | with_reducible assumption | (with_reducible apply Keeps.count) | (with_reducible apply Keeps.covClose) |
                  (with_reducible apply Keeps.foldl) | (with_reducible apply Keeps.foldlSnd) | (with_reducible rfl) |
                  (simp only [fixedSizes, length_upd, List.length_map, List.length_zipIdx]; first | done | rfl) | split |
                  (intro _ _ _) | (with_reducible refine Keeps.set (by with_reducible assumption) ?_ ?_) | dsimp only

theorem Keeps.covLine {s₀ s : State} (h : Keeps s₀ s) (b : Branch) (line : Nat) (cols : Nat × Nat) (state : Nat) (cause : Ev) (detail : Nat) (items : Nat) :
    Keeps s₀ (s.covLine b line cols state cause detail items) := by
  unfold State.covLine
  repeat' first | with_reducible assumption | (with_reducible apply Keeps.covReport) | (with_reducible rfl) |
                  (simp only [fixedSizes, length_upd, List.length_map, List.length_zipIdx]; first | done | rfl) | split |
                  (intro _ _ _) | (with_reducible refine Keeps.set (by with_reducible assumption) ?_ ?_) | dsimp only

theorem Keeps.covLines {s₀ s : State} (h : Keeps s₀ s) (b : Branch) (line : Nat) (n : Nat) (cols : Nat × Nat) (state : Nat) (cause : Ev) (detail : Nat) (items : Nat) :
    Keeps s₀ (s.covLines b line n cols state cause detail items) := by
  unfold State.covLines
  repeat' first | with_reducible assumption | (with_reducible apply Keeps.covReport) | (with_reducible rfl) |
                  (simp only [fixedSizes, length_upd, List.length_map, List.length_zipIdx]; first | done | rfl) | split |
                  (intro _ _ _) | (with_reducible refine Keeps.set (by with_reducible assumption) ?_ ?_) | dsimp only

theorem Keeps.covJob {s₀ s : State} (h : Keeps s₀ s) (line : Nat) (job : Nat) (slot : Nat) (learn : Bool) (late : Nat) :
    Keeps s₀ (s.covJob line job slot learn late) := by
  unfold State.covJob
  extract_lets a1
  repeat' first | with_reducible assumption | (with_reducible apply Keeps.covWrite) | (with_reducible rfl) |
                  (simp only [fixedSizes, length_upd, List.length_map, List.length_zipIdx]; first | done | rfl) | split |
                  (intro _ _ _) | (with_reducible refine Keeps.set (by with_reducible assumption) ?_ ?_) | unfold a1 | dsimp only

/-! ### Machine/Operands.lean -/

theorem Keeps.fetch {s₀ s : State} (h : Keeps s₀ s) (op : Nat) (c : Cmd) :
    Keeps s₀ (s.fetch op c) := by
  unfold State.fetch
  extract_lets a1 a2 a3 a4 a5
  refine Keeps.step (s := a2) ?_ (fun ba2 => ?_); rotate_left; try clear_value a2
  repeat' first | with_reducible assumption | (with_reducible apply Keeps.updRing) | (with_reducible rfl) |
                  (simp only [fixedSizes, length_upd, List.length_map, List.length_zipIdx]; first | done | rfl) | split |
                  (intro _ _ _) | (with_reducible refine Keeps.set (by with_reducible assumption) ?_ ?_) | unfold a1 | unfold a2 |
                  unfold a3 | unfold a4 | unfold a5 | dsimp only

theorem Keeps.refuseEnvelope {s₀ s : State} (h : Keeps s₀ s) (op : Nat) (c : Cmd) (cid : Nat) (f : Nat × Nat) :
    Keeps s₀ (s.refuseEnvelope op c cid f) := by
  unfold State.refuseEnvelope
  extract_lets a1 a2
  refine Keeps.step (s := a1) ?_ (fun ba1 => ?_); rotate_left; try clear_value a1
  refine Keeps.step (s := a2) ?_ (fun ba2 => ?_); rotate_left; try clear_value a2
  repeat' first | with_reducible assumption | (with_reducible apply Keeps.auditAppend) | (with_reducible apply Keeps.count) |
                  (with_reducible apply Keeps.raise) | (with_reducible apply Keeps.reply) | (with_reducible rfl) |
                  (simp only [fixedSizes, length_upd, List.length_map, List.length_zipIdx]; first | done | rfl) | split |
                  (intro _ _ _) | (with_reducible refine Keeps.set (by with_reducible assumption) ?_ ?_) | unfold a1 | unfold a2 |
                  dsimp only

theorem Keeps.joinGroup {s₀ s : State} (h : Keeps s₀ s) (g : Group) (cid : Nat) (failed : Bool) (immediate : Bool) :
    Keeps s₀ (s.joinGroup g cid failed immediate) := by
  unfold State.joinGroup
  extract_lets a1
  repeat' first | with_reducible assumption | (with_reducible rfl) |
                  (simp only [fixedSizes, length_upd, List.length_map, List.length_zipIdx]; first | done | rfl) | split |
                  (intro _ _ _) | (with_reducible refine Keeps.set (by with_reducible assumption) ?_ ?_) | unfold a1 | dsimp only

/-- What a command's definition does keeps what every operation keeps. -/
def CmdDef.steady (d : CmdDef) : Prop := ∀ (s₀ s : State) (cid : Nat) (c : Cmd) (ctx : Ctx), Keeps s₀ s → Keeps s₀ (d.run s cid c ctx)

theorem Keeps.judge {s₀ s : State} (h : Keeps s₀ s) {d : CmdDef} (hd : d.steady) (cid : Nat) (c : Cmd) (e : Bool) :
    Keeps s₀ (s.judge d cid c e) := by
  unfold State.judge
  extract_lets a1 a2 a3 a4 a5 a6 a7 a8 a9
  clear_value a1 a2 a3 a4 a5 a6 a7 a8
  repeat' first | with_reducible assumption | (with_reducible apply Keeps.reply) | (with_reducible apply Keeps.raise) |
    (with_reducible apply Keeps.count) | (with_reducible apply Keeps.joinGroup) | (with_reducible apply Keeps.accept) | apply hd | split | dsimp only

theorem Keeps.runHost {s₀ s : State} (h : Keeps s₀ s) {d : CmdDef} (hd : d.steady) (t : Nat) (c : Cmd) :
    Keeps s₀ (runHost d t c s) := by
  unfold Sys2Proof.Machine.runHost
  extract_lets a1 a2 a3 a4
  have b1 : Keeps s₀ a1 := h.advance t
  clear_value a1
  split
  · exact b1
  · have b3 : Keeps s₀ a3 := b1.fetch _ _
    clear_value a3
    split
    · exact b3.judge hd _ _ _
    · split
      · exact b3.refuseEnvelope _ _ _ _
      · refine Keeps.judge ?_ hd _ _ _
        with_reducible refine Keeps.set b3 ?_ ?_
        · rfl
        · simp only [fixedSizes, length_upd]

/-! ### Machine/SenOps.lean -/

theorem Keeps.recomputeSlot {s₀ s : State} (h : Keeps s₀ s) :
    Keeps s₀ (s.recomputeSlot) := by
  unfold State.recomputeSlot
  extract_lets a1
  repeat' first | with_reducible assumption | (with_reducible rfl) |
                  (simp only [fixedSizes, length_upd, List.length_map, List.length_zipIdx]; first | done | rfl) | split |
                  (intro _ _ _) | (with_reducible refine Keeps.set (by with_reducible assumption) ?_ ?_) | unfold a1 | dsimp only

theorem Keeps.runWaves {s₀ s : State} (h : Keeps s₀ s) (xs : List (Nat × Nat)) (floor : Nat) :
    Keeps s₀ (s.runWaves xs floor) := by
  unfold State.runWaves
  extract_lets a1 a2 a3 a4 a5 a6 a7
  refine Keeps.step (s := a4) ?_ (fun ba4 => ?_); rotate_left; try clear_value a4
  refine Keeps.step (s := a5) ?_ (fun ba5 => ?_); rotate_left; try clear_value a5
  refine Keeps.step (s := a6) ?_ (fun ba6 => ?_); rotate_left; try clear_value a6
  repeat' first | with_reducible assumption | (with_reducible apply Keeps.count) | (with_reducible apply Keeps.raise) |
                  (with_reducible rfl) | (simp only [fixedSizes, length_upd, List.length_map, List.length_zipIdx]; first | done |
                  rfl) | split | (intro _ _ _) | (with_reducible refine Keeps.set (by with_reducible assumption) ?_ ?_) | unfold a1 |
                  unfold a2 | unfold a3 | unfold a4 | unfold a5 | unfold a6 | unfold a7 | dsimp only

theorem Keeps.updLane {s₀ s : State} (h : Keeps s₀ s) (i : Nat) (f : Lane → Lane) :
    Keeps s₀ (s.updLane i f) := by
  unfold State.updLane
  extract_lets a1
  repeat' first | with_reducible assumption | (with_reducible rfl) |
                  (simp only [fixedSizes, length_upd, List.length_map, List.length_zipIdx]; first | done | rfl) | split |
                  (intro _ _ _) | (with_reducible refine Keeps.set (by with_reducible assumption) ?_ ?_) | unfold a1 | dsimp only

theorem Keeps.updSpare {s₀ s : State} (h : Keeps s₀ s) (t : Nat) (f : Spare → Spare) :
    Keeps s₀ (s.updSpare t f) := by
  unfold State.updSpare
  extract_lets a1
  repeat' first | with_reducible assumption | (with_reducible rfl) |
                  (simp only [fixedSizes, length_upd, List.length_map, List.length_zipIdx]; first | done | rfl) | split |
                  (intro _ _ _) | (with_reducible refine Keeps.set (by with_reducible assumption) ?_ ?_) | unfold a1 | dsimp only

theorem Keeps.applyGains {s₀ s : State} (h : Keeps s₀ s) (p : Nat) :
    Keeps s₀ (s.applyGains p) := by
  unfold State.applyGains
  repeat' first | with_reducible assumption | (with_reducible apply Keeps.updLane) | (with_reducible apply Keeps.foldl) |
                  (with_reducible apply Keeps.foldlSnd) | (with_reducible rfl) |
                  (simp only [fixedSizes, length_upd, List.length_map, List.length_zipIdx]; first | done | rfl) | split |
                  (intro _ _ _) | (with_reducible refine Keeps.set (by with_reducible assumption) ?_ ?_) | dsimp only

theorem Keeps.blindLane {s₀ s : State} (h : Keeps s₀ s) (t : Nat) (l : Nat) (line : Nat) (p : Nat) :
    Keeps s₀ (s.blindLane t l line p) := by
  unfold State.blindLane
  extract_lets a1
  refine Keeps.step (s := a1) ?_ (fun ba1 => ?_); rotate_left; try clear_value a1
  repeat' first | with_reducible assumption | (with_reducible apply Keeps.count) | (with_reducible apply Keeps.raise) |
                  (with_reducible apply Keeps.updLane) | (with_reducible rfl) |
                  (simp only [fixedSizes, length_upd, List.length_map, List.length_zipIdx]; first | done | rfl) | split |
                  (intro _ _ _) | (with_reducible refine Keeps.set (by with_reducible assumption) ?_ ?_) | unfold a1 | dsimp only

theorem Keeps.checkFailed {s₀ s : State} (h : Keeps s₀ s) (t : Nat) (l : Nat) (kind : Nat) :
    Keeps s₀ (s.checkFailed t l kind) := by
  unfold State.checkFailed
  extract_lets a1
  refine Keeps.step (s := a1) ?_ (fun ba1 => ?_); rotate_left; try clear_value a1
  repeat' first | with_reducible assumption | (with_reducible apply Keeps.count) | (with_reducible apply Keeps.raise) |
                  (with_reducible apply Keeps.updLane) | (with_reducible rfl) |
                  (simp only [fixedSizes, length_upd, List.length_map, List.length_zipIdx]; first | done | rfl) | split |
                  (intro _ _ _) | (with_reducible refine Keeps.set (by with_reducible assumption) ?_ ?_) | unfold a1 | dsimp only

theorem Keeps.failSpare {s₀ s : State} (h : Keeps s₀ s) (t : Nat) (kind : Nat) (line : Nat) (p : Nat) :
    Keeps s₀ (s.failSpare t kind line p) := by
  unfold State.failSpare
  extract_lets a1 a2 a3 a4 a5
  refine Keeps.step (s := a1) ?_ (fun ba1 => ?_); rotate_left; try clear_value a1
  refine Keeps.step (s := a3) ?_ (fun ba3 => ?_); rotate_left; try clear_value a3
  refine Keeps.step (s := a4) ?_ (fun ba4 => ?_); rotate_left; try clear_value a4
  refine Keeps.step (s := a5) ?_ (fun ba5 => ?_); rotate_left; try clear_value a5
  repeat' first | with_reducible assumption | (with_reducible apply Keeps.blindLane) | (with_reducible apply Keeps.checkFailed) |
                  (with_reducible apply Keeps.raise) | (with_reducible apply Keeps.updLane) | (with_reducible apply Keeps.updSpare) |
                  (with_reducible rfl) | (simp only [fixedSizes, length_upd, List.length_map, List.length_zipIdx]; first | done |
                  rfl) | split | (intro _ _ _) | (with_reducible refine Keeps.set (by with_reducible assumption) ?_ ?_) | unfold a1 |
                  unfold a2 | unfold a3 | unfold a4 | unfold a5 | dsimp only

theorem Keeps.failLane {s₀ s : State} (h : Keeps s₀ s) (t : Nat) (l : Nat) (kind : Nat) (line : Nat) (p : Nat) (flush : Bool) :
    Keeps s₀ (s.failLane t l kind line p flush) := by
  unfold State.failLane
  extract_lets a1 a2 a3 a4
  refine Keeps.step (s := a1) ?_ (fun ba1 => ?_); rotate_left; try clear_value a1
  refine Keeps.step (s := a3) ?_ (fun ba3 => ?_); rotate_left; try clear_value a3
  refine Keeps.step (s := a4) ?_ (fun ba4 => ?_); rotate_left; try clear_value a4
  repeat' first | with_reducible assumption | (with_reducible apply Keeps.blindLane) | (with_reducible apply Keeps.checkFailed) |
                  (with_reducible apply Keeps.updLane) | (with_reducible apply Keeps.updSpare) | (with_reducible rfl) |
                  (simp only [fixedSizes, length_upd, List.length_map, List.length_zipIdx]; first | done | rfl) | split |
                  (intro _ _ _) | (with_reducible refine Keeps.set (by with_reducible assumption) ?_ ?_) | unfold a1 | unfold a2 |
                  unfold a3 | unfold a4 | dsimp only

theorem Keeps.failTile {s₀ s : State} (h : Keeps s₀ s) (t : Nat) (line : Nat) (p : Nat) (flush : Bool) (kinds : List (Nat × Nat)) :
    Keeps s₀ (s.failTile t line p flush kinds) := by
  unfold State.failTile
  extract_lets a1
  refine Keeps.step (s := a1) ?_ (fun ba1 => ?_); rotate_left; try clear_value a1
  repeat' first | with_reducible assumption | (with_reducible apply Keeps.failLane) | (with_reducible apply Keeps.failSpare) |
                  (with_reducible apply Keeps.foldl) | (with_reducible apply Keeps.foldlSnd) | (with_reducible rfl) |
                  (simp only [fixedSizes, length_upd, List.length_map, List.length_zipIdx]; first | done | rfl) | split |
                  (intro _ _ _) | (with_reducible refine Keeps.set (by with_reducible assumption) ?_ ?_) | unfold a1 | dsimp only

theorem Keeps.laneTests {s₀ s : State} (h : Keeps s₀ s) (p : Nat) (line : Nat) (flush : Bool) (tests : List LaneTest) :
    Keeps s₀ (s.laneTests p line flush tests) := by
  unfold State.laneTests
  repeat' first | with_reducible assumption | (with_reducible apply Keeps.failTile) | (with_reducible apply Keeps.updLane) |
                  (with_reducible apply Keeps.foldl) | (with_reducible apply Keeps.foldlSnd) | (with_reducible rfl) |
                  (simp only [fixedSizes, length_upd, List.length_map, List.length_zipIdx]; first | done | rfl) | split |
                  (intro _ _ _) | (with_reducible refine Keeps.set (by with_reducible assumption) ?_ ?_) | dsimp only

theorem Keeps.spareTakeover {s₀ s : State} (h : Keeps s₀ s) :
    Keeps s₀ (s.spareTakeover) := by
  unfold State.spareTakeover
  repeat' first | with_reducible assumption | (with_reducible apply Keeps.count) | (with_reducible apply Keeps.raise) |
                  (with_reducible apply Keeps.updLane) | (with_reducible apply Keeps.updSpare) | (with_reducible apply Keeps.foldl) |
                  (with_reducible apply Keeps.foldlSnd) | (with_reducible rfl) |
                  (simp only [fixedSizes, length_upd, List.length_map, List.length_zipIdx]; first | done | rfl) | split |
                  (intro _ _ _) | (with_reducible refine Keeps.set (by with_reducible assumption) ?_ ?_) | dsimp only

theorem Keeps.lanePixels {s₀ s : State} (h : Keeps s₀ s) (l : Nat) (p : Nat) (v : LaneVideo) (guardAt : Nat) (transfer : Nat) :
    Keeps s₀ (s.lanePixels l p v guardAt transfer).2 := by
  unfold State.lanePixels
  extract_lets a1 a2 a3 a4 a5 a6 a7 a8 a9 a10 a11 a12 a13 a14 a15 a16 a17 a18 a19 a20 a21 a22 a23 a24
  refine Keeps.step (s := a16) ?_ (fun ba16 => ?_); rotate_left; try clear_value a16
  refine Keeps.step (s := a17) ?_ (fun ba17 => ?_); rotate_left; try clear_value a17
  refine Keeps.step (s := a18) ?_ (fun ba18 => ?_); rotate_left; try clear_value a18
  repeat' first | with_reducible assumption | (with_reducible apply Keeps.count) | (with_reducible apply Keeps.raise) |
                  (with_reducible apply Keeps.updLane) | (with_reducible rfl) |
                  (simp only [fixedSizes, length_upd, List.length_map, List.length_zipIdx]; first | done | rfl) | split |
                  (intro _ _ _) | (with_reducible refine Keeps.set (by with_reducible assumption) ?_ ?_) | unfold a1 | unfold a2 |
                  unfold a3 | unfold a4 | unfold a5 | unfold a6 | unfold a7 | unfold a8 | unfold a9 | unfold a10 | unfold a11 |
                  unfold a12 | unfold a13 | unfold a14 | unfold a15 | unfold a16 | unfold a17 | unfold a18 | unfold a19 | unfold a20 |
                  unfold a21 | unfold a22 | unfold a23 | unfold a24 | dsimp only

theorem Keeps.unseed {s₀ s : State} (h : Keeps s₀ s) (c : Nat) :
    Keeps s₀ (s.unseed c) := by
  unfold State.unseed
  repeat' first | with_reducible assumption | (with_reducible apply Keeps.updLane) | (with_reducible rfl) |
                  (simp only [fixedSizes, length_upd, List.length_map, List.length_zipIdx]; first | done | rfl) | split |
                  (intro _ _ _) | (with_reducible refine Keeps.set (by with_reducible assumption) ?_ ?_) | dsimp only

theorem Keeps.unseedAll {s₀ s : State} (h : Keeps s₀ s) :
    Keeps s₀ (s.unseedAll) := by
  unfold State.unseedAll
  extract_lets a1
  repeat' first | with_reducible assumption | (with_reducible rfl) |
                  (simp only [fixedSizes, length_upd, List.length_map, List.length_zipIdx]; first | done | rfl) | split |
                  (intro _ _ _) | (with_reducible refine Keeps.set (by with_reducible assumption) ?_ ?_) | unfold a1 | dsimp only

theorem Keeps.lanesCommitted {s₀ s : State} (h : Keeps s₀ s) (old : Sparse Nat) (ws : List ParWrite) :
    Keeps s₀ (s.lanesCommitted old ws) := by
  unfold State.lanesCommitted
  extract_lets a1 a2 a3 a4
  refine Keeps.step (s := a2) ?_ (fun ba2 => ?_); rotate_left; try clear_value a2
  refine Keeps.step (s := a3) ?_ (fun ba3 => ?_); rotate_left; try clear_value a3
  repeat' first | with_reducible assumption | (with_reducible apply Keeps.unseed) | (with_reducible apply Keeps.updLane) |
                  (with_reducible apply Keeps.updSpare) | (with_reducible apply Keeps.foldl) | (with_reducible apply Keeps.foldlSnd) |
                  (with_reducible rfl) | (simp only [fixedSizes, length_upd, List.length_map, List.length_zipIdx]; first | done |
                  rfl) | split | (intro _ _ _) | (with_reducible refine Keeps.set (by with_reducible assumption) ?_ ?_) | unfold a1 |
                  unfold a2 | unfold a3 | unfold a4 | dsimp only

theorem Keeps.lanesPowered {s₀ s : State} (h : Keeps s₀ s) (t : Nat) :
    Keeps s₀ (s.lanesPowered t) := by
  unfold State.lanesPowered
  repeat' first | with_reducible assumption | (with_reducible apply Keeps.updLane) | (with_reducible apply Keeps.foldl) |
                  (with_reducible apply Keeps.foldlSnd) | (with_reducible rfl) |
                  (simp only [fixedSizes, length_upd, List.length_map, List.length_zipIdx]; first | done | rfl) | split |
                  (intro _ _ _) | (with_reducible refine Keeps.set (by with_reducible assumption) ?_ ?_) | dsimp only

/-! ### Machine/CorOps.lean -/

theorem Keeps.updTile {s₀ s : State} (h : Keeps s₀ s) (t : Nat) (f : TileCor → TileCor) :
    Keeps s₀ (s.updTile t f) := by
  unfold State.updTile
  extract_lets a1
  repeat' first | with_reducible assumption | (with_reducible rfl) |
                  (simp only [fixedSizes, length_upd, List.length_map, List.length_zipIdx]; first | done | rfl) | split |
                  (intro _ _ _) | (with_reducible refine Keeps.set (by with_reducible assumption) ?_ ?_) | unfold a1 | dsimp only

theorem Keeps.loadHalf {s₀ s : State} (h : Keeps s₀ s) (m : SetMem) (t : Nat) :
    Keeps s₀ (s.loadHalf m t) := by
  unfold State.loadHalf
  extract_lets a1 a2
  repeat' first | with_reducible assumption | (with_reducible apply Keeps.updTile) | (with_reducible rfl) |
                  (simp only [fixedSizes, length_upd, List.length_map, List.length_zipIdx]; first | done | rfl) | split |
                  (intro _ _ _) | (with_reducible refine Keeps.set (by with_reducible assumption) ?_ ?_) | unfold a1 | unfold a2 |
                  dsimp only

theorem Keeps.badRecords {s₀ s : State} (h : Keeps s₀ s) (rs : List FoundRec) :
    Keeps s₀ (s.badRecords rs) := by
  unfold State.badRecords
  repeat' first | with_reducible assumption | (with_reducible apply Keeps.count) | (with_reducible apply Keeps.raise) |
                  (with_reducible apply Keeps.foldl) | (with_reducible apply Keeps.foldlSnd) | (with_reducible rfl) |
                  (simp only [fixedSizes, length_upd, List.length_map, List.length_zipIdx]; first | done | rfl) | split |
                  (intro _ _ _) | (with_reducible refine Keeps.set (by with_reducible assumption) ?_ ?_) | dsimp only

theorem Keeps.swapTile {s₀ s : State} (h : Keeps s₀ s) (t : Nat) :
    Keeps s₀ (s.swapTile t) := by
  unfold State.swapTile
  extract_lets a1 a2
  refine Keeps.step (s := a1) ?_ (fun ba1 => ?_); rotate_left; try clear_value a1
  repeat' first | with_reducible assumption | (with_reducible apply Keeps.act) | (with_reducible apply Keeps.updTile) |
                  (with_reducible rfl) | (simp only [fixedSizes, length_upd, List.length_map, List.length_zipIdx]; first | done |
                  rfl) | split | (intro _ _ _) | (with_reducible refine Keeps.set (by with_reducible assumption) ?_ ?_) | unfold a1 |
                  unfold a2 | dsimp only

theorem Keeps.activeChanged {s₀ s : State} (h : Keeps s₀ s) (l : Nat) :
    Keeps s₀ (s.activeChanged l) := by
  unfold State.activeChanged
  extract_lets a1
  repeat' first | with_reducible assumption | (with_reducible apply Keeps.act) | (with_reducible apply Keeps.updTile) |
                  (with_reducible rfl) | (simp only [fixedSizes, length_upd, List.length_map, List.length_zipIdx]; first | done |
                  rfl) | split | (intro _ _ _) | (with_reducible refine Keeps.set (by with_reducible assumption) ?_ ?_) | unfold a1 |
                  dsimp only

theorem Keeps.newReading {s₀ s : State} (h : Keeps s₀ s) (b : Nat) (temp : Int) :
    Keeps s₀ (s.newReading b temp) := by
  unfold State.newReading
  extract_lets a1 a2
  repeat' first | with_reducible assumption | (with_reducible rfl) |
                  (simp only [fixedSizes, length_upd, List.length_map, List.length_zipIdx]; first | done | rfl) | split |
                  (intro _ _ _) | (with_reducible refine Keeps.set (by with_reducible assumption) ?_ ?_) | unfold a1 | unfold a2 |
                  dsimp only

theorem Keeps.lostReading {s₀ s : State} (h : Keeps s₀ s) (b : Nat) :
    Keeps s₀ (s.lostReading b) := by
  unfold State.lostReading
  extract_lets a1 a2 a3
  refine Keeps.step (s := a3) ?_ (fun ba3 => ?_); rotate_left; try clear_value a3
  repeat' first | with_reducible assumption | (with_reducible apply Keeps.raise) | (with_reducible rfl) |
                  (simp only [fixedSizes, length_upd, List.length_map, List.length_zipIdx]; first | done | rfl) | split |
                  (intro _ _ _) | (with_reducible refine Keeps.set (by with_reducible assumption) ?_ ?_) | unfold a1 | unfold a2 |
                  unfold a3 | dsimp only

theorem Keeps.sourceChanged {s₀ s : State} (h : Keeps s₀ s) (p : Nat) :
    Keeps s₀ (s.sourceChanged p) := by
  unfold State.sourceChanged
  extract_lets a1 a2
  repeat' first | with_reducible assumption | (with_reducible apply Keeps.act) | (with_reducible rfl) |
                  (simp only [fixedSizes, length_upd, List.length_map, List.length_zipIdx]; first | done | rfl) | split |
                  (intro _ _ _) | (with_reducible refine Keeps.set (by with_reducible assumption) ?_ ?_) | unfold a1 | unfold a2 |
                  dsimp only

theorem Keeps.judgeClamps {s₀ s : State} (h : Keeps s₀ s) :
    Keeps s₀ (s.judgeClamps) := by
  unfold State.judgeClamps
  repeat' first | with_reducible assumption | (with_reducible apply Keeps.raise) | (with_reducible apply Keeps.foldl) |
                  (with_reducible apply Keeps.foldlSnd) | (with_reducible rfl) |
                  (simp only [fixedSizes, length_upd, List.length_map, List.length_zipIdx]; first | done | rfl) | split |
                  (intro _ _ _) | (with_reducible refine Keeps.set (by with_reducible assumption) ?_ ?_) | dsimp only

theorem Keeps.applyFactors {s₀ s : State} (h : Keeps s₀ s) :
    Keeps s₀ (s.applyFactors) := by
  unfold State.applyFactors
  extract_lets a1 a2 a3
  refine Keeps.step (s := a3) ?_ (fun ba3 => ?_); rotate_left; try clear_value a3
  repeat' first | with_reducible assumption | (with_reducible apply Keeps.act) | (with_reducible apply Keeps.judgeClamps) |
                  (with_reducible rfl) | (simp only [fixedSizes, length_upd, List.length_map, List.length_zipIdx]; first | done |
                  rfl) | split | (intro _ _ _) | (with_reducible refine Keeps.set (by with_reducible assumption) ?_ ?_) | unfold a1 |
                  unfold a2 | unfold a3 | dsimp only

theorem Keeps.countTemps {s₀ s : State} (h : Keeps s₀ s) :
    Keeps s₀ (s.countTemps) := by
  unfold State.countTemps
  extract_lets a1 a2
  refine Keeps.step (s := a2) ?_ (fun ba2 => ?_); rotate_left; try clear_value a2
  repeat' first | with_reducible assumption | (with_reducible apply Keeps.count) | (with_reducible rfl) |
                  (simp only [fixedSizes, length_upd, List.length_map, List.length_zipIdx]; first | done | rfl) | split |
                  (intro _ _ _) | (with_reducible refine Keeps.set (by with_reducible assumption) ?_ ?_) | unfold a1 | unfold a2 |
                  dsimp only

theorem Keeps.countSat {s₀ s : State} (h : Keeps s₀ s) (c : Corrected) :
    Keeps s₀ (s.countSat c) := by
  unfold State.countSat
  extract_lets a1
  refine Keeps.step (s := a1) ?_ (fun ba1 => ?_); rotate_left; try clear_value a1
  repeat' first | with_reducible assumption | (with_reducible apply Keeps.count) | (with_reducible apply Keeps.raise) |
                  (with_reducible rfl) | (simp only [fixedSizes, length_upd, List.length_map, List.length_zipIdx]; first | done |
                  rfl) | split | (intro _ _ _) | (with_reducible refine Keeps.set (by with_reducible assumption) ?_ ?_) | unfold a1 |
                  dsimp only

theorem Keeps.countDefault {s₀ s : State} (h : Keeps s₀ s) (l : Nat) (line : Nat) :
    Keeps s₀ (s.countDefault l line) := by
  unfold State.countDefault
  extract_lets a1 a2 a3 a4 a5 a6 a7 a8
  refine Keeps.step (s := a1) ?_ (fun ba1 => ?_); rotate_left; try clear_value a1
  refine Keeps.step (s := a3) ?_ (fun ba3 => ?_); rotate_left; try clear_value a3
  refine Keeps.step (s := a4) ?_ (fun ba4 => ?_); rotate_left; try clear_value a4
  refine Keeps.step (s := a6) ?_ (fun ba6 => ?_); rotate_left; try clear_value a6
  refine Keeps.step (s := a7) ?_ (fun ba7 => ?_); rotate_left; try clear_value a7
  repeat' first | with_reducible assumption | (with_reducible apply Keeps.capture) | (with_reducible apply Keeps.count) |
                  (with_reducible apply Keeps.covLine) | (with_reducible apply Keeps.raise) | (with_reducible rfl) |
                  (simp only [fixedSizes, length_upd, List.length_map, List.length_zipIdx]; first | done | rfl) | split |
                  (intro _ _ _) | (with_reducible refine Keeps.set (by with_reducible assumption) ?_ ?_) | unfold a1 | unfold a2 |
                  unfold a3 | unfold a4 | unfold a5 | unfold a6 | unfold a7 | unfold a8 | dsimp only

theorem Keeps.dirUpdate {s₀ s : State} (h : Keeps s₀ s) (entry : Option (Nat × List Nat)) :
    Keeps s₀ (s.dirUpdate entry) := by
  unfold State.dirUpdate
  extract_lets a1 a2 a3 a4 a5
  repeat' first | with_reducible assumption | (with_reducible rfl) |
                  (simp only [fixedSizes, length_upd, List.length_map, List.length_zipIdx]; first | done | rfl) | split |
                  (intro _ _ _) | (with_reducible refine Keeps.set (by with_reducible assumption) ?_ ?_) |
                  (with_reducible refine Keeps.setFlash (by with_reducible assumption) (Sparse.write_wf _ _ _)) | unfold a1 |
                  unfold a2 | unfold a3 | unfold a4 | unfold a5 | dsimp only

theorem Keeps.dirBoot {s₀ s : State} (h : Keeps s₀ s) :
    Keeps s₀ (s.dirBoot) := by
  unfold State.dirBoot
  extract_lets a1 a2
  refine Keeps.step (s := a2) ?_ (fun ba2 => ?_); rotate_left; try clear_value a2
  repeat' first | with_reducible assumption | (with_reducible apply Keeps.raise) | (with_reducible rfl) |
                  (simp only [fixedSizes, length_upd, List.length_map, List.length_zipIdx]; first | done | rfl) | split |
                  (intro _ _ _) | (with_reducible refine Keeps.set (by with_reducible assumption) ?_ ?_) | unfold a1 | unfold a2 |
                  dsimp only

theorem Keeps.storeSet {s₀ s : State} (h : Keeps s₀ s) (slot : Nat) (f : Nat) :
    Keeps s₀ (s.storeSet slot f) := by
  unfold State.storeSet
  extract_lets a1 a2 a3
  refine Keeps.step (s := a3) ?_ (fun ba3 => ?_); rotate_left; try clear_value a3
  repeat' first | with_reducible assumption | (with_reducible apply Keeps.dirUpdate) | (with_reducible rfl) |
                  (simp only [fixedSizes, length_upd, List.length_map, List.length_zipIdx]; first | done | rfl) | split |
                  (intro _ _ _) | (with_reducible refine Keeps.set (by with_reducible assumption) ?_ ?_) |
                  (with_reducible refine Keeps.setFlash (by with_reducible assumption) (Sparse.write_wf _ _ _)) | unfold a1 |
                  unfold a2 | unfold a3 | dsimp only

theorem Keeps.restoreSet {s₀ s : State} (h : Keeps s₀ s) (slot : Nat) (f : Nat) :
    Keeps s₀ (s.restoreSet slot f) := by
  unfold State.restoreSet
  extract_lets a1
  repeat' first | with_reducible assumption | (with_reducible apply Keeps.dramWrite) | (with_reducible rfl) |
                  (simp only [fixedSizes, length_upd, List.length_map, List.length_zipIdx]; first | done | rfl) | split |
                  (intro _ _ _) | (with_reducible refine Keeps.set (by with_reducible assumption) ?_ ?_) | unfold a1 | dsimp only

/-! ### Machine/LampOps.lean -/

theorem Keeps.updBar {s₀ s : State} (h : Keeps s₀ s) (b : Nat) (f : Bar → Bar) :
    Keeps s₀ (s.updBar b f) := by
  unfold State.updBar
  extract_lets a1
  repeat' first | with_reducible assumption | (with_reducible rfl) |
                  (simp only [fixedSizes, length_upd, List.length_map, List.length_zipIdx]; first | done | rfl) | split |
                  (intro _ _ _) | (with_reducible refine Keeps.set (by with_reducible assumption) ?_ ?_) | unfold a1 | dsimp only

theorem Keeps.startUpload {s₀ s : State} (h : Keeps s₀ s) (b : Nat) :
    Keeps s₀ (s.startUpload b) := by
  unfold State.startUpload
  extract_lets a1 a2
  repeat' first | with_reducible assumption | (with_reducible apply Keeps.updBar) | (with_reducible rfl) |
                  (simp only [fixedSizes, length_upd, List.length_map, List.length_zipIdx]; first | done | rfl) | split |
                  (intro _ _ _) | (with_reducible refine Keeps.set (by with_reducible assumption) ?_ ?_) | unfold a1 | unfold a2 |
                  dsimp only

theorem Keeps.dropUpload {s₀ s : State} (h : Keeps s₀ s) (b : Nat) :
    Keeps s₀ (s.dropUpload b) := by
  unfold State.dropUpload
  repeat' first | with_reducible assumption | (with_reducible apply Keeps.updBar) | (with_reducible rfl) |
                  (simp only [fixedSizes, length_upd, List.length_map, List.length_zipIdx]; first | done | rfl) | split |
                  (intro _ _ _) | (with_reducible refine Keeps.set (by with_reducible assumption) ?_ ?_) | dsimp only

theorem Keeps.syncPulse {s₀ s : State} (h : Keeps s₀ s) :
    Keeps s₀ (s.syncPulse) := by
  unfold State.syncPulse
  extract_lets a1
  repeat' first | with_reducible assumption | (with_reducible rfl) |
                  (simp only [fixedSizes, length_upd, List.length_map, List.length_zipIdx]; first | done | rfl) | split |
                  (intro _ _ _) | (with_reducible refine Keeps.set (by with_reducible assumption) ?_ ?_) | unfold a1 | dsimp only

theorem Keeps.syncSelect {s₀ s : State} (h : Keeps s₀ s) (b : Nat) :
    Keeps s₀ (s.syncSelect b) := by
  unfold State.syncSelect
  repeat' first | with_reducible assumption | (with_reducible apply Keeps.syncPulse) | (with_reducible apply Keeps.updBar) |
                  (with_reducible rfl) | (simp only [fixedSizes, length_upd, List.length_map, List.length_zipIdx]; first | done |
                  rfl) | split | (intro _ _ _) | (with_reducible refine Keeps.set (by with_reducible assumption) ?_ ?_) | dsimp only

theorem Keeps.strobe {s₀ s : State} (h : Keeps s₀ s) (b : Nat) (p : Nat) (rise : Nat) (fall : Nat) :
    Keeps s₀ (s.strobe b p rise fall) := by
  unfold State.strobe
  extract_lets a1 a2 a3
  refine Keeps.step (s := a3) ?_ (fun ba3 => ?_); rotate_left; try clear_value a3
  repeat' first | with_reducible assumption | (with_reducible apply Keeps.updBar) | (with_reducible rfl) |
                  (simp only [fixedSizes, length_upd, List.length_map, List.length_zipIdx]; first | done | rfl) | split |
                  (intro _ _ _) | (with_reducible refine Keeps.set (by with_reducible assumption) ?_ ?_) | unfold a1 | unfold a2 |
                  unfold a3 | dsimp only

theorem Keeps.boostStep {s₀ s : State} (h : Keeps s₀ s) (b : Nat) (h : Nat) :
    Keeps s₀ (s.boostStep b h) := by
  unfold State.boostStep
  extract_lets a1 a2 a3 a4 a5
  refine Keeps.step (s := a5) ?_ (fun ba5 => ?_); rotate_left; try clear_value a5
  repeat' first | with_reducible assumption | (with_reducible apply Keeps.count) | (with_reducible apply Keeps.raise) |
                  (with_reducible apply Keeps.updBar) | (with_reducible rfl) |
                  (simp only [fixedSizes, length_upd, List.length_map, List.length_zipIdx]; first | done | rfl) | split |
                  (intro _ _ _) | (with_reducible refine Keeps.set (by with_reducible assumption) ?_ ?_) | unfold a1 | unfold a2 |
                  unfold a3 | unfold a4 | unfold a5 | dsimp only

theorem Keeps.newFaults {s₀ s : State} (h : Keeps s₀ s) (b : Nat) (c : Nat) (kind : Nat) (mask : Nat) :
    Keeps s₀ (s.newFaults b c kind mask) := by
  unfold State.newFaults
  extract_lets a1 a2 a3 a4 a5 a6 a7
  refine Keeps.step (s := a6) ?_ (fun ba6 => ?_); rotate_left; try clear_value a6
  repeat' first | with_reducible assumption | (with_reducible apply Keeps.raise) | (with_reducible apply Keeps.updBar) |
                  (with_reducible apply Keeps.foldl) | (with_reducible apply Keeps.foldlSnd) | (with_reducible rfl) |
                  (simp only [fixedSizes, length_upd, List.length_map, List.length_zipIdx]; first | done | rfl) | split |
                  (intro _ _ _) | (with_reducible refine Keeps.set (by with_reducible assumption) ?_ ?_) | unfold a1 | unfold a2 |
                  unfold a3 | unfold a4 | unfold a5 | unfold a6 | unfold a7 | dsimp only

theorem Keeps.chipAnswer {s₀ s : State} (h : Keeps s₀ s) (b : Nat) (c : Nat) (word : Nat) (st : Nat) :
    Keeps s₀ (s.chipAnswer b c word st) := by
  unfold State.chipAnswer
  extract_lets a1 a2 a3 a4 a5 a6 a7 a8
  refine Keeps.step (s := a3) ?_ (fun ba3 => ?_); rotate_left; try clear_value a3
  refine Keeps.step (s := a6) ?_ (fun ba6 => ?_); rotate_left; try clear_value a6
  refine Keeps.step (s := a8) ?_ (fun ba8 => ?_); rotate_left; try clear_value a8
  repeat' first | with_reducible assumption | (with_reducible apply Keeps.newFaults) | (with_reducible apply Keeps.raise) |
                  (with_reducible apply Keeps.updBar) | (with_reducible rfl) |
                  (simp only [fixedSizes, length_upd, List.length_map, List.length_zipIdx]; first | done | rfl) | split |
                  (intro _ _ _) | (with_reducible refine Keeps.set (by with_reducible assumption) ?_ ?_) | unfold a1 | unfold a2 |
                  unfold a3 | unfold a4 | unfold a5 | unfold a6 | unfold a7 | unfold a8 | dsimp only

theorem Keeps.goodFrame {s₀ s : State} (h : Keeps s₀ s) (b : Nat) (answered : ChainFrame) (status : List Nat) :
    Keeps s₀ (s.goodFrame b answered status) := by
  unfold State.goodFrame
  extract_lets a1 a2 a3 a4 a5 a6 a7 a8 a9 a10
  refine Keeps.step (s := a2) ?_ (fun ba2 => ?_); rotate_left; try clear_value a2
  refine Keeps.step (s := a4) ?_ (fun ba4 => ?_); rotate_left; try clear_value a4
  refine Keeps.step (s := a5) ?_ (fun ba5 => ?_); rotate_left; try clear_value a5
  refine Keeps.step (s := a7) ?_ (fun ba7 => ?_); rotate_left; try clear_value a7
  refine Keeps.step (s := a10) ?_ (fun ba10 => ?_); rotate_left; try clear_value a10
  repeat' first | with_reducible assumption | (with_reducible apply Keeps.boostStep) | (with_reducible apply Keeps.chipAnswer) |
                  (with_reducible apply Keeps.count) | (with_reducible apply Keeps.raise) | (with_reducible apply Keeps.updBar) |
                  (with_reducible apply Keeps.foldl) | (with_reducible apply Keeps.foldlSnd) | (with_reducible rfl) |
                  (simp only [fixedSizes, length_upd, List.length_map, List.length_zipIdx]; first | done | rfl) | split |
                  (intro _ _ _) | (with_reducible refine Keeps.set (by with_reducible assumption) ?_ ?_) | unfold a1 | unfold a2 |
                  unfold a3 | unfold a4 | unfold a5 | unfold a6 | unfold a7 | unfold a8 | unfold a9 | unfold a10 | dsimp only

theorem Keeps.badFrame {s₀ s : State} (h : Keeps s₀ s) (b : Nat) (answered : ChainFrame) :
    Keeps s₀ (s.badFrame b answered) := by
  unfold State.badFrame
  extract_lets a1 a2 a3
  refine Keeps.step (s := a1) ?_ (fun ba1 => ?_); rotate_left; try clear_value a1
  refine Keeps.step (s := a2) ?_ (fun ba2 => ?_); rotate_left; try clear_value a2
  repeat' first | with_reducible assumption | (with_reducible apply Keeps.count) | (with_reducible apply Keeps.raise) |
                  (with_reducible apply Keeps.updBar) | (with_reducible rfl) |
                  (simp only [fixedSizes, length_upd, List.length_map, List.length_zipIdx]; first | done | rfl) | split |
                  (intro _ _ _) | (with_reducible refine Keeps.set (by with_reducible assumption) ?_ ?_) | unfold a1 | unfold a2 |
                  unfold a3 | dsimp only

theorem Keeps.frameLatch {s₀ s : State} (h : Keeps s₀ s) (b : Nat) (status : List Nat) :
    Keeps s₀ (s.frameLatch b status) := by
  unfold State.frameLatch
  extract_lets a1 a2 a3 a4 a5 a6
  refine Keeps.step (s := a3) ?_ (fun ba3 => ?_); rotate_left; try clear_value a3
  refine Keeps.step (s := a4) ?_ (fun ba4 => ?_); rotate_left; try clear_value a4
  refine Keeps.step (s := a5) ?_ (fun ba5 => ?_); rotate_left; try clear_value a5
  repeat' first | with_reducible assumption | (with_reducible apply Keeps.badFrame) | (with_reducible apply Keeps.count) |
                  (with_reducible apply Keeps.goodFrame) | (with_reducible apply Keeps.updBar) | (with_reducible rfl) |
                  (simp only [fixedSizes, length_upd, List.length_map, List.length_zipIdx]; first | done | rfl) | split |
                  (intro _ _ _) | (with_reducible refine Keeps.set (by with_reducible assumption) ?_ ?_) | unfold a1 | unfold a2 |
                  unfold a3 | unfold a4 | unfold a5 | unfold a6 | dsimp only

theorem Keeps.proofPulse {s₀ s : State} (h : Keeps s₀ s) :
    Keeps s₀ (s.proofPulse) := by
  unfold State.proofPulse
  repeat' first | with_reducible assumption | (with_reducible apply Keeps.count) | (with_reducible apply Keeps.updBar) |
                  (with_reducible apply Keeps.foldl) | (with_reducible apply Keeps.foldlSnd) | (with_reducible rfl) |
                  (simp only [fixedSizes, length_upd, List.length_map, List.length_zipIdx]; first | done | rfl) | split |
                  (intro _ _ _) | (with_reducible refine Keeps.set (by with_reducible assumption) ?_ ?_) | dsimp only

theorem Keeps.proofLine {s₀ s : State} (h : Keeps s₀ s) :
    Keeps s₀ (s.proofLine) := by
  unfold State.proofLine
  extract_lets a1 a2 a3 a4 a5 a6
  refine Keeps.step (s := a4) ?_ (fun ba4 => ?_); rotate_left; try clear_value a4
  refine Keeps.step (s := a5) ?_ (fun ba5 => ?_); rotate_left; try clear_value a5
  repeat' first | with_reducible assumption | (with_reducible apply Keeps.count) | (with_reducible apply Keeps.raise) |
                  (with_reducible apply Keeps.foldl) | (with_reducible apply Keeps.foldlSnd) | (with_reducible rfl) |
                  (simp only [fixedSizes, length_upd, List.length_map, List.length_zipIdx]; first | done | rfl) | split |
                  (intro _ _ _) | (with_reducible refine Keeps.set (by with_reducible assumption) ?_ ?_) | unfold a1 | unfold a2 |
                  unfold a3 | unfold a4 | unfold a5 | unfold a6 | dsimp only

theorem Keeps.wantDerate {s₀ s : State} (h : Keeps s₀ s) (b : Nat) (f : Nat) :
    Keeps s₀ (s.wantDerate b f) := by
  unfold State.wantDerate
  extract_lets a1
  repeat' first | with_reducible assumption | (with_reducible apply Keeps.updBar) | (with_reducible rfl) |
                  (simp only [fixedSizes, length_upd, List.length_map, List.length_zipIdx]; first | done | rfl) | split |
                  (intro _ _ _) | (with_reducible refine Keeps.set (by with_reducible assumption) ?_ ?_) | unfold a1 | dsimp only

theorem Keeps.lampReading {s₀ s : State} (h : Keeps s₀ s) (b : Nat) (t : Int) :
    Keeps s₀ (s.lampReading b t) := by
  unfold State.lampReading
  extract_lets a1 a2 a3
  refine Keeps.step (s := a1) ?_ (fun ba1 => ?_); rotate_left; try clear_value a1
  refine Keeps.step (s := a3) ?_ (fun ba3 => ?_); rotate_left; try clear_value a3
  repeat' first | with_reducible assumption | (with_reducible apply Keeps.updBar) | (with_reducible apply Keeps.wantDerate) |
                  (with_reducible rfl) | (simp only [fixedSizes, length_upd, List.length_map, List.length_zipIdx]; first | done |
                  rfl) | split | (intro _ _ _) | (with_reducible refine Keeps.set (by with_reducible assumption) ?_ ?_) | unfold a1 |
                  unfold a2 | unfold a3 | dsimp only

theorem Keeps.lampInvalid {s₀ s : State} (h : Keeps s₀ s) (b : Nat) :
    Keeps s₀ (s.lampInvalid b) := by
  unfold State.lampInvalid
  extract_lets a1 a2
  refine Keeps.step (s := a1) ?_ (fun ba1 => ?_); rotate_left; try clear_value a1
  refine Keeps.step (s := a2) ?_ (fun ba2 => ?_); rotate_left; try clear_value a2
  repeat' first | with_reducible assumption | (with_reducible apply Keeps.raise) | (with_reducible apply Keeps.updBar) |
                  (with_reducible apply Keeps.wantDerate) | (with_reducible rfl) |
                  (simp only [fixedSizes, length_upd, List.length_map, List.length_zipIdx]; first | done | rfl) | split |
                  (intro _ _ _) | (with_reducible refine Keeps.set (by with_reducible assumption) ?_ ?_) | unfold a1 | unfold a2 |
                  dsimp only

theorem Keeps.lampTick {s₀ s : State} (h : Keeps s₀ s) (line : Nat) (boundary : Bool) :
    Keeps s₀ (s.lampTick line boundary) := by
  unfold State.lampTick
  repeat' first | with_reducible assumption | (with_reducible apply Keeps.raise) | (with_reducible apply Keeps.syncPulse) |
                  (with_reducible apply Keeps.updBar) | (with_reducible apply Keeps.foldl) | (with_reducible apply Keeps.foldlSnd) |
                  (with_reducible rfl) | (simp only [fixedSizes, length_upd, List.length_map, List.length_zipIdx]; first | done |
                  rfl) | split | (intro _ _ _) | (with_reducible refine Keeps.set (by with_reducible assumption) ?_ ?_) | dsimp only

theorem Keeps.shutLine {s₀ s : State} (h : Keeps s₀ s) (line : Nat) :
    Keeps s₀ (s.shutLine line) := by
  unfold State.shutLine
  repeat' first | with_reducible assumption | (with_reducible apply Keeps.capture) | (with_reducible apply Keeps.covLine) |
                  (with_reducible apply Keeps.foldl) | (with_reducible apply Keeps.foldlSnd) | (with_reducible rfl) |
                  (simp only [fixedSizes, length_upd, List.length_map, List.length_zipIdx]; first | done | rfl) | split |
                  (intro _ _ _) | (with_reducible refine Keeps.set (by with_reducible assumption) ?_ ?_) | dsimp only

theorem Keeps.barMode {s₀ s : State} (h : Keeps s₀ s) (b : Nat) (found : Option (Nat × Nat × List Nat)) :
    Keeps s₀ (s.barMode b found) := by
  unfold State.barMode
  extract_lets a1 a2
  refine Keeps.step (s := a2) ?_ (fun ba2 => ?_); rotate_left; try clear_value a2
  repeat' first | with_reducible assumption | (with_reducible apply Keeps.updBar) | (with_reducible rfl) |
                  (simp only [fixedSizes, length_upd, List.length_map, List.length_zipIdx]; first | done | rfl) | split |
                  (intro _ _ _) | (with_reducible refine Keeps.set (by with_reducible assumption) ?_ ?_) | unfold a1 | unfold a2 |
                  dsimp only

end Sys2Proof.Machine
end

