-- ==== Sys2Proof/Laws/KeepsMotion.lean ====
section
/-! SUPPORT. What every operation keeps: the position, motion, queue and capture operations. One lemma an operation. -/

set_option Elab.async false
set_option linter.all false
set_option linter.tactic.unusedName false

namespace Sys2Proof.Machine

/-! ### Machine/PosOps.lean -/

theorem Keeps.updEnc {s₀ s : State} (h : Keeps s₀ s) (k : Nat) (f : Enc → Enc) :
    Keeps s₀ (s.updEnc k f) := by
  unfold State.updEnc
  extract_lets a1
  repeat' first | with_reducible assumption | (with_reducible rfl) |
                  (simp only [fixedSizes, length_upd, List.length_map, List.length_zipIdx]; first | done | rfl) | split |
                  (intro _ _ _) | (with_reducible refine Keeps.set (by with_reducible assumption) ?_ ?_) | unfold a1 | dsimp only

theorem Keeps.moved {s₀ s : State} (h : Keeps s₀ s) (k : Nat) (old : Int) (new : Int) :
    Keeps s₀ (s.moved k old new) := by
  unfold State.moved
  extract_lets a1
  repeat' first | with_reducible assumption | (with_reducible apply Keeps.updEnc) | (with_reducible rfl) |
                  (simp only [fixedSizes, length_upd, List.length_map, List.length_zipIdx]; first | done | rfl) | split |
                  (intro _ _ _) | (with_reducible refine Keeps.set (by with_reducible assumption) ?_ ?_) | unfold a1 | dsimp only

theorem Keeps.corrPeriod {s₀ s : State} (h : Keeps s₀ s) (k : Nat) :
    Keeps s₀ (s.corrPeriod k) := by
  unfold State.corrPeriod
  extract_lets a1 a2 a3 a4 a5 a6 a7 a8 a9 a10 a11 a12 a13 a14 a15
  refine Keeps.step (s := a5) ?_ (fun ba5 => ?_); rotate_left; try clear_value a5
  refine Keeps.step (s := a15) ?_ (fun ba15 => ?_); rotate_left; try clear_value a15
  repeat' first | with_reducible assumption | (with_reducible apply Keeps.raise) | (with_reducible apply Keeps.updEnc) |
                  (with_reducible rfl) | (simp only [fixedSizes, length_upd, List.length_map, List.length_zipIdx]; first | done |
                  rfl) | split | (intro _ _ _) | (with_reducible refine Keeps.set (by with_reducible assumption) ?_ ?_) | unfold a1 |
                  unfold a2 | unfold a3 | unfold a4 | unfold a5 | unfold a6 | unfold a7 | unfold a8 | unfold a9 | unfold a10 |
                  unfold a11 | unfold a12 | unfold a13 | unfold a14 | unfold a15 | dsimp only

theorem Keeps.extremes {s₀ s : State} (h : Keeps s₀ s) (k : Nat) (x : EncSample) :
    Keeps s₀ (s.extremes k x) := by
  unfold State.extremes
  extract_lets a1 a2
  refine Keeps.step (s := a1) ?_ (fun ba1 => ?_); rotate_left; try clear_value a1
  repeat' first | with_reducible assumption | (with_reducible apply Keeps.corrPeriod) | (with_reducible apply Keeps.updEnc) |
                  (with_reducible rfl) | (simp only [fixedSizes, length_upd, List.length_map, List.length_zipIdx]; first | done |
                  rfl) | split | (intro _ _ _) | (with_reducible refine Keeps.set (by with_reducible assumption) ?_ ?_) | unfold a1 |
                  unfold a2 | dsimp only

theorem Keeps.doubleChange {s₀ s : State} (h : Keeps s₀ s) (k : Nat) :
    Keeps s₀ (s.doubleChange k) := by
  unfold State.doubleChange
  extract_lets a1
  refine Keeps.step (s := a1) ?_ (fun ba1 => ?_); rotate_left; try clear_value a1
  repeat' first | with_reducible assumption | (with_reducible apply Keeps.count) | (with_reducible apply Keeps.raise) |
                  (with_reducible apply Keeps.updEnc) | (with_reducible rfl) |
                  (simp only [fixedSizes, length_upd, List.length_map, List.length_zipIdx]; first | done | rfl) | split |
                  (intro _ _ _) | (with_reducible refine Keeps.set (by with_reducible assumption) ?_ ?_) | unfold a1 | dsimp only

theorem Keeps.sineSample {s₀ s : State} (h : Keeps s₀ s) (x : EncSample) :
    Keeps s₀ (s.sineSample x) := by
  unfold State.sineSample
  extract_lets a1 a2 a3 a4 a5 a6 a7 a8 a9 a10 a11
  refine Keeps.step (s := a6) ?_ (fun ba6 => ?_); rotate_left; try clear_value a6
  refine Keeps.step (s := a7) ?_ (fun ba7 => ?_); rotate_left; try clear_value a7
  refine Keeps.step (s := a9) ?_ (fun ba9 => ?_); rotate_left; try clear_value a9
  refine Keeps.step (s := a11) ?_ (fun ba11 => ?_); rotate_left; try clear_value a11
  repeat' first | with_reducible assumption | (with_reducible apply Keeps.count) | (with_reducible apply Keeps.doubleChange) |
                  (with_reducible apply Keeps.extremes) | (with_reducible apply Keeps.raise) | (with_reducible apply Keeps.updEnc) |
                  (with_reducible rfl) | (simp only [fixedSizes, length_upd, List.length_map, List.length_zipIdx]; first | done |
                  rfl) | split | (intro _ _ _) | (with_reducible refine Keeps.set (by with_reducible assumption) ?_ ?_) | unfold a1 |
                  unfold a2 | unfold a3 | unfold a4 | unfold a5 | unfold a6 | unfold a7 | unfold a8 | unfold a9 | unfold a10 |
                  unfold a11 | dsimp only

theorem Keeps.digitalSample {s₀ s : State} (h : Keeps s₀ s) (x : EncSample) :
    Keeps s₀ (s.digitalSample x) := by
  unfold State.digitalSample
  extract_lets a1 a2 a3 a4
  refine Keeps.step (s := a4) ?_ (fun ba4 => ?_); rotate_left; try clear_value a4
  repeat' first | with_reducible assumption | (with_reducible apply Keeps.doubleChange) | (with_reducible apply Keeps.updEnc) |
                  (with_reducible rfl) | (simp only [fixedSizes, length_upd, List.length_map, List.length_zipIdx]; first | done |
                  rfl) | split | (intro _ _ _) | (with_reducible refine Keeps.set (by with_reducible assumption) ?_ ?_) | unfold a1 |
                  unfold a2 | unfold a3 | unfold a4 | dsimp only

theorem Keeps.encSample {s₀ s : State} (h : Keeps s₀ s) (x : EncSample) :
    Keeps s₀ (s.encSample x) := by
  unfold State.encSample
  extract_lets a1 a2 a3
  refine Keeps.step (s := a2) ?_ (fun ba2 => ?_); rotate_left; try clear_value a2
  refine Keeps.step (s := a3) ?_ (fun ba3 => ?_); rotate_left; try clear_value a3
  repeat' first | with_reducible assumption | (with_reducible apply Keeps.digitalSample) | (with_reducible apply Keeps.moved) |
                  (with_reducible apply Keeps.sineSample) | (with_reducible apply Keeps.updEnc) | (with_reducible rfl) |
                  (simp only [fixedSizes, length_upd, List.length_map, List.length_zipIdx]; first | done | rfl) | split |
                  (intro _ _ _) | (with_reducible refine Keeps.set (by with_reducible assumption) ?_ ?_) | unfold a1 | unfold a2 |
                  unfold a3 | dsimp only

theorem Keeps.setPos {s₀ s : State} (h : Keeps s₀ s) (k : Nat) (v : Int) :
    Keeps s₀ (s.setPos k v) := by
  unfold State.setPos
  extract_lets a1 a2
  refine Keeps.step (s := a2) ?_ (fun ba2 => ?_); rotate_left; try clear_value a2
  repeat' first | with_reducible assumption | (with_reducible apply Keeps.moved) | (with_reducible apply Keeps.updEnc) |
                  (with_reducible rfl) | (simp only [fixedSizes, length_upd, List.length_map, List.length_zipIdx]; first | done |
                  rfl) | split | (intro _ _ _) | (with_reducible refine Keeps.set (by with_reducible assumption) ?_ ?_) | unfold a1 |
                  unfold a2 | dsimp only

theorem Keeps.refMark {s₀ s : State} (h : Keeps s₀ s) (k : Nat) :
    Keeps s₀ (s.refMark k) := by
  unfold State.refMark
  extract_lets a1 a2 a3 a4
  refine Keeps.step (s := a2) ?_ (fun ba2 => ?_); rotate_left; try clear_value a2
  repeat' first | with_reducible assumption | (with_reducible apply Keeps.count) | (with_reducible apply Keeps.raise) |
                  (with_reducible apply Keeps.setPos) | (with_reducible apply Keeps.updEnc) | (with_reducible rfl) |
                  (simp only [fixedSizes, length_upd, List.length_map, List.length_zipIdx]; first | done | rfl) | split |
                  (intro _ _ _) | (with_reducible refine Keeps.set (by with_reducible assumption) ?_ ?_) | unfold a1 | unfold a2 |
                  unfold a3 | unfold a4 | dsimp only

theorem Keeps.encCommitted {s₀ s : State} (h : Keeps s₀ s) (old : Sparse Nat) (k : Nat) :
    Keeps s₀ (s.encCommitted old k) := by
  unfold State.encCommitted
  extract_lets a1
  refine Keeps.step (s := a1) ?_ (fun ba1 => ?_); rotate_left; try clear_value a1
  repeat' first | with_reducible assumption | (with_reducible apply Keeps.updEnc) | (with_reducible rfl) |
                  (simp only [fixedSizes, length_upd, List.length_map, List.length_zipIdx]; first | done | rfl) | split |
                  (intro _ _ _) | (with_reducible refine Keeps.set (by with_reducible assumption) ?_ ?_) | unfold a1 | dsimp only

theorem Keeps.refArm {s₀ s : State} (h : Keeps s₀ s) (k : Nat) :
    Keeps s₀ (s.refArm k) := by
  unfold State.refArm
  repeat' first | with_reducible assumption | (with_reducible apply Keeps.updEnc) | (with_reducible rfl) |
                  (simp only [fixedSizes, length_upd, List.length_map, List.length_zipIdx]; first | done | rfl) | split |
                  (intro _ _ _) | (with_reducible refine Keeps.set (by with_reducible assumption) ?_ ?_) | dsimp only

theorem Keeps.admitEdge {s₀ s : State} (h : Keeps s₀ s) (i : Nat) (stamp : Nat) :
    Keeps s₀ (s.admitEdge i stamp).2 := by
  unfold State.admitEdge
  extract_lets a1 a2 a3
  repeat' first | with_reducible assumption | (with_reducible apply Keeps.count) | (with_reducible rfl) |
                  (simp only [fixedSizes, length_upd, List.length_map, List.length_zipIdx]; first | done | rfl) | split |
                  (intro _ _ _) | (with_reducible refine Keeps.set (by with_reducible assumption) ?_ ?_) | unfold a1 | unfold a2 |
                  unfold a3 | dsimp only

theorem Keeps.updChan {s₀ s : State} (h : Keeps s₀ s) (j : Nat) (f : TdcChan → TdcChan) :
    Keeps s₀ (s.updChan j f) := by
  unfold State.updChan
  extract_lets a1
  repeat' first | with_reducible assumption | (with_reducible rfl) |
                  (simp only [fixedSizes, length_upd, List.length_map, List.length_zipIdx]; first | done | rfl) | split |
                  (intro _ _ _) | (with_reducible refine Keeps.set (by with_reducible assumption) ?_ ?_) | unfold a1 | dsimp only

theorem Keeps.tdcEntry {s₀ s : State} (h : Keeps s₀ s) (j : Nat) (kind : Nat) (flags : Nat) (start : Edge) (interval : Int) (stopPos : Int) :
    Keeps s₀ (s.tdcEntry j kind flags start interval stopPos) := by
  unfold State.tdcEntry
  extract_lets a1
  refine Keeps.step (s := a1) ?_ (fun ba1 => ?_); rotate_left; try clear_value a1
  repeat' first | with_reducible assumption | (with_reducible apply Keeps.serviceRecord) | (with_reducible apply Keeps.updChan) |
                  (with_reducible rfl) | (simp only [fixedSizes, length_upd, List.length_map, List.length_zipIdx]; first | done |
                  rfl) | split | (intro _ _ _) | (with_reducible refine Keeps.set (by with_reducible assumption) ?_ ?_) | unfold a1 |
                  dsimp only

theorem Keeps.orphanStop {s₀ s : State} (h : Keeps s₀ s) :
    Keeps s₀ (s.orphanStop) := by
  unfold State.orphanStop
  repeat' first | with_reducible assumption | (with_reducible apply Keeps.count) | (with_reducible apply Keeps.raise) |
                  (with_reducible rfl) | (simp only [fixedSizes, length_upd, List.length_map, List.length_zipIdx]; first | done |
                  rfl) | split | (intro _ _ _) | (with_reducible refine Keeps.set (by with_reducible assumption) ?_ ?_) | dsimp only

theorem Keeps.tdcPair {s₀ s : State} (h : Keeps s₀ s) (j : Nat) (a : Edge) (b : Edge) (order : Bool) :
    Keeps s₀ (s.tdcPair j a b order) := by
  unfold State.tdcPair
  extract_lets a1 a2
  refine Keeps.step (s := a2) ?_ (fun ba2 => ?_); rotate_left; try clear_value a2
  repeat' first | with_reducible assumption | (with_reducible apply Keeps.tdcEntry) | (with_reducible apply Keeps.updChan) |
                  (with_reducible rfl) | (simp only [fixedSizes, length_upd, List.length_map, List.length_zipIdx]; first | done |
                  rfl) | split | (intro _ _ _) | (with_reducible refine Keeps.set (by with_reducible assumption) ?_ ?_) | unfold a1 |
                  unfold a2 | dsimp only

theorem Keeps.tdcStart {s₀ s : State} (h : Keeps s₀ s) (j : Nat) (e : Edge) :
    Keeps s₀ (s.tdcStart j e) := by
  unfold State.tdcStart
  extract_lets a1
  repeat' first | with_reducible assumption | (with_reducible apply Keeps.count) | (with_reducible apply Keeps.tdcPair) |
                  (with_reducible apply Keeps.updChan) | (with_reducible rfl) |
                  (simp only [fixedSizes, length_upd, List.length_map, List.length_zipIdx]; first | done | rfl) | split |
                  (intro _ _ _) | (with_reducible refine Keeps.set (by with_reducible assumption) ?_ ?_) | unfold a1 | dsimp only

theorem Keeps.tdcStop {s₀ s : State} (h : Keeps s₀ s) (j : Nat) (e : Edge) :
    Keeps s₀ (s.tdcStop j e) := by
  unfold State.tdcStop
  extract_lets a1
  repeat' first | with_reducible assumption | (with_reducible apply Keeps.orphanStop) | (with_reducible apply Keeps.tdcPair) |
                  (with_reducible apply Keeps.updChan) | (with_reducible rfl) |
                  (simp only [fixedSizes, length_upd, List.length_map, List.length_zipIdx]; first | done | rfl) | split |
                  (intro _ _ _) | (with_reducible refine Keeps.set (by with_reducible assumption) ?_ ?_) | unfold a1 | dsimp only

theorem Keeps.tdcEdge {s₀ s : State} (h : Keeps s₀ s) (j : Nat) (input : Nat) (stamp : Nat) (rising : Bool) :
    Keeps s₀ (s.tdcEdge j input stamp rising).2 := by
  unfold State.tdcEdge
  extract_lets a1 a2 a3 a4 a5
  repeat' first | with_reducible assumption | (with_reducible apply Keeps.orphanStop) | (with_reducible apply Keeps.tdcEntry) |
                  (with_reducible apply Keeps.tdcStart) | (with_reducible apply Keeps.tdcStop) | (with_reducible rfl) |
                  (simp only [fixedSizes, length_upd, List.length_map, List.length_zipIdx]; first | done | rfl) | split |
                  (intro _ _ _) | (with_reducible refine Keeps.set (by with_reducible assumption) ?_ ?_) | unfold a1 | unfold a2 |
                  unfold a3 | unfold a4 | unfold a5 | dsimp only

theorem Keeps.tdcEdges {s₀ s : State} (h : Keeps s₀ s) (input stamp : Nat) (rising : Bool) :
    Keeps s₀ (s.tdcEdges input stamp rising).2 := Keeps.foldlSnd (β := List (Nat × Edge)) (fun r _ hr => hr.tdcEdge _ _ _ _) _ ([], s) h

theorem Keeps.tdcAbort {s₀ s : State} (h : Keeps s₀ s) (j : Nat) :
    Keeps s₀ (s.tdcAbort j) := by
  unfold State.tdcAbort
  extract_lets a1 a2
  refine Keeps.step (s := a2) ?_ (fun ba2 => ?_); rotate_left; try clear_value a2
  repeat' first | with_reducible assumption | (with_reducible apply Keeps.tdcEntry) | (with_reducible apply Keeps.updChan) |
                  (with_reducible rfl) | (simp only [fixedSizes, length_upd, List.length_map, List.length_zipIdx]; first | done |
                  rfl) | split | (intro _ _ _) | (with_reducible refine Keeps.set (by with_reducible assumption) ?_ ?_) | unfold a1 |
                  unfold a2 | dsimp only

theorem Keeps.updTb {s₀ s : State} (h : Keeps s₀ s) (f : TimeBase → TimeBase) :
    Keeps s₀ (s.updTb f) := by
  unfold State.updTb
  extract_lets a1 a2
  refine Keeps.step (s := a1) ?_ (fun ba1 => ?_); rotate_left; try clear_value a1
  repeat' first | with_reducible assumption | (with_reducible apply Keeps.rebase) | (with_reducible rfl) |
                  (simp only [fixedSizes, length_upd, List.length_map, List.length_zipIdx]; first | done | rfl) | split |
                  (intro _ _ _) | (with_reducible refine Keeps.set (by with_reducible assumption) ?_ ?_) | unfold a1 | unfold a2 |
                  dsimp only

theorem Keeps.ppsState {s₀ s : State} (h : Keeps s₀ s) (st : PpsSt) :
    Keeps s₀ (s.ppsState st) := by
  unfold State.ppsState
  repeat' first | with_reducible assumption | (with_reducible apply Keeps.updTb) | (with_reducible rfl) |
                  (simp only [fixedSizes, length_upd, List.length_map, List.length_zipIdx]; first | done | rfl) | split |
                  (intro _ _ _) | (with_reducible refine Keeps.set (by with_reducible assumption) ?_ ?_) | dsimp only

theorem Keeps.stepCount {s₀ s : State} (h : Keeps s₀ s) (d : Int) :
    Keeps s₀ (s.stepCount d) := by
  unfold State.stepCount
  repeat' first | with_reducible assumption | (with_reducible apply Keeps.updTb) | (with_reducible rfl) |
                  (simp only [fixedSizes, length_upd, List.length_map, List.length_zipIdx]; first | done | rfl) | split |
                  (intro _ _ _) | (with_reducible refine Keeps.set (by with_reducible assumption) ?_ ?_) | dsimp only

theorem Keeps.setFreq {s₀ s : State} (h : Keeps s₀ s) (f : Int) :
    Keeps s₀ (s.setFreq f) := by
  unfold State.setFreq
  extract_lets a1
  refine Keeps.step (s := a1) ?_ (fun ba1 => ?_); rotate_left; try clear_value a1
  repeat' first | with_reducible assumption | (with_reducible apply Keeps.rebase) | (with_reducible apply Keeps.setPars) |
                  (with_reducible rfl) | (simp only [fixedSizes, length_upd, List.length_map, List.length_zipIdx]; first | done |
                  rfl) | split | (intro _ _ _) | (with_reducible refine Keeps.set (by with_reducible assumption) ?_ ?_) | unfold a1 |
                  dsimp only

theorem Keeps.loopUpdate {s₀ s : State} (h : Keeps s₀ s) (e : Int) :
    Keeps s₀ (s.loopUpdate e) := by
  unfold State.loopUpdate
  extract_lets a1 a2
  repeat' first | with_reducible assumption | (with_reducible apply Keeps.setFreq) | (with_reducible apply Keeps.updTb) |
                  (with_reducible rfl) | (simp only [fixedSizes, length_upd, List.length_map, List.length_zipIdx]; first | done |
                  rfl) | split | (intro _ _ _) | (with_reducible refine Keeps.set (by with_reducible assumption) ?_ ?_) | unfold a1 |
                  unfold a2 | dsimp only

theorem Keeps.performLoad {s₀ s : State} (h : Keeps s₀ s) (stamp : Nat) :
    Keeps s₀ (s.performLoad stamp).2 := by
  unfold State.performLoad
  repeat' first | with_reducible assumption | (with_reducible apply Keeps.committed) | (with_reducible apply Keeps.stepCount) |
                  (with_reducible apply Keeps.updTb) | (with_reducible rfl) |
                  (simp only [fixedSizes, length_upd, List.length_map, List.length_zipIdx]; first | done | rfl) | split |
                  (intro _ _ _) | (with_reducible refine Keeps.set (by with_reducible assumption) ?_ ?_) | dsimp only

theorem Keeps.ppsEdge {s₀ s : State} (h : Keeps s₀ s) (stamp : Nat) : Keeps s₀ (s.ppsEdge stamp) := by
  unfold State.ppsEdge
  split
  · exact h
  · extract_lets e a b c1 n c2 c d g
    have hb : Keeps s₀ b := by
      unfold b
      split
      · exact (h.updTb _).ppsState _
      · exact h.updTb _
    clear_value b
    split
    · split
      · split
        · exact ((hb.count _ _ _).raise _ _).ppsState _
        · exact ((hb.count _ _ _).raise _ _).updTb _
      · exact (hb.loopUpdate _).updTb _
    · have hc : Keeps s₀ c := by
        unfold c
        split
        · exact (hb.stepCount _).updTb _
        · exact hb
      split
      · exact ((hc.loopUpdate _).ppsState _).raise _ _
      · exact (hc.loopUpdate _).updTb _
    · exact hb

theorem Keeps.ppsModeSet {s₀ s : State} (h : Keeps s₀ s) :
    Keeps s₀ (s.ppsModeSet).2 := by
  unfold State.ppsModeSet
  extract_lets a1
  refine Keeps.step (s := a1) ?_ (fun ba1 => ?_); rotate_left; try clear_value a1
  repeat' first | with_reducible assumption | (with_reducible apply Keeps.performLoad) | (with_reducible apply Keeps.ppsState) |
                  (with_reducible apply Keeps.updTb) | (with_reducible rfl) |
                  (simp only [fixedSizes, length_upd, List.length_map, List.length_zipIdx]; first | done | rfl) | split |
                  (intro _ _ _) | (with_reducible refine Keeps.set (by with_reducible assumption) ?_ ?_) | unfold a1 | dsimp only

theorem Keeps.holdover {s₀ s : State} (h : Keeps s₀ s) :
    Keeps s₀ (s.holdover) := by
  unfold State.holdover
  repeat' first | with_reducible assumption | (with_reducible apply Keeps.ppsState) | (with_reducible apply Keeps.raise) |
                  (with_reducible apply Keeps.updTb) | (with_reducible rfl) |
                  (simp only [fixedSizes, length_upd, List.length_map, List.length_zipIdx]; first | done | rfl) | split |
                  (intro _ _ _) | (with_reducible refine Keeps.set (by with_reducible assumption) ?_ ?_) | dsimp only

theorem Keeps.ageStep {s₀ s : State} (h : Keeps s₀ s) :
    Keeps s₀ (s.ageStep) := by
  unfold State.ageStep
  extract_lets a1 a2 a3
  refine Keeps.step (s := a3) ?_ (fun ba3 => ?_); rotate_left; try clear_value a3
  repeat' first | with_reducible assumption | (with_reducible apply Keeps.setFreq) | (with_reducible apply Keeps.updTb) |
                  (with_reducible rfl) | (simp only [fixedSizes, length_upd, List.length_map, List.length_zipIdx]; first | done |
                  rfl) | split | (intro _ _ _) | (with_reducible refine Keeps.set (by with_reducible assumption) ?_ ?_) | unfold a1 |
                  unfold a2 | unfold a3 | dsimp only

theorem Keeps.ageLearn {s₀ s : State} (h : Keeps s₀ s) :
    Keeps s₀ (s.ageLearn) := by
  unfold State.ageLearn
  extract_lets a1
  repeat' first | with_reducible assumption | (with_reducible apply Keeps.setPars) | (with_reducible apply Keeps.updTb) |
                  (with_reducible rfl) | (simp only [fixedSizes, length_upd, List.length_map, List.length_zipIdx]; first | done |
                  rfl) | split | (intro _ _ _) | (with_reducible refine Keeps.set (by with_reducible assumption) ?_ ?_) | unfold a1 |
                  dsimp only

/-! ### Machine/MotOps.lean -/

theorem Keeps.updAxis {s₀ s : State} (h : Keeps s₀ s) (a : Nat) (f : Axis → Axis) :
    Keeps s₀ (s.updAxis a f) := by
  unfold State.updAxis
  extract_lets a1
  repeat' first | with_reducible assumption | (with_reducible rfl) |
                  (simp only [fixedSizes, length_upd, List.length_map, List.length_zipIdx]; first | done | rfl) | split |
                  (intro _ _ _) | (with_reducible refine Keeps.set (by with_reducible assumption) ?_ ?_) | unfold a1 | dsimp only

theorem Keeps.motLog {s₀ s : State} (h : Keeps s₀ s) (a : Nat) (kind : Nat) (detail : Nat) (target : Int) :
    Keeps s₀ (s.motLog a kind detail target) := by
  unfold State.motLog
  extract_lets a1
  repeat' first | with_reducible assumption | (with_reducible apply Keeps.serviceRecord) | (with_reducible rfl) |
                  (simp only [fixedSizes, length_upd, List.length_map, List.length_zipIdx]; first | done | rfl) | split |
                  (intro _ _ _) | (with_reducible refine Keeps.set (by with_reducible assumption) ?_ ?_) | unfold a1 | dsimp only

theorem Keeps.updCoil {s₀ s : State} (h : Keeps s₀ s) (a : Nat) (coil : Nat) (f : Coil → Coil) :
    Keeps s₀ (s.updCoil a coil f) := by
  unfold State.updCoil
  repeat' first | with_reducible assumption | (with_reducible apply Keeps.updAxis) | (with_reducible rfl) |
                  (simp only [fixedSizes, length_upd, List.length_map, List.length_zipIdx]; first | done | rfl) | split |
                  (intro _ _ _) | (with_reducible refine Keeps.set (by with_reducible assumption) ?_ ?_) | dsimp only

theorem Keeps.coilOn {s₀ s : State} (h : Keeps s₀ s) (a : Nat) (coil : Nat) :
    Keeps s₀ (s.coilOn a coil) := by
  unfold State.coilOn
  extract_lets a1
  repeat' first | with_reducible assumption | (with_reducible apply Keeps.hold) | (with_reducible apply Keeps.updCoil) |
                  (with_reducible rfl) | (simp only [fixedSizes, length_upd, List.length_map, List.length_zipIdx]; first | done |
                  rfl) | split | (intro _ _ _) | (with_reducible refine Keeps.set (by with_reducible assumption) ?_ ?_) | unfold a1 |
                  dsimp only

theorem Keeps.coilOff {s₀ s : State} (h : Keeps s₀ s) (a : Nat) (coil : Nat) (fast : Bool) :
    Keeps s₀ (s.coilOff a coil fast) := by
  unfold State.coilOff
  extract_lets a1 a2
  repeat' first | with_reducible assumption | (with_reducible apply Keeps.updCoil) | (with_reducible rfl) |
                  (simp only [fixedSizes, length_upd, List.length_map, List.length_zipIdx]; first | done | rfl) | split |
                  (intro _ _ _) | (with_reducible refine Keeps.set (by with_reducible assumption) ?_ ?_) | unfold a1 | unfold a2 |
                  dsimp only

theorem Keeps.coilsFollow {s₀ s : State} (h : Keeps s₀ s) (a : Nat) :
    Keeps s₀ (s.coilsFollow a) := by
  unfold State.coilsFollow
  repeat' first | with_reducible assumption | (with_reducible apply Keeps.coilOff) | (with_reducible apply Keeps.coilOn) |
                  (with_reducible apply Keeps.hold) | (with_reducible apply Keeps.updCoil) | (with_reducible apply Keeps.foldl) |
                  (with_reducible apply Keeps.foldlSnd) | (with_reducible rfl) |
                  (simp only [fixedSizes, length_upd, List.length_map, List.length_zipIdx]; first | done | rfl) | split |
                  (intro _ _ _) | (with_reducible refine Keeps.set (by with_reducible assumption) ?_ ?_) | dsimp only

theorem Keeps.atRest {s₀ s : State} (h : Keeps s₀ s) (a : Nat) :
    Keeps s₀ (s.atRest a) := by
  unfold State.atRest
  repeat' first | with_reducible assumption | (with_reducible apply Keeps.updAxis) | (with_reducible rfl) |
                  (simp only [fixedSizes, length_upd, List.length_map, List.length_zipIdx]; first | done | rfl) | split |
                  (intro _ _ _) | (with_reducible refine Keeps.set (by with_reducible assumption) ?_ ?_) | dsimp only

theorem Keeps.moveEnd {s₀ s : State} (h : Keeps s₀ s) (a : Nat) :
    Keeps s₀ (s.moveEnd a) := by
  unfold State.moveEnd
  extract_lets a1
  repeat' first | with_reducible assumption | (with_reducible apply Keeps.atRest) | (with_reducible apply Keeps.motLog) |
                  (with_reducible apply Keeps.raise) | (with_reducible rfl) |
                  (simp only [fixedSizes, length_upd, List.length_map, List.length_zipIdx]; first | done | rfl) | split |
                  (intro _ _ _) | (with_reducible refine Keeps.set (by with_reducible assumption) ?_ ?_) | unfold a1 | dsimp only

theorem Keeps.homeEnd {s₀ s : State} (h : Keeps s₀ s) (a : Nat) (code : Nat) :
    Keeps s₀ (s.homeEnd a code) := by
  unfold State.homeEnd
  extract_lets a1
  refine Keeps.step (s := a1) ?_ (fun ba1 => ?_); rotate_left; try clear_value a1
  repeat' first | with_reducible assumption | (with_reducible apply Keeps.atRest) | (with_reducible apply Keeps.motLog) |
                  (with_reducible apply Keeps.raise) | (with_reducible apply Keeps.updAxis) | (with_reducible rfl) |
                  (simp only [fixedSizes, length_upd, List.length_map, List.length_zipIdx]; first | done | rfl) | split |
                  (intro _ _ _) | (with_reducible refine Keeps.set (by with_reducible assumption) ?_ ?_) | unfold a1 | dsimp only

theorem Keeps.axisShort {s₀ s : State} (h : Keeps s₀ s) (a : Nat) (coil : Nat) :
    Keeps s₀ (s.axisShort a coil) := by
  unfold State.axisShort
  extract_lets a1 a2 a3 a4
  refine Keeps.step (s := a2) ?_ (fun ba2 => ?_); rotate_left; try clear_value a2
  refine Keeps.step (s := a3) ?_ (fun ba3 => ?_); rotate_left; try clear_value a3
  refine Keeps.step (s := a4) ?_ (fun ba4 => ?_); rotate_left; try clear_value a4
  repeat' first | with_reducible assumption | (with_reducible apply Keeps.count) | (with_reducible apply Keeps.hold) |
                  (with_reducible apply Keeps.motLog) | (with_reducible apply Keeps.raise) | (with_reducible apply Keeps.updAxis) |
                  (with_reducible rfl) | (simp only [fixedSizes, length_upd, List.length_map, List.length_zipIdx]; first | done |
                  rfl) | split | (intro _ _ _) | (with_reducible refine Keeps.set (by with_reducible assumption) ?_ ?_) | unfold a1 |
                  unfold a2 | unfold a3 | unfold a4 | dsimp only

theorem Keeps.motionStart {s₀ s : State} (h : Keeps s₀ s) (a : Nat) (st : AxisSt) (dir : Int) (rem : Int) (goal : Goal) :
    Keeps s₀ (s.motionStart a st dir rem goal) := by
  unfold State.motionStart
  extract_lets a1 a2 a3 a4
  refine Keeps.step (s := a2) ?_ (fun ba2 => ?_); rotate_left; try clear_value a2
  refine Keeps.step (s := a3) ?_ (fun ba3 => ?_); rotate_left; try clear_value a3
  refine Keeps.step (s := a4) ?_ (fun ba4 => ?_); rotate_left; try clear_value a4
  repeat' first | with_reducible assumption | (with_reducible apply Keeps.coilsFollow) | (with_reducible apply Keeps.motLog) |
                  (with_reducible apply Keeps.updAxis) | (with_reducible rfl) |
                  (simp only [fixedSizes, length_upd, List.length_map, List.length_zipIdx]; first | done | rfl) | split |
                  (intro _ _ _) | (with_reducible refine Keeps.set (by with_reducible assumption) ?_ ?_) | unfold a1 | unfold a2 |
                  unfold a3 | unfold a4 | dsimp only

theorem Keeps.unpark {s₀ s : State} (h : Keeps s₀ s) :
    Keeps s₀ (s.unpark) := by
  unfold State.unpark
  repeat' first | with_reducible assumption | (with_reducible apply Keeps.coilsFollow) | (with_reducible apply Keeps.updAxis) |
                  (with_reducible apply Keeps.foldl) | (with_reducible apply Keeps.foldlSnd) | (with_reducible rfl) |
                  (simp only [fixedSizes, length_upd, List.length_map, List.length_zipIdx]; first | done | rfl) | split |
                  (intro _ _ _) | (with_reducible refine Keeps.set (by with_reducible assumption) ?_ ?_) | dsimp only

theorem Keeps.moveEndAll {s₀ s : State} (h : Keeps s₀ s) (a : Nat) :
    Keeps s₀ (s.moveEndAll a) := by
  unfold State.moveEndAll
  repeat' first | with_reducible assumption | (with_reducible apply Keeps.moveEnd) | (with_reducible apply Keeps.foldl) |
                  (with_reducible apply Keeps.foldlSnd) | (with_reducible rfl) |
                  (simp only [fixedSizes, length_upd, List.length_map, List.length_zipIdx]; first | done | rfl) | split |
                  (intro _ _ _) | (with_reducible refine Keeps.set (by with_reducible assumption) ?_ ?_) | dsimp only

theorem Keeps.moveTo {s₀ s : State} (h : Keeps s₀ s) (a : Nat) (p : Int) :
    Keeps s₀ (s.moveTo a p).2 := by
  unfold State.moveTo
  extract_lets a1 a2 a3 a4 a5
  repeat' first | with_reducible assumption | (with_reducible apply Keeps.motionStart) | (with_reducible apply Keeps.moveEnd) |
                  (with_reducible apply Keeps.updAxis) | (with_reducible rfl) |
                  (simp only [fixedSizes, length_upd, List.length_map, List.length_zipIdx]; first | done | rfl) | split |
                  (intro _ _ _) | (with_reducible refine Keeps.set (by with_reducible assumption) ?_ ?_) | unfold a1 | unfold a2 |
                  unfold a3 | unfold a4 | unfold a5 | dsimp only

theorem Keeps.jogAt {s₀ s : State} (h : Keeps s₀ s) (a : Nat) (v : Int) :
    Keeps s₀ (s.jogAt a v) := by
  unfold State.jogAt
  extract_lets a1
  repeat' first | with_reducible assumption | (with_reducible apply Keeps.motionStart) | (with_reducible apply Keeps.moveEnd) |
                  (with_reducible apply Keeps.updAxis) | (with_reducible rfl) |
                  (simp only [fixedSizes, length_upd, List.length_map, List.length_zipIdx]; first | done | rfl) | split |
                  (intro _ _ _) | (with_reducible refine Keeps.set (by with_reducible assumption) ?_ ?_) | unfold a1 | dsimp only

theorem Keeps.haltAxis {s₀ s : State} (h : Keeps s₀ s) (a : Nat) (d : Nat) :
    Keeps s₀ (s.haltAxis a d) := by
  unfold State.haltAxis
  repeat' first | with_reducible assumption | (with_reducible apply Keeps.moveEndAll) | (with_reducible apply Keeps.updAxis) |
                  (with_reducible rfl) | (simp only [fixedSizes, length_upd, List.length_map, List.length_zipIdx]; first | done |
                  rfl) | split | (intro _ _ _) | (with_reducible refine Keeps.set (by with_reducible assumption) ?_ ?_) | dsimp only

theorem Keeps.stopAxis {s₀ s : State} (h : Keeps s₀ s) (a : Nat) (limit : Bool) :
    Keeps s₀ (s.stopAxis a limit) := by
  unfold State.stopAxis
  extract_lets a1 a2 a3
  refine Keeps.step (s := a3) ?_ (fun ba3 => ?_); rotate_left; try clear_value a3
  repeat' first | with_reducible assumption | (with_reducible apply Keeps.haltAxis) | (with_reducible apply Keeps.moveEnd) |
                  (with_reducible apply Keeps.updAxis) | (with_reducible rfl) |
                  (simp only [fixedSizes, length_upd, List.length_map, List.length_zipIdx]; first | done | rfl) | split |
                  (intro _ _ _) | (with_reducible refine Keeps.set (by with_reducible assumption) ?_ ?_) | unfold a1 | unfold a2 |
                  unfold a3 | dsimp only

theorem Keeps.interpolate {s₀ s : State} (h : Keeps s₀ s) (ds : List (Nat × Int)) :
    Keeps s₀ (s.interpolate ds) := by
  unfold State.interpolate
  extract_lets a1 a2 a3 a4 a5 a6 a7
  refine Keeps.step (s := a6) ?_ (fun ba6 => ?_); rotate_left; try clear_value a6
  refine Keeps.step (s := a7) ?_ (fun ba7 => ?_); rotate_left; try clear_value a7
  repeat' first | with_reducible assumption | (with_reducible apply Keeps.motionStart) | (with_reducible apply Keeps.moveEnd) |
                  (with_reducible apply Keeps.updAxis) | (with_reducible apply Keeps.foldl) | (with_reducible apply Keeps.foldlSnd) |
                  (with_reducible rfl) | (simp only [fixedSizes, length_upd, List.length_map, List.length_zipIdx]; first | done |
                  rfl) | split | (intro _ _ _) | (with_reducible refine Keeps.set (by with_reducible assumption) ?_ ?_) | unfold a1 |
                  unfold a2 | unfold a3 | unfold a4 | unfold a5 | unfold a6 | unfold a7 | dsimp only

theorem Keeps.stepAxis {s₀ s : State} (h : Keeps s₀ s) (a : Nat) (n : Int) :
    Keeps s₀ (s.stepAxis a n) := by
  unfold State.stepAxis
  extract_lets a1
  repeat' first | with_reducible assumption | (with_reducible apply Keeps.coilsFollow) | (with_reducible apply Keeps.updAxis) |
                  (with_reducible rfl) | (simp only [fixedSizes, length_upd, List.length_map, List.length_zipIdx]; first | done |
                  rfl) | split | (intro _ _ _) | (with_reducible refine Keeps.set (by with_reducible assumption) ?_ ?_) | unfold a1 |
                  dsimp only

theorem Keeps.carry {s₀ s : State} (h : Keeps s₀ s) (a : Nat) (lead : Nat) (n : Nat) :
    Keeps s₀ (s.carry a lead n) := by
  unfold State.carry
  repeat' first | with_reducible assumption | (with_reducible apply Keeps.stepAxis) | (with_reducible apply Keeps.updAxis) |
                  (with_reducible apply Keeps.foldl) | (with_reducible apply Keeps.foldlSnd) | (with_reducible rfl) |
                  (simp only [fixedSizes, length_upd, List.length_map, List.length_zipIdx]; first | done | rfl) | split |
                  (intro _ _ _) | (with_reducible refine Keeps.set (by with_reducible assumption) ?_ ?_) | dsimp only

theorem Keeps.homeOnTime {s₀ s : State} (h : Keeps s₀ s) (a : Nat) (coil : Nat) (t : Nat) :
    Keeps s₀ (s.homeOnTime a coil t) := by
  unfold State.homeOnTime
  repeat' first | with_reducible assumption | (with_reducible apply Keeps.count) | (with_reducible apply Keeps.updAxis) |
                  (with_reducible rfl) | (simp only [fixedSizes, length_upd, List.length_map, List.length_zipIdx]; first | done |
                  rfl) | split | (intro _ _ _) | (with_reducible refine Keeps.set (by with_reducible assumption) ?_ ?_) | dsimp only

theorem Keeps.homeStep {s₀ s : State} (h : Keeps s₀ s) (a : Nat) (n : Nat) :
    Keeps s₀ (s.homeStep a n) := by
  unfold State.homeStep
  extract_lets a1
  repeat' first | with_reducible assumption | (with_reducible apply Keeps.count) | (with_reducible apply Keeps.haltAxis) |
                  (with_reducible apply Keeps.homeEnd) | (with_reducible apply Keeps.motionStart) |
                  (with_reducible apply Keeps.updAxis) | (with_reducible rfl) |
                  (simp only [fixedSizes, length_upd, List.length_map, List.length_zipIdx]; first | done | rfl) | split |
                  (intro _ _ _) | (with_reducible refine Keeps.set (by with_reducible assumption) ?_ ?_) | unfold a1 | dsimp only

theorem Keeps.arrive {s₀ s : State} (h : Keeps s₀ s) (a : Nat) :
    Keeps s₀ (s.arrive a) := by
  unfold State.arrive
  extract_lets a1 a2 a3
  refine Keeps.step (s := a2) ?_ (fun ba2 => ?_); rotate_left; try clear_value a2
  refine Keeps.step (s := a3) ?_ (fun ba3 => ?_); rotate_left; try clear_value a3
  repeat' first | with_reducible assumption | (with_reducible apply Keeps.atRest) | (with_reducible apply Keeps.homeEnd) |
                  (with_reducible apply Keeps.jogAt) | (with_reducible apply Keeps.motLog) | (with_reducible apply Keeps.moveEndAll) |
                  (with_reducible apply Keeps.moveTo) | (with_reducible rfl) |
                  (simp only [fixedSizes, length_upd, List.length_map, List.length_zipIdx]; first | done | rfl) | split |
                  (intro _ _ _) | (with_reducible refine Keeps.set (by with_reducible assumption) ?_ ?_) | unfold a1 | unfold a2 |
                  unfold a3 | dsimp only

theorem Keeps.burin {s₀ s : State} (h : Keeps s₀ s) (a : Nat) :
    Keeps s₀ (s.burin a) := by
  unfold State.burin
  extract_lets a1 a2 a3 a4 a5 a6 a7 a8 a9 a10 a11
  refine Keeps.step (s := a6) ?_ (fun ba6 => ?_); rotate_left; try clear_value a6
  refine Keeps.step (s := a7) ?_ (fun ba7 => ?_); rotate_left; try clear_value a7
  refine Keeps.step (s := a8) ?_ (fun ba8 => ?_); rotate_left; try clear_value a8
  repeat' first | with_reducible assumption | (with_reducible apply Keeps.arrive) | (with_reducible apply Keeps.carry) |
                  (with_reducible apply Keeps.homeStep) | (with_reducible apply Keeps.stepAxis) |
                  (with_reducible apply Keeps.updAxis) | (with_reducible rfl) |
                  (simp only [fixedSizes, length_upd, List.length_map, List.length_zipIdx]; first | done | rfl) | split |
                  (intro _ _ _) | (with_reducible refine Keeps.set (by with_reducible assumption) ?_ ?_) | unfold a1 | unfold a2 |
                  unfold a3 | unfold a4 | unfold a5 | unfold a6 | unfold a7 | unfold a8 | unfold a9 | unfold a10 | unfold a11 |
                  dsimp only

theorem Keeps.gearSample {s₀ s : State} (h : Keeps s₀ s) (a : Nat) :
    Keeps s₀ (s.gearSample a) := by
  unfold State.gearSample
  repeat' first | with_reducible assumption | (with_reducible apply Keeps.count) | (with_reducible apply Keeps.raise) |
                  (with_reducible apply Keeps.updAxis) | (with_reducible rfl) |
                  (simp only [fixedSizes, length_upd, List.length_map, List.length_zipIdx]; first | done | rfl) | split |
                  (intro _ _ _) | (with_reducible refine Keeps.set (by with_reducible assumption) ?_ ?_) | dsimp only

theorem Keeps.gearCross {s₀ s : State} (h : Keeps s₀ s) (a : Nat) :
    Keeps s₀ (s.gearCross a) := by
  unfold State.gearCross
  repeat' first | with_reducible assumption | (with_reducible apply Keeps.motLog) | (with_reducible apply Keeps.raise) |
                  (with_reducible apply Keeps.updAxis) | (with_reducible rfl) |
                  (simp only [fixedSizes, length_upd, List.length_map, List.length_zipIdx]; first | done | rfl) | split |
                  (intro _ _ _) | (with_reducible refine Keeps.set (by with_reducible assumption) ?_ ?_) | dsimp only

theorem Keeps.gearStep {s₀ s : State} (h : Keeps s₀ s) (a : Nat) :
    Keeps s₀ (s.gearStep a) := by
  unfold State.gearStep
  extract_lets a1 a2
  repeat' first | with_reducible assumption | (with_reducible apply Keeps.stepAxis) | (with_reducible apply Keeps.updAxis) |
                  (with_reducible rfl) | (simp only [fixedSizes, length_upd, List.length_map, List.length_zipIdx]; first | done |
                  rfl) | split | (intro _ _ _) | (with_reducible refine Keeps.set (by with_reducible assumption) ?_ ?_) | unfold a1 |
                  unfold a2 | dsimp only

theorem Keeps.limitTrip {s₀ s : State} (h : Keeps s₀ s) (a : Nat) (side : Nat) :
    Keeps s₀ (s.limitTrip a side) := by
  unfold State.limitTrip
  extract_lets a1 a2 a3
  refine Keeps.step (s := a2) ?_ (fun ba2 => ?_); rotate_left; try clear_value a2
  refine Keeps.step (s := a3) ?_ (fun ba3 => ?_); rotate_left; try clear_value a3
  repeat' first | with_reducible assumption | (with_reducible apply Keeps.count) | (with_reducible apply Keeps.haltAxis) |
                  (with_reducible apply Keeps.motLog) | (with_reducible apply Keeps.raise) | (with_reducible apply Keeps.updAxis) |
                  (with_reducible rfl) | (simp only [fixedSizes, length_upd, List.length_map, List.length_zipIdx]; first | done |
                  rfl) | split | (intro _ _ _) | (with_reducible refine Keeps.set (by with_reducible assumption) ?_ ?_) | unfold a1 |
                  unfold a2 | unfold a3 | dsimp only

theorem Keeps.limitClear {s₀ s : State} (h : Keeps s₀ s) (a : Nat) (side : Nat) :
    Keeps s₀ (s.limitClear a side) := by
  unfold State.limitClear
  extract_lets a1 a2
  repeat' first | with_reducible assumption | (with_reducible apply Keeps.updAxis) | (with_reducible rfl) |
                  (simp only [fixedSizes, length_upd, List.length_map, List.length_zipIdx]; first | done | rfl) | split |
                  (intro _ _ _) | (with_reducible refine Keeps.set (by with_reducible assumption) ?_ ?_) | unfold a1 | unfold a2 |
                  dsimp only

theorem Keeps.paceEval {s₀ s : State} (h : Keeps s₀ s) :
    Keeps s₀ (s.paceEval) := by
  unfold State.paceEval
  extract_lets a1 a2 a3 a4 a5 a6 a7 a8 a9 a10 a11 a12 a13 a14 a15 a16 a17 a18 a19 a20 a21 a22 a23 a24 a25 a26 a27 a28
  refine Keeps.step (s := a19) ?_ (fun ba19 => ?_); rotate_left; try clear_value a19
  refine Keeps.step (s := a20) ?_ (fun ba20 => ?_); rotate_left; try clear_value a20
  refine Keeps.step (s := a21) ?_ (fun ba21 => ?_); rotate_left; try clear_value a21
  refine Keeps.step (s := a23) ?_ (fun ba23 => ?_); rotate_left; try clear_value a23
  refine Keeps.step (s := a24) ?_ (fun ba24 => ?_); rotate_left; try clear_value a24
  refine Keeps.step (s := a25) ?_ (fun ba25 => ?_); rotate_left; try clear_value a25
  refine Keeps.step (s := a26) ?_ (fun ba26 => ?_); rotate_left; try clear_value a26
  repeat' first | with_reducible assumption | (with_reducible apply Keeps.count) | (with_reducible apply Keeps.motLog) |
                  (with_reducible apply Keeps.raise) | (with_reducible apply Keeps.setPars) | (with_reducible apply Keeps.unpark) |
                  (with_reducible apply Keeps.foldl) | (with_reducible apply Keeps.foldlSnd) | (with_reducible rfl) |
                  (simp only [fixedSizes, length_upd, List.length_map, List.length_zipIdx]; first | done | rfl) | split |
                  (intro _ _ _) | (with_reducible refine Keeps.set (by with_reducible assumption) ?_ ?_) | unfold a1 | unfold a2 |
                  unfold a3 | unfold a4 | unfold a5 | unfold a6 | unfold a7 | unfold a8 | unfold a9 | unfold a10 | unfold a11 |
                  unfold a12 | unfold a13 | unfold a14 | unfold a15 | unfold a16 | unfold a17 | unfold a18 | unfold a19 | unfold a20 |
                  unfold a21 | unfold a22 | unfold a23 | unfold a24 | unfold a25 | unfold a26 | unfold a27 | unfold a28 | dsimp only

theorem Keeps.axisEnabled {s₀ s : State} (h : Keeps s₀ s) (a : Nat) :
    Keeps s₀ (s.axisEnabled a) := by
  unfold State.axisEnabled
  extract_lets a1 a2
  refine Keeps.step (s := a1) ?_ (fun ba1 => ?_); rotate_left; try clear_value a1
  repeat' first | with_reducible assumption | (with_reducible apply Keeps.coilOn) | (with_reducible apply Keeps.updAxis) |
                  (with_reducible rfl) | (simp only [fixedSizes, length_upd, List.length_map, List.length_zipIdx]; first | done |
                  rfl) | split | (intro _ _ _) | (with_reducible refine Keeps.set (by with_reducible assumption) ?_ ?_) | unfold a1 |
                  unfold a2 | dsimp only

/-! ### Machine/QueueOps.lean -/

theorem Keeps.unreported {s₀ s : State} (h : Keeps s₀ s) (b : Branch) (q : Nat) (line : Nat) (n : Nat) (cols : Nat × Nat) (cause : Ev) (items : Nat) :
    Keeps s₀ (s.unreported b q line n cols cause items) := by
  unfold State.unreported
  repeat' first | with_reducible assumption | (with_reducible apply Keeps.covReport) | (with_reducible rfl) |
                  (simp only [fixedSizes, length_upd, List.length_map, List.length_zipIdx]; first | done | rfl) | split |
                  (intro _ _ _) | (with_reducible refine Keeps.set (by with_reducible assumption) ?_ ?_) | dsimp only

theorem Keeps.footprints {s₀ : State} (q : Nat) (cause : Ev) : ∀ (ps : List PktSpan) {s : State} (_ : Keeps s₀ s), Keeps s₀ (s.footprints q cause ps)
  | [], _, h => h
  | p :: ps, s, h => by
    refine Keeps.footprints q cause ps ?_
    split
    · exact Keeps.foldl (fun s a hs => hs.unreported _ _ _ _ _ _ _) _ _ h
    · split
      · exact h
      · exact h.unreported _ _ _ _ _ _ _
    · exact h

theorem Keeps.setBand {s₀ s : State} (h : Keeps s₀ s) (q : Nat) (b : Option Band) :
    Keeps s₀ (s.setBand q b) := by
  unfold State.setBand
  extract_lets a1
  repeat' first | with_reducible assumption | (with_reducible rfl) |
                  (simp only [fixedSizes, length_upd, List.length_map, List.length_zipIdx]; first | done | rfl) | split |
                  (intro _ _ _) | (with_reducible refine Keeps.set (by with_reducible assumption) ?_ ?_) | unfold a1 | dsimp only

theorem Keeps.loseBand {s₀ s : State} (h : Keeps s₀ s) (q : Nat) (cause : Ev) :
    Keeps s₀ (s.loseBand q cause) := by
  unfold State.loseBand
  repeat' first | with_reducible assumption | (with_reducible apply Keeps.setBand) | (with_reducible rfl) |
                  (simp only [fixedSizes, length_upd, List.length_map, List.length_zipIdx]; first | done | rfl) | split |
                  (intro _ _ _) | (with_reducible refine Keeps.set (by with_reducible assumption) ?_ ?_) | dsimp only

theorem Keeps.checkQueue {s₀ s : State} (h : Keeps s₀ s) (q : Nat) :
    Keeps s₀ (s.checkQueue q) := by
  unfold State.checkQueue
  extract_lets a1 a2 a3
  refine Keeps.step (s := a3) ?_ (fun ba3 => ?_); rotate_left; try clear_value a3
  repeat' first | with_reducible assumption | (with_reducible apply Keeps.footprints) | (with_reducible apply Keeps.loseBand) |
                  (with_reducible apply Keeps.resetQueue) | (with_reducible rfl) |
                  (simp only [fixedSizes, length_upd, List.length_map, List.length_zipIdx]; first | done | rfl) | split |
                  (intro _ _ _) | (with_reducible refine Keeps.set (by with_reducible assumption) ?_ ?_) | unfold a1 | unfold a2 |
                  unfold a3 | dsimp only

theorem Keeps.regionGroup {s₀ s : State} (h : Keeps s₀ s) (q : Nat) (source : Nat) (line0 : Nat) (line1 : Nat) (rec : Nat → List Byte) (tiles : List (Nat → List Byte)) :
    Keeps s₀ (s.regionGroup q source line0 line1 rec tiles) := by
  unfold State.regionGroup
  extract_lets a1 a2 a3 a4 a5
  refine Keeps.step (s := a1) ?_ (fun ba1 => ?_); rotate_left; try clear_value a1
  refine Keeps.step (s := a4) ?_ (fun ba4 => ?_); rotate_left; try clear_value a4
  refine Keeps.step (s := a5) ?_ (fun ba5 => ?_); rotate_left; try clear_value a5
  repeat' first | with_reducible assumption | (with_reducible apply Keeps.checkQueue) | (with_reducible apply Keeps.count) |
                  (with_reducible apply Keeps.countDrop) | (with_reducible apply Keeps.countSpillDrop) |
                  (with_reducible apply Keeps.covPass) | (with_reducible apply Keeps.place) | (with_reducible apply Keeps.unreported) |
                  (with_reducible apply Keeps.foldl) | (with_reducible apply Keeps.foldlSnd) | (with_reducible rfl) |
                  (simp only [fixedSizes, length_upd, List.length_map, List.length_zipIdx]; first | done | rfl) | split |
                  (intro _ _ _) | (with_reducible refine Keeps.set (by with_reducible assumption) ?_ ?_) | unfold a1 | unfold a2 |
                  unfold a3 | unfold a4 | unfold a5 | dsimp only

theorem Keeps.tilesAlone {s₀ s : State} (h : Keeps s₀ s) (q : Nat) (source : Nat) (line0 : Nat) (line1 : Nat) (tiles : List (List Byte)) :
    Keeps s₀ (s.tilesAlone q source line0 line1 tiles) := by
  unfold State.tilesAlone
  repeat' first | with_reducible assumption | (with_reducible apply Keeps.checkQueue) | (with_reducible apply Keeps.count) |
                  (with_reducible apply Keeps.countDrop) | (with_reducible apply Keeps.countSpillDrop) |
                  (with_reducible apply Keeps.place) | (with_reducible apply Keeps.foldl) | (with_reducible apply Keeps.foldlSnd) |
                  (with_reducible rfl) | (simp only [fixedSizes, length_upd, List.length_map, List.length_zipIdx]; first | done |
                  rfl) | split | (intro _ _ _) | (with_reducible refine Keeps.set (by with_reducible assumption) ?_ ?_) | dsimp only

theorem Keeps.recordTo {s₀ s : State} (h : Keeps s₀ s) (q : Nat) (body : List Byte) :
    Keeps s₀ (s.recordTo q body) := by
  unfold State.recordTo
  extract_lets a1
  refine Keeps.step (s := a1) ?_ (fun ba1 => ?_); rotate_left; try clear_value a1
  repeat' first | with_reducible assumption | (with_reducible apply Keeps.checkQueue) | (with_reducible apply Keeps.countDrop) |
                  (with_reducible apply Keeps.countSpillDrop) | (with_reducible apply Keeps.place) | (with_reducible rfl) |
                  (simp only [fixedSizes, length_upd, List.length_map, List.length_zipIdx]; first | done | rfl) | split |
                  (intro _ _ _) | (with_reducible refine Keeps.set (by with_reducible assumption) ?_ ?_) | unfold a1 | dsimp only

theorem Keeps.bandWritten {s₀ s : State} (h : Keeps s₀ s) (q : Nat) (b : Band) (n : Nat) (done : Bool) :
    Keeps s₀ (s.bandWritten q b n done) := by
  unfold State.bandWritten
  extract_lets a1 a2 a3 a4 a5
  refine Keeps.step (s := a4) ?_ (fun ba4 => ?_); rotate_left; try clear_value a4
  refine Keeps.step (s := a5) ?_ (fun ba5 => ?_); rotate_left; try clear_value a5
  repeat' first | with_reducible assumption | (with_reducible apply Keeps.pktWrite) | (with_reducible apply Keeps.publish) |
                  (with_reducible apply Keeps.updQueue) | (with_reducible rfl) |
                  (simp only [fixedSizes, length_upd, List.length_map, List.length_zipIdx]; first | done | rfl) | split |
                  (intro _ _ _) | (with_reducible refine Keeps.set (by with_reducible assumption) ?_ ?_) | unfold a1 | unfold a2 |
                  unfold a3 | unfold a4 | unfold a5 | dsimp only

theorem Keeps.bandEnd {s₀ s : State} (h : Keeps s₀ s) (q : Nat) :
    Keeps s₀ (s.bandEnd q) := by
  unfold State.bandEnd
  extract_lets a1
  refine Keeps.step (s := a1) ?_ (fun ba1 => ?_); rotate_left; try clear_value a1
  repeat' first | with_reducible assumption | (with_reducible apply Keeps.bandWritten) | (with_reducible apply Keeps.countUnsigned) |
                  (with_reducible apply Keeps.pktWrite) | (with_reducible apply Keeps.setBand) | (with_reducible rfl) |
                  (simp only [fixedSizes, length_upd, List.length_map, List.length_zipIdx]; first | done | rfl) | split |
                  (intro _ _ _) | (with_reducible refine Keeps.set (by with_reducible assumption) ?_ ?_) | unfold a1 | dsimp only

theorem Keeps.bandStart {s₀ s : State} (h : Keeps s₀ s) (q : Nat) (l : ImgLine) :
    Keeps s₀ (s.bandStart q l) := by
  unfold State.bandStart
  extract_lets a1 a2 a3 a4 a5 a6 a7 a8 a9 a10 a11 a12 a13 a14 a15 a16 a17 a18 a19 a20 a21 a22 a23 a24 a25 a26 a27 a28
  refine Keeps.step (s := a1) ?_ (fun ba1 => ?_); rotate_left; try clear_value a1
  refine Keeps.step (s := a13) ?_ (fun ba13 => ?_); rotate_left; try clear_value a13
  refine Keeps.step (s := a15) ?_ (fun ba15 => ?_); rotate_left; try clear_value a15
  refine Keeps.step (s := a24) ?_ (fun ba24 => ?_); rotate_left; try clear_value a24
  refine Keeps.step (s := a25) ?_ (fun ba25 => ?_); rotate_left; try clear_value a25
  refine Keeps.step (s := a26) ?_ (fun ba26 => ?_); rotate_left; try clear_value a26
  refine Keeps.step (s := a27) ?_ (fun ba27 => ?_); rotate_left; try clear_value a27
  refine Keeps.step (s := a28) ?_ (fun ba28 => ?_); rotate_left; try clear_value a28
  repeat' first | with_reducible assumption | (with_reducible apply Keeps.checkQueue) | (with_reducible apply Keeps.countDrop) |
                  (with_reducible apply Keeps.countSpillDrop) | (with_reducible apply Keeps.countUnsigned) |
                  (with_reducible apply Keeps.pktWrite) | (with_reducible apply Keeps.setBand) |
                  (with_reducible apply Keeps.takeSpill) | (with_reducible apply Keeps.updQueue) |
                  (with_reducible apply Keeps.writePad) | (with_reducible rfl) |
                  (simp only [fixedSizes, length_upd, List.length_map, List.length_zipIdx]; first | done | rfl) | split |
                  (intro _ _ _) | (with_reducible refine Keeps.set (by with_reducible assumption) ?_ ?_) | unfold a1 | unfold a2 |
                  unfold a3 | unfold a4 | unfold a5 | unfold a6 | unfold a7 | unfold a8 | unfold a9 | unfold a10 | unfold a11 |
                  unfold a12 | unfold a13 | unfold a14 | unfold a15 | unfold a16 | unfold a17 | unfold a18 | unfold a19 | unfold a20 |
                  unfold a21 | unfold a22 | unfold a23 | unfold a24 | unfold a25 | unfold a26 | unfold a27 | unfold a28 | dsimp only

theorem Keeps.streamLine {s₀ s : State} (h : Keeps s₀ s) (q : Nat) (l : ImgLine) :
    Keeps s₀ (s.streamLine q l) := by
  unfold State.streamLine
  extract_lets a1
  refine Keeps.step (s := a1) ?_ (fun ba1 => ?_); rotate_left; try clear_value a1
  repeat' first | with_reducible assumption | (with_reducible apply Keeps.bandEnd) | (with_reducible apply Keeps.bandStart) |
                  (with_reducible apply Keeps.bandWritten) | (with_reducible apply Keeps.pktWrite) |
                  (with_reducible apply Keeps.setBand) | (with_reducible apply Keeps.unreported) | (with_reducible rfl) |
                  (simp only [fixedSizes, length_upd, List.length_map, List.length_zipIdx]; first | done | rfl) | split |
                  (intro _ _ _) | (with_reducible refine Keeps.set (by with_reducible assumption) ?_ ?_) | unfold a1 | dsimp only

theorem Keeps.streamsLine {s₀ s : State} (h : Keeps s₀ s) (l : ImgLine) :
    Keeps s₀ (s.streamsLine l) := by
  unfold State.streamsLine
  repeat' first | with_reducible assumption | (with_reducible apply Keeps.covPass) | (with_reducible apply Keeps.streamLine) |
                  (with_reducible apply Keeps.foldl) | (with_reducible apply Keeps.foldlSnd) | (with_reducible rfl) |
                  (simp only [fixedSizes, length_upd, List.length_map, List.length_zipIdx]; first | done | rfl) | split |
                  (intro _ _ _) | (with_reducible refine Keeps.set (by with_reducible assumption) ?_ ?_) | dsimp only

theorem Keeps.bandsClose {s₀ s : State} (h : Keeps s₀ s) :
    Keeps s₀ (s.bandsClose) := by
  unfold State.bandsClose
  repeat' first | with_reducible assumption | (with_reducible apply Keeps.bandEnd) | (with_reducible apply Keeps.foldl) |
                  (with_reducible apply Keeps.foldlSnd) | (with_reducible rfl) |
                  (simp only [fixedSizes, length_upd, List.length_map, List.length_zipIdx]; first | done | rfl) | split |
                  (intro _ _ _) | (with_reducible refine Keeps.set (by with_reducible assumption) ?_ ?_) | dsimp only

theorem Keeps.bandsChanged {s₀ s : State} (h : Keeps s₀ s) (old : Sparse Nat) :
    Keeps s₀ (s.bandsChanged old) := by
  unfold State.bandsChanged
  extract_lets a1
  repeat' first | with_reducible assumption | (with_reducible apply Keeps.bandEnd) | (with_reducible apply Keeps.foldl) |
                  (with_reducible apply Keeps.foldlSnd) | (with_reducible rfl) |
                  (simp only [fixedSizes, length_upd, List.length_map, List.length_zipIdx]; first | done | rfl) | split |
                  (intro _ _ _) | (with_reducible refine Keeps.set (by with_reducible assumption) ?_ ?_) | unfold a1 | dsimp only

theorem Keeps.bandsRecoloured {s₀ s : State} (h : Keeps s₀ s) (line : Nat) :
    Keeps s₀ (s.bandsRecoloured line) := by
  unfold State.bandsRecoloured
  repeat' first | with_reducible assumption | (with_reducible apply Keeps.bandEnd) | (with_reducible apply Keeps.foldl) |
                  (with_reducible apply Keeps.foldlSnd) | (with_reducible rfl) |
                  (simp only [fixedSizes, length_upd, List.length_map, List.length_zipIdx]; first | done | rfl) | split |
                  (intro _ _ _) | (with_reducible refine Keeps.set (by with_reducible assumption) ?_ ?_) | dsimp only

theorem Keeps.clampCredit {s₀ s : State} (h : Keeps s₀ s) (q : Nat) :
    Keeps s₀ (s.clampCredit q) := by
  unfold State.clampCredit
  extract_lets a1 a2
  refine Keeps.step (s := a2) ?_ (fun ba2 => ?_); rotate_left; try clear_value a2
  repeat' first | with_reducible assumption | (with_reducible apply Keeps.count) | (with_reducible apply Keeps.raise) |
                  (with_reducible apply Keeps.updQueue) | (with_reducible rfl) |
                  (simp only [fixedSizes, length_upd, List.length_map, List.length_zipIdx]; first | done | rfl) | split |
                  (intro _ _ _) | (with_reducible refine Keeps.set (by with_reducible assumption) ?_ ?_) | unfold a1 | unfold a2 |
                  dsimp only

theorem Keeps.grantWrite {s₀ s : State} (h : Keeps s₀ s) (q : Nat) (n : Nat) :
    Keeps s₀ (s.grantWrite q n) := by
  unfold State.grantWrite
  extract_lets a1
  refine Keeps.step (s := a1) ?_ (fun ba1 => ?_); rotate_left; try clear_value a1
  repeat' first | with_reducible assumption | (with_reducible apply Keeps.checkQueue) | (with_reducible apply Keeps.clampCredit) |
                  (with_reducible apply Keeps.updQueue) | (with_reducible rfl) |
                  (simp only [fixedSizes, length_upd, List.length_map, List.length_zipIdx]; first | done | rfl) | split |
                  (intro _ _ _) | (with_reducible refine Keeps.set (by with_reducible assumption) ?_ ?_) | unfold a1 | dsimp only

theorem Keeps.consWrite {s₀ s : State} (h : Keeps s₀ s) (q : Nat) (v : Nat) :
    Keeps s₀ (s.consWrite q v) := by
  unfold State.consWrite
  extract_lets a1 a2 a3 a4
  refine Keeps.step (s := a1) ?_ (fun ba1 => ?_); rotate_left; try clear_value a1
  refine Keeps.step (s := a4) ?_ (fun ba4 => ?_); rotate_left; try clear_value a4
  repeat' first | with_reducible assumption | (with_reducible apply Keeps.checkQueue) | (with_reducible apply Keeps.clampCredit) |
                  (with_reducible apply Keeps.count) | (with_reducible apply Keeps.updQueue) | (with_reducible rfl) |
                  (simp only [fixedSizes, length_upd, List.length_map, List.length_zipIdx]; first | done | rfl) | split |
                  (intro _ _ _) | (with_reducible refine Keeps.set (by with_reducible assumption) ?_ ?_) | unfold a1 | unfold a2 |
                  unfold a3 | unfold a4 | dsimp only

theorem Keeps.waitAnswer {s₀ s : State} (h : Keeps s₀ s) (q : Nat) (busy : Bool) :
    Keeps s₀ (s.waitAnswer q busy) := by
  unfold State.waitAnswer
  extract_lets a1 a2 a3
  refine Keeps.step (s := a2) ?_ (fun ba2 => ?_); rotate_left; try clear_value a2
  repeat' first | with_reducible assumption | (with_reducible apply Keeps.updQueue) | (with_reducible rfl) |
                  (simp only [fixedSizes, length_upd, List.length_map, List.length_zipIdx]; first | done | rfl) | split |
                  (intro _ _ _) | (with_reducible refine Keeps.set (by with_reducible assumption) ?_ ?_) | unfold a1 | unfold a2 |
                  unfold a3 | dsimp only

theorem Keeps.flushQueue {s₀ s : State} (h : Keeps s₀ s) (q : Nat) :
    Keeps s₀ (s.flushQueue q).2 := by
  unfold State.flushQueue
  extract_lets a1 a2 a3 a4 a5 a6 a7 a8
  refine Keeps.step (s := a1) ?_ (fun ba1 => ?_); rotate_left; try clear_value a1
  refine Keeps.step (s := a4) ?_ (fun ba4 => ?_); rotate_left; try clear_value a4
  refine Keeps.step (s := a5) ?_ (fun ba5 => ?_); rotate_left; try clear_value a5
  refine Keeps.step (s := a6) ?_ (fun ba6 => ?_); rotate_left; try clear_value a6
  refine Keeps.step (s := a7) ?_ (fun ba7 => ?_); rotate_left; try clear_value a7
  refine Keeps.step (s := a8) ?_ (fun ba8 => ?_); rotate_left; try clear_value a8
  repeat' first | with_reducible assumption | (with_reducible apply Keeps.checkQueue) | (with_reducible apply Keeps.count) |
                  (with_reducible apply Keeps.dropSpilled) | (with_reducible apply Keeps.footprints) |
                  (with_reducible apply Keeps.loseBand) | (with_reducible apply Keeps.raise) | (with_reducible apply Keeps.updQueue) |
                  (with_reducible apply Keeps.waitsDue) | (with_reducible rfl) |
                  (simp only [fixedSizes, length_upd, List.length_map, List.length_zipIdx]; first | done | rfl) | split |
                  (intro _ _ _) | (with_reducible refine Keeps.set (by with_reducible assumption) ?_ ?_) | unfold a1 | unfold a2 |
                  unfold a3 | unfold a4 | unfold a5 | unfold a6 | unfold a7 | unfold a8 | dsimp only

theorem Keeps.drainItem {s₀ s : State} (h : Keeps s₀ s) (i : SpillItem) : Keeps s₀ (s.drainItem i) := by
  cases i with
  | packet q blk _ ws _ => exact Keeps.foldl (fun s a hs => hs.hostWrite _ _) _ _ h
  | entry a bs _ => exact h.hostWrite _ _

theorem Keeps.drainSpill {s₀ s : State} (h : Keeps s₀ s) :
    Keeps s₀ (s.drainSpill) := by
  unfold State.drainSpill
  extract_lets a1 a2 a3 a4 a5 a6 a7
  refine Keeps.step (s := a5) ?_ (fun ba5 => ?_); rotate_left; try clear_value a5
  refine Keeps.step (s := a6) ?_ (fun ba6 => ?_); rotate_left; try clear_value a6
  refine Keeps.step (s := a7) ?_ (fun ba7 => ?_); rotate_left; try clear_value a7
  repeat' first | with_reducible assumption | (with_reducible apply Keeps.drainItem) | (with_reducible apply Keeps.publish) |
                  (with_reducible apply Keeps.raise) | (with_reducible apply Keeps.foldl) | (with_reducible apply Keeps.foldlSnd) |
                  (with_reducible rfl) | (simp only [fixedSizes, length_upd, List.length_map, List.length_zipIdx]; first | done |
                  rfl) | split | (intro _ _ _) | (with_reducible refine Keeps.set (by with_reducible assumption) ?_ ?_) | unfold a1 |
                  unfold a2 | unfold a3 | unfold a4 | unfold a5 | unfold a6 | unfold a7 | dsimp only

theorem Keeps.histWrite {s₀ : State} : ∀ (n off : Nat) (bs : List Byte) {s : State} (_ : Keeps s₀ s), Keeps s₀ (s.histWrite n off bs)
  | 0, _, _, _, h => h
  | n + 1, _, _, _, h => Keeps.histWrite n _ _ (h.dramWrite _ _)

theorem Keeps.retire {s₀ s : State} (h : Keeps s₀ s) (h : HistLine) :
    Keeps s₀ (s.retire h) := by
  unfold State.retire
  extract_lets a1 a2 a3
  refine Keeps.step (s := a3) ?_ (fun ba3 => ?_); rotate_left; try clear_value a3
  repeat' first | with_reducible assumption | (with_reducible apply Keeps.count) | (with_reducible apply Keeps.raise) |
                  (with_reducible rfl) | (simp only [fixedSizes, length_upd, List.length_map, List.length_zipIdx]; first | done |
                  rfl) | split | (intro _ _ _) | (with_reducible refine Keeps.set (by with_reducible assumption) ?_ ?_) | unfold a1 |
                  unfold a2 | unfold a3 | dsimp only

theorem Keeps.makeRoom {s₀ : State} (n : Nat) : ∀ (fuel : Nat) {s : State} (_ : Keeps s₀ s), Keeps s₀ (s.makeRoom n fuel)
  | 0, _, h => h
  | fuel + 1, s, h => by
    unfold State.makeRoom
    dsimp only
    split
    · exact h
    · split
      · exact h
      · exact Keeps.makeRoom n fuel (h.retire _)

theorem Keeps.histIndex {s₀ s : State} (h : Keeps s₀ s) (h : HistLine) :
    Keeps s₀ (s.histIndex h) := by
  unfold State.histIndex
  repeat' first | with_reducible assumption | (with_reducible apply Keeps.dramWrite) | (with_reducible rfl) |
                  (simp only [fixedSizes, length_upd, List.length_map, List.length_zipIdx]; first | done | rfl) | split |
                  (intro _ _ _) | (with_reducible refine Keeps.set (by with_reducible assumption) ?_ ?_) | dsimp only

theorem Keeps.histLine {s₀ s : State} (h : Keeps s₀ s) (l : ImgLine) (job : Nat) :
    Keeps s₀ (s.histLine l job) := by
  unfold State.histLine
  extract_lets a1 a2 a3 a4 a5 a6 a7 a8 a9 a10 a11 a12
  refine Keeps.step (s := a7) ?_ (fun ba7 => ?_); rotate_left; try clear_value a7
  refine Keeps.step (s := a9) ?_ (fun ba9 => ?_); rotate_left; try clear_value a9
  refine Keeps.step (s := a10) ?_ (fun ba10 => ?_); rotate_left; try clear_value a10
  refine Keeps.step (s := a12) ?_ (fun ba12 => ?_); rotate_left; try clear_value a12
  repeat' first | with_reducible assumption | (with_reducible apply Keeps.count) | (with_reducible apply Keeps.histIndex) |
                  (with_reducible apply Keeps.histWrite) | (with_reducible apply Keeps.makeRoom) | (with_reducible rfl) |
                  (simp only [fixedSizes, length_upd, List.length_map, List.length_zipIdx]; first | done | rfl) | split |
                  (intro _ _ _) | (with_reducible refine Keeps.set (by with_reducible assumption) ?_ ?_) | unfold a1 | unfold a2 |
                  unfold a3 | unfold a4 | unfold a5 | unfold a6 | unfold a7 | unfold a8 | unfold a9 | unfold a10 | unfold a11 |
                  unfold a12 | dsimp only

theorem Keeps.histHole {s₀ s : State} (h : Keeps s₀ s) (line : Nat) :
    Keeps s₀ (s.histHole line) := by
  unfold State.histHole
  extract_lets a1
  repeat' first | with_reducible assumption | (with_reducible apply Keeps.count) | (with_reducible apply Keeps.histIndex) |
                  (with_reducible apply Keeps.raise) | (with_reducible rfl) |
                  (simp only [fixedSizes, length_upd, List.length_map, List.length_zipIdx]; first | done | rfl) | split |
                  (intro _ _ _) | (with_reducible refine Keeps.set (by with_reducible assumption) ?_ ?_) | unfold a1 | dsimp only

theorem Keeps.copyReplay {s₀ s : State} (h : Keeps s₀ s) (r : Replay) :
    Keeps s₀ (s.copyReplay r) := by
  unfold State.copyReplay
  extract_lets a1 a2 a3 a4 a5 a6 a7 a8 a9 a10 a11
  refine Keeps.step (s := a8) ?_ (fun ba8 => ?_); rotate_left; try clear_value a8
  refine Keeps.step (s := a10) ?_ (fun ba10 => ?_); rotate_left; try clear_value a10
  repeat' first | with_reducible assumption | (with_reducible apply Keeps.hostWrite) | (with_reducible apply Keeps.reply) |
                  (with_reducible rfl) | (simp only [fixedSizes, length_upd, List.length_map, List.length_zipIdx]; first | done |
                  rfl) | split | (intro _ _ _) | (with_reducible refine Keeps.set (by with_reducible assumption) ?_ ?_) | unfold a1 |
                  unfold a2 | unfold a3 | unfold a4 | unfold a5 | unfold a6 | unfold a7 | unfold a8 | unfold a9 | unfold a10 |
                  unfold a11 | dsimp only

/-! ### Machine/CapOps.lean -/

theorem Keeps.takeTag {s₀ s : State} (h : Keeps s₀ s) (p : Nat) (tag : Int) :
    Keeps s₀ (s.takeTag p tag).2 := by
  unfold State.takeTag
  extract_lets a1 a2 a3 a4 a5 a6 a7 a8
  refine Keeps.step (s := a5) ?_ (fun ba5 => ?_); rotate_left; try clear_value a5
  refine Keeps.step (s := a6) ?_ (fun ba6 => ?_); rotate_left; try clear_value a6
  refine Keeps.step (s := a7) ?_ (fun ba7 => ?_); rotate_left; try clear_value a7
  repeat' first | with_reducible assumption | (with_reducible apply Keeps.count) | (with_reducible apply Keeps.raise) |
                  (with_reducible rfl) | (simp only [fixedSizes, length_upd, List.length_map, List.length_zipIdx]; first | done |
                  rfl) | split | (intro _ _ _) | (with_reducible refine Keeps.set (by with_reducible assumption) ?_ ?_) | unfold a1 |
                  unfold a2 | unfold a3 | unfold a4 | unfold a5 | unfold a6 | unfold a7 | unfold a8 | dsimp only

theorem Keeps.addSubLine {s₀ s : State} (h : Keeps s₀ s) (u : SubLine) :
    Keeps s₀ (s.addSubLine u) := by
  unfold State.addSubLine
  extract_lets a1
  repeat' first | with_reducible assumption | (with_reducible rfl) |
                  (simp only [fixedSizes, length_upd, List.length_map, List.length_zipIdx]; first | done | rfl) | split |
                  (intro _ _ _) | (with_reducible refine Keeps.set (by with_reducible assumption) ?_ ?_) | unfold a1 | dsimp only

theorem Keeps.skipCols {s₀ s : State} (h : Keeps s₀ s) (line : Nat) (cols : Nat × Nat) :
    Keeps s₀ (s.skipCols line cols) := by
  unfold State.skipCols
  extract_lets a1
  repeat' first | with_reducible assumption | (with_reducible rfl) |
                  (simp only [fixedSizes, length_upd, List.length_map, List.length_zipIdx]; first | done | rfl) | split |
                  (intro _ _ _) | (with_reducible refine Keeps.set (by with_reducible assumption) ?_ ?_) | unfold a1 | dsimp only

theorem Keeps.streamsTo {s₀ s : State} (h : Keeps s₀ s) (line : Nat) :
    Keeps s₀ (s.streamsTo line) := by
  unfold State.streamsTo
  extract_lets a1 a2 a3 a4 a5
  refine Keeps.step (s := a3) ?_ (fun ba3 => ?_); rotate_left; try clear_value a3
  refine Keeps.step (s := a5) ?_ (fun ba5 => ?_); rotate_left; try clear_value a5
  repeat' first | with_reducible assumption | (with_reducible apply Keeps.bandsChanged) |
                  (with_reducible apply Keeps.bandsRecoloured) | (with_reducible rfl) |
                  (simp only [fixedSizes, length_upd, List.length_map, List.length_zipIdx]; first | done | rfl) | split |
                  (intro _ _ _) | (with_reducible refine Keeps.set (by with_reducible assumption) ?_ ?_) | unfold a1 | unfold a2 |
                  unfold a3 | unfold a4 | unfold a5 | dsimp only

theorem Keeps.emitRec {s₀ s : State} (h : Keeps s₀ s) (r : LineRec) :
    Keeps s₀ (s.emitRec r) := by
  unfold State.emitRec
  extract_lets a1 a2 a3 a4 a5 a6 a7 a8 a9 a10 a11 a12 a13 a14 a15
  refine Keeps.step (s := a7) ?_ (fun ba7 => ?_); rotate_left; try clear_value a7
  refine Keeps.step (s := a8) ?_ (fun ba8 => ?_); rotate_left; try clear_value a8
  refine Keeps.step (s := a9) ?_ (fun ba9 => ?_); rotate_left; try clear_value a9
  refine Keeps.step (s := a12) ?_ (fun ba12 => ?_); rotate_left; try clear_value a12
  refine Keeps.step (s := a13) ?_ (fun ba13 => ?_); rotate_left; try clear_value a13
  refine Keeps.step (s := a14) ?_ (fun ba14 => ?_); rotate_left; try clear_value a14
  refine Keeps.step (s := a15) ?_ (fun ba15 => ?_); rotate_left; try clear_value a15
  repeat' first | with_reducible assumption | (with_reducible apply Keeps.capture) | (with_reducible apply Keeps.count) |
                  (with_reducible apply Keeps.covLine) | (with_reducible apply Keeps.covPass) | (with_reducible apply Keeps.histHole) |
                  (with_reducible apply Keeps.histLine) | (with_reducible apply Keeps.streamsLine) |
                  (with_reducible apply Keeps.streamsTo) | (with_reducible apply Keeps.foldl) | (with_reducible apply Keeps.foldlSnd) |
                  (with_reducible rfl) | (simp only [fixedSizes, length_upd, List.length_map, List.length_zipIdx]; first | done |
                  rfl) | split | (intro _ _ _) | (with_reducible refine Keeps.set (by with_reducible assumption) ?_ ?_) | unfold a1 |
                  unfold a2 | unfold a3 | unfold a4 | unfold a5 | unfold a6 | unfold a7 | unfold a8 | unfold a9 | unfold a10 |
                  unfold a11 | unfold a12 | unfold a13 | unfold a14 | unfold a15 | dsimp only

theorem Keeps.emitLine {s₀ s : State} (h : Keeps s₀ s) :
    Keeps s₀ (s.emitLine) := by
  unfold State.emitLine
  repeat' first | with_reducible assumption | (with_reducible apply Keeps.emitRec) | (with_reducible rfl) |
                  (simp only [fixedSizes, length_upd, List.length_map, List.length_zipIdx]; first | done | rfl) | split |
                  (intro _ _ _) | (with_reducible refine Keeps.set (by with_reducible assumption) ?_ ?_) | dsimp only

theorem Keeps.emitAll {s₀ s : State} (h : Keeps s₀ s) :
    Keeps s₀ (s.emitAll) := by
  unfold State.emitAll
  repeat' first | with_reducible assumption | (with_reducible apply Keeps.emitRec) | (with_reducible apply Keeps.foldl) |
                  (with_reducible apply Keeps.foldlSnd) | (with_reducible rfl) |
                  (simp only [fixedSizes, length_upd, List.length_map, List.length_zipIdx]; first | done | rfl) | split |
                  (intro _ _ _) | (with_reducible refine Keeps.set (by with_reducible assumption) ?_ ?_) | dsimp only

theorem Keeps.signDik {s₀ s : State} (h : Keeps s₀ s) (hash : List Byte) :
    Keeps s₀ (s.signDik hash).2 := by
  unfold State.signDik
  extract_lets a1
  repeat' first | with_reducible assumption | (with_reducible rfl) |
                  (simp only [fixedSizes, length_upd, List.length_map, List.length_zipIdx]; first | done | rfl) | split |
                  (intro _ _ _) | (with_reducible refine Keeps.set (by with_reducible assumption) ?_ ?_) | unfold a1 | dsimp only

theorem Keeps.sealMap {s₀ s : State} (h : Keeps s₀ s) :
    Keeps s₀ (s.sealMap) := by
  unfold State.sealMap
  extract_lets a1 a2 a3 a4 a5 a6 a7 a8 a9 a10 a11 a12 a13
  refine Keeps.step (s := a1) ?_ (fun ba1 => ?_); rotate_left; try clear_value a1
  refine Keeps.step (s := a3) ?_ (fun ba3 => ?_); rotate_left; try clear_value a3
  refine Keeps.step (s := a8) ?_ (fun ba8 => ?_); rotate_left; try clear_value a8
  refine Keeps.step (s := a10.2) ?_ (fun ba10 => ?_); rotate_left; try clear_value a10
  refine Keeps.step (s := a11) ?_ (fun ba11 => ?_); rotate_left; try clear_value a11
  repeat' first | with_reducible assumption | (with_reducible apply Keeps.covClose) | (with_reducible apply Keeps.covWrite) |
                  (with_reducible apply Keeps.dramWrite) | (with_reducible apply Keeps.raise) | (with_reducible apply Keeps.signDik) |
                  (with_reducible apply Keeps.foldl) | (with_reducible apply Keeps.foldlSnd) | (with_reducible rfl) |
                  (simp only [fixedSizes, length_upd, List.length_map, List.length_zipIdx]; first | done | rfl) | split |
                  (intro _ _ _) | (with_reducible refine Keeps.set (by with_reducible assumption) ?_ ?_) | unfold a1 | unfold a2 |
                  unfold a3 | unfold a4 | unfold a5 | unfold a6 | unfold a7 | unfold a8 | unfold a9 | unfold a10 | unfold a11 |
                  unfold a12 | unfold a13 | dsimp only

theorem Keeps.capOpen {s₀ s : State} (h : Keeps s₀ s) (runId : Nat) :
    Keeps s₀ (s.capOpen runId) := by
  unfold State.capOpen
  extract_lets a1 a2 a3 a4 a5 a6 a7
  refine Keeps.step (s := a4) ?_ (fun ba4 => ?_); rotate_left; try clear_value a4
  refine Keeps.step (s := a7) ?_ (fun ba7 => ?_); rotate_left; try clear_value a7
  repeat' first | with_reducible assumption | (with_reducible apply Keeps.covJob) | (with_reducible rfl) |
                  (simp only [fixedSizes, length_upd, List.length_map, List.length_zipIdx]; first | done | rfl) | split |
                  (intro _ _ _) | (with_reducible refine Keeps.set (by with_reducible assumption) ?_ ?_) | unfold a1 | unfold a2 |
                  unfold a3 | unfold a4 | unfold a5 | unfold a6 | unfold a7 | dsimp only

end Sys2Proof.Machine
end

