-- ==== Sys2Proof/Laws/KeepsImage.lean ====
section
/-! SUPPORT. What every operation keeps: the image-side operations. One lemma an operation. -/

set_option Elab.async false
set_option linter.all false
set_option linter.tactic.unusedName false

namespace Sys2Proof.Machine

/-! ### Machine/RepeatOps.lean -/

theorem Keeps.askSend {s₀ s : State} (h : Keeps s₀ s) (typ : Nat) (body : List Byte) :
    Keeps s₀ (s.askSend typ body) := by
  unfold State.askSend
  extract_lets a1
  repeat' first | with_reducible assumption | (with_reducible rfl) |
                  (simp only [fixedSizes, length_upd, List.length_map, List.length_zipIdx]; first | done | rfl) | split |
                  (intro _ _ _) | (with_reducible refine Keeps.set (by with_reducible assumption) ?_ ?_) | unfold a1 | dsimp only

theorem Keeps.sendRepeat {s₀ s : State} (h : Keeps s₀ s) (n : NextBound) :
    Keeps s₀ (s.sendRepeat n) := by
  unfold State.sendRepeat
  repeat' first | with_reducible assumption | (with_reducible apply Keeps.askSend) | (with_reducible rfl) |
                  (simp only [fixedSizes, length_upd, List.length_map, List.length_zipIdx]; first | done | rfl) | split |
                  (intro _ _ _) | (with_reducible refine Keeps.set (by with_reducible assumption) ?_ ?_) | dsimp only

theorem Keeps.updTrack {s₀ s : State} (h : Keeps s₀ s) (f : RepTrack → RepTrack) :
    Keeps s₀ (s.updTrack f) := by
  unfold State.updTrack
  extract_lets a1
  repeat' first | with_reducible assumption | (with_reducible rfl) |
                  (simp only [fixedSizes, length_upd, List.length_map, List.length_zipIdx]; first | done | rfl) | split |
                  (intro _ _ _) | (with_reducible refine Keeps.set (by with_reducible assumption) ?_ ?_) | unfold a1 | dsimp only

theorem Keeps.openBoundary {s₀ s : State} (h : Keeps s₀ s) (k : Nat) (n : NextBound) (counts : Bool) :
    Keeps s₀ (s.openBoundary k n counts) := by
  unfold State.openBoundary
  extract_lets a1 a2 a3 a4 a5 a6 a7
  refine Keeps.step (s := a2) ?_ (fun ba2 => ?_); rotate_left; try clear_value a2
  refine Keeps.step (s := a6) ?_ (fun ba6 => ?_); rotate_left; try clear_value a6
  repeat' first | with_reducible assumption | (with_reducible apply Keeps.count) | (with_reducible apply Keeps.raise) |
                  (with_reducible apply Keeps.sendRepeat) | (with_reducible rfl) |
                  (simp only [fixedSizes, length_upd, List.length_map, List.length_zipIdx]; first | done | rfl) | split |
                  (intro _ _ _) | (with_reducible refine Keeps.set (by with_reducible assumption) ?_ ?_) | unfold a1 | unfold a2 |
                  unfold a3 | unfold a4 | unfold a5 | unfold a6 | unfold a7 | dsimp only

theorem Keeps.boundaryDue {s₀ s : State} (h : Keeps s₀ s) (k : Nat) (captured : Bool) : Keeps s₀ (s.boundaryDue k captured).2 := by
  unfold State.boundaryDue
  extract_lets t pitch
  split
  · exact h
  · split
    · exact h
    · extract_lets here n
      split
      · exact h
      · split
        · dsimp only
          exact h.updTrack _
        · exact h

theorem Keeps.mark {s₀ s : State} (h : Keeps s₀ s) (pos : Int) :
    Keeps s₀ (s.mark pos) := by
  unfold State.mark
  extract_lets a1 a2 a3 a4 a5 a6 a7
  refine Keeps.step (s := a5) ?_ (fun ba5 => ?_); rotate_left; try clear_value a5
  refine Keeps.step (s := a7) ?_ (fun ba7 => ?_); rotate_left; try clear_value a7
  repeat' first | with_reducible assumption | (with_reducible apply Keeps.count) | (with_reducible apply Keeps.sendRepeat) |
                  (with_reducible apply Keeps.updTrack) | (with_reducible rfl) |
                  (simp only [fixedSizes, length_upd, List.length_map, List.length_zipIdx]; first | done | rfl) | split |
                  (intro _ _ _) | (with_reducible refine Keeps.set (by with_reducible assumption) ?_ ?_) | unfold a1 | unfold a2 |
                  unfold a3 | unfold a4 | unfold a5 | unfold a6 | unfold a7 | dsimp only

theorem Keeps.markMissing {s₀ s : State} (h : Keeps s₀ s) :
    Keeps s₀ (s.markMissing) := by
  unfold State.markMissing
  extract_lets a1 a2 a3 a4 a5 a6 a7 a8
  refine Keeps.step (s := a7) ?_ (fun ba7 => ?_); rotate_left; try clear_value a7
  refine Keeps.step (s := a8) ?_ (fun ba8 => ?_); rotate_left; try clear_value a8
  repeat' first | with_reducible assumption | (with_reducible apply Keeps.count) | (with_reducible apply Keeps.raise) |
                  (with_reducible apply Keeps.sendRepeat) | (with_reducible apply Keeps.updTrack) | (with_reducible rfl) |
                  (simp only [fixedSizes, length_upd, List.length_map, List.length_zipIdx]; first | done | rfl) | split |
                  (intro _ _ _) | (with_reducible refine Keeps.set (by with_reducible assumption) ?_ ?_) | unfold a1 | unfold a2 |
                  unfold a3 | unfold a4 | unfold a5 | unfold a6 | unfold a7 | unfold a8 | dsimp only

theorem Keeps.restructure {s₀ s : State} (h : Keeps s₀ s) (idle : Bool) (line : Nat) :
    Keeps s₀ (s.restructure idle line) := by
  unfold State.restructure
  repeat' first | with_reducible assumption | (with_reducible apply Keeps.updTrack) | (with_reducible rfl) |
                  (simp only [fixedSizes, length_upd, List.length_map, List.length_zipIdx]; first | done | rfl) | split |
                  (intro _ _ _) | (with_reducible refine Keeps.set (by with_reducible assumption) ?_ ?_) | dsimp only

theorem Keeps.repeatsOpen {s₀ s : State} (h : Keeps s₀ s) :
    Keeps s₀ (s.repeatsOpen) := by
  unfold State.repeatsOpen
  extract_lets a1 a2
  repeat' first | with_reducible assumption | (with_reducible rfl) |
                  (simp only [fixedSizes, length_upd, List.length_map, List.length_zipIdx]; first | done | rfl) | split |
                  (intro _ _ _) | (with_reducible refine Keeps.set (by with_reducible assumption) ?_ ?_) | unfold a1 | unfold a2 |
                  dsimp only

/-! ### Machine/EtchOps.lean -/

theorem Keeps.updRep {s₀ s : State} (h : Keeps s₀ s) (f : Rep → Rep) :
    Keeps s₀ (s.updRep f) := by
  unfold State.updRep
  extract_lets a1
  repeat' first | with_reducible assumption | (with_reducible rfl) |
                  (simp only [fixedSizes, length_upd, List.length_map, List.length_zipIdx]; first | done | rfl) | split |
                  (intro _ _ _) | (with_reducible refine Keeps.set (by with_reducible assumption) ?_ ?_) | unfold a1 | dsimp only

theorem Keeps.capRegion {s₀ s : State} (h : Keeps s₀ s) (b : Blob) (line : Nat) :
    Keeps s₀ (s.capRegion b line) := by
  unfold State.capRegion
  extract_lets a1 a2 a3 a4 a5 a6
  refine Keeps.step (s := a3) ?_ (fun ba3 => ?_); rotate_left; try clear_value a3
  first | (refine Keeps.step (s := a4) ?_ (fun ba4 => ?_); rotate_left; try clear_value a4) | (refine Keeps.step (s := a4.2) ?_ (fun ba4 => ?_); rotate_left; try clear_value a4) | skip
  refine Keeps.step (s := a5) ?_ (fun ba5 => ?_); rotate_left; try clear_value a5
  refine Keeps.step (s := a6) ?_ (fun ba6 => ?_); rotate_left; try clear_value a6
  repeat' first | with_reducible assumption | (with_reducible apply Keeps.count) | (with_reducible apply Keeps.covReport) |
                  (with_reducible apply Keeps.raise) | (with_reducible apply Keeps.updRep) | (with_reducible rfl) |
                  (simp only [fixedSizes, length_upd, List.length_map, List.length_zipIdx]; first | done | rfl) | split |
                  (intro _ _ _) | (with_reducible refine Keeps.set (by with_reducible assumption) ?_ ?_) | unfold a1 | unfold a2 |
                  unfold a3 | unfold a4 | unfold a5 | unfold a6 | dsimp only

theorem Keeps.reportBlob {s₀ s : State} (h : Keeps s₀ s) (b : Blob) (line : Nat) :
    Keeps s₀ (s.reportBlob b line) := by
  unfold State.reportBlob
  extract_lets a1 a2 a3
  refine Keeps.step (s := a3) ?_ (fun ba3 => ?_); rotate_left; try clear_value a3
  repeat' first | with_reducible assumption | (with_reducible apply Keeps.capRegion) | (with_reducible apply Keeps.regionGroup) |
                  (with_reducible apply Keeps.updRep) | (with_reducible rfl) |
                  (simp only [fixedSizes, length_upd, List.length_map, List.length_zipIdx]; first | done | rfl) | split |
                  (intro _ _ _) | (with_reducible refine Keeps.set (by with_reducible assumption) ?_ ?_) | unfold a1 | unfold a2 |
                  unfold a3 | dsimp only

theorem Keeps.closeBlob {s₀ s : State} (h : Keeps s₀ s) (b : Blob) (extra : Nat) (line : Nat) (linkDown : Bool) :
    Keeps s₀ (s.closeBlob b extra line linkDown) := by
  unfold State.closeBlob
  extract_lets a1 a2 a3 a4 a5 a6 a7
  refine Keeps.step (s := a3) ?_ (fun ba3 => ?_); rotate_left; try clear_value a3
  refine Keeps.step (s := a7) ?_ (fun ba7 => ?_); rotate_left; try clear_value a7
  repeat' first | with_reducible assumption | (with_reducible apply Keeps.raise) | (with_reducible apply Keeps.reportBlob) |
                  (with_reducible apply Keeps.seamRecord) | (with_reducible apply Keeps.tilesAlone) | (with_reducible rfl) |
                  (simp only [fixedSizes, length_upd, List.length_map, List.length_zipIdx]; first | done | rfl) | split |
                  (intro _ _ _) | (with_reducible refine Keeps.set (by with_reducible assumption) ?_ ?_) | unfold a1 | unfold a2 |
                  unfold a3 | unfold a4 | unfold a5 | unfold a6 | unfold a7 | dsimp only

theorem Keeps.closeBlobs {s₀ s : State} (h : Keeps s₀ s) (extra : Nat) (line : Nat) (linkDown : Bool) :
    Keeps s₀ (s.closeBlobs extra line linkDown) := by
  unfold State.closeBlobs
  repeat' first | with_reducible assumption | (with_reducible apply Keeps.closeBlob) | (with_reducible apply Keeps.foldl) |
                  (with_reducible apply Keeps.foldlSnd) | (with_reducible rfl) |
                  (simp only [fixedSizes, length_upd, List.length_map, List.length_zipIdx]; first | done | rfl) | split |
                  (intro _ _ _) | (with_reducible refine Keeps.set (by with_reducible assumption) ?_ ?_) | dsimp only

theorem Keeps.closeQuiet {s₀ s : State} (h : Keeps s₀ s) (line : Nat) (linkDown : Bool) :
    Keeps s₀ (s.closeQuiet line linkDown) := by
  unfold State.closeQuiet
  repeat' first | with_reducible assumption | (with_reducible apply Keeps.closeBlob) | (with_reducible apply Keeps.foldl) |
                  (with_reducible apply Keeps.foldlSnd) | (with_reducible rfl) |
                  (simp only [fixedSizes, length_upd, List.length_map, List.length_zipIdx]; first | done | rfl) | split |
                  (intro _ _ _) | (with_reducible refine Keeps.set (by with_reducible assumption) ?_ ?_) | dsimp only

theorem Keeps.seamsDue {s₀ s : State} (h : Keeps s₀ s) (line : Nat) :
    Keeps s₀ (s.seamsDue line) := by
  unfold State.seamsDue
  extract_lets a1 a2 a3
  refine Keeps.step (s := a3) ?_ (fun ba3 => ?_); rotate_left; try clear_value a3
  repeat' first | with_reducible assumption | (with_reducible apply Keeps.reportBlob) | (with_reducible apply Keeps.foldl) |
                  (with_reducible apply Keeps.foldlSnd) | (with_reducible rfl) |
                  (simp only [fixedSizes, length_upd, List.length_map, List.length_zipIdx]; first | done | rfl) | split |
                  (intro _ _ _) | (with_reducible refine Keeps.set (by with_reducible assumption) ?_ ?_) | unfold a1 | unfold a2 |
                  unfold a3 | dsimp only

theorem Keeps.seamRecord {s₀ s : State} (h : Keeps s₀ s) (bs : List Byte) :
    Keeps s₀ (s.seamRecord bs) := by
  unfold State.seamRecord
  extract_lets a1 a2 a3 a4 a5 a6 a7
  repeat' first | with_reducible assumption | (with_reducible apply Keeps.count) | (with_reducible apply Keeps.reportBlob) |
                  (with_reducible rfl) | (simp only [fixedSizes, length_upd, List.length_map, List.length_zipIdx]; first | done |
                  rfl) | split | (intro _ _ _) | (with_reducible refine Keeps.set (by with_reducible assumption) ?_ ?_) | unfold a1 |
                  unfold a2 | unfold a3 | unfold a4 | unfold a5 | unfold a6 | unfold a7 | dsimp only

theorem Keeps.makeBlobRoom {s₀ : State} (slice line : Nat) (d : Bool) : ∀ (fuel : Nat) {s : State} (_ : Keeps s₀ s),
    Keeps s₀ (s.makeBlobRoom slice line d fuel)
  | 0, _, h => h
  | fuel + 1, s, h => by
    unfold State.makeBlobRoom
    split
    · exact h
    · split
      · exact Keeps.makeBlobRoom slice line d fuel ((h.count _ _ _).closeBlob _ _ _ _)
      · exact h

theorem Keeps.addRun {s₀ s : State} (h : Keeps s₀ s) (r : NewRun) (linkDown : Bool) :
    Keeps s₀ (s.addRun r linkDown) := by
  unfold State.addRun
  extract_lets a1 a2 a3 a4 a5 a6 a7 a8 a9 a10 a11
  refine Keeps.step (s := a3) ?_ (fun ba3 => ?_); rotate_left; try clear_value a3
  refine Keeps.step (s := a4) ?_ (fun ba4 => ?_); rotate_left; try clear_value a4
  refine Keeps.step (s := a6) ?_ (fun ba6 => ?_); rotate_left; try clear_value a6
  refine Keeps.step (s := a7) ?_ (fun ba7 => ?_); rotate_left; try clear_value a7
  refine Keeps.step (s := a8) ?_ (fun ba8 => ?_); rotate_left; try clear_value a8
  repeat' first | with_reducible assumption | (with_reducible apply Keeps.count) | (with_reducible apply Keeps.covReport) |
                  (with_reducible apply Keeps.makeBlobRoom) | (with_reducible apply Keeps.raise) |
                  (with_reducible apply Keeps.updRep) | (with_reducible apply Keeps.foldl) | (with_reducible apply Keeps.foldlSnd) |
                  (with_reducible rfl) | (simp only [fixedSizes, length_upd, List.length_map, List.length_zipIdx]; first | done |
                  rfl) | split | (intro _ _ _) | (with_reducible refine Keeps.set (by with_reducible assumption) ?_ ?_) | unfold a1 |
                  unfold a2 | unfold a3 | unfold a4 | unfold a5 | unfold a6 | unfold a7 | unfold a8 | unfold a9 | unfold a10 |
                  unfold a11 | dsimp only

theorem Keeps.writeSummary {s₀ s : State} (h : Keeps s₀ s) (x : Summary) (lost : Bool) :
    Keeps s₀ (s.writeSummary x lost) := by
  unfold State.writeSummary
  extract_lets a1 a2 a3 a4
  refine Keeps.step (s := a2) ?_ (fun ba2 => ?_); rotate_left; try clear_value a2
  repeat' first | with_reducible assumption | (with_reducible apply Keeps.raise) | (with_reducible apply Keeps.recordTo) |
                  (with_reducible apply Keeps.foldl) | (with_reducible apply Keeps.foldlSnd) | (with_reducible rfl) |
                  (simp only [fixedSizes, length_upd, List.length_map, List.length_zipIdx]; first | done | rfl) | split |
                  (intro _ _ _) | (with_reducible refine Keeps.set (by with_reducible assumption) ?_ ?_) | unfold a1 | unfold a2 |
                  unfold a3 | unfold a4 | dsimp only

theorem Keeps.driftReady {s₀ s : State} (h : Keeps s₀ s) :
    Keeps s₀ (s.driftReady) := by
  unfold State.driftReady
  extract_lets a1
  repeat' first | with_reducible assumption | (with_reducible apply Keeps.writeSummary) | (with_reducible rfl) |
                  (simp only [fixedSizes, length_upd, List.length_map, List.length_zipIdx]; first | done | rfl) | split |
                  (intro _ _ _) | (with_reducible refine Keeps.set (by with_reducible assumption) ?_ ?_) | unfold a1 | dsimp only

theorem Keeps.endRepeat {s₀ s : State} (h : Keeps s₀ s) (r : Rep) (line : Nat) :
    Keeps s₀ (s.endRepeat r line) := by
  unfold State.endRepeat
  extract_lets a1 a2 a3 a4
  refine Keeps.step (s := a3) ?_ (fun ba3 => ?_); rotate_left; try clear_value a3
  repeat' first | with_reducible assumption | (with_reducible apply Keeps.writeSummary) | (with_reducible rfl) |
                  (simp only [fixedSizes, length_upd, List.length_map, List.length_zipIdx]; first | done | rfl) | split |
                  (intro _ _ _) | (with_reducible refine Keeps.set (by with_reducible assumption) ?_ ?_) | unfold a1 | unfold a2 |
                  unfold a3 | unfold a4 | dsimp only

/-! ### Machine/MirrorOps.lean -/

theorem Keeps.updCmp {s₀ s : State} (h : Keeps s₀ s) (f : CmpSt → CmpSt) :
    Keeps s₀ (s.updCmp f) := by
  unfold State.updCmp
  repeat' first | with_reducible assumption | (with_reducible rfl) |
                  (simp only [fixedSizes, length_upd, List.length_map, List.length_zipIdx]; first | done | rfl) | split |
                  (intro _ _ _) | (with_reducible refine Keeps.set (by with_reducible assumption) ?_ ?_) | dsimp only

theorem Keeps.accumulate {s₀ s : State} (h : Keeps s₀ s) (slot : Nat) (x : Nat) (y : Nat) (lab : Nat × Nat × Nat) :
    Keeps s₀ (s.accumulate slot x y lab) := by
  unfold State.accumulate
  extract_lets a1 a2 a3
  repeat' first | with_reducible assumption | (with_reducible apply Keeps.dramWrite) | (with_reducible rfl) |
                  (simp only [fixedSizes, length_upd, List.length_map, List.length_zipIdx]; first | done | rfl) | split |
                  (intro _ _ _) | (with_reducible refine Keeps.set (by with_reducible assumption) ?_ ?_) | unfold a1 | unfold a2 |
                  unfold a3 | dsimp only

theorem Keeps.finalLine {s₀ s : State} (h : Keeps s₀ s) (slot y : Nat) : Keeps s₀ (s.finalLine slot y) := by
  unfold State.finalLine
  extract_lets px holes a
  have b : Keeps s₀ a := by
    unfold a
    split
    · exact h
    · exact h.count _ _ _
  exact b.dramWrite _ _

theorem Keeps.finalTo {s₀ s : State} (h : Keeps s₀ s) (l : Learn) (upto : Nat) :
    Keeps s₀ (s.finalTo l upto) := by
  unfold State.finalTo
  extract_lets a1 a2
  refine Keeps.step (s := a2) ?_ (fun ba2 => ?_); rotate_left; try clear_value a2
  repeat' first | with_reducible assumption | (with_reducible apply Keeps.finalLine) | (with_reducible apply Keeps.updCmp) |
                  (with_reducible apply Keeps.foldl) | (with_reducible apply Keeps.foldlSnd) | (with_reducible rfl) |
                  (simp only [fixedSizes, length_upd, List.length_map, List.length_zipIdx]; first | done | rfl) | split |
                  (intro _ _ _) | (with_reducible refine Keeps.set (by with_reducible assumption) ?_ ?_) | unfold a1 | unfold a2 |
                  dsimp only

theorem Keeps.learnDone {s₀ s : State} (h : Keeps s₀ s) (l : Learn) :
    Keeps s₀ (s.learnDone l) := by
  unfold State.learnDone
  extract_lets a1 a2 a3 a4 a5 a6 a7 a8
  refine Keeps.step (s := a1) ?_ (fun ba1 => ?_); rotate_left; try clear_value a1
  refine Keeps.step (s := a3) ?_ (fun ba3 => ?_); rotate_left; try clear_value a3
  refine Keeps.step (s := a4) ?_ (fun ba4 => ?_); rotate_left; try clear_value a4
  refine Keeps.step (s := a5) ?_ (fun ba5 => ?_); rotate_left; try clear_value a5
  refine Keeps.step (s := a6) ?_ (fun ba6 => ?_); rotate_left; try clear_value a6
  refine Keeps.step (s := a7) ?_ (fun ba7 => ?_); rotate_left; try clear_value a7
  refine Keeps.step (s := a8) ?_ (fun ba8 => ?_); rotate_left; try clear_value a8
  repeat' first | with_reducible assumption | (with_reducible apply Keeps.dramWrite) | (with_reducible apply Keeps.finalTo) |
                  (with_reducible apply Keeps.raise) | (with_reducible apply Keeps.updCmp) | (with_reducible rfl) |
                  (simp only [fixedSizes, length_upd, List.length_map, List.length_zipIdx]; first | done | rfl) | split |
                  (intro _ _ _) | (with_reducible refine Keeps.set (by with_reducible assumption) ?_ ?_) | unfold a1 | unfold a2 |
                  unfold a3 | unfold a4 | unfold a5 | unfold a6 | unfold a7 | unfold a8 | dsimp only

theorem Keeps.refChecked {s₀ s : State} (h : Keeps s₀ s) (x : RefCheck) :
    Keeps s₀ (s.refChecked x) := by
  unfold State.refChecked
  extract_lets a1 a2 a3 a4 a5
  refine Keeps.step (s := a3) ?_ (fun ba3 => ?_); rotate_left; try clear_value a3
  refine Keeps.step (s := a5) ?_ (fun ba5 => ?_); rotate_left; try clear_value a5
  repeat' first | with_reducible assumption | (with_reducible apply Keeps.done) | (with_reducible apply Keeps.dramWrite) |
                  (with_reducible apply Keeps.reply) | (with_reducible apply Keeps.updCmp) | (with_reducible rfl) |
                  (simp only [fixedSizes, length_upd, List.length_map, List.length_zipIdx]; first | done | rfl) | split |
                  (intro _ _ _) | (with_reducible refine Keeps.set (by with_reducible assumption) ?_ ?_) | unfold a1 | unfold a2 |
                  unfold a3 | unfold a4 | unfold a5 | dsimp only

theorem Keeps.imgAct {s₀ s : State} (h : Keeps s₀ s) (a : ImgAct) :
    Keeps s₀ (s.imgAct a) := by
  unfold State.imgAct
  extract_lets a1
  repeat' first | with_reducible assumption | (with_reducible apply Keeps.updCmp) | (with_reducible rfl) |
                  (simp only [fixedSizes, length_upd, List.length_map, List.length_zipIdx]; first | done | rfl) | split |
                  (intro _ _ _) | (with_reducible refine Keeps.set (by with_reducible assumption) ?_ ?_) | unfold a1 | dsimp only

theorem Keeps.imgWrites {s₀ s : State} (h : Keeps s₀ s) (line : Nat) (ws : List ParWrite) :
    Keeps s₀ (s.imgWrites line ws) := by
  unfold State.imgWrites
  extract_lets a1 a2
  refine Keeps.step (s := a2) ?_ (fun ba2 => ?_); rotate_left; try clear_value a2
  repeat' first | with_reducible assumption | (with_reducible apply Keeps.updCmp) | (with_reducible rfl) |
                  (simp only [fixedSizes, length_upd, List.length_map, List.length_zipIdx]; first | done | rfl) | split |
                  (intro _ _ _) | (with_reducible refine Keeps.set (by with_reducible assumption) ?_ ?_) | unfold a1 | unfold a2 |
                  dsimp only

theorem Keeps.atBoundary {s₀ s : State} (h : Keeps s₀ s) (b : Boundary) :
    Keeps s₀ (s.atBoundary b) := by
  unfold State.atBoundary
  extract_lets a1 a2 a3 a4 a5 a6 a7 a8
  refine Keeps.step (s := a3) ?_ (fun ba3 => ?_); rotate_left; try clear_value a3
  refine Keeps.step (s := a4) ?_ (fun ba4 => ?_); rotate_left; try clear_value a4
  repeat' first | with_reducible assumption | (with_reducible apply Keeps.carry) | (with_reducible apply Keeps.endRepeat) |
                  (with_reducible apply Keeps.learnDone) | (with_reducible apply Keeps.updCmp) | (with_reducible apply Keeps.foldl) |
                  (with_reducible apply Keeps.foldlSnd) | (with_reducible rfl) |
                  (simp only [fixedSizes, length_upd, List.length_map, List.length_zipIdx]; first | done | rfl) | split |
                  (intro _ _ _) | (with_reducible refine Keeps.set (by with_reducible assumption) ?_ ?_) | unfold a1 | unfold a2 |
                  unfold a3 | unfold a4 | unfold a5 | unfold a6 | unfold a7 | unfold a8 | dsimp only

theorem Keeps.mirrorAt {s₀ s : State} (h : Keeps s₀ s) (line : Nat) :
    Keeps s₀ (s.mirrorAt line) := by
  unfold State.mirrorAt
  extract_lets a1 a2 a3 a4 a5 a6 a7
  refine Keeps.step (s := a4) ?_ (fun ba4 => ?_); rotate_left; try clear_value a4
  refine Keeps.step (s := a5) ?_ (fun ba5 => ?_); rotate_left; try clear_value a5
  refine Keeps.step (s := a6) ?_ (fun ba6 => ?_); rotate_left; try clear_value a6
  repeat' first | with_reducible assumption | (with_reducible apply Keeps.atBoundary) | (with_reducible apply Keeps.closeBlobs) |
                  (with_reducible apply Keeps.imgAct) | (with_reducible apply Keeps.imgWrites) | (with_reducible apply Keeps.foldl) |
                  (with_reducible apply Keeps.foldlSnd) | (with_reducible rfl) |
                  (simp only [fixedSizes, length_upd, List.length_map, List.length_zipIdx]; first | done | rfl) | split |
                  (intro _ _ _) | (with_reducible refine Keeps.set (by with_reducible assumption) ?_ ?_) | unfold a1 | unfold a2 |
                  unfold a3 | unfold a4 | unfold a5 | unfold a6 | unfold a7 | dsimp only

theorem Keeps.mirrorTo {s₀ s : State} (h : Keeps s₀ s) (line : Nat) :
    Keeps s₀ (s.mirrorTo line) := by
  unfold State.mirrorTo
  repeat' first | with_reducible assumption | (with_reducible apply Keeps.mirrorAt) | (with_reducible apply Keeps.foldl) |
                  (with_reducible apply Keeps.foldlSnd) | (with_reducible rfl) |
                  (simp only [fixedSizes, length_upd, List.length_map, List.length_zipIdx]; first | done | rfl) | split |
                  (intro _ _ _) | (with_reducible refine Keeps.set (by with_reducible assumption) ?_ ?_) | dsimp only

theorem Keeps.evalRow {s₀ s : State} (h : Keeps s₀ s) (r : Rep) (line : Nat) (row : List Patch) :
    Keeps s₀ (s.evalRow r line row) := by
  unfold State.evalRow
  extract_lets a1 a2 a3 a4 a5 a6 a7 a8 a9 a10 a11
  refine Keeps.step (s := a7) ?_ (fun ba7 => ?_); rotate_left; try clear_value a7
  refine Keeps.step (s := a8) ?_ (fun ba8 => ?_); rotate_left; try clear_value a8
  refine Keeps.step (s := a9) ?_ (fun ba9 => ?_); rotate_left; try clear_value a9
  refine Keeps.step (s := a10) ?_ (fun ba10 => ?_); rotate_left; try clear_value a10
  refine Keeps.step (s := a11) ?_ (fun ba11 => ?_); rotate_left; try clear_value a11
  repeat' first | with_reducible assumption | (with_reducible apply Keeps.count) | (with_reducible apply Keeps.raise) |
                  (with_reducible apply Keeps.updCmp) | (with_reducible apply Keeps.updRep) | (with_reducible rfl) |
                  (simp only [fixedSizes, length_upd, List.length_map, List.length_zipIdx]; first | done | rfl) | split |
                  (intro _ _ _) | (with_reducible refine Keeps.set (by with_reducible assumption) ?_ ?_) | unfold a1 | unfold a2 |
                  unfold a3 | unfold a4 | unfold a5 | unfold a6 | unfold a7 | unfold a8 | unfold a9 | unfold a10 | unfold a11 |
                  dsimp only

theorem Keeps.evalRows {s₀ s : State} (h : Keeps s₀ s) (line : Nat) :
    Keeps s₀ (s.evalRows line) := by
  unfold State.evalRows
  extract_lets a1
  repeat' first | with_reducible assumption | (with_reducible apply Keeps.evalRow) | (with_reducible apply Keeps.foldl) |
                  (with_reducible apply Keeps.foldlSnd) | (with_reducible rfl) |
                  (simp only [fixedSizes, length_upd, List.length_map, List.length_zipIdx]; first | done | rfl) | split |
                  (intro _ _ _) | (with_reducible refine Keeps.set (by with_reducible assumption) ?_ ?_) | unfold a1 | dsimp only

theorem Keeps.notCompared {s₀ s : State} (h : Keeps s₀ s) (line : Nat) (cols : Nat × Nat) (cause : Nat) (detail : Nat) :
    Keeps s₀ (s.notCompared line cols cause detail) := by
  unfold State.notCompared
  repeat' first | with_reducible assumption | (with_reducible apply Keeps.count) | (with_reducible apply Keeps.covReport) |
                  (with_reducible rfl) | (simp only [fixedSizes, length_upd, List.length_map, List.length_zipIdx]; first | done |
                  rfl) | split | (intro _ _ _) | (with_reducible refine Keeps.set (by with_reducible assumption) ?_ ?_) | dsimp only

theorem Keeps.addDrift {s₀ s : State} (h : Keeps s₀ s) (px : List PxAt) :
    Keeps s₀ (s.addDrift px) := by
  unfold State.addDrift
  extract_lets a1
  repeat' first | with_reducible assumption | (with_reducible apply Keeps.updRep) | (with_reducible apply Keeps.foldl) |
                  (with_reducible apply Keeps.foldlSnd) | (with_reducible rfl) |
                  (simp only [fixedSizes, length_upd, List.length_map, List.length_zipIdx]; first | done | rfl) | split |
                  (intro _ _ _) | (with_reducible refine Keeps.set (by with_reducible assumption) ?_ ?_) | unfold a1 | dsimp only

theorem Keeps.takeSlices {s₀ s : State} (h : Keeps s₀ s) (l : ImgLine) : Keeps s₀ (s.takeSlices l).2 := by
  unfold State.takeSlices
  refine Keeps.foldlSnd (β := List Nat) (fun r i hr => ?_) _ _ h
  dsimp only
  split
  · exact hr
  · split
    · exact hr
    · dsimp only
      exact hr.updCmp _

theorem Keeps.learnLine {s₀ s : State} (h : Keeps s₀ s) (l : ImgLine) (r : Rep) (k : Learn) (labs : List (Nat × List Nat)) :
    Keeps s₀ (s.learnLine l r k labs) := by
  unfold State.learnLine
  extract_lets a1 a2 a3 a4 a5
  refine Keeps.step (s := a5) ?_ (fun ba5 => ?_); rotate_left; try clear_value a5
  repeat' first | with_reducible assumption | (with_reducible apply Keeps.accumulate) | (with_reducible apply Keeps.count) |
                  (with_reducible apply Keeps.dramWrite) | (with_reducible apply Keeps.finalTo) | (with_reducible apply Keeps.updRep) |
                  (with_reducible apply Keeps.foldl) | (with_reducible apply Keeps.foldlSnd) | (with_reducible rfl) |
                  (simp only [fixedSizes, length_upd, List.length_map, List.length_zipIdx]; first | done | rfl) | split |
                  (intro _ _ _) | (with_reducible refine Keeps.set (by with_reducible assumption) ?_ ?_) | unfold a1 | unfold a2 |
                  unfold a3 | unfold a4 | unfold a5 | dsimp only

theorem Keeps.compareCols {s₀ s : State} (h : Keeps s₀ s) (l : ImgLine) (r : Rep) (cols : List Nat) (labs : List (Nat × List Nat)) :
    Keeps s₀ (s.compareCols l r cols labs) := by
  unfold State.compareCols
  extract_lets a1 a2 a3 a4 a5 a6 a7 a8 a9 a10 a11 a12 a13
  refine Keeps.step (s := a4) ?_ (fun ba4 => ?_); rotate_left; try clear_value a4
  refine Keeps.step (s := a7) ?_ (fun ba7 => ?_); rotate_left; try clear_value a7
  refine Keeps.step (s := a8) ?_ (fun ba8 => ?_); rotate_left; try clear_value a8
  refine Keeps.step (s := a10) ?_ (fun ba10 => ?_); rotate_left; try clear_value a10
  refine Keeps.step (s := a11) ?_ (fun ba11 => ?_); rotate_left; try clear_value a11
  refine Keeps.step (s := a12) ?_ (fun ba12 => ?_); rotate_left; try clear_value a12
  refine Keeps.step (s := a13) ?_ (fun ba13 => ?_); rotate_left; try clear_value a13
  repeat' first | with_reducible assumption | (with_reducible apply Keeps.addDrift) | (with_reducible apply Keeps.addRun) |
                  (with_reducible apply Keeps.count) | (with_reducible apply Keeps.covLine) |
                  (with_reducible apply Keeps.notCompared) | (with_reducible apply Keeps.raise) | (with_reducible apply Keeps.updRep) |
                  (with_reducible apply Keeps.foldl) | (with_reducible apply Keeps.foldlSnd) | (with_reducible rfl) |
                  (simp only [fixedSizes, length_upd, List.length_map, List.length_zipIdx]; first | done | rfl) | split |
                  (intro _ _ _) | (with_reducible refine Keeps.set (by with_reducible assumption) ?_ ?_) | unfold a1 | unfold a2 |
                  unfold a3 | unfold a4 | unfold a5 | unfold a6 | unfold a7 | unfold a8 | unfold a9 | unfold a10 | unfold a11 |
                  unfold a12 | unfold a13 | dsimp only

theorem Keeps.keepLive {s₀ s : State} (h : Keeps s₀ s) (l : ImgLine) (labs : List (Nat × List Nat)) :
    Keeps s₀ (s.keepLive l labs) := by
  unfold State.keepLive
  repeat' first | with_reducible assumption | (with_reducible apply Keeps.updCmp) | (with_reducible rfl) |
                  (simp only [fixedSizes, length_upd, List.length_map, List.length_zipIdx]; first | done | rfl) | split |
                  (intro _ _ _) | (with_reducible refine Keeps.set (by with_reducible assumption) ?_ ?_) | dsimp only

theorem Keeps.mirrorLine {s₀ s : State} (h : Keeps s₀ s) (l : ImgLine) :
    Keeps s₀ (s.mirrorLine l) := by
  unfold State.mirrorLine
  extract_lets a1 a2 a3 a4 a5 a6 a7 a8 a9 a10 a11 a12 a13 a14 a15 a16 a17 a18 a19 a20 a21
  refine Keeps.step (s := a1) ?_ (fun ba1 => ?_); rotate_left; try clear_value a1
  refine Keeps.step (s := a2) ?_ (fun ba2 => ?_); rotate_left; try clear_value a2
  refine Keeps.step (s := a10) ?_ (fun ba10 => ?_); rotate_left; try clear_value a10
  refine Keeps.step (s := a11) ?_ (fun ba11 => ?_); rotate_left; try clear_value a11
  refine Keeps.step (s := a13) ?_ (fun ba13 => ?_); rotate_left; try clear_value a13
  refine Keeps.step (s := a14) ?_ (fun ba14 => ?_); rotate_left; try clear_value a14
  refine Keeps.step (s := a15.2) ?_ (fun ba15 => ?_); rotate_left; try clear_value a15
  refine Keeps.step (s := a16) ?_ (fun ba16 => ?_); rotate_left; try clear_value a16
  refine Keeps.step (s := a19) ?_ (fun ba19 => ?_); rotate_left; try clear_value a19
  refine Keeps.step (s := a20) ?_ (fun ba20 => ?_); rotate_left; try clear_value a20
  refine Keeps.step (s := a21) ?_ (fun ba21 => ?_); rotate_left; try clear_value a21
  repeat' first | with_reducible assumption | (with_reducible apply Keeps.closeQuiet) | (with_reducible apply Keeps.compareCols) |
                  (with_reducible apply Keeps.count) | (with_reducible apply Keeps.covPass) | (with_reducible apply Keeps.evalRows) |
                  (with_reducible apply Keeps.keepLive) | (with_reducible apply Keeps.learnLine) |
                  (with_reducible apply Keeps.mirrorTo) | (with_reducible apply Keeps.notCompared) |
                  (with_reducible apply Keeps.seamsDue) | (with_reducible apply Keeps.takeSlices) |
                  (with_reducible apply Keeps.foldl) | (with_reducible apply Keeps.foldlSnd) | (with_reducible rfl) |
                  (simp only [fixedSizes, length_upd, List.length_map, List.length_zipIdx]; first | done | rfl) | split |
                  (intro _ _ _) | (with_reducible refine Keeps.set (by with_reducible assumption) ?_ ?_) | unfold a1 | unfold a2 |
                  unfold a3 | unfold a4 | unfold a5 | unfold a6 | unfold a7 | unfold a8 | unfold a9 | unfold a10 | unfold a11 |
                  unfold a12 | unfold a13 | unfold a14 | unfold a15 | unfold a16 | unfold a17 | unfold a18 | unfold a19 | unfold a20 |
                  unfold a21 | dsimp only

theorem Keeps.compareLine {s₀ s : State} (h : Keeps s₀ s) :
    Keeps s₀ (s.compareLine) := by
  unfold State.compareLine
  extract_lets a1
  repeat' first | with_reducible assumption | (with_reducible apply Keeps.mirrorLine) | (with_reducible rfl) |
                  (simp only [fixedSizes, length_upd, List.length_map, List.length_zipIdx]; first | done | rfl) | split |
                  (intro _ _ _) | (with_reducible refine Keeps.set (by with_reducible assumption) ?_ ?_) | unfold a1 | dsimp only

theorem Keeps.compareAll {s₀ s : State} (h : Keeps s₀ s) :
    Keeps s₀ (s.compareAll) := by
  unfold State.compareAll
  repeat' first | with_reducible assumption | (with_reducible apply Keeps.compareLine) | (with_reducible apply Keeps.foldl) |
                  (with_reducible apply Keeps.foldlSnd) | (with_reducible rfl) |
                  (simp only [fixedSizes, length_upd, List.length_map, List.length_zipIdx]; first | done | rfl) | split |
                  (intro _ _ _) | (with_reducible refine Keeps.set (by with_reducible assumption) ?_ ?_) | dsimp only

/-! ### Machine/CalOps.lean -/

theorem Keeps.updCal {s₀ s : State} (h : Keeps s₀ s) (f : Cal → Cal) :
    Keeps s₀ (s.updCal f) := by
  unfold State.updCal
  extract_lets a1
  repeat' first | with_reducible assumption | (with_reducible rfl) |
                  (simp only [fixedSizes, length_upd, List.length_map, List.length_zipIdx]; first | done | rfl) | split |
                  (intro _ _ _) | (with_reducible refine Keeps.set (by with_reducible assumption) ?_ ?_) | unfold a1 | dsimp only

theorem Keeps.createSet {s₀ s : State} (h : Keeps s₀ s) (slot : Nat) (tiles : Nat) :
    Keeps s₀ (s.createSet slot tiles) := by
  unfold State.createSet
  extract_lets a1 a2 a3 a4 a5
  repeat' first | with_reducible assumption | (with_reducible apply Keeps.dramWrite) | (with_reducible rfl) |
                  (simp only [fixedSizes, length_upd, List.length_map, List.length_zipIdx]; first | done | rfl) | split |
                  (intro _ _ _) | (with_reducible refine Keeps.set (by with_reducible assumption) ?_ ?_) | unfold a1 | unfold a2 |
                  unfold a3 | unfold a4 | unfold a5 | dsimp only

theorem Keeps.calAxis {s₀ s : State} (h : Keeps s₀ s) :
    Keeps s₀ (s.calAxis) := by
  unfold State.calAxis
  repeat' first | with_reducible assumption | (with_reducible apply Keeps.updCal) | (with_reducible rfl) |
                  (simp only [fixedSizes, length_upd, List.length_map, List.length_zipIdx]; first | done | rfl) | split |
                  (intro _ _ _) | (with_reducible refine Keeps.set (by with_reducible assumption) ?_ ?_) | dsimp only

theorem Keeps.calStart {s₀ s : State} (h : Keeps s₀ s) (cid : Nat) (kind : Nat) (slot : Nat) (flash : Nat) (apply : Bool) (tiles : Nat) (addr : Nat) :
    Keeps s₀ (s.calStart cid kind slot flash apply tiles addr) := by
  unfold State.calStart
  extract_lets a1 a2 a3 a4 a5
  refine Keeps.step (s := a1) ?_ (fun ba1 => ?_); rotate_left; try clear_value a1
  refine Keeps.step (s := a5) ?_ (fun ba5 => ?_); rotate_left; try clear_value a5
  repeat' first | with_reducible assumption | (with_reducible apply Keeps.calAxis) | (with_reducible apply Keeps.createSet) |
                  (with_reducible apply Keeps.moveTo) | (with_reducible rfl) |
                  (simp only [fixedSizes, length_upd, List.length_map, List.length_zipIdx]; first | done | rfl) | split |
                  (intro _ _ _) | (with_reducible refine Keeps.set (by with_reducible assumption) ?_ ?_) | unfold a1 | unfold a2 |
                  unfold a3 | unfold a4 | unfold a5 | dsimp only

theorem Keeps.calSettled {s₀ s : State} (h : Keeps s₀ s) :
    Keeps s₀ (s.calSettled) := by
  unfold State.calSettled
  repeat' first | with_reducible assumption | (with_reducible apply Keeps.updCal) | (with_reducible rfl) |
                  (simp only [fixedSizes, length_upd, List.length_map, List.length_zipIdx]; first | done | rfl) | split |
                  (intro _ _ _) | (with_reducible refine Keeps.set (by with_reducible assumption) ?_ ?_) | dsimp only

theorem Keeps.calTaken {s₀ s : State} (h : Keeps s₀ s) :
    Keeps s₀ (s.calTaken) := by
  unfold State.calTaken
  extract_lets a1
  refine Keeps.step (s := a1) ?_ (fun ba1 => ?_); rotate_left; try clear_value a1
  repeat' first | with_reducible assumption | (with_reducible apply Keeps.calAxis) | (with_reducible apply Keeps.moveTo) |
                  (with_reducible apply Keeps.updCal) | (with_reducible rfl) |
                  (simp only [fixedSizes, length_upd, List.length_map, List.length_zipIdx]; first | done | rfl) | split |
                  (intro _ _ _) | (with_reducible refine Keeps.set (by with_reducible assumption) ?_ ?_) | unfold a1 | dsimp only

theorem Keeps.calFail {s₀ s : State} (h : Keeps s₀ s) (detail : Nat) :
    Keeps s₀ (s.calFail detail) := by
  unfold State.calFail
  extract_lets a1
  repeat' first | with_reducible assumption | (with_reducible apply Keeps.reply) | (with_reducible rfl) |
                  (simp only [fixedSizes, length_upd, List.length_map, List.length_zipIdx]; first | done | rfl) | split |
                  (intro _ _ _) | (with_reducible refine Keeps.set (by with_reducible assumption) ?_ ?_) | unfold a1 | dsimp only

theorem Keeps.calSubLine {s₀ s : State} (h : Keeps s₀ s) (c : Cal) (p : Nat) (l : Nat) (words : List Nat) :
    Keeps s₀ (s.calSubLine c p l words) := by
  unfold State.calSubLine
  extract_lets a1 a2 a3 a4 a5 a6
  repeat' first | with_reducible assumption | (with_reducible apply Keeps.updCal) | (with_reducible rfl) |
                  (simp only [fixedSizes, length_upd, List.length_map, List.length_zipIdx]; first | done | rfl) | split |
                  (intro _ _ _) | (with_reducible refine Keeps.set (by with_reducible assumption) ?_ ?_) | unfold a1 | unfold a2 |
                  unfold a3 | unfold a4 | unfold a5 | unfold a6 | dsimp only

theorem Keeps.calTemps {s₀ s : State} (h : Keeps s₀ s) :
    Keeps s₀ (s.calTemps) := by
  unfold State.calTemps
  repeat' first | with_reducible assumption | (with_reducible apply Keeps.updCal) | (with_reducible rfl) |
                  (simp only [fixedSizes, length_upd, List.length_map, List.length_zipIdx]; first | done | rfl) | split |
                  (intro _ _ _) | (with_reducible refine Keeps.set (by with_reducible assumption) ?_ ?_) | dsimp only

theorem Keeps.calSampled {s₀ s : State} (h : Keeps s₀ s) (c : Cal) :
    Keeps s₀ (s.calSampled c) := by
  unfold State.calSampled
  extract_lets a1 a2 a3 a4 a5 a6
  refine Keeps.step (s := a6) ?_ (fun ba6 => ?_); rotate_left; try clear_value a6
  repeat' first | with_reducible assumption | (with_reducible apply Keeps.calTaken) | (with_reducible apply Keeps.updCal) |
                  (with_reducible apply Keeps.foldl) | (with_reducible apply Keeps.foldlSnd) | (with_reducible rfl) |
                  (simp only [fixedSizes, length_upd, List.length_map, List.length_zipIdx]; first | done | rfl) | split |
                  (intro _ _ _) | (with_reducible refine Keeps.set (by with_reducible assumption) ?_ ?_) | unfold a1 | unfold a2 |
                  unfold a3 | unfold a4 | unfold a5 | unfold a6 | dsimp only

theorem Keeps.calStrobes {s₀ s : State} (h : Keeps s₀ s) (kind : Nat) (level : Nat) (p : Nat) (openAt : Nat) :
    Keeps s₀ (s.calStrobes kind level p openAt) := by
  unfold State.calStrobes
  repeat' first | with_reducible assumption | (with_reducible apply Keeps.strobe) | (with_reducible apply Keeps.foldl) |
                  (with_reducible apply Keeps.foldlSnd) | (with_reducible rfl) |
                  (simp only [fixedSizes, length_upd, List.length_map, List.length_zipIdx]; first | done | rfl) | split |
                  (intro _ _ _) | (with_reducible refine Keeps.set (by with_reducible assumption) ?_ ?_) | dsimp only

theorem Keeps.calTick {s₀ s : State} (h : Keeps s₀ s) (tests : List (List LaneTest)) (video : List (List LaneVideo)) :
    Keeps s₀ (s.calTick tests video) := by
  unfold State.calTick
  extract_lets a1 a2 a3 a4 a5
  refine Keeps.step (s := a4) ?_ (fun ba4 => ?_); rotate_left; try clear_value a4
  refine Keeps.step (s := a5) ?_ (fun ba5 => ?_); rotate_left; try clear_value a5
  repeat' first | with_reducible assumption | (with_reducible apply Keeps.applyGains) | (with_reducible apply Keeps.calFail) |
                  (with_reducible apply Keeps.calSampled) | (with_reducible apply Keeps.calStrobes) |
                  (with_reducible apply Keeps.calSubLine) | (with_reducible apply Keeps.calTaken) |
                  (with_reducible apply Keeps.calTemps) | (with_reducible apply Keeps.lanePixels) |
                  (with_reducible apply Keeps.laneTests) | (with_reducible apply Keeps.updCal) | (with_reducible apply Keeps.foldl) |
                  (with_reducible apply Keeps.foldlSnd) | (with_reducible rfl) |
                  (simp only [fixedSizes, length_upd, List.length_map, List.length_zipIdx]; first | done | rfl) | split |
                  (intro _ _ _) | (with_reducible refine Keeps.set (by with_reducible assumption) ?_ ?_) | unfold a1 | unfold a2 |
                  unfold a3 | unfold a4 | unfold a5 | dsimp only

theorem Keeps.calSample {s₀ s : State} (h : Keeps s₀ s) :
    Keeps s₀ (s.calSample) := by
  unfold State.calSample
  repeat' first | with_reducible assumption | (with_reducible apply Keeps.updCal) | (with_reducible rfl) |
                  (simp only [fixedSizes, length_upd, List.length_map, List.length_zipIdx]; first | done | rfl) | split |
                  (intro _ _ _) | (with_reducible refine Keeps.set (by with_reducible assumption) ?_ ?_) | dsimp only

theorem Keeps.calWrite {s₀ s : State} (h : Keeps s₀ s) (c : Cal) :
    Keeps s₀ (s.calWrite c).2 := by
  unfold State.calWrite
  extract_lets a1 a2 a3 a4 a5 a6 a7
  refine Keeps.step (s := a7.2) ?_ (fun ba7 => ?_); rotate_left; try clear_value a7
  repeat' first | with_reducible assumption | (with_reducible apply Keeps.dramWrite) | (with_reducible apply Keeps.foldl) |
                  (with_reducible apply Keeps.foldlSnd) | (with_reducible rfl) |
                  (simp only [fixedSizes, length_upd, List.length_map, List.length_zipIdx]; first | done | rfl) | split |
                  (intro _ _ _) | (with_reducible refine Keeps.set (by with_reducible assumption) ?_ ?_) | unfold a1 | unfold a2 |
                  unfold a3 | unfold a4 | unfold a5 | unfold a6 | unfold a7 | dsimp only

theorem Keeps.calReport {s₀ s : State} (h : Keeps s₀ s) (c : Cal) :
    Keeps s₀ (s.calReport c) := by
  unfold State.calReport
  extract_lets a1 a2 a3 a4
  repeat' first | with_reducible assumption | (with_reducible apply Keeps.hostWrite) | (with_reducible rfl) |
                  (simp only [fixedSizes, length_upd, List.length_map, List.length_zipIdx]; first | done | rfl) | split |
                  (intro _ _ _) | (with_reducible refine Keeps.set (by with_reducible assumption) ?_ ?_) | unfold a1 | unfold a2 |
                  unfold a3 | unfold a4 | dsimp only

theorem Keeps.calEnd {s₀ s : State} (h : Keeps s₀ s) (c : Cal) (limits : Nat) (unfit : Nat) (failed : Bool) :
    Keeps s₀ (s.calEnd c limits unfit failed) := by
  unfold State.calEnd
  extract_lets a1 a2 a3 a4 a5 a6
  refine Keeps.step (s := a1) ?_ (fun ba1 => ?_); rotate_left; try clear_value a1
  refine Keeps.step (s := a3) ?_ (fun ba3 => ?_); rotate_left; try clear_value a3
  refine Keeps.step (s := a6) ?_ (fun ba6 => ?_); rotate_left; try clear_value a6
  repeat' first | with_reducible assumption | (with_reducible apply Keeps.loadHalf) | (with_reducible apply Keeps.raise) |
                  (with_reducible apply Keeps.reply) | (with_reducible apply Keeps.swapTile) | (with_reducible apply Keeps.foldl) |
                  (with_reducible apply Keeps.foldlSnd) | (with_reducible rfl) |
                  (simp only [fixedSizes, length_upd, List.length_map, List.length_zipIdx]; first | done | rfl) | split |
                  (intro _ _ _) | (with_reducible refine Keeps.set (by with_reducible assumption) ?_ ?_) | unfold a1 | unfold a2 |
                  unfold a3 | unfold a4 | unfold a5 | unfold a6 | dsimp only

theorem Keeps.calDone {s₀ s : State} (h : Keeps s₀ s) :
    Keeps s₀ (s.calDone) := by
  unfold State.calDone
  repeat' first | with_reducible assumption | (with_reducible apply Keeps.calEnd) | (with_reducible apply Keeps.calReport) | (with_reducible apply Keeps.calWrite) | (with_reducible apply Keeps.dirUpdate) | (with_reducible apply Keeps.updCal) | (with_reducible rfl) | (simp only [fixedSizes, length_upd, List.length_map, List.length_zipIdx]; first | done | rfl) | split | (intro _ _ _) | (with_reducible refine Keeps.set (by (repeat' first | with_reducible assumption | with_reducible apply Keeps.calEnd | with_reducible apply Keeps.calReport | with_reducible apply Keeps.calWrite | with_reducible apply Keeps.dirUpdate | with_reducible apply Keeps.updCal)) ?_ ?_) | unfold a1 | unfold a2 | unfold a3 | unfold a4 | unfold a5 | unfold a6 | unfold a7 | unfold a8 | unfold a9 | dsimp only

theorem Keeps.calStored {s₀ s : State} (h : Keeps s₀ s) (ok : Bool) :
    Keeps s₀ (s.calStored ok) := by
  unfold State.calStored
  repeat' first | with_reducible assumption | (with_reducible apply Keeps.calEnd) | (with_reducible apply Keeps.raise) |
                  (with_reducible apply Keeps.storeSet) | (with_reducible rfl) |
                  (simp only [fixedSizes, length_upd, List.length_map, List.length_zipIdx]; first | done | rfl) | split |
                  (intro _ _ _) | (with_reducible refine Keeps.set (by with_reducible assumption) ?_ ?_) | dsimp only

/-! ### Machine/AuxOps.lean -/

theorem Keeps.updAux {s₀ s : State} (h : Keeps s₀ s) (f : AuxSt → AuxSt) (z : fixedSizes (s.updAux f) = fixedSizes s := by rfl) :
    Keeps s₀ (s.updAux f) := Keeps.set h rfl z

theorem Keeps.updAuxCh {s₀ s : State} (h : Keeps s₀ s) (c : Nat) (f : AuxCh → AuxCh) :
    Keeps s₀ (s.updAuxCh c f) := by
  unfold State.updAuxCh
  repeat' first | with_reducible assumption | (with_reducible apply Keeps.updAux) | (with_reducible rfl) |
                  (simp only [fixedSizes, State.updAux, length_upd, List.length_map, List.length_zipIdx]; first | done | rfl) | split |
                  (intro _ _ _) | (with_reducible refine Keeps.set (by with_reducible assumption) ?_ ?_) | dsimp only

theorem Keeps.auxResult {s₀ s : State} (h : Keeps s₀ s) (c : Nat) (x : Int) (stamp : Nat) (flags : Nat) (scan : Bool) :
    Keeps s₀ (s.auxResult c x stamp flags scan).2 := by
  unfold State.auxResult
  extract_lets a1 a2 a3 a4 a5 a6 a7 a8 a9 a10 a11 a12 a13 a14 a15 a16 a17 a18 a19 a20 a21 a22 a23
  refine Keeps.step (s := a9) ?_ (fun ba9 => ?_); rotate_left; try clear_value a9
  refine Keeps.step (s := a10) ?_ (fun ba10 => ?_); rotate_left; try clear_value a10
  refine Keeps.step (s := a11) ?_ (fun ba11 => ?_); rotate_left; try clear_value a11
  refine Keeps.step (s := a15) ?_ (fun ba15 => ?_); rotate_left; try clear_value a15
  refine Keeps.step (s := a16) ?_ (fun ba16 => ?_); rotate_left; try clear_value a16
  refine Keeps.step (s := a19) ?_ (fun ba19 => ?_); rotate_left; try clear_value a19
  refine Keeps.step (s := a23) ?_ (fun ba23 => ?_); rotate_left; try clear_value a23
  repeat' first | with_reducible assumption | (with_reducible apply Keeps.count) | (with_reducible apply Keeps.openRun) |
                  (with_reducible apply Keeps.raise) | (with_reducible apply Keeps.updAuxCh) | (with_reducible rfl) |
                  (simp only [fixedSizes, State.updAux, length_upd, List.length_map, List.length_zipIdx]; first | done | rfl) | split |
                  (intro _ _ _) | (with_reducible refine Keeps.set (by with_reducible assumption) ?_ ?_) | unfold a1 | unfold a2 |
                  unfold a3 | unfold a4 | unfold a5 | unfold a6 | unfold a7 | unfold a8 | unfold a9 | unfold a10 | unfold a11 |
                  unfold a12 | unfold a13 | unfold a14 | unfold a15 | unfold a16 | unfold a17 | unfold a18 | unfold a19 | unfold a20 |
                  unfold a21 | unfold a22 | unfold a23 | dsimp only

theorem Keeps.auxPacket {s₀ s : State} (h : Keeps s₀ s) (kind : Nat) (stamp : Nat) (line : Nat) (incomplete : Bool) (rs : List AuxRes) :
    Keeps s₀ (s.auxPacket kind stamp line incomplete rs) := by
  unfold State.auxPacket
  extract_lets a1 a2 a3
  refine Keeps.step (s := a3) ?_ (fun ba3 => ?_); rotate_left; try clear_value a3
  repeat' first | with_reducible assumption | (with_reducible apply Keeps.serviceRecord) | (with_reducible apply Keeps.updAux) |
                  (with_reducible rfl) |
                  (simp only [fixedSizes, State.updAux, length_upd, List.length_map, List.length_zipIdx]; first | done | rfl) | split |
                  (intro _ _ _) | (with_reducible refine Keeps.set (by with_reducible assumption) ?_ ?_) | unfold a1 | unfold a2 |
                  unfold a3 | dsimp only

theorem Keeps.updLoop {s₀ s : State} (h : Keeps s₀ s) (o : Nat) (f : AuxLoop → AuxLoop) :
    Keeps s₀ (s.updLoop o f) := by
  unfold State.updLoop
  repeat' first | with_reducible assumption | (with_reducible apply Keeps.updAux) | (with_reducible rfl) |
                  (simp only [fixedSizes, State.updAux, length_upd, List.length_map, List.length_zipIdx]; first | done | rfl) | split |
                  (intro _ _ _) | (with_reducible refine Keeps.set (by with_reducible assumption) ?_ ?_) | dsimp only

theorem Keeps.loopOut {s₀ s : State} (h : Keeps s₀ s) (o : Nat) :
    Keeps s₀ (s.loopOut o) := by
  unfold State.loopOut
  extract_lets a1 a2 a3 a4
  repeat' first | with_reducible assumption | (with_reducible apply Keeps.updLoop) | (with_reducible rfl) |
                  (simp only [fixedSizes, length_upd, List.length_map, List.length_zipIdx]; first | done | rfl) | split |
                  (intro _ _ _) | (with_reducible refine Keeps.set (by with_reducible assumption) ?_ ?_) | unfold a1 | unfold a2 |
                  unfold a3 | unfold a4 | dsimp only

theorem Keeps.loopsOut {s₀ s : State} (h : Keeps s₀ s) :
    Keeps s₀ (s.loopsOut) := by
  unfold State.loopsOut
  repeat' first | with_reducible assumption | (with_reducible apply Keeps.loopOut) | (with_reducible apply Keeps.foldl) |
                  (with_reducible apply Keeps.foldlSnd) | (with_reducible rfl) |
                  (simp only [fixedSizes, length_upd, List.length_map, List.length_zipIdx]; first | done | rfl) | split |
                  (intro _ _ _) | (with_reducible refine Keeps.set (by with_reducible assumption) ?_ ?_) | dsimp only

theorem Keeps.loopReadback {s₀ s : State} (h : Keeps s₀ s) (o : Nat) (code : Nat) (atLimit : Bool) :
    Keeps s₀ (s.loopReadback o code atLimit) := by
  unfold State.loopReadback
  extract_lets a1 a2 a3 a4 a5 a6 a7
  refine Keeps.step (s := a6) ?_ (fun ba6 => ?_); rotate_left; try clear_value a6
  repeat' first | with_reducible assumption | (with_reducible apply Keeps.count) | (with_reducible apply Keeps.raise) |
                  (with_reducible apply Keeps.updLoop) | (with_reducible rfl) |
                  (simp only [fixedSizes, length_upd, List.length_map, List.length_zipIdx]; first | done | rfl) | split |
                  (intro _ _ _) | (with_reducible refine Keeps.set (by with_reducible assumption) ?_ ?_) | unfold a1 | unfold a2 |
                  unfold a3 | unfold a4 | unfold a5 | unfold a6 | unfold a7 | dsimp only

theorem Keeps.auxDeliver {s₀ s : State} (h : Keeps s₀ s) (rs : List AuxRes) :
    Keeps s₀ (s.auxDeliver rs) := by
  unfold State.auxDeliver
  repeat' first | with_reducible assumption | (with_reducible apply Keeps.lampInvalid) | (with_reducible apply Keeps.lampReading) |
                  (with_reducible apply Keeps.loopOut) | (with_reducible apply Keeps.newReading) | (with_reducible apply Keeps.foldl) |
                  (with_reducible apply Keeps.foldlSnd) | (with_reducible rfl) |
                  (simp only [fixedSizes, length_upd, List.length_map, List.length_zipIdx]; first | done | rfl) | split |
                  (intro _ _ _) | (with_reducible refine Keeps.set (by with_reducible assumption) ?_ ?_) | dsimp only

theorem Keeps.scanMissed {s₀ s : State} (h : Keeps s₀ s) :
    Keeps s₀ (s.scanMissed) := by
  unfold State.scanMissed
  repeat' first | with_reducible assumption | (with_reducible apply Keeps.count) | (with_reducible apply Keeps.raise) |
                  (with_reducible apply Keeps.updAux) | (with_reducible rfl) |
                  (simp only [fixedSizes, State.updAux, length_upd, List.length_map, List.length_zipIdx]; first | done | rfl) | split |
                  (intro _ _ _) | (with_reducible refine Keeps.set (by with_reducible assumption) ?_ ?_) | dsimp only

theorem Keeps.scanTrigger {s₀ s : State} (h : Keeps s₀ s) :
    Keeps s₀ (s.scanTrigger) := by
  unfold State.scanTrigger
  repeat' first | with_reducible assumption | (with_reducible apply Keeps.scanMissed) | (with_reducible apply Keeps.updAux) |
                  (with_reducible rfl) |
                  (simp only [fixedSizes, State.updAux, length_upd, List.length_map, List.length_zipIdx]; first | done | rfl) | split |
                  (intro _ _ _) | (with_reducible refine Keeps.set (by with_reducible assumption) ?_ ?_) | dsimp only

theorem Keeps.scanStep {s₀ s : State} (h : Keeps s₀ s) (nv : List Int) :
    Keeps s₀ (s.scanStep nv) := by
  unfold State.scanStep
  repeat' first | with_reducible assumption | (with_reducible apply Keeps.auxResult) | (with_reducible apply Keeps.updAux) |
                  (with_reducible apply Keeps.foldl) | (with_reducible apply Keeps.foldlSnd) | (with_reducible rfl) |
                  (simp only [fixedSizes, State.updAux, length_upd, List.length_map, List.length_zipIdx]; first | done | rfl) | split |
                  (intro _ _ _) | (with_reducible refine Keeps.set (by with_reducible assumption) ?_ ?_) | dsimp only

theorem Keeps.scanEnd {s₀ s : State} (h : Keeps s₀ s) (cut : Bool) :
    Keeps s₀ (s.scanEnd cut) := by
  unfold State.scanEnd
  extract_lets a1 a2
  refine Keeps.step (s := a1) ?_ (fun ba1 => ?_); rotate_left; try clear_value a1
  refine Keeps.step (s := a2) ?_ (fun ba2 => ?_); rotate_left; try clear_value a2
  repeat' first | with_reducible assumption | (with_reducible apply Keeps.auxDeliver) | (with_reducible apply Keeps.auxPacket) |
                  (with_reducible apply Keeps.count) | (with_reducible apply Keeps.updAux) | (with_reducible rfl) |
                  (simp only [fixedSizes, State.updAux, length_upd, List.length_map, List.length_zipIdx]; first | done | rfl) | split |
                  (intro _ _ _) | (with_reducible refine Keeps.set (by with_reducible assumption) ?_ ?_) | unfold a1 | unfold a2 |
                  dsimp only

theorem Keeps.scanCores {s₀ s : State} (h : Keeps s₀ s) :
    Keeps s₀ (s.scanCores) := by
  unfold State.scanCores
  repeat' first | with_reducible assumption | (with_reducible apply Keeps.scanEnd) | (with_reducible rfl) |
                  (simp only [fixedSizes, length_upd, List.length_map, List.length_zipIdx]; first | done | rfl) | split |
                  (intro _ _ _) | (with_reducible refine Keeps.set (by with_reducible assumption) ?_ ?_) | dsimp only

theorem Keeps.injectNow {s₀ s : State} (h : Keeps s₀ s) (x : AuxInj) :
    Keeps s₀ (s.injectNow x) := by
  unfold State.injectNow
  extract_lets a1 a2 a3 a4 a5 a6 a7 a8
  first | (refine Keeps.step (s := a2) ?_ (fun ba2 => ?_); rotate_left; try clear_value a2) | (refine Keeps.step (s := a2.2) ?_ (fun ba2 => ?_); rotate_left; try clear_value a2) | skip
  refine Keeps.step (s := a3) ?_ (fun ba3 => ?_); rotate_left; try clear_value a3
  refine Keeps.step (s := a4) ?_ (fun ba4 => ?_); rotate_left; try clear_value a4
  refine Keeps.step (s := a6) ?_ (fun ba6 => ?_); rotate_left; try clear_value a6
  refine Keeps.step (s := a7) ?_ (fun ba7 => ?_); rotate_left; try clear_value a7
  repeat' first | with_reducible assumption | (with_reducible apply Keeps.auxDeliver) | (with_reducible apply Keeps.auxPacket) |
                  (with_reducible apply Keeps.auxResult) | (with_reducible apply Keeps.count) | (with_reducible apply Keeps.done) |
                  (with_reducible apply Keeps.takeFree) | (with_reducible apply Keeps.updAux) | (with_reducible apply Keeps.foldl) |
                  (with_reducible apply Keeps.foldlSnd) | (with_reducible rfl) |
                  (simp only [fixedSizes, State.updAux, length_upd, List.length_map, List.length_zipIdx]; first | done | rfl) | split |
                  (intro _ _ _) | (with_reducible refine Keeps.set (by with_reducible assumption) ?_ ?_) | unfold a1 | unfold a2 |
                  unfold a3 | unfold a4 | unfold a5 | unfold a6 | unfold a7 | unfold a8 | dsimp only

theorem Keeps.injectServe {s₀ s : State} (h : Keeps s₀ s) :
    Keeps s₀ (s.injectServe) := by
  unfold State.injectServe
  extract_lets a1
  repeat' first | with_reducible assumption | (with_reducible apply Keeps.inject) | (with_reducible apply Keeps.injectNow) |
                  (with_reducible apply Keeps.updAux) | (with_reducible apply Keeps.foldl) | (with_reducible apply Keeps.foldlSnd) |
                  (with_reducible rfl) |
                  (simp only [fixedSizes, State.updAux, length_upd, List.length_map, List.length_zipIdx]; first | done | rfl) | split |
                  (intro _ _ _) | (with_reducible refine Keeps.set (by with_reducible assumption) ?_ ?_) | unfold a1 | dsimp only

theorem Keeps.excReduce {s₀ s : State} (h : Keeps s₀ s) (e : Nat) (down : Bool) :
    Keeps s₀ (s.excReduce e down) := by
  unfold State.excReduce
  extract_lets a1
  refine Keeps.step (s := a1) ?_ (fun ba1 => ?_); rotate_left; try clear_value a1
  repeat' first | with_reducible assumption | (with_reducible apply Keeps.updAux) | (with_reducible apply Keeps.updAuxCh) |
                  (with_reducible apply Keeps.foldl) | (with_reducible apply Keeps.foldlSnd) | (with_reducible rfl) |
                  (simp only [fixedSizes, State.updAux, length_upd, List.length_map, List.length_zipIdx]; first | done | rfl) | split |
                  (intro _ _ _) | (with_reducible refine Keeps.set (by with_reducible assumption) ?_ ?_) | unfold a1 | dsimp only

theorem Keeps.excCurrent {s₀ s : State} (h : Keeps s₀ s) (e : Nat) (current : Nat) :
    Keeps s₀ (s.excCurrent e current) := by
  unfold State.excCurrent
  extract_lets a1
  repeat' first | with_reducible assumption | (with_reducible apply Keeps.count) | (with_reducible apply Keeps.raise) |
                  (with_reducible apply Keeps.updAuxCh) | (with_reducible rfl) |
                  (simp only [fixedSizes, State.updAux, length_upd, List.length_map, List.length_zipIdx]; first | done | rfl) | split |
                  (intro _ _ _) | (with_reducible refine Keeps.set (by with_reducible assumption) ?_ ?_) | unfold a1 | dsimp only

theorem Keeps.excGood {s₀ s : State} (h : Keeps s₀ s) (c : Nat) :
    Keeps s₀ (s.excGood c) := by
  unfold State.excGood
  extract_lets a1 a2
  refine Keeps.step (s := a2) ?_ (fun ba2 => ?_); rotate_left; try clear_value a2
  repeat' first | with_reducible assumption | (with_reducible apply Keeps.raise) | (with_reducible apply Keeps.updAuxCh) |
                  (with_reducible rfl) |
                  (simp only [fixedSizes, State.updAux, length_upd, List.length_map, List.length_zipIdx]; first | done | rfl) | split |
                  (intro _ _ _) | (with_reducible refine Keeps.set (by with_reducible assumption) ?_ ?_) | unfold a1 | unfold a2 |
                  dsimp only

theorem Keeps.auxCommitted {s₀ s : State} (h : Keeps s₀ s) (old : Sparse Nat) :
    Keeps s₀ (s.auxCommitted old) := by
  unfold State.auxCommitted
  extract_lets a1 a2 a3 a4
  refine Keeps.step (s := a2) ?_ (fun ba2 => ?_); rotate_left; try clear_value a2
  refine Keeps.step (s := a3) ?_ (fun ba3 => ?_); rotate_left; try clear_value a3
  refine Keeps.step (s := a4) ?_ (fun ba4 => ?_); rotate_left; try clear_value a4
  repeat' first | with_reducible assumption | (with_reducible apply Keeps.loopsOut) | (with_reducible apply Keeps.updAux) |
                  (with_reducible apply Keeps.updAuxCh) | (with_reducible apply Keeps.foldl) | (with_reducible apply Keeps.foldlSnd) |
                  (with_reducible rfl) |
                  (simp only [fixedSizes, State.updAux, length_upd, List.length_map, List.length_zipIdx]; first | done | rfl) | split |
                  (intro _ _ _) | (with_reducible refine Keeps.set (by with_reducible assumption) ?_ ?_) | unfold a1 | unfold a2 |
                  unfold a3 | unfold a4 | dsimp only

theorem Keeps.auxTick {s₀ s : State} (h : Keeps s₀ s) :
    Keeps s₀ (s.auxTick) := by
  unfold State.auxTick
  extract_lets a1
  repeat' first | with_reducible assumption | (with_reducible apply Keeps.updAux) | (with_reducible rfl) |
                  (simp only [fixedSizes, State.updAux, length_upd, List.length_map, List.length_zipIdx]; first | done | rfl) | split |
                  (intro _ _ _) | (with_reducible refine Keeps.set (by with_reducible assumption) ?_ ?_) | unfold a1 | dsimp only

end Sys2Proof.Machine
end

