-- ==== Sys2Proof/Laws/KeepsUnits.lean ====
section
/-! SUPPORT. What every operation keeps: the operations of the security, power, daisy-chain and health modules. One lemma an operation. -/

set_option Elab.async false
set_option linter.all false
set_option linter.tactic.unusedName false

namespace Sys2Proof.Machine

/-! ### Machine/SecOps.lean -/

theorem Keeps.updSec {s₀ s : State} (h : Keeps s₀ s) (f : SecSt → SecSt) (z : fixedSizes (s.updSec f) = fixedSizes s := by rfl) :
    Keeps s₀ (s.updSec f) := Keeps.set h rfl z

theorem Keeps.draw {s₀ s : State} (h : Keeps s₀ s) (n : Nat) :
    Keeps s₀ (s.draw n).2 := by
  unfold State.draw
  repeat' first | with_reducible assumption | (with_reducible apply Keeps.updSec) | (with_reducible rfl) |
                  (simp only [fixedSizes, State.updSec, length_upd, List.length_map, List.length_zipIdx]; first | done | rfl) | split |
                  (intro _ _ _) | (with_reducible refine Keeps.set (by with_reducible assumption) ?_ ?_) | dsimp only

theorem Keeps.deriveKeys {s₀ s : State} (h : Keeps s₀ s) :
    Keeps s₀ (s.deriveKeys) := by
  unfold State.deriveKeys
  repeat' first | with_reducible assumption | (with_reducible apply Keeps.updSec) | (with_reducible rfl) |
                  (simp only [fixedSizes, State.updSec, length_upd, List.length_map, List.length_zipIdx]; first | done | rfl) | split |
                  (intro _ _ _) | (with_reducible refine Keeps.set (by with_reducible assumption) ?_ ?_) | dsimp only

theorem Keeps.runKeys {s₀ s : State} (h : Keeps s₀ s) :
    Keeps s₀ (s.runKeys) := by
  unfold State.runKeys
  extract_lets a1
  refine Keeps.step (s := a1) ?_ (fun ba1 => ?_); rotate_left; try clear_value a1
  repeat' first | with_reducible assumption | (with_reducible apply Keeps.deriveKeys) | (with_reducible apply Keeps.updSec) |
                  (with_reducible rfl) |
                  (simp only [fixedSizes, State.updSec, length_upd, List.length_map, List.length_zipIdx]; first | done | rfl) | split |
                  (intro _ _ _) | (with_reducible refine Keeps.set (by with_reducible assumption) ?_ ?_) | unfold a1 | dsimp only

theorem Keeps.episodeLine {s₀ s : State} (h : Keeps s₀ s) (line : Nat) :
    Keeps s₀ (s.episodeLine line) := by
  unfold State.episodeLine
  repeat' first | with_reducible assumption | (with_reducible apply Keeps.updSec) | (with_reducible rfl) |
                  (simp only [fixedSizes, State.updSec, length_upd, List.length_map, List.length_zipIdx]; first | done | rfl) | split |
                  (intro _ _ _) | (with_reducible refine Keeps.set (by with_reducible assumption) ?_ ?_) | dsimp only

theorem Keeps.episodeEntry {s₀ s : State} (h : Keeps s₀ s) :
    Keeps s₀ (s.episodeEntry) := by
  unfold State.episodeEntry
  repeat' first | with_reducible assumption | (with_reducible apply Keeps.covLines) | (with_reducible rfl) |
                  (simp only [fixedSizes, length_upd, List.length_map, List.length_zipIdx]; first | done | rfl) | split |
                  (intro _ _ _) | (with_reducible refine Keeps.set (by with_reducible assumption) ?_ ?_) | dsimp only

theorem Keeps.episodeRun {s₀ s : State} (h : Keeps s₀ s) :
    Keeps s₀ (s.episodeRun) := by
  unfold State.episodeRun
  repeat' first | with_reducible assumption | (with_reducible apply Keeps.updSec) | (with_reducible rfl) |
                  (simp only [fixedSizes, State.updSec, length_upd, List.length_map, List.length_zipIdx]; first | done | rfl) | split |
                  (intro _ _ _) | (with_reducible refine Keeps.set (by with_reducible assumption) ?_ ?_) | dsimp only

theorem Keeps.secError {s₀ s : State} (h : Keeps s₀ s) (cause : Nat) :
    Keeps s₀ (s.secError cause) := by
  unfold State.secError
  extract_lets a1 a2 a3
  refine Keeps.step (s := a1) ?_ (fun ba1 => ?_); rotate_left; try clear_value a1
  refine Keeps.step (s := a2) ?_ (fun ba2 => ?_); rotate_left; try clear_value a2
  refine Keeps.step (s := a3) ?_ (fun ba3 => ?_); rotate_left; try clear_value a3
  repeat' first | with_reducible assumption | (with_reducible apply Keeps.auditDevice) | (with_reducible apply Keeps.count) |
                  (with_reducible apply Keeps.episodeLine) | (with_reducible apply Keeps.raise) | (with_reducible apply Keeps.updSec) |
                  (with_reducible rfl) |
                  (simp only [fixedSizes, State.updSec, length_upd, List.length_map, List.length_zipIdx]; first | done | rfl) | split |
                  (intro _ _ _) | (with_reducible refine Keeps.set (by with_reducible assumption) ?_ ?_) | unfold a1 | unfold a2 |
                  unfold a3 | dsimp only

theorem Keeps.secRecover {s₀ s : State} (h : Keeps s₀ s) :
    Keeps s₀ (s.secRecover) := by
  unfold State.secRecover
  extract_lets a1 a2 a3
  refine Keeps.step (s := a1) ?_ (fun ba1 => ?_); rotate_left; try clear_value a1
  refine Keeps.step (s := a2) ?_ (fun ba2 => ?_); rotate_left; try clear_value a2
  refine Keeps.step (s := a3) ?_ (fun ba3 => ?_); rotate_left; try clear_value a3
  repeat' first | with_reducible assumption | (with_reducible apply Keeps.auditDevice) | (with_reducible apply Keeps.deriveKeys) |
                  (with_reducible apply Keeps.episodeEntry) | (with_reducible apply Keeps.raise) |
                  (with_reducible apply Keeps.updSec) | (with_reducible rfl) |
                  (simp only [fixedSizes, State.updSec, length_upd, List.length_map, List.length_zipIdx]; first | done | rfl) | split |
                  (intro _ _ _) | (with_reducible refine Keeps.set (by with_reducible assumption) ?_ ?_) | unfold a1 | unfold a2 |
                  unfold a3 | dsimp only

theorem Keeps.testStart {s₀ s : State} (h : Keeps s₀ s) (x : SelfTest) :
    Keeps s₀ (s.testStart x) := by
  unfold State.testStart
  repeat' first | with_reducible assumption | (with_reducible apply Keeps.updSec) | (with_reducible rfl) |
                  (simp only [fixedSizes, State.updSec, length_upd, List.length_map, List.length_zipIdx]; first | done | rfl) | split |
                  (intro _ _ _) | (with_reducible refine Keeps.set (by with_reducible assumption) ?_ ?_) | dsimp only

theorem Keeps.testEntry {s₀ s : State} (h : Keeps s₀ s) (cause : Nat) :
    Keeps s₀ (s.testEntry cause) := by
  unfold State.testEntry
  extract_lets a1
  refine Keeps.step (s := a1.2) ?_ (fun ba1 => ?_); rotate_left; try clear_value a1
  repeat' first | with_reducible assumption | (with_reducible apply Keeps.auditDevice) | (with_reducible apply Keeps.takeFree) |
                  (with_reducible rfl) | (simp only [fixedSizes, length_upd, List.length_map, List.length_zipIdx]; first | done |
                  rfl) | split | (intro _ _ _) | (with_reducible refine Keeps.set (by with_reducible assumption) ?_ ?_) | unfold a1 |
                  dsimp only

theorem Keeps.testNext {s₀ s : State} (h : Keeps s₀ s) :
    Keeps s₀ (s.testNext) := by
  unfold State.testNext
  repeat' first | with_reducible assumption | (with_reducible apply Keeps.updSec) | (with_reducible rfl) |
                  (simp only [fixedSizes, State.updSec, length_upd, List.length_map, List.length_zipIdx]; first | done | rfl) | split |
                  (intro _ _ _) | (with_reducible refine Keeps.set (by with_reducible assumption) ?_ ?_) | dsimp only

theorem Keeps.testDone {s₀ s : State} (h : Keeps s₀ s) (cause : Nat) :
    Keeps s₀ (s.testDone cause) := by
  unfold State.testDone
  extract_lets a1 a2
  refine Keeps.step (s := a2) ?_ (fun ba2 => ?_); rotate_left; try clear_value a2
  repeat' first | with_reducible assumption | (with_reducible apply Keeps.count) | (with_reducible apply Keeps.done) |
                  (with_reducible apply Keeps.secError) | (with_reducible apply Keeps.secRecover) |
                  (with_reducible apply Keeps.testEntry) | (with_reducible apply Keeps.testNext) |
                  (with_reducible apply Keeps.updSec) | (with_reducible apply Keeps.foldl) | (with_reducible apply Keeps.foldlSnd) |
                  (with_reducible rfl) |
                  (simp only [fixedSizes, State.updSec, length_upd, List.length_map, List.length_zipIdx]; first | done | rfl) | split |
                  (intro _ _ _) | (with_reducible refine Keeps.set (by with_reducible assumption) ?_ ?_) | unfold a1 | unfold a2 |
                  dsimp only

theorem Keeps.testPeriod {s₀ s : State} (h : Keeps s₀ s) :
    Keeps s₀ (s.testPeriod) := by
  unfold State.testPeriod
  repeat' first | with_reducible assumption | (with_reducible apply Keeps.testStart) | (with_reducible apply Keeps.updSec) |
                  (with_reducible rfl) |
                  (simp only [fixedSizes, State.updSec, length_upd, List.length_map, List.length_zipIdx]; first | done | rfl) | split |
                  (intro _ _ _) | (with_reducible refine Keeps.set (by with_reducible assumption) ?_ ?_) | dsimp only

theorem Keeps.testAfterRun {s₀ s : State} (h : Keeps s₀ s) :
    Keeps s₀ (s.testAfterRun) := by
  unfold State.testAfterRun
  repeat' first | with_reducible assumption | (with_reducible apply Keeps.testStart) | (with_reducible rfl) |
                  (simp only [fixedSizes, length_upd, List.length_map, List.length_zipIdx]; first | done | rfl) | split |
                  (intro _ _ _) | (with_reducible refine Keeps.set (by with_reducible assumption) ?_ ?_) | dsimp only

theorem Keeps.newSecrets {s₀ s : State} (h : Keeps s₀ s) :
    Keeps s₀ (s.newSecrets) := by
  unfold State.newSecrets
  extract_lets a1 a2
  refine Keeps.step (s := a1.2) ?_ (fun ba1 => ?_); rotate_left; try clear_value a1
  refine Keeps.step (s := a2) ?_ (fun ba2 => ?_); rotate_left; try clear_value a2
  repeat' first | with_reducible assumption | (with_reducible apply Keeps.draw) | (with_reducible apply Keeps.updSec) |
                  (with_reducible rfl) |
                  (simp only [fixedSizes, State.updSec, length_upd, List.length_map, List.length_zipIdx]; first | done | rfl) | split |
                  (intro _ _ _) | (with_reducible refine Keeps.set (by with_reducible assumption) ?_ ?_) | unfold a1 | unfold a2 |
                  dsimp only

theorem Keeps.zeroise {s₀ s : State} (h : Keeps s₀ s) (permanent : Bool) :
    Keeps s₀ (s.zeroise permanent) := by
  unfold State.zeroise
  extract_lets a1 a2 a3
  refine Keeps.step (s := a1) ?_ (fun ba1 => ?_); rotate_left; try clear_value a1
  refine Keeps.step (s := a2) ?_ (fun ba2 => ?_); rotate_left; try clear_value a2
  refine Keeps.step (s := a3) ?_ (fun ba3 => ?_); rotate_left; try clear_value a3
  repeat' first | with_reducible assumption | (with_reducible apply Keeps.auditDevice) | (with_reducible apply Keeps.newSecrets) |
                  (with_reducible apply Keeps.raise) | (with_reducible apply Keeps.secError) | (with_reducible apply Keeps.updSec) |
                  (with_reducible rfl) |
                  (simp only [fixedSizes, State.updSec, length_upd, List.length_map, List.length_zipIdx]; first | done | rfl) | split |
                  (intro _ _ _) | (with_reducible refine Keeps.set (by with_reducible assumption) ?_ ?_) | unfold a1 | unfold a2 |
                  unfold a3 | dsimp only

theorem Keeps.auditStore {s₀ s : State} (h : Keeps s₀ s) (n : Nat) (e : AuditEnt) :
    Keeps s₀ (s.auditStore n e) := by
  unfold State.auditStore
  extract_lets a1
  refine Keeps.step (s := a1) ?_ (fun ba1 => ?_); rotate_left; try clear_value a1
  repeat' first | with_reducible assumption | (with_reducible apply Keeps.updSec) | (with_reducible rfl) |
                  (simp only [fixedSizes, State.updSec, length_upd, List.length_map, List.length_zipIdx]; first | done | rfl) | split |
                  (intro _ _ _) | (with_reducible refine Keeps.set (by with_reducible assumption) ?_ ?_) |
                  (with_reducible refine Keeps.setFlash (by with_reducible assumption) (Sparse.write_wf _ _ _)) | unfold a1 | dsimp only

theorem Keeps.auditFlush {s₀ s : State} (h : Keeps s₀ s) (ok : Bool) :
    Keeps s₀ (s.auditFlush ok) := by
  unfold State.auditFlush
  extract_lets a1 a2
  refine Keeps.step (s := a2) ?_ (fun ba2 => ?_); rotate_left; try clear_value a2
  repeat' first | with_reducible assumption | (with_reducible apply Keeps.auditStore) | (with_reducible apply Keeps.raise) |
                  (with_reducible apply Keeps.updSec) | (with_reducible apply Keeps.foldl) | (with_reducible apply Keeps.foldlSnd) |
                  (with_reducible rfl) |
                  (simp only [fixedSizes, State.updSec, length_upd, List.length_map, List.length_zipIdx]; first | done | rfl) | split |
                  (intro _ _ _) | (with_reducible refine Keeps.set (by with_reducible assumption) ?_ ?_) | unfold a1 | unfold a2 |
                  dsimp only

theorem Keeps.auditKeep {s₀ s : State} (h : Keeps s₀ s) :
    Keeps s₀ (s.auditKeep) := by
  unfold State.auditKeep
  extract_lets a1 a2
  repeat' first | with_reducible assumption | (with_reducible apply Keeps.updSec) | (with_reducible rfl) |
                  (simp only [fixedSizes, State.updSec, length_upd, List.length_map, List.length_zipIdx]; first | done | rfl) | split |
                  (intro _ _ _) | (with_reducible refine Keeps.set (by with_reducible assumption) ?_ ?_) | unfold a1 | unfold a2 |
                  dsimp only

theorem Keeps.auditRead {s₀ s : State} (h : Keeps s₀ s) (first : Nat) (addr : Nat) (size : Nat) :
    Keeps s₀ (s.auditRead first addr size).2.2 := by
  unfold State.auditRead
  extract_lets a1 a2
  repeat' first | with_reducible assumption | (with_reducible apply Keeps.hostWrite) | (with_reducible rfl) |
                  (simp only [fixedSizes, length_upd, List.length_map, List.length_zipIdx]; first | done | rfl) | split |
                  (intro _ _ _) | (with_reducible refine Keeps.set (by with_reducible assumption) ?_ ?_) | unfold a1 | unfold a2 |
                  dsimp only

theorem Keeps.fwWrite {s₀ s : State} (h : Keeps s₀ s) (slot : Nat) (off : Nat) (ws : List Word) :
    Keeps s₀ (s.fwWrite slot off ws) := by
  unfold State.fwWrite
  extract_lets a1 a2 a3
  refine Keeps.step (s := a2) ?_ (fun ba2 => ?_); rotate_left; try clear_value a2
  refine Keeps.step (s := a3) ?_ (fun ba3 => ?_); rotate_left; try clear_value a3
  repeat' first | with_reducible assumption | (with_reducible apply Keeps.updSec) | (with_reducible rfl) |
                  (simp only [fixedSizes, State.updSec, length_upd, List.length_map, List.length_zipIdx]; first | done | rfl) | split |
                  (intro _ _ _) | (with_reducible refine Keeps.set (by with_reducible assumption) ?_ ?_) |
                  (with_reducible refine Keeps.setFlash (by with_reducible assumption) (Sparse.write_wf _ _ _)) |
                  (with_reducible refine Keeps.setFlash (by with_reducible assumption) (Sparse.filter_wf _ _ _)) |
                  (with_reducible refine Keeps.setDram (by with_reducible assumption) (Sparse.filter_wf _ _ _)) | unfold a1 |
                  unfold a2 | unfold a3 | dsimp only

theorem Keeps.rmkImport {s₀ s : State} (h : Keeps s₀ s) (ws : List Word) :
    Keeps s₀ (s.rmkImport ws) := by
  unfold State.rmkImport
  extract_lets a1
  repeat' first | with_reducible assumption | (with_reducible apply Keeps.updSec) | (with_reducible rfl) |
                  (simp only [fixedSizes, State.updSec, length_upd, List.length_map, List.length_zipIdx]; first | done | rfl) | split |
                  (intro _ _ _) | (with_reducible refine Keeps.set (by with_reducible assumption) ?_ ?_) | unfold a1 | dsimp only

theorem Keeps.rmkExport {s₀ s : State} (h : Keeps s₀ s) (ws : List Word) :
    Keeps s₀ (s.rmkExport ws).2 := by
  unfold State.rmkExport
  extract_lets a1 a2 a3 a4 a5 a6
  refine Keeps.step (s := a2) ?_ (fun ba2 => ?_); rotate_left; try clear_value a2
  refine Keeps.step (s := a3.2) ?_ (fun ba3 => ?_); rotate_left; try clear_value a3
  refine Keeps.step (s := a4) ?_ (fun ba4 => ?_); rotate_left; try clear_value a4
  repeat' first | with_reducible assumption | (with_reducible apply Keeps.draw) | (with_reducible apply Keeps.updSec) |
                  (with_reducible rfl) |
                  (simp only [fixedSizes, State.updSec, length_upd, List.length_map, List.length_zipIdx]; first | done | rfl) | split |
                  (intro _ _ _) | (with_reducible refine Keeps.set (by with_reducible assumption) ?_ ?_) | unfold a1 | unfold a2 |
                  unfold a3 | unfold a4 | unfold a5 | unfold a6 | dsimp only

theorem Keeps.signMap {s₀ s : State} (h : Keeps s₀ s) :
    Keeps s₀ (s.signMap) := by
  unfold State.signMap
  repeat' first | with_reducible assumption | (with_reducible apply Keeps.dramWrite) | (with_reducible apply Keeps.signDik) |
                  (with_reducible rfl) | (simp only [fixedSizes, length_upd, List.length_map, List.length_zipIdx]; first | done |
                  rfl) | split | (intro _ _ _) | (with_reducible refine Keeps.set (by with_reducible assumption) ?_ ?_) | dsimp only

theorem Keeps.auditHead {s₀ s : State} (h : Keeps s₀ s) :
    Keeps s₀ (s.auditHead).2 := by
  unfold State.auditHead
  extract_lets a1 a2 a3
  refine Keeps.step (s := a3.2) ?_ (fun ba3 => ?_); rotate_left; try clear_value a3
  repeat' first | with_reducible assumption | (with_reducible apply Keeps.signDik) | (with_reducible rfl) |
                  (simp only [fixedSizes, length_upd, List.length_map, List.length_zipIdx]; first | done | rfl) | split |
                  (intro _ _ _) | (with_reducible refine Keeps.set (by with_reducible assumption) ?_ ?_) | unfold a1 | unfold a2 |
                  unfold a3 | dsimp only

/-! ### Machine/PwrOps.lean -/

theorem Keeps.updPwr {s₀ s : State} (h : Keeps s₀ s) (f : PwrSt → PwrSt) :
    Keeps s₀ (s.updPwr f) := by
  unfold State.updPwr
  repeat' first | with_reducible assumption | (with_reducible rfl) |
                  (simp only [fixedSizes, length_upd, List.length_map, List.length_zipIdx]; first | done | rfl) | split |
                  (intro _ _ _) | (with_reducible refine Keeps.set (by with_reducible assumption) ?_ ?_) | dsimp only

theorem Keeps.domainOff {s₀ s : State} (h : Keeps s₀ s) (i : Nat) :
    Keeps s₀ (s.domainOff i) := by
  unfold State.domainOff
  extract_lets a1
  refine Keeps.step (s := a1) ?_ (fun ba1 => ?_); rotate_left; try clear_value a1
  repeat' first | with_reducible assumption | (with_reducible apply Keeps.updCmp) | (with_reducible apply Keeps.updPwr) |
                  (with_reducible apply Keeps.foldl) | (with_reducible apply Keeps.foldlSnd) | (with_reducible rfl) |
                  (simp only [fixedSizes, length_upd, List.length_map, List.length_zipIdx]; first | done | rfl) | split |
                  (intro _ _ _) | (with_reducible refine Keeps.set (by with_reducible assumption) ?_ ?_) | unfold a1 | dsimp only

theorem Keeps.domainUp {s₀ s : State} (h : Keeps s₀ s) (i : Nat) (cid : Option Nat) :
    Keeps s₀ (s.domainUp i cid) := by
  unfold State.domainUp
  repeat' first | with_reducible assumption | (with_reducible apply Keeps.updPwr) | (with_reducible rfl) |
                  (simp only [fixedSizes, length_upd, List.length_map, List.length_zipIdx]; first | done | rfl) | split |
                  (intro _ _ _) | (with_reducible refine Keeps.set (by with_reducible assumption) ?_ ?_) | dsimp only

theorem Keeps.domainReady {s₀ s : State} (h : Keeps s₀ s) (d : Nat) :
    Keeps s₀ (s.domainReady d) := by
  unfold State.domainReady
  extract_lets a1
  repeat' first | with_reducible assumption | (with_reducible apply Keeps.lanesPowered) | (with_reducible apply Keeps.updBar) |
                  (with_reducible apply Keeps.updCmp) | (with_reducible apply Keeps.updTile) | (with_reducible apply Keeps.foldl) |
                  (with_reducible apply Keeps.foldlSnd) | (with_reducible rfl) |
                  (simp only [fixedSizes, length_upd, List.length_map, List.length_zipIdx]; first | done | rfl) | split |
                  (intro _ _ _) | (with_reducible refine Keeps.set (by with_reducible assumption) ?_ ?_) | unfold a1 | dsimp only

theorem Keeps.domainReplies {s₀ s : State} (h : Keeps s₀ s) :
    Keeps s₀ (s.domainReplies) := by
  unfold State.domainReplies
  extract_lets a1 a2
  refine Keeps.step (s := a2) ?_ (fun ba2 => ?_); rotate_left; try clear_value a2
  repeat' first | with_reducible assumption | (with_reducible apply Keeps.replyAt) | (with_reducible apply Keeps.updPwr) |
                  (with_reducible apply Keeps.foldl) | (with_reducible apply Keeps.foldlSnd) | (with_reducible rfl) |
                  (simp only [fixedSizes, length_upd, List.length_map, List.length_zipIdx]; first | done | rfl) | split |
                  (intro _ _ _) | (with_reducible refine Keeps.set (by with_reducible assumption) ?_ ?_) | unfold a1 | unfold a2 |
                  dsimp only

theorem Keeps.domainSet {s₀ s : State} (h : Keeps s₀ s) (cid : Nat) (line : Nat) (flags : Nat) (mask : Nat) (vals : Nat) :
    Keeps s₀ (s.domainSet cid line flags mask vals).2.2 := by
  unfold State.domainSet
  extract_lets a1 a2 a3 a4 a5 a6 a7
  refine Keeps.step (s := a3) ?_ (fun ba3 => ?_); rotate_left; try clear_value a3
  refine Keeps.step (s := a5) ?_ (fun ba5 => ?_); rotate_left; try clear_value a5
  refine Keeps.step (s := a7) ?_ (fun ba7 => ?_); rotate_left; try clear_value a7
  repeat' first | with_reducible assumption | (with_reducible apply Keeps.domainOff) | (with_reducible apply Keeps.domainUp) |
                  (with_reducible apply Keeps.setPars) | (with_reducible apply Keeps.updPwr) | (with_reducible apply Keeps.foldl) |
                  (with_reducible apply Keeps.foldlSnd) | (with_reducible rfl) |
                  (simp only [fixedSizes, length_upd, List.length_map, List.length_zipIdx]; first | done | rfl) | split |
                  (intro _ _ _) | (with_reducible refine Keeps.set (by with_reducible assumption) ?_ ?_) | unfold a1 | unfold a2 |
                  unfold a3 | unfold a4 | unfold a5 | unfold a6 | unfold a7 | dsimp only

theorem Keeps.powerGood {s₀ s : State} (h : Keeps s₀ s) (d : Nat) :
    Keeps s₀ (s.powerGood d) := by
  unfold State.powerGood
  extract_lets a1
  refine Keeps.step (s := a1) ?_ (fun ba1 => ?_); rotate_left; try clear_value a1
  repeat' first | with_reducible assumption | (with_reducible apply Keeps.domainReady) | (with_reducible apply Keeps.domainReplies) |
                  (with_reducible apply Keeps.updPwr) | (with_reducible rfl) |
                  (simp only [fixedSizes, length_upd, List.length_map, List.length_zipIdx]; first | done | rfl) | split |
                  (intro _ _ _) | (with_reducible refine Keeps.set (by with_reducible assumption) ?_ ?_) | unfold a1 | dsimp only

theorem Keeps.slicesThermal {s₀ s : State} (h : Keeps s₀ s) (off : Bool) :
    Keeps s₀ (s.slicesThermal off) := by
  unfold State.slicesThermal
  extract_lets a1
  refine Keeps.step (s := a1) ?_ (fun ba1 => ?_); rotate_left; try clear_value a1
  repeat' first | with_reducible assumption | (with_reducible apply Keeps.domainOff) | (with_reducible apply Keeps.domainReplies) |
                  (with_reducible apply Keeps.domainUp) | (with_reducible apply Keeps.updCmp) | (with_reducible apply Keeps.foldl) |
                  (with_reducible apply Keeps.foldlSnd) | (with_reducible rfl) |
                  (simp only [fixedSizes, length_upd, List.length_map, List.length_zipIdx]; first | done | rfl) | split |
                  (intro _ _ _) | (with_reducible refine Keeps.set (by with_reducible assumption) ?_ ?_) | unfold a1 | dsimp only

theorem Keeps.safeEnter {s₀ s : State} (h : Keeps s₀ s) (cause : Nat) :
    Keeps s₀ (s.safeEnter cause) := by
  unfold State.safeEnter
  extract_lets a1 a2 a3 a4 a5 a6
  refine Keeps.step (s := a1) ?_ (fun ba1 => ?_); rotate_left; try clear_value a1
  refine Keeps.step (s := a3) ?_ (fun ba3 => ?_); rotate_left; try clear_value a3
  refine Keeps.step (s := a5) ?_ (fun ba5 => ?_); rotate_left; try clear_value a5
  refine Keeps.step (s := a6) ?_ (fun ba6 => ?_); rotate_left; try clear_value a6
  repeat' first | with_reducible assumption | (with_reducible apply Keeps.count) | (with_reducible apply Keeps.loopsOut) |
                  (with_reducible apply Keeps.raise) | (with_reducible apply Keeps.updAxis) | (with_reducible apply Keeps.updPwr) |
                  (with_reducible apply Keeps.foldl) | (with_reducible apply Keeps.foldlSnd) | (with_reducible rfl) |
                  (simp only [fixedSizes, length_upd, List.length_map, List.length_zipIdx]; first | done | rfl) | split |
                  (intro _ _ _) | (with_reducible refine Keeps.set (by with_reducible assumption) ?_ ?_) | unfold a1 | unfold a2 |
                  unfold a3 | unfold a4 | unfold a5 | unfold a6 | dsimp only

theorem Keeps.safeExit {s₀ s : State} (h : Keeps s₀ s) :
    Keeps s₀ (s.safeExit) := by
  unfold State.safeExit
  extract_lets a1 a2 a3 a4 a5 a6
  refine Keeps.step (s := a1) ?_ (fun ba1 => ?_); rotate_left; try clear_value a1
  refine Keeps.step (s := a2) ?_ (fun ba2 => ?_); rotate_left; try clear_value a2
  refine Keeps.step (s := a3) ?_ (fun ba3 => ?_); rotate_left; try clear_value a3
  refine Keeps.step (s := a4) ?_ (fun ba4 => ?_); rotate_left; try clear_value a4
  refine Keeps.step (s := a6) ?_ (fun ba6 => ?_); rotate_left; try clear_value a6
  repeat' first | with_reducible assumption | (with_reducible apply Keeps.axisEnabled) | (with_reducible apply Keeps.hold) |
                  (with_reducible apply Keeps.loopsOut) | (with_reducible apply Keeps.raise) | (with_reducible apply Keeps.updBar) |
                  (with_reducible apply Keeps.updPwr) | (with_reducible apply Keeps.foldl) | (with_reducible apply Keeps.foldlSnd) |
                  (with_reducible rfl) | (simp only [fixedSizes, length_upd, List.length_map, List.length_zipIdx]; first | done |
                  rfl) | split | (intro _ _ _) | (with_reducible refine Keeps.set (by with_reducible assumption) ?_ ?_) | unfold a1 |
                  unfold a2 | unfold a3 | unfold a4 | unfold a5 | unfold a6 | dsimp only

theorem Keeps.watchSafe {s₀ s : State} (h : Keeps s₀ s) :
    Keeps s₀ (s.watchSafe) := by
  unfold State.watchSafe
  repeat' first | with_reducible assumption | (with_reducible apply Keeps.updPwr) | (with_reducible rfl) |
                  (simp only [fixedSizes, length_upd, List.length_map, List.length_zipIdx]; first | done | rfl) | split |
                  (intro _ _ _) | (with_reducible refine Keeps.set (by with_reducible assumption) ?_ ?_) | dsimp only

theorem Keeps.safeCleared {s₀ s : State} (h : Keeps s₀ s) :
    Keeps s₀ (s.safeCleared) := by
  unfold State.safeCleared
  repeat' first | with_reducible assumption | (with_reducible apply Keeps.updPwr) | (with_reducible rfl) |
                  (simp only [fixedSizes, length_upd, List.length_map, List.length_zipIdx]; first | done | rfl) | split |
                  (intro _ _ _) | (with_reducible refine Keeps.set (by with_reducible assumption) ?_ ?_) | dsimp only

theorem Keeps.domainFault {s₀ s : State} (h : Keeps s₀ s) (d : Nat) :
    Keeps s₀ (s.domainFault d) := by
  unfold State.domainFault
  extract_lets a1 a2
  refine Keeps.step (s := a2) ?_ (fun ba2 => ?_); rotate_left; try clear_value a2
  repeat' first | with_reducible assumption | (with_reducible apply Keeps.count) | (with_reducible apply Keeps.domainReplies) |
                  (with_reducible apply Keeps.raise) | (with_reducible apply Keeps.safeEnter) | (with_reducible apply Keeps.updPwr) |
                  (with_reducible rfl) | (simp only [fixedSizes, length_upd, List.length_map, List.length_zipIdx]; first | done |
                  rfl) | split | (intro _ _ _) | (with_reducible refine Keeps.set (by with_reducible assumption) ?_ ?_) | unfold a1 |
                  unfold a2 | dsimp only

theorem Keeps.lost {s₀ s : State} (h : Keeps s₀ s) (pw : PwrSt) (sc : SecSt) (z : sc.envCounters = s.sec.envCounters) :
    Keeps s₀ { State.reset with
      now := s.now, pending := s.pending, freeCount := s.freeCount, hostMem := s.hostMem, flash := s.flash, pwr := pw, sec := sc } := by
  refine ⟨h.1, h.2, h.3, h.4, fun _ => rfl, h.6, fun _ => ⟨rfl, by simp [State.reset]⟩, fun _ => ⟨by simp [State.reset, HltSt.reset],
    by simp [State.reset, HltSt.reset], by simp [State.reset, HltSt.reset]⟩, fun w => ?_⟩
  have e := h.9 w
  simp only [shaped, fixedSizes, List.cons.injEq, true_and, and_true, z] at e ⊢
  exact e.2.2.2.2.2.2.2.2.2.2.2.2.2.2.2.2.2.2.2.2.2.2

theorem Keeps.powerLoss {s₀ s : State} (h : Keeps s₀ s) (toOff : Bool) : Keeps s₀ (s.powerLoss toOff) := by
  unfold State.powerLoss
  extract_lets a1 a2 a3 a4 a5 a6 a7 a8 a9 a10
  have b1 : Keeps s₀ a1 := h.auditKeep
  have b7 : Keeps s₀ a7 := b1.lost _ _ rfl
  split
  · exact b7
  · exact Keeps.set (b7.setPars _) rfl rfl

theorem Keeps.resetFall {s₀ s : State} (h : Keeps s₀ s) :
    Keeps s₀ (s.resetFall) := by
  unfold State.resetFall
  repeat' first | with_reducible assumption | (with_reducible apply Keeps.powerLoss) | (with_reducible rfl) |
                  (simp only [fixedSizes, length_upd, List.length_map, List.length_zipIdx]; first | done | rfl) | split |
                  (intro _ _ _) | (with_reducible refine Keeps.set (by with_reducible assumption) ?_ ?_) | dsimp only

theorem Keeps.resetRise {s₀ s : State} (h : Keeps s₀ s) (straps : Nat) :
    Keeps s₀ (s.resetRise straps) := by
  unfold State.resetRise
  repeat' first | with_reducible assumption | (with_reducible apply Keeps.updPwr) | (with_reducible apply Keeps.updSec) |
                  (with_reducible rfl) |
                  (simp only [fixedSizes, State.updSec, length_upd, List.length_map, List.length_zipIdx]; first | done | rfl) | split |
                  (intro _ _ _) | (with_reducible refine Keeps.set (by with_reducible assumption) ?_ ?_) | dsimp only

theorem Keeps.setTrim {s₀ s : State} (h : Keeps s₀ s) (kind : Nat) (i : Nat) (t : Trim) :
    Keeps s₀ (s.setTrim kind i t) := by
  unfold State.setTrim
  extract_lets a1
  repeat' first | with_reducible assumption | (with_reducible rfl) |
                  (simp only [fixedSizes, length_upd, List.length_map, List.length_zipIdx]; first | done | rfl) | split |
                  (intro _ _ _) | (with_reducible refine Keeps.set (by with_reducible assumption) ?_ ?_) | unfold a1 | dsimp only

theorem Keeps.chooseTrim {s₀ s : State} (h : Keeps s₀ s) (kind : Nat) (i : Nat) :
    Keeps s₀ (s.chooseTrim kind i) := by
  unfold State.chooseTrim
  extract_lets a1 a2 a3
  refine Keeps.step (s := a3) ?_ (fun ba3 => ?_); rotate_left; try clear_value a3
  repeat' first | with_reducible assumption | (with_reducible apply Keeps.raise) | (with_reducible apply Keeps.setTrim) |
                  (with_reducible rfl) | (simp only [fixedSizes, length_upd, List.length_map, List.length_zipIdx]; first | done |
                  rfl) | split | (intro _ _ _) | (with_reducible refine Keeps.set (by with_reducible assumption) ?_ ?_) | unfold a1 |
                  unfold a2 | unfold a3 | dsimp only

theorem Keeps.bootTrims {s₀ s : State} (h : Keeps s₀ s) :
    Keeps s₀ (s.bootTrims) := by
  unfold State.bootTrims
  repeat' first | with_reducible assumption | (with_reducible apply Keeps.chooseTrim) | (with_reducible apply Keeps.foldl) |
                  (with_reducible apply Keeps.foldlSnd) | (with_reducible rfl) |
                  (simp only [fixedSizes, length_upd, List.length_map, List.length_zipIdx]; first | done | rfl) | split |
                  (intro _ _ _) | (with_reducible refine Keeps.set (by with_reducible assumption) ?_ ?_) | dsimp only

theorem Keeps.bootParams {s₀ s : State} (h : Keeps s₀ s) :
    Keeps s₀ (s.bootParams) := by
  unfold State.bootParams
  extract_lets a1 a2 a3
  refine Keeps.step (s := a2.2) ?_ (fun ba2 => ?_); rotate_left; try clear_value a2
  refine Keeps.step (s := a3.2) ?_ (fun ba3 => ?_); rotate_left; try clear_value a3
  repeat' first | with_reducible assumption | (with_reducible apply Keeps.takeFree) | (with_reducible apply Keeps.updPwr) |
                  (with_reducible rfl) | (simp only [fixedSizes, length_upd, List.length_map, List.length_zipIdx]; first | done |
                  rfl) | split | (intro _ _ _) | (with_reducible refine Keeps.set (by with_reducible assumption) ?_ ?_) | unfold a1 |
                  unfold a2 | unfold a3 | dsimp only

theorem Keeps.bootArena {s₀ s : State} (h : Keeps s₀ s) :
    Keeps s₀ (s.bootArena) := by
  unfold State.bootArena
  extract_lets a1 a2
  repeat' first | with_reducible assumption | (with_reducible apply Keeps.setPars) | (with_reducible rfl) |
                  (simp only [fixedSizes, length_upd, List.length_map, List.length_zipIdx]; first | done | rfl) | split |
                  (intro _ _ _) | (with_reducible refine Keeps.set (by with_reducible assumption) ?_ ?_) | unfold a1 | unfold a2 |
                  dsimp only

theorem Keeps.bootDone {s₀ s : State} (h : Keeps s₀ s) : Keeps s₀ s.bootDone := by
  unfold State.bootDone
  split
  · exact h
  · rename_i slot fallback _
    split
    · exact h
    · extract_lets a1 a2 a3 a4 a5 a6 a7 a8 a9 a10 a11 a12 a13 a14 a15 a16 a17
      have b1 : Keeps s₀ a1 := h.updSec _
      have b2 : Keeps s₀ a2 := Keeps.ite b1.newSecrets b1
      have b6 : Keeps s₀ a6 := b2.bootParams.bootTrims.dirBoot.bootArena
      have b7 : Keeps s₀ a7 := b6.updPwr _
      have b8 : Keeps s₀ a8 := Keeps.foldl (fun s t hs => hs.lanesPowered t) _ _ b7
      have b9 : Keeps s₀ a9 := b8.recomputeSlot
      have b10 : Keeps s₀ a10 := Keeps.ite (b9.auditDevice _ _) b9
      have b11 : Keeps s₀ a11 := Keeps.ite (b10.raise _ _) b10
      have b12 : Keeps s₀ a12 := b11.updPwr _
      have b13 : Keeps s₀ a13 := Keeps.ite ((b12.auditDevice _ _).raise _ _) b12
      have b16 : Keeps s₀ a16 := Keeps.set b13 rfl rfl
      exact b16.testNext.raise _ _

/-! ### Machine/AskOps.lean -/

theorem Keeps.updAsk {s₀ s : State} (h : Keeps s₀ s) (f : AskSt → AskSt) :
    Keeps s₀ (s.updAsk f) := by
  unfold State.updAsk
  repeat' first | with_reducible assumption | (with_reducible rfl) |
                  (simp only [fixedSizes, length_upd, List.length_map, List.length_zipIdx]; first | done | rfl) | split |
                  (intro _ _ _) | (with_reducible refine Keeps.set (by with_reducible assumption) ?_ ?_) | dsimp only

theorem seamSegment_keeps {s₀ s t : State} {q : AskPay} (e : s.seamSegment = some (q, t)) (h : Keeps s₀ s) : Keeps s₀ t := by
  unfold State.seamSegment at e
  split at e
  · cases e
  · dsimp only at e
    split at e
    · cases e
      exact h.updAsk _
    · have h2 := h.updAsk (fun x => { x with seamSeg := 0 })
      generalize s.updAsk (fun x => { x with seamSeg := 0 }) = u at h2 e
      cases e
      refine Keeps.count ?_ _ _ _
      exact Keeps.set h2 rfl rfl

theorem Keeps.takeSample {s₀ s : State} (h : Keeps s₀ s) (pos : Nat) (stamp : Nat) :
    Keeps s₀ (s.takeSample pos stamp) := by
  unfold State.takeSample
  extract_lets a1 a2 a3
  repeat' first | with_reducible assumption | (with_reducible apply Keeps.updAsk) | (with_reducible rfl) |
                  (simp only [fixedSizes, length_upd, List.length_map, List.length_zipIdx]; first | done | rfl) | split |
                  (intro _ _ _) | (with_reducible refine Keeps.set (by with_reducible assumption) ?_ ?_) | unfold a1 | unfold a2 |
                  unfold a3 | dsimp only

theorem Keeps.ageSeams {s₀ s : State} (h : Keeps s₀ s) :
    Keeps s₀ (s.ageSeams) := by
  unfold State.ageSeams
  extract_lets a1 a2
  refine Keeps.step (s := a2) ?_ (fun ba2 => ?_); rotate_left; try clear_value a2
  repeat' first | with_reducible assumption | (with_reducible apply Keeps.count) | (with_reducible apply Keeps.updAsk) |
                  (with_reducible apply Keeps.foldl) | (with_reducible apply Keeps.foldlSnd) | (with_reducible rfl) |
                  (simp only [fixedSizes, length_upd, List.length_map, List.length_zipIdx]; first | done | rfl) | split |
                  (intro _ _ _) | (with_reducible refine Keeps.set (by with_reducible assumption) ?_ ?_) | unfold a1 | unfold a2 |
                  dsimp only

theorem Keeps.takeSegment {s₀ s : State} (h : Keeps s₀ s) (p : AskPay) :
    Keeps s₀ (s.takeSegment p) := by
  unfold State.takeSegment
  extract_lets a1 a2 a3
  repeat' first | with_reducible assumption | (with_reducible apply Keeps.updAsk) | (with_reducible rfl) |
                  (simp only [fixedSizes, length_upd, List.length_map, List.length_zipIdx]; first | done | rfl) | split |
                  (intro _ _ _) | (with_reducible refine Keeps.set (by with_reducible assumption) ?_ ?_) | unfold a1 | unfold a2 |
                  unfold a3 | dsimp only

theorem Keeps.frameIn {s₀ s : State} (h : Keeps s₀ s) (bs : List Byte) :
    Keeps s₀ (s.frameIn bs) := by
  unfold State.frameIn
  extract_lets a1 a2 a3 a4 a5 a6 a7 a8 a9 a10 a11 a12 a13 a14 a15
  refine Keeps.step (s := a5) ?_ (fun ba5 => ?_); rotate_left; try clear_value a5
  refine Keeps.step (s := a6) ?_ (fun ba6 => ?_); rotate_left; try clear_value a6
  refine Keeps.step (s := a7) ?_ (fun ba7 => ?_); rotate_left; try clear_value a7
  refine Keeps.step (s := a8) ?_ (fun ba8 => ?_); rotate_left; try clear_value a8
  refine Keeps.step (s := a10) ?_ (fun ba10 => ?_); rotate_left; try clear_value a10
  refine Keeps.step (s := a11) ?_ (fun ba11 => ?_); rotate_left; try clear_value a11
  refine Keeps.step (s := a12) ?_ (fun ba12 => ?_); rotate_left; try clear_value a12
  repeat' first | with_reducible assumption | (exact seamSegment_keeps (by assumption) (by with_reducible assumption)) |
                  (with_reducible apply Keeps.ageSeams) | (with_reducible apply Keeps.count) | (with_reducible apply Keeps.raise) |
                  (with_reducible apply Keeps.takeSample) | (with_reducible apply Keeps.takeSegment) |
                  (with_reducible apply Keeps.updAsk) | (with_reducible rfl) |
                  (simp only [fixedSizes, length_upd, List.length_map, List.length_zipIdx]; first | done | rfl) | split |
                  (intro _ _ _) | (with_reducible refine Keeps.set (by with_reducible assumption) ?_ ?_) | unfold a1 | unfold a2 |
                  unfold a3 | unfold a4 | unfold a5 | unfold a6 | unfold a7 | unfold a8 | unfold a9 | unfold a10 | unfold a11 |
                  unfold a12 | unfold a13 | unfold a14 | unfold a15 | dsimp only

theorem Keeps.sendRun {s₀ s : State} (h : Keeps s₀ s) :
    Keeps s₀ (s.sendRun) := by
  unfold State.sendRun
  repeat' first | with_reducible assumption | (with_reducible apply Keeps.askSend) | (with_reducible apply Keeps.updAsk) |
                  (with_reducible rfl) | (simp only [fixedSizes, length_upd, List.length_map, List.length_zipIdx]; first | done |
                  rfl) | split | (intro _ _ _) | (with_reducible refine Keeps.set (by with_reducible assumption) ?_ ?_) | dsimp only

theorem Keeps.frameOut {s₀ s : State} (h : Keeps s₀ s) :
    Keeps s₀ (s.frameOut) := by
  unfold State.frameOut
  extract_lets a1 a2 a3
  refine Keeps.step (s := a2) ?_ (fun ba2 => ?_); rotate_left; try clear_value a2
  first | (refine Keeps.step (s := a3) ?_ (fun ba3 => ?_); rotate_left; try clear_value a3) | (refine Keeps.step (s := a3.2) ?_ (fun ba3 => ?_); rotate_left; try clear_value a3) | skip
  repeat' first | with_reducible assumption | (exact seamSegment_keeps (by assumption) (by with_reducible assumption)) |
                  (with_reducible apply Keeps.sendRun) | (with_reducible apply Keeps.updAsk) | (with_reducible rfl) |
                  (simp only [fixedSizes, length_upd, List.length_map, List.length_zipIdx]; first | done | rfl) | split |
                  (intro _ _ _) | (with_reducible refine Keeps.set (by with_reducible assumption) ?_ ?_) | unfold a1 | unfold a2 |
                  unfold a3 | dsimp only

theorem Keeps.linkIn {s₀ s : State} (h : Keeps s₀ s) :
    Keeps s₀ (s.linkIn) := by
  unfold State.linkIn
  repeat' first | with_reducible assumption | (with_reducible apply Keeps.raise) | (with_reducible apply Keeps.updAsk) |
                  (with_reducible rfl) | (simp only [fixedSizes, length_upd, List.length_map, List.length_zipIdx]; first | done |
                  rfl) | split | (intro _ _ _) | (with_reducible refine Keeps.set (by with_reducible assumption) ?_ ?_) | dsimp only

theorem Keeps.linkOut {s₀ s : State} (h : Keeps s₀ s) :
    Keeps s₀ (s.linkOut) := by
  unfold State.linkOut
  extract_lets a1 a2 a3 a4
  refine Keeps.step (s := a1) ?_ (fun ba1 => ?_); rotate_left; try clear_value a1
  refine Keeps.step (s := a4) ?_ (fun ba4 => ?_); rotate_left; try clear_value a4
  repeat' first | with_reducible assumption | (with_reducible apply Keeps.raise) | (with_reducible apply Keeps.reportBlob) |
                  (with_reducible apply Keeps.updAsk) | (with_reducible apply Keeps.foldl) | (with_reducible apply Keeps.foldlSnd) |
                  (with_reducible rfl) | (simp only [fixedSizes, length_upd, List.length_map, List.length_zipIdx]; first | done |
                  rfl) | split | (intro _ _ _) | (with_reducible refine Keeps.set (by with_reducible assumption) ?_ ?_) | unfold a1 |
                  unfold a2 | unfold a3 | unfold a4 | dsimp only

theorem Keeps.timeMark {s₀ s : State} (h : Keeps s₀ s) :
    Keeps s₀ (s.timeMark) := by
  unfold State.timeMark
  repeat' first | with_reducible assumption | (with_reducible apply Keeps.askSend) | (with_reducible apply Keeps.holdover) |
                  (with_reducible apply Keeps.updAsk) | (with_reducible rfl) |
                  (simp only [fixedSizes, length_upd, List.length_map, List.length_zipIdx]; first | done | rfl) | split |
                  (intro _ _ _) | (with_reducible refine Keeps.set (by with_reducible assumption) ?_ ?_) | dsimp only

theorem Keeps.timeFrame {s₀ s : State} (h : Keeps s₀ s) (time : Nat) :
    Keeps s₀ (s.timeFrame time) := by
  unfold State.timeFrame
  repeat' first | with_reducible assumption | (with_reducible apply Keeps.mark) | (with_reducible apply Keeps.raise) |
                  (with_reducible apply Keeps.stepCount) | (with_reducible apply Keeps.updAsk) | (with_reducible apply Keeps.updTb) |
                  (with_reducible rfl) | (simp only [fixedSizes, length_upd, List.length_map, List.length_zipIdx]; first | done |
                  rfl) | split | (intro _ _ _) | (with_reducible refine Keeps.set (by with_reducible assumption) ?_ ?_) | dsimp only

theorem Keeps.runFrame {s₀ s : State} (h : Keeps s₀ s) (id : Nat) (g0 : Int) (pitch : Nat) :
    Keeps s₀ (s.runFrame id g0 pitch) := by
  unfold State.runFrame
  extract_lets a1 a2 a3 a4 a5 a6
  refine Keeps.step (s := a1) ?_ (fun ba1 => ?_); rotate_left; try clear_value a1
  refine Keeps.step (s := a4) ?_ (fun ba4 => ?_); rotate_left; try clear_value a4
  refine Keeps.step (s := a5) ?_ (fun ba5 => ?_); rotate_left; try clear_value a5
  repeat' first | with_reducible assumption | (with_reducible apply Keeps.setPars) | (with_reducible apply Keeps.updAsk) |
                  (with_reducible rfl) | (simp only [fixedSizes, length_upd, List.length_map, List.length_zipIdx]; first | done |
                  rfl) | split | (intro _ _ _) | (with_reducible refine Keeps.set (by with_reducible assumption) ?_ ?_) | unfold a1 |
                  unfold a2 | unfold a3 | unfold a4 | unfold a5 | unfold a6 | dsimp only

theorem Keeps.repeatFrame {s₀ s : State} (h : Keeps s₀ s) (k0 : Nat) (phi : Nat) (dist : Nat) :
    Keeps s₀ (s.repeatFrame k0 phi dist) := by
  unfold State.repeatFrame
  repeat' first | with_reducible assumption | (with_reducible apply Keeps.updTrack) | (with_reducible rfl) |
                  (simp only [fixedSizes, length_upd, List.length_map, List.length_zipIdx]; first | done | rfl) | split |
                  (intro _ _ _) | (with_reducible refine Keeps.set (by with_reducible assumption) ?_ ?_) | dsimp only

theorem Keeps.armFrame {s₀ s : State} (h : Keeps s₀ s) (job : Nat) (line : Nat) :
    Keeps s₀ (s.armFrame job line) := by
  unfold State.armFrame
  extract_lets a1
  repeat' first | with_reducible assumption | (with_reducible apply Keeps.raise) | (with_reducible apply Keeps.updAsk) |
                  (with_reducible rfl) | (simp only [fixedSizes, length_upd, List.length_map, List.length_zipIdx]; first | done |
                  rfl) | split | (intro _ _ _) | (with_reducible refine Keeps.set (by with_reducible assumption) ?_ ?_) | unfold a1 |
                  dsimp only

theorem Keeps.calFrame {s₀ s : State} (h : Keeps s₀ s) (ring : Nat) (align : Nat) :
    Keeps s₀ (s.calFrame ring align) := by
  unfold State.calFrame
  extract_lets a1
  repeat' first | with_reducible assumption | (with_reducible apply Keeps.raise) | (with_reducible apply Keeps.updAsk) |
                  (with_reducible rfl) | (simp only [fixedSizes, length_upd, List.length_map, List.length_zipIdx]; first | done |
                  rfl) | split | (intro _ _ _) | (with_reducible refine Keeps.set (by with_reducible assumption) ?_ ?_) | unfold a1 |
                  dsimp only

theorem Keeps.calBegin {s₀ s : State} (h : Keeps s₀ s) :
    Keeps s₀ (s.calBegin) := by
  unfold State.calBegin
  repeat' first | with_reducible assumption | (with_reducible apply Keeps.updAsk) | (with_reducible rfl) |
                  (simp only [fixedSizes, length_upd, List.length_map, List.length_zipIdx]; first | done | rfl) | split |
                  (intro _ _ _) | (with_reducible refine Keeps.set (by with_reducible assumption) ?_ ?_) | dsimp only

theorem Keeps.calPulse {s₀ s : State} (h : Keeps s₀ s) :
    Keeps s₀ (s.calPulse) := by
  unfold State.calPulse
  repeat' first | with_reducible assumption | (with_reducible apply Keeps.askSend) | (with_reducible apply Keeps.raise) |
                  (with_reducible apply Keeps.reply) | (with_reducible apply Keeps.updAsk) | (with_reducible apply Keeps.foldl) |
                  (with_reducible apply Keeps.foldlSnd) | (with_reducible rfl) |
                  (simp only [fixedSizes, length_upd, List.length_map, List.length_zipIdx]; first | done | rfl) | split |
                  (intro _ _ _) | (with_reducible refine Keeps.set (by with_reducible assumption) ?_ ?_) | dsimp only

theorem Keeps.masterLost {s₀ s : State} (h : Keeps s₀ s) :
    Keeps s₀ (s.masterLost) := by
  unfold State.masterLost
  repeat' first | with_reducible assumption | (with_reducible apply Keeps.raise) | (with_reducible apply Keeps.updAsk) |
                  (with_reducible rfl) | (simp only [fixedSizes, length_upd, List.length_map, List.length_zipIdx]; first | done |
                  rfl) | split | (intro _ _ _) | (with_reducible refine Keeps.set (by with_reducible assumption) ?_ ?_) | dsimp only

theorem Keeps.masterBack {s₀ s : State} (h : Keeps s₀ s) :
    Keeps s₀ (s.masterBack) := by
  unfold State.masterBack
  repeat' first | with_reducible assumption | (with_reducible apply Keeps.raise) | (with_reducible apply Keeps.updAsk) |
                  (with_reducible rfl) | (simp only [fixedSizes, length_upd, List.length_map, List.length_zipIdx]; first | done |
                  rfl) | split | (intro _ _ _) | (with_reducible refine Keeps.set (by with_reducible assumption) ?_ ?_) | dsimp only

theorem Keeps.gapEnds {s₀ s : State} (h : Keeps s₀ s) (k : Nat) :
    Keeps s₀ (s.gapEnds k) := by
  unfold State.gapEnds
  extract_lets a1
  refine Keeps.step (s := a1) ?_ (fun ba1 => ?_); rotate_left; try clear_value a1
  repeat' first | with_reducible assumption | (with_reducible apply Keeps.capture) | (with_reducible apply Keeps.count) |
                  (with_reducible apply Keeps.covLines) | (with_reducible apply Keeps.updAsk) | (with_reducible rfl) |
                  (simp only [fixedSizes, length_upd, List.length_map, List.length_zipIdx]; first | done | rfl) | split |
                  (intro _ _ _) | (with_reducible refine Keeps.set (by with_reducible assumption) ?_ ?_) | unfold a1 | dsimp only

theorem Keeps.gapSealed {s₀ s : State} (h : Keeps s₀ s) :
    Keeps s₀ (s.gapSealed) := by
  unfold State.gapSealed
  repeat' first | with_reducible assumption | (with_reducible apply Keeps.capture) | (with_reducible apply Keeps.covLines) |
                  (with_reducible apply Keeps.updAsk) | (with_reducible rfl) |
                  (simp only [fixedSizes, length_upd, List.length_map, List.length_zipIdx]; first | done | rfl) | split |
                  (intro _ _ _) | (with_reducible refine Keeps.set (by with_reducible assumption) ?_ ?_) | dsimp only

theorem Keeps.askSet {s₀ s : State} (h : Keeps s₀ s) :
    Keeps s₀ (s.askSet) := by
  unfold State.askSet
  extract_lets a1
  refine Keeps.step (s := a1) ?_ (fun ba1 => ?_); rotate_left; try clear_value a1
  repeat' first | with_reducible assumption | (with_reducible apply Keeps.reply) | (with_reducible apply Keeps.updAsk) |
                  (with_reducible rfl) | (simp only [fixedSizes, length_upd, List.length_map, List.length_zipIdx]; first | done |
                  rfl) | split | (intro _ _ _) | (with_reducible refine Keeps.set (by with_reducible assumption) ?_ ?_) | unfold a1 |
                  dsimp only

/-! ### Machine/HltOps.lean -/

theorem Keeps.updHlt {s₀ s : State} (h : Keeps s₀ s) (f : HltSt → HltSt) (e : (f s.hlt).faults = s.hlt.faults := by rfl)
    (z : fixedSizes (s.updHlt f) = fixedSizes s := by rfl) : Keeps s₀ (s.updHlt f) := Keeps.set h e z

theorem Keeps.updFaults {s₀ s : State} (h : Keeps s₀ s) (f : List FaultEnt → List FaultEnt)
    (e : faultQueueOk s.hlt.faults → faultQueueOk (f s.hlt.faults)) :
    Keeps s₀ (s.updHlt (fun x => { x with faults := f x.faults })) := h.setFaults e

theorem Keeps.safeRequest {s₀ s : State} (h : Keeps s₀ s) (cause : Nat) :
    Keeps s₀ (s.safeRequest cause) := by
  unfold State.safeRequest
  repeat' first | with_reducible assumption | (with_reducible apply Keeps.raise) | (with_reducible apply Keeps.safeEnter) |
                  (with_reducible rfl) | (simp only [fixedSizes, length_upd, List.length_map, List.length_zipIdx]; first | done |
                  rfl) | split | (intro _ _ _) | (with_reducible refine Keeps.set (by with_reducible assumption) ?_ ?_) | dsimp only

theorem Keeps.thermUp {s₀ s : State} (h : Keeps s₀ s) :
    Keeps s₀ (s.thermUp) := by
  unfold State.thermUp
  extract_lets a1 a2
  refine Keeps.step (s := a2) ?_ (fun ba2 => ?_); rotate_left; try clear_value a2
  repeat' first | with_reducible assumption | (with_reducible apply Keeps.count) | (with_reducible apply Keeps.raise) |
                  (with_reducible apply Keeps.slicesThermal) | (with_reducible apply Keeps.updHlt) | (with_reducible rfl) |
                  (simp only [fixedSizes, State.updHlt, length_upd, List.length_map, List.length_zipIdx]; first | done | rfl) | split |
                  (intro _ _ _) | (with_reducible refine Keeps.set (by with_reducible assumption) ?_ ?_) | unfold a1 | unfold a2 |
                  dsimp only

theorem Keeps.thermWatch {s₀ s : State} (h : Keeps s₀ s) :
    Keeps s₀ (s.thermWatch) := by
  unfold State.thermWatch
  repeat' first | with_reducible assumption | (with_reducible apply Keeps.updHlt) | (with_reducible rfl) |
                  (simp only [fixedSizes, State.updHlt, length_upd, List.length_map, List.length_zipIdx]; first | done | rfl) | split |
                  (intro _ _ _) | (with_reducible refine Keeps.set (by with_reducible assumption) ?_ ?_) | dsimp only

theorem Keeps.tempSample {s₀ s : State} (h : Keeps s₀ s) (temps : List Int) :
    Keeps s₀ (s.tempSample temps) := by
  unfold State.tempSample
  extract_lets a1 a2 a3 a4 a5 a6 a7 a8
  refine Keeps.step (s := a3) ?_ (fun ba3 => ?_); rotate_left; try clear_value a3
  refine Keeps.step (s := a4) ?_ (fun ba4 => ?_); rotate_left; try clear_value a4
  refine Keeps.step (s := a5) ?_ (fun ba5 => ?_); rotate_left; try clear_value a5
  refine Keeps.step (s := a8) ?_ (fun ba8 => ?_); rotate_left; try clear_value a8
  repeat' first | with_reducible assumption | (with_reducible apply Keeps.safeRequest) | (with_reducible apply Keeps.thermUp) |
                  (with_reducible apply Keeps.thermWatch) | (with_reducible apply Keeps.updHlt) |
                  (with_reducible apply Keeps.watchSafe) | (with_reducible apply Keeps.foldl) | (with_reducible apply Keeps.foldlSnd) |
                  (with_reducible rfl) |
                  (simp only [fixedSizes, State.updHlt, length_upd, List.length_map, List.length_zipIdx]; first | done | rfl) | split |
                  (intro _ _ _) | (with_reducible refine Keeps.set (by with_reducible assumption) ?_ ?_) | unfold a1 | unfold a2 |
                  unfold a3 | unfold a4 | unfold a5 | unfold a6 | unfold a7 | unfold a8 | dsimp only

theorem Keeps.thermDown {s₀ s : State} (h : Keeps s₀ s) :
    Keeps s₀ (s.thermDown) := by
  unfold State.thermDown
  extract_lets a1 a2 a3
  refine Keeps.step (s := a2) ?_ (fun ba2 => ?_); rotate_left; try clear_value a2
  refine Keeps.step (s := a3) ?_ (fun ba3 => ?_); rotate_left; try clear_value a3
  repeat' first | with_reducible assumption | (with_reducible apply Keeps.raise) | (with_reducible apply Keeps.slicesThermal) |
                  (with_reducible apply Keeps.thermWatch) | (with_reducible apply Keeps.updHlt) | (with_reducible rfl) |
                  (simp only [fixedSizes, State.updHlt, length_upd, List.length_map, List.length_zipIdx]; first | done | rfl) | split |
                  (intro _ _ _) | (with_reducible refine Keeps.set (by with_reducible assumption) ?_ ?_) | unfold a1 | unfold a2 |
                  unfold a3 | dsimp only

theorem Keeps.voltSample {s₀ s : State} (h : Keeps s₀ s) (m : Nat) (mv : Nat) :
    Keeps s₀ (s.voltSample m mv) := by
  unfold State.voltSample
  extract_lets a1 a2 a3 a4 a5 a6 a7
  refine Keeps.step (s := a5) ?_ (fun ba5 => ?_); rotate_left; try clear_value a5
  refine Keeps.step (s := a6) ?_ (fun ba6 => ?_); rotate_left; try clear_value a6
  refine Keeps.step (s := a7) ?_ (fun ba7 => ?_); rotate_left; try clear_value a7
  repeat' first | with_reducible assumption | (with_reducible apply Keeps.count) | (with_reducible apply Keeps.raise) |
                  (with_reducible apply Keeps.updHlt) | (with_reducible apply Keeps.watchSafe) | (with_reducible rfl) |
                  (simp only [fixedSizes, State.updHlt, length_upd, List.length_map, List.length_zipIdx]; first | done | rfl) | split |
                  (intro _ _ _) | (with_reducible refine Keeps.set (by with_reducible assumption) ?_ ?_) | unfold a1 | unfold a2 |
                  unfold a3 | unfold a4 | unfold a5 | unfold a6 | unfold a7 | dsimp only

theorem Keeps.voltPersist {s₀ s : State} (h : Keeps s₀ s) (m : Nat) :
    Keeps s₀ (s.voltPersist m) := by
  unfold State.voltPersist
  extract_lets a1 a2
  refine Keeps.step (s := a2) ?_ (fun ba2 => ?_); rotate_left; try clear_value a2
  repeat' first | with_reducible assumption | (with_reducible apply Keeps.raise) | (with_reducible apply Keeps.safeRequest) |
                  (with_reducible rfl) | (simp only [fixedSizes, length_upd, List.length_map, List.length_zipIdx]; first | done |
                  rfl) | split | (intro _ _ _) | (with_reducible refine Keeps.set (by with_reducible assumption) ?_ ?_) | unfold a1 |
                  unfold a2 | dsimp only

theorem Keeps.process {s₀ s : State} (h : Keeps s₀ s) (t : Nat) (dev : Int) :
    Keeps s₀ (s.process t dev) := by
  unfold State.process
  extract_lets a1
  refine Keeps.step (s := a1) ?_ (fun ba1 => ?_); rotate_left; try clear_value a1
  repeat' first | with_reducible assumption | (with_reducible apply Keeps.raise) | (with_reducible apply Keeps.updHlt) |
                  (with_reducible rfl) |
                  (simp only [fixedSizes, State.updHlt, length_upd, List.length_map, List.length_zipIdx]; first | done | rfl) | split |
                  (intro _ _ _) | (with_reducible refine Keeps.set (by with_reducible assumption) ?_ ?_) | unfold a1 | dsimp only

theorem Keeps.clockFault {s₀ s : State} (h : Keeps s₀ s) (c : Nat) :
    Keeps s₀ (s.clockFault c) := by
  unfold State.clockFault
  extract_lets a1 a2
  refine Keeps.step (s := a1) ?_ (fun ba1 => ?_); rotate_left; try clear_value a1
  refine Keeps.step (s := a2) ?_ (fun ba2 => ?_); rotate_left; try clear_value a2
  repeat' first | with_reducible assumption | (with_reducible apply Keeps.count) | (with_reducible apply Keeps.raise) |
                  (with_reducible apply Keeps.safeRequest) | (with_reducible apply Keeps.tdcAbort) |
                  (with_reducible apply Keeps.updHlt) | (with_reducible apply Keeps.foldl) | (with_reducible apply Keeps.foldlSnd) |
                  (with_reducible rfl) |
                  (simp only [fixedSizes, State.updHlt, length_upd, List.length_map, List.length_zipIdx]; first | done | rfl) | split |
                  (intro _ _ _) | (with_reducible refine Keeps.set (by with_reducible assumption) ?_ ?_) | unfold a1 | unfold a2 |
                  dsimp only

theorem Keeps.clockBack {s₀ s : State} (h : Keeps s₀ s) (c : Nat) :
    Keeps s₀ (s.clockBack c) := by
  unfold State.clockBack
  repeat' first | with_reducible assumption | (with_reducible apply Keeps.updHlt) | (with_reducible rfl) |
                  (simp only [fixedSizes, State.updHlt, length_upd, List.length_map, List.length_zipIdx]; first | done | rfl) | split |
                  (intro _ _ _) | (with_reducible refine Keeps.set (by with_reducible assumption) ?_ ?_) | dsimp only

theorem Keeps.spillBad {s₀ s : State} (h : Keeps s₀ s) :
    Keeps s₀ (s.spillBad) := by
  unfold State.spillBad
  extract_lets a1
  repeat' first | with_reducible assumption | (with_reducible apply Keeps.count) | (with_reducible apply Keeps.countDrop) |
                  (with_reducible apply Keeps.footprints) | (with_reducible apply Keeps.raise) | (with_reducible rfl) |
                  (simp only [fixedSizes, length_upd, List.length_map, List.length_zipIdx]; first | done | rfl) | split |
                  (intro _ _ _) | (with_reducible refine Keeps.set (by with_reducible assumption) ?_ ?_) | unfold a1 | dsimp only

theorem Keeps.dramError {s₀ s : State} (h : Keeps s₀ s) (a : Nat) (correctable : Bool) : Keeps s₀ (s.dramError a correctable) := by
  unfold State.dramError
  extract_lets f b c d w w2 g e i k
  have hb : Keeps s₀ b := h.takeFree
  have hd : Keeps s₀ d := hb.count _ _ _
  have he : Keeps s₀ e := by
    refine hd.updHlt _ rfl ?_
    simp only [fixedSizes, State.updHlt, length_upd]
  have hk : Keeps s₀ k := (hb.count _ _ _).raise _ _
  clear_value k e
  by_cases hc : correctable = true
  · rw [if_pos hc]
    exact Keeps.ite (he.raise _ _) he
  · rw [if_neg hc]
    clear_value i
    rcases i with _ | _ | _ | _ | _ | n
    · exact hk.updCmp _
    · exact hk.dramWrite _ _
    · exact hk.spillBad
    · exact Keeps.set hk rfl rfl
    · generalize k.histOwner a = o
      cases o with
      | none => exact hk
      | some x => exact Keeps.ite hk (hk.histHole _)
    · exact hk

theorem Keeps.dropSubLine {s₀ s : State} (h : Keeps s₀ s) (l : Nat) :
    Keeps s₀ (s.dropSubLine l) := by
  unfold State.dropSubLine
  extract_lets a1 a2
  repeat' first | with_reducible assumption | (with_reducible rfl) |
                  (simp only [fixedSizes, length_upd, List.length_map, List.length_zipIdx]; first | done | rfl) | split |
                  (intro _ _ _) | (with_reducible refine Keeps.set (by with_reducible assumption) ?_ ?_) | unfold a1 | unfold a2 |
                  dsimp only

theorem Keeps.dropCompare {s₀ s : State} (h : Keeps s₀ s) (slice : Nat) :
    Keeps s₀ (s.dropCompare slice) := by
  unfold State.dropCompare
  extract_lets a1 a2
  repeat' first | with_reducible assumption | (with_reducible apply Keeps.notCompared) | (with_reducible rfl) |
                  (simp only [fixedSizes, length_upd, List.length_map, List.length_zipIdx]; first | done | rfl) | split |
                  (intro _ _ _) | (with_reducible refine Keeps.set (by with_reducible assumption) ?_ ?_) | unfold a1 | unfold a2 |
                  dsimp only

theorem Keeps.rejectShadow {s₀ s : State} (h : Keeps s₀ s) (cid : Nat) :
    Keeps s₀ (s.rejectShadow cid) := by
  unfold State.rejectShadow
  extract_lets a1
  repeat' first | with_reducible assumption | (with_reducible apply Keeps.reply) | (with_reducible rfl) |
                  (simp only [fixedSizes, length_upd, List.length_map, List.length_zipIdx]; first | done | rfl) | split |
                  (intro _ _ _) | (with_reducible refine Keeps.set (by with_reducible assumption) ?_ ?_) | unfold a1 | dsimp only

theorem Keeps.corrupt {s₀ s : State} (h : Keeps s₀ s) (m : Nat) (item : Nat) :
    Keeps s₀ (s.corrupt m item) := by
  unfold State.corrupt
  extract_lets a1
  refine Keeps.step (s := a1.2) ?_ (fun ba1 => ?_); rotate_left; try clear_value a1
  repeat' first | with_reducible assumption | (with_reducible apply Keeps.act) | (with_reducible apply Keeps.secError) |
                  (with_reducible apply Keeps.takeFree) | (with_reducible apply Keeps.updBar) | (with_reducible apply Keeps.updCmp) |
                  (with_reducible apply Keeps.updQueue) | (with_reducible apply Keeps.updTile) | (with_reducible rfl) |
                  (simp only [fixedSizes, length_upd, List.length_map, List.length_zipIdx]; first | done | rfl) | split |
                  (intro _ _ _) | (with_reducible refine Keeps.set (by with_reducible assumption) ?_ ?_) | unfold a1 | dsimp only

theorem Keeps.sramError {s₀ s : State} (h : Keeps s₀ s) (m : Nat) (item : Nat) (kind : EccKind) :
    Keeps s₀ (s.sramError m item kind) := by
  unfold State.sramError
  extract_lets a1 a2
  refine Keeps.step (s := a1) ?_ (fun ba1 => ?_); rotate_left; try clear_value a1
  refine Keeps.step (s := a2) ?_ (fun ba2 => ?_); rotate_left; try clear_value a2
  repeat' first | with_reducible assumption | (with_reducible apply Keeps.checkQueue) | (with_reducible apply Keeps.corrupt) |
                  (with_reducible apply Keeps.count) | (with_reducible apply Keeps.dropCompare) |
                  (with_reducible apply Keeps.dropSubLine) | (with_reducible apply Keeps.dropUpload) |
                  (with_reducible apply Keeps.raise) | (with_reducible apply Keeps.rejectShadow) |
                  (with_reducible apply Keeps.secError) | (with_reducible apply Keeps.updCmp) | (with_reducible apply Keeps.updQueue) |
                  (with_reducible apply Keeps.updTile) | (with_reducible rfl) |
                  (simp only [fixedSizes, length_upd, List.length_map, List.length_zipIdx]; first | done | rfl) | split |
                  (intro _ _ _) | (with_reducible refine Keeps.set (by with_reducible assumption) ?_ ?_) | unfold a1 | unfold a2 |
                  dsimp only

theorem Keeps.handleFault {s₀ s : State} (h : Keeps s₀ s) : Keeps s₀ s.handleFault := by
  unfold State.handleFault
  split
  · exact h
  · rename_i g _
    refine h.updFaults (fun l => if 2 ≤ g.cls then l.map (fun (x : FaultEnt) => if x.slot = g.slot then { x with st := .awaitAck } else x)
        else l.filter (fun x => x.slot != g.slot)) (fun w => ?_)
    split
    · exact faultQueueOk_map (fun x => by split <;> rfl) (fun x => by split <;> rfl) (fun x => by split <;> rfl) w
    · exact faultQueueOk_filter _ w

theorem Keeps.ackFaults {s₀ s : State} (h : Keeps s₀ s) (mask : Nat) : Keeps s₀ (s.ackFaults mask).2 :=
  h.updFaults (fun l => l.filter _) (faultQueueOk_filter _)

theorem Keeps.trimCommit {s₀ s : State} (h : Keeps s₀ s) :
    Keeps s₀ (s.trimCommit).2 := by
  unfold State.trimCommit
  extract_lets a1
  repeat' first | with_reducible assumption | (with_reducible apply Keeps.raise) | (with_reducible apply Keeps.setTrim) |
                  (with_reducible apply Keeps.unseed) | (with_reducible apply Keeps.updHlt) | (with_reducible apply Keeps.foldl) |
                  (with_reducible apply Keeps.foldlSnd) | (with_reducible rfl) |
                  (simp only [fixedSizes, State.updHlt, length_upd, List.length_map, List.length_zipIdx]; first | done | rfl) | split |
                  (intro _ _ _) | (with_reducible refine Keeps.set (by with_reducible assumption) ?_ ?_) | unfold a1 | dsimp only

theorem Keeps.trimStore {s₀ s : State} (h : Keeps s₀ s) :
    Keeps s₀ (s.trimStore) := by
  unfold State.trimStore
  extract_lets a1 a2 a3 a4
  repeat' first | with_reducible assumption | (with_reducible rfl) |
                  (simp only [fixedSizes, length_upd, List.length_map, List.length_zipIdx]; first | done | rfl) | split |
                  (intro _ _ _) | (with_reducible refine Keeps.set (by with_reducible assumption) ?_ ?_) |
                  (with_reducible refine Keeps.setFlash (by with_reducible assumption) (Sparse.write_wf _ _ _)) | unfold a1 |
                  unfold a2 | unfold a3 | unfold a4 | dsimp only

end Sys2Proof.Machine
end

