-- ==== Sys2Proof/Laws/KeepsCommit.lean ====
section
/-! SUPPORT. What every operation keeps: the commit machinery, the tick and the host interface. One lemma an operation. -/

set_option Elab.async false
set_option linter.all false
set_option linter.tactic.unusedName false

namespace Sys2Proof.Machine

/-! ### Machine/Acts.lean -/

theorem Keeps.ok {s₀ s : State} (h : Keeps s₀ s) :
    Keeps s₀ (ActRes.ok s).s := by
  unfold ActRes.ok
  repeat' first | with_reducible assumption | (with_reducible rfl) |
                  (simp only [fixedSizes, length_upd, List.length_map, List.length_zipIdx]; first | done | rfl) | split |
                  (intro _ _ _) | (with_reducible refine Keeps.set (by with_reducible assumption) ?_ ?_) | dsimp only

theorem Keeps.give {s₀ s : State} (h : Keeps s₀ s) (ws : List Word) :
    Keeps s₀ (ActRes.give s ws).s := by
  unfold ActRes.give
  repeat' first | with_reducible assumption | (with_reducible rfl) |
                  (simp only [fixedSizes, length_upd, List.length_map, List.length_zipIdx]; first | done | rfl) | split |
                  (intro _ _ _) | (with_reducible refine Keeps.set (by with_reducible assumption) ?_ ?_) | dsimp only

theorem Keeps.fail {s₀ s : State} (h : Keeps s₀ s) (status : Nat) (detail : Nat) :
    Keeps s₀ (ActRes.fail s status detail).s := by
  unfold ActRes.fail
  repeat' first | with_reducible assumption | (with_reducible rfl) |
                  (simp only [fixedSizes, length_upd, List.length_map, List.length_zipIdx]; first | done | rfl) | split |
                  (intro _ _ _) | (with_reducible refine Keeps.set (by with_reducible assumption) ?_ ?_) | dsimp only

theorem Keeps.hold {s₀ s : State} (h : Keeps s₀ s) :
    Keeps s₀ (ActRes.hold s).s := by
  unfold ActRes.hold
  repeat' first | with_reducible assumption | (with_reducible rfl) |
                  (simp only [fixedSizes, length_upd, List.length_map, List.length_zipIdx]; first | done | rfl) | split |
                  (intro _ _ _) | (with_reducible refine Keeps.set (by with_reducible assumption) ?_ ?_) | dsimp only

theorem Keeps.forceSpare {s₀ s : State} (h : Keeps s₀ s) (l : Nat) (on : Bool) :
    Keeps s₀ (s.forceSpare l on) := by
  unfold State.forceSpare
  extract_lets a1 a2 a3 a4 a5 a6 a7
  refine Keeps.step (s := a4) ?_ (fun ba4 => ?_); rotate_left; try clear_value a4
  refine Keeps.step (s := a5) ?_ (fun ba5 => ?_); rotate_left; try clear_value a5
  refine Keeps.step (s := a6) ?_ (fun ba6 => ?_); rotate_left; try clear_value a6
  refine Keeps.step (s := a7) ?_ (fun ba7 => ?_); rotate_left; try clear_value a7
  repeat' first | with_reducible assumption | (with_reducible apply Keeps.unseed) | (with_reducible apply Keeps.updLane) |
                  (with_reducible apply Keeps.updSpare) | (with_reducible rfl) |
                  (simp only [fixedSizes, length_upd, List.length_map, List.length_zipIdx]; first | done | rfl) | split |
                  (intro _ _ _) | (with_reducible refine Keeps.set (by with_reducible assumption) ?_ ?_) | unfold a1 | unfold a2 |
                  unfold a3 | unfold a4 | unfold a5 | unfold a6 | unfold a7 | dsimp only

theorem Keeps.actSwap {s₀ s : State} (h : Keeps s₀ s) (tiles : Nat) :
    Keeps s₀ (s.actSwap tiles).s := by
  unfold State.actSwap
  extract_lets a1 a2
  refine Keeps.step (s := a2) ?_ (fun ba2 => ?_); rotate_left; try clear_value a2
  repeat' first | with_reducible assumption | (with_reducible apply Keeps.act) | (with_reducible apply Keeps.fail) |
                  (with_reducible apply Keeps.give) | (with_reducible apply Keeps.swapTile) | (with_reducible apply Keeps.foldl) |
                  (with_reducible apply Keeps.foldlSnd) | (with_reducible rfl) |
                  (simp only [fixedSizes, length_upd, List.length_map, List.length_zipIdx]; first | done | rfl) | split |
                  (intro _ _ _) | (with_reducible refine Keeps.set (by with_reducible assumption) ?_ ?_) | unfold a1 | unfold a2 |
                  dsimp only

theorem Keeps.actApply {s₀ s : State} (h : Keeps s₀ s) (cid : Nat) (line : Nat) (flags : Nat) (bars : Nat) :
    Keeps s₀ (s.actApply cid line flags bars).s := by
  unfold State.actApply
  extract_lets a1 a2 a3 a4 a5 a6 a7
  refine Keeps.step (s := a4) ?_ (fun ba4 => ?_); rotate_left; try clear_value a4
  refine Keeps.step (s := a6) ?_ (fun ba6 => ?_); rotate_left; try clear_value a6
  repeat' first | with_reducible assumption | (with_reducible apply Keeps.give) | (with_reducible apply Keeps.hold) |
                  (with_reducible apply Keeps.startUpload) | (with_reducible apply Keeps.syncSelect) |
                  (with_reducible apply Keeps.foldl) | (with_reducible apply Keeps.foldlSnd) | (with_reducible rfl) |
                  (simp only [fixedSizes, length_upd, List.length_map, List.length_zipIdx]; first | done | rfl) | split |
                  (intro _ _ _) | (with_reducible refine Keeps.set (by with_reducible assumption) ?_ ?_) | unfold a1 | unfold a2 |
                  unfold a3 | unfold a4 | unfold a5 | unfold a6 | unfold a7 | dsimp only

theorem Keeps.actBar {s₀ s : State} (h : Keeps s₀ s) (cid : Nat) (line : Nat) (flags : Nat) (b : Nat) (writes : List ParWrite) (changed : Bool) :
    Keeps s₀ (s.actBar cid line flags b writes changed).s := by
  unfold State.actBar
  extract_lets a1
  refine Keeps.step (s := a1) ?_ (fun ba1 => ?_); rotate_left; try clear_value a1
  repeat' first | with_reducible assumption | (with_reducible apply Keeps.barMode) | (with_reducible apply Keeps.give) |
                  (with_reducible apply Keeps.hold) | (with_reducible apply Keeps.updBar) | (with_reducible rfl) |
                  (simp only [fixedSizes, length_upd, List.length_map, List.length_zipIdx]; first | done | rfl) | split |
                  (intro _ _ _) | (with_reducible refine Keeps.set (by with_reducible assumption) ?_ ?_) | unfold a1 | dsimp only

theorem Keeps.actDiag {s₀ s : State} (h : Keeps s₀ s) (cid : Nat) (line : Nat) (flags : Nat) (b : Nat) (what : Nat) :
    Keeps s₀ (s.actDiag cid line flags b what).s := by
  unfold State.actDiag
  extract_lets a1
  refine Keeps.step (s := a1) ?_ (fun ba1 => ?_); rotate_left; try clear_value a1
  repeat' first | with_reducible assumption | (with_reducible apply Keeps.hold) | (with_reducible apply Keeps.updBar) |
                  (with_reducible rfl) | (simp only [fixedSizes, length_upd, List.length_map, List.length_zipIdx]; first | done |
                  rfl) | split | (intro _ _ _) | (with_reducible refine Keeps.set (by with_reducible assumption) ?_ ?_) | unfold a1 |
                  dsimp only

theorem Keeps.actClear {s₀ s : State} (h : Keeps s₀ s) (b : Nat) (chips : Nat) :
    Keeps s₀ (s.actClear b chips) := by
  unfold State.actClear
  extract_lets a1 a2 a3
  repeat' first | with_reducible assumption | (with_reducible apply Keeps.updBar) | (with_reducible apply Keeps.foldl) |
                  (with_reducible apply Keeps.foldlSnd) | (with_reducible rfl) |
                  (simp only [fixedSizes, length_upd, List.length_map, List.length_zipIdx]; first | done | rfl) | split |
                  (intro _ _ _) | (with_reducible refine Keeps.set (by with_reducible assumption) ?_ ?_) | unfold a1 | unfold a2 |
                  unfold a3 | dsimp only

theorem Keeps.openRun {s₀ s : State} (h : Keeps s₀ s) (id : Nat) :
    Keeps s₀ (s.openRun id) := by
  unfold State.openRun
  extract_lets a1 a2 a3 a4 a5 a6 a7 a8
  refine Keeps.step (s := a1) ?_ (fun ba1 => ?_); rotate_left; try clear_value a1
  refine Keeps.step (s := a3) ?_ (fun ba3 => ?_); rotate_left; try clear_value a3
  refine Keeps.step (s := a4) ?_ (fun ba4 => ?_); rotate_left; try clear_value a4
  refine Keeps.step (s := a5) ?_ (fun ba5 => ?_); rotate_left; try clear_value a5
  refine Keeps.step (s := a6) ?_ (fun ba6 => ?_); rotate_left; try clear_value a6
  refine Keeps.step (s := a7) ?_ (fun ba7 => ?_); rotate_left; try clear_value a7
  refine Keeps.step (s := a8) ?_ (fun ba8 => ?_); rotate_left; try clear_value a8
  repeat' first | with_reducible assumption | (with_reducible apply Keeps.capOpen) | (with_reducible apply Keeps.episodeRun) |
                  (with_reducible apply Keeps.mirrorTo) | (with_reducible apply Keeps.repeatsOpen) |
                  (with_reducible apply Keeps.runKeys) | (with_reducible apply Keeps.sendRepeat) |
                  (with_reducible apply Keeps.sendRun) | (with_reducible apply Keeps.streamsTo) | (with_reducible apply Keeps.updAsk) |
                  (with_reducible apply Keeps.updPwr) | (with_reducible apply Keeps.updSec) | (with_reducible rfl) |
                  (simp only [fixedSizes, State.updSec, length_upd, List.length_map, List.length_zipIdx]; first | done | rfl) | split |
                  (intro _ _ _) | (with_reducible refine Keeps.set (by with_reducible assumption) ?_ ?_) | unfold a1 | unfold a2 |
                  unfold a3 | unfold a4 | unfold a5 | unfold a6 | unfold a7 | unfold a8 | dsimp only

theorem Keeps.cutArm {s₀ s : State} (h : Keeps s₀ s) :
    Keeps s₀ (s.cutArm) := by
  unfold State.cutArm
  extract_lets a1
  repeat' first | with_reducible assumption | (with_reducible apply Keeps.dropUpload) | (with_reducible apply Keeps.foldl) |
                  (with_reducible apply Keeps.foldlSnd) | (with_reducible rfl) |
                  (simp only [fixedSizes, length_upd, List.length_map, List.length_zipIdx]; first | done | rfl) | split |
                  (intro _ _ _) | (with_reducible refine Keeps.set (by with_reducible assumption) ?_ ?_) | unfold a1 | dsimp only

theorem Keeps.disarm {s₀ s : State} (h : Keeps s₀ s) :
    Keeps s₀ (s.disarm) := by
  unfold State.disarm
  repeat' first | with_reducible assumption | (with_reducible apply Keeps.cutArm) | (with_reducible apply Keeps.reply) |
                  (with_reducible rfl) | (simp only [fixedSizes, length_upd, List.length_map, List.length_zipIdx]; first | done |
                  rfl) | split | (intro _ _ _) | (with_reducible refine Keeps.set (by with_reducible assumption) ?_ ?_) | dsimp only

theorem Keeps.closeRun {s₀ s : State} (h : Keeps s₀ s) (cid : Nat) (line : Nat) (flags : Nat) :
    Keeps s₀ (s.closeRun cid line flags) := by
  unfold State.closeRun
  extract_lets a1 a2 a3 a4
  refine Keeps.step (s := a1) ?_ (fun ba1 => ?_); rotate_left; try clear_value a1
  repeat' first | with_reducible assumption | (with_reducible apply Keeps.disarm) | (with_reducible rfl) |
                  (simp only [fixedSizes, length_upd, List.length_map, List.length_zipIdx]; first | done | rfl) | split |
                  (intro _ _ _) | (with_reducible refine Keeps.set (by with_reducible assumption) ?_ ?_) | unfold a1 | unfold a2 |
                  unfold a3 | unfold a4 | dsimp only

theorem Keeps.partMove {s₀ s : State} (h : Keeps s₀ s) (a : Nat) :
    Keeps s₀ (s.partMove a) := by
  unfold State.partMove
  extract_lets a1 a2 a3
  refine Keeps.step (s := a3) ?_ (fun ba3 => ?_); rotate_left; try clear_value a3
  repeat' first | with_reducible assumption | (with_reducible apply Keeps.unpark) | (with_reducible apply Keeps.updAxis) |
                  (with_reducible apply Keeps.foldl) | (with_reducible apply Keeps.foldlSnd) | (with_reducible rfl) |
                  (simp only [fixedSizes, length_upd, List.length_map, List.length_zipIdx]; first | done | rfl) | split |
                  (intro _ _ _) | (with_reducible refine Keeps.set (by with_reducible assumption) ?_ ?_) | unfold a1 | unfold a2 |
                  unfold a3 | dsimp only

theorem Keeps.actMove {s₀ s : State} (h : Keeps s₀ s) (axes targets : List Nat) (relative : Bool) :
    Keeps s₀ (s.actMove axes targets relative).s := by
  unfold State.actMove
  extract_lets bad
  clear_value bad
  by_cases hb : bad ≠ 0
  · rw [if_pos hb]
    exact h
  · rw [if_neg hb]
    rcases axes with _ | ⟨a, _ | ⟨b, l⟩⟩
    · exact h
    · have k := (h.partMove a).moveTo a (s.moveGoal a (targets.getD a 0) relative)
      dsimp -zeta only
      extract_lets p r
      change Keeps s₀ r.2 at k
      clear_value r
      obtain ⟨o, u⟩ := r
      cases o <;> exact k
    · exact h.interpolate _

theorem Keeps.actGear {s₀ s : State} (h : Keeps s₀ s) (a : Nat) (enc : Nat) (op : Nat) (q : Nat) (ratio : Nat) (ramp : Nat) :
    Keeps s₀ (s.actGear a enc op q ratio ramp) := by
  unfold State.actGear
  extract_lets a1
  repeat' first | with_reducible assumption | (with_reducible apply Keeps.stopAxis) | (with_reducible apply Keeps.updAxis) |
                  (with_reducible rfl) | (simp only [fixedSizes, length_upd, List.length_map, List.length_zipIdx]; first | done |
                  rfl) | split | (intro _ _ _) | (with_reducible refine Keeps.set (by with_reducible assumption) ?_ ?_) | unfold a1 |
                  dsimp only

theorem Keeps.actHome {s₀ s : State} (h : Keeps s₀ s) (a : Nat) (negative : Bool) (ws : List Nat) :
    Keeps s₀ (s.actHome a negative ws) := by
  unfold State.actHome
  extract_lets a1 a2 a3 a4 a5
  refine Keeps.step (s := a1) ?_ (fun ba1 => ?_); rotate_left; try clear_value a1
  refine Keeps.step (s := a5) ?_ (fun ba5 => ?_); rotate_left; try clear_value a5
  repeat' first | with_reducible assumption | (with_reducible apply Keeps.motionStart) | (with_reducible apply Keeps.partMove) |
                  (with_reducible apply Keeps.updAxis) | (with_reducible rfl) |
                  (simp only [fixedSizes, length_upd, List.length_map, List.length_zipIdx]; first | done | rfl) | split |
                  (intro _ _ _) | (with_reducible refine Keeps.set (by with_reducible assumption) ?_ ?_) | unfold a1 | unfold a2 |
                  unfold a3 | unfold a4 | unfold a5 | dsimp only

theorem Keeps.actAck {s₀ s : State} (h : Keeps s₀ s) (mask : Nat) :
    Keeps s₀ (s.actAck mask) := by
  unfold State.actAck
  repeat' first | with_reducible assumption | (with_reducible apply Keeps.coilsFollow) | (with_reducible apply Keeps.limitClear) |
                  (with_reducible apply Keeps.updAxis) | (with_reducible apply Keeps.foldl) | (with_reducible apply Keeps.foldlSnd) |
                  (with_reducible rfl) | (simp only [fixedSizes, length_upd, List.length_map, List.length_zipIdx]; first | done |
                  rfl) | split | (intro _ _ _) | (with_reducible refine Keeps.set (by with_reducible assumption) ?_ ?_) | dsimp only

theorem Keeps.actPosSet {s₀ s : State} (h : Keeps s₀ s) (a : Nat) (v : Nat) :
    Keeps s₀ (s.actPosSet a v) := by
  unfold State.actPosSet
  repeat' first | with_reducible assumption | (with_reducible apply Keeps.coilsFollow) | (with_reducible apply Keeps.updAxis) |
                  (with_reducible rfl) | (simp only [fixedSizes, length_upd, List.length_map, List.length_zipIdx]; first | done |
                  rfl) | split | (intro _ _ _) | (with_reducible refine Keeps.set (by with_reducible assumption) ?_ ?_) | dsimp only

theorem Keeps.loadReply {s₀ s : State} (h : Keeps s₀ s) (l : TimeLoad) :
    Keeps s₀ (s.loadReply l) := by
  unfold State.loadReply
  repeat' first | with_reducible assumption | (with_reducible apply Keeps.replyAt) | (with_reducible rfl) |
                  (simp only [fixedSizes, length_upd, List.length_map, List.length_zipIdx]; first | done | rfl) | split |
                  (intro _ _ _) | (with_reducible refine Keeps.set (by with_reducible assumption) ?_ ?_) | dsimp only

theorem Keeps.actTime {s₀ s : State} (h : Keeps s₀ s) (cid line flags secs : Nat) : Keeps s₀ (s.actTime cid line flags secs) := by
  unfold State.actTime
  extract_lets a b c d
  have hd : Keeps s₀ d := Keeps.set h.rebase rfl rfl
  clear_value d
  by_cases m : d.ppsMode ≠ 0
  · rw [if_pos m]
    exact hd
  · rw [if_neg m]
    have k := hd.performLoad d.glint
    split
    · next e =>
      rw [e] at k
      exact k.loadReply _
    · next e =>
      rw [e] at k
      exact k

theorem Keeps.actArm {s₀ s : State} (h : Keeps s₀ s) (arm : Nat) (disarm : Nat) :
    Keeps s₀ (s.actArm arm disarm) := by
  unfold State.actArm
  extract_lets a1
  refine Keeps.step (s := a1) ?_ (fun ba1 => ?_); rotate_left; try clear_value a1
  repeat' first | with_reducible assumption | (with_reducible apply Keeps.tdcAbort) | (with_reducible apply Keeps.updChan) |
                  (with_reducible apply Keeps.foldl) | (with_reducible apply Keeps.foldlSnd) | (with_reducible rfl) |
                  (simp only [fixedSizes, length_upd, List.length_map, List.length_zipIdx]; first | done | rfl) | split |
                  (intro _ _ _) | (with_reducible refine Keeps.set (by with_reducible assumption) ?_ ?_) | unfold a1 | dsimp only

theorem Keeps.motion {s₀ s t : State} (h : Keeps s₀ s) (fails busy : Bool) (k : Keeps s₀ t) : Keeps s₀ (ActRes.motion s fails busy t).s := by
  unfold ActRes.motion
  split
  · exact h
  · split
    · exact h
    · exact k

theorem Keeps.act {s₀ s : State} (h : Keeps s₀ s) (cid : Nat) (line : Nat) (flags : Nat) (a : Act) :
    Keeps s₀ (s.act cid line flags a).s := by
  unfold State.act
  extract_lets a1 a2 a3
  refine Keeps.step (s := a2.2) ?_ (fun ba2 => ?_); rotate_left; try clear_value a2
  repeat' first | with_reducible assumption | (with_reducible apply Keeps.actAck) | (with_reducible apply Keeps.actApply) |
                  (with_reducible apply Keeps.actArm) | (with_reducible apply Keeps.actBar) | (with_reducible apply Keeps.actClear) |
                  (with_reducible apply Keeps.actDiag) | (with_reducible apply Keeps.actGear) | (with_reducible apply Keeps.actHome) |
                  (with_reducible apply Keeps.actMove) | (with_reducible apply Keeps.actPosSet) |
                  (with_reducible apply Keeps.actSwap) | (with_reducible apply Keeps.actTime) | (with_reducible apply Keeps.askSet) |
                  (with_reducible apply Keeps.barMode) | (with_reducible apply Keeps.calBegin) |
                  (with_reducible apply Keeps.closeRun) | (with_reducible apply Keeps.domainSet) | (with_reducible apply Keeps.fail) |
                  (with_reducible apply Keeps.forceSpare) | (with_reducible apply Keeps.give) | (with_reducible apply Keeps.hold) |
                  (with_reducible apply Keeps.jogAt) | (with_reducible apply Keeps.motion) | (with_reducible apply Keeps.ok) |
                  (with_reducible apply Keeps.openRun) | (with_reducible apply Keeps.partMove) | (with_reducible apply Keeps.raise) |
                  (with_reducible apply Keeps.stopAxis) | (with_reducible apply Keeps.trimCommit) |
                  (with_reducible apply Keeps.updAuxCh) | (with_reducible apply Keeps.foldl) | (with_reducible apply Keeps.foldlSnd) |
                  (with_reducible rfl) |
                  (simp only [fixedSizes, State.updAux, length_upd, List.length_map, List.length_zipIdx]; first | done | rfl) | split |
                  (intro _ _ _) | (with_reducible refine Keeps.set (by with_reducible assumption) ?_ ?_) | unfold a1 | unfold a2 |
                  unfold a3 | dsimp only

/-! ### Machine/Commit.lean -/

theorem Keeps.imgAdd {s₀ s : State} (h : Keeps s₀ s) (line : Nat) (ws : List ParWrite) (acts : List ImgAct) :
    Keeps s₀ (s.imgAdd line ws acts) := by
  unfold State.imgAdd
  repeat' first | with_reducible assumption | (with_reducible rfl) |
                  (simp only [fixedSizes, length_upd, List.length_map, List.length_zipIdx]; first | done | rfl) | split |
                  (intro _ _ _) | (with_reducible refine Keeps.set (by with_reducible assumption) ?_ ?_) | dsimp only

theorem Keeps.arenaMoved {s₀ s : State} (h : Keeps s₀ s) (old : State) :
    Keeps s₀ (s.arenaMoved old) := by
  unfold State.arenaMoved
  extract_lets a1 a2 a3 a4 a5 a6 a7 a8
  refine Keeps.step (s := a3) ?_ (fun ba3 => ?_); rotate_left; try clear_value a3
  refine Keeps.step (s := a4) ?_ (fun ba4 => ?_); rotate_left; try clear_value a4
  refine Keeps.step (s := a7) ?_ (fun ba7 => ?_); rotate_left; try clear_value a7
  repeat' first | with_reducible assumption | (with_reducible apply Keeps.updCmp) | (with_reducible rfl) |
                  (simp only [fixedSizes, length_upd, List.length_map, List.length_zipIdx]; first | done | rfl) | split |
                  (intro _ _ _) | (with_reducible refine Keeps.set (by with_reducible assumption) ?_ ?_) |
                  (with_reducible refine Keeps.setFlash (by with_reducible assumption) (Sparse.filter_wf _ _ _)) |
                  (with_reducible refine Keeps.setDram (by with_reducible assumption) (Sparse.filter_wf _ _ _)) | unfold a1 |
                  unfold a2 | unfold a3 | unfold a4 | unfold a5 | unfold a6 | unfold a7 | unfold a8 | dsimp only

theorem Keeps.commitStore {s₀ s : State} (h : Keeps s₀ s) (ws : List ParWrite) (line : Nat) (idle : Bool) :
    Keeps s₀ (s.commitStore ws line idle) := by
  unfold State.commitStore
  extract_lets old a1 a2 a3 img cmp a4
  have b1 : Keeps s₀ a1 := Keeps.foldl (fun s j hs => Keeps.ite (hs.tdcAbort _) hs) _ _ h
  clear_value a1
  have b2 : Keeps s₀ a2 := Keeps.ite b1.rebase b1
  clear_value a2
  have b4 : Keeps s₀ a4 := (b2.setPars _).imgAdd _ _ _
  clear_value a4
  exact Keeps.ite (b4.restructure _ _) b4

theorem Keeps.commitSensor {s₀ s : State} (h : Keeps s₀ s) (old : Sparse Nat) (ws : List ParWrite) :
    Keeps s₀ (s.commitSensor old ws) := by
  unfold State.commitSensor
  extract_lets a1 a2 a3 a4 a5
  refine Keeps.step (s := a1) ?_ (fun ba1 => ?_); rotate_left; try clear_value a1
  refine Keeps.step (s := a2) ?_ (fun ba2 => ?_); rotate_left; try clear_value a2
  refine Keeps.step (s := a3) ?_ (fun ba3 => ?_); rotate_left; try clear_value a3
  refine Keeps.step (s := a4) ?_ (fun ba4 => ?_); rotate_left; try clear_value a4
  repeat' first | with_reducible assumption | (with_reducible apply Keeps.activeChanged) |
                  (with_reducible apply Keeps.lanesCommitted) | (with_reducible apply Keeps.recomputeSlot) |
                  (with_reducible apply Keeps.sourceChanged) | (with_reducible apply Keeps.foldl) |
                  (with_reducible apply Keeps.foldlSnd) | (with_reducible rfl) |
                  (simp only [fixedSizes, length_upd, List.length_map, List.length_zipIdx]; first | done | rfl) | split |
                  (intro _ _ _) | (with_reducible refine Keeps.set (by with_reducible assumption) ?_ ?_) | unfold a1 | unfold a2 |
                  unfold a3 | unfold a4 | unfold a5 | dsimp only

theorem Keeps.commitPos {s₀ s : State} (h : Keeps s₀ s) (old : Sparse Nat) (ws : List ParWrite) : Keeps s₀ (s.commitPos old ws) := by
  unfold State.commitPos
  extract_lets a1 a2 p1 a3 p2 a4 p3
  have b1 : Keeps s₀ a1 := Keeps.foldl (fun s k hs => Keeps.ite (hs.encCommitted _ _) hs) _ _ h
  clear_value a1
  have b2 : Keeps s₀ a2 := Keeps.foldl (fun s k hs => Keeps.ite (hs.refArm _) hs) _ _ b1
  clear_value a2
  have b3 : Keeps s₀ a3 := Keeps.ite (Keeps.set b2 rfl rfl) b2
  clear_value a3
  have b4 : Keeps s₀ a4 := Keeps.ite (Keeps.set b3 rfl rfl) b3
  clear_value a4
  exact Keeps.ite (Keeps.set b4 rfl rfl) b4

theorem Keeps.commitAxes {s₀ s : State} (h : Keeps s₀ s) (old : Sparse Nat) (ws : List ParWrite) : Keeps s₀ (s.commitAxes old ws) := by
  unfold State.commitAxes
  extract_lets a1 a2
  have b1 : Keeps s₀ a1 := Keeps.foldl (fun s a hs => Keeps.ite (hs.axisEnabled _) hs) _ _ h
  clear_value a1
  have b2 : Keeps s₀ a2 := Keeps.foldl (fun s a hs => Keeps.ite (hs.coilsFollow _) hs) _ _ b1
  clear_value a2
  have k := b2.ppsModeSet
  split
  · split
    · next e =>
      rw [e] at k
      exact k.loadReply _
    · next e =>
      rw [e] at k
      exact k
  · exact b2

theorem Keeps.committed {s₀ s : State} (h : Keeps s₀ s) (ws : List ParWrite) (line : Nat) (idle : Bool) :
    Keeps s₀ (s.committed ws line idle) := by
  unfold State.committed
  have k := (((h.commitStore ws line idle).commitSensor s.par ws).commitPos s.par ws).commitAxes s.par ws
  exact Keeps.ite h ((Keeps.ite (k.arenaMoved _) k).auxCommitted _)

theorem Keeps.imgSettle {s₀ s : State} (h : Keeps s₀ s) :
    Keeps s₀ (s.imgSettle) := by
  unfold State.imgSettle
  repeat' first | with_reducible assumption | (with_reducible apply Keeps.mirrorTo) | (with_reducible apply Keeps.streamsTo) |
                  (with_reducible rfl) | (simp only [fixedSizes, length_upd, List.length_map, List.length_zipIdx]; first | done |
                  rfl) | split | (intro _ _ _) | (with_reducible refine Keeps.set (by with_reducible assumption) ?_ ?_) | dsimp only

theorem Keeps.sendArm {s₀ s : State} (h : Keeps s₀ s) (a : JobArm) (line : Nat) :
    Keeps s₀ (s.sendArm a line) := by
  unfold State.sendArm
  repeat' first | with_reducible assumption | (with_reducible apply Keeps.askSend) | (with_reducible rfl) |
                  (simp only [fixedSizes, length_upd, List.length_map, List.length_zipIdx]; first | done | rfl) | split |
                  (intro _ _ _) | (with_reducible refine Keeps.set (by with_reducible assumption) ?_ ?_) | dsimp only

theorem Keeps.armKnown {s₀ s : State} (h : Keeps s₀ s) :
    Keeps s₀ (s.armKnown) := by
  unfold State.armKnown
  extract_lets a1
  repeat' first | with_reducible assumption | (with_reducible apply Keeps.sendArm) | (with_reducible rfl) |
                  (simp only [fixedSizes, length_upd, List.length_map, List.length_zipIdx]; first | done | rfl) | split |
                  (intro _ _ _) | (with_reducible refine Keeps.set (by with_reducible assumption) ?_ ?_) | unfold a1 | dsimp only

theorem Keeps.armArrives {s₀ s : State} (h : Keeps s₀ s) (a : JobArm) :
    Keeps s₀ (s.armArrives a) := by
  unfold State.armArrives
  extract_lets a1 a2 a3 a4 a5
  refine Keeps.step (s := a5) ?_ (fun ba5 => ?_); rotate_left; try clear_value a5
  repeat' first | with_reducible assumption | (with_reducible apply Keeps.armKnown) | (with_reducible apply Keeps.sendArm) |
                  (with_reducible rfl) | (simp only [fixedSizes, length_upd, List.length_map, List.length_zipIdx]; first | done |
                  rfl) | split | (intro _ _ _) | (with_reducible refine Keeps.set (by with_reducible assumption) ?_ ?_) | unfold a1 |
                  unfold a2 | unfold a3 | unfold a4 | unfold a5 | dsimp only

theorem Keeps.pendArrives {s₀ s : State} (h : Keeps s₀ s) (p : Pend) :
    Keeps s₀ (s.pendArrives p) := by
  unfold State.pendArrives
  extract_lets a1 a2 a3 a4 a5 a6
  repeat' first | with_reducible assumption | (with_reducible rfl) |
                  (simp only [fixedSizes, length_upd, List.length_map, List.length_zipIdx]; first | done | rfl) | split |
                  (intro _ _ _) | (with_reducible refine Keeps.set (by with_reducible assumption) ?_ ?_) | unfold a1 | unfold a2 |
                  unfold a3 | unfold a4 | unfold a5 | unfold a6 | dsimp only

theorem Keeps.pendReply {s₀ s : State} (h : Keeps s₀ s) (p : Pend) (line : Nat) (status : Nat) (detail : Nat) (ws : List Word) :
    Keeps s₀ (s.pendReply p line status detail ws) := by
  unfold State.pendReply
  extract_lets a1
  refine Keeps.step (s := a1) ?_ (fun ba1 => ?_); rotate_left; try clear_value a1
  repeat' first | with_reducible assumption | (with_reducible apply Keeps.replyAt) | (with_reducible apply Keeps.foldl) |
                  (with_reducible apply Keeps.foldlSnd) | (with_reducible rfl) |
                  (simp only [fixedSizes, length_upd, List.length_map, List.length_zipIdx]; first | done | rfl) | split |
                  (intro _ _ _) | (with_reducible refine Keeps.set (by with_reducible assumption) ?_ ?_) | unfold a1 | dsimp only

theorem Keeps.foldlRes {α : Type} {s₀ : State} {f : ActRes → α → ActRes} (hf : ∀ r a, Keeps s₀ r.s → Keeps s₀ (f r a).s) :
    ∀ (l : List α) (r : ActRes), Keeps s₀ r.s → Keeps s₀ (l.foldl f r).s
  | [], _, h => h
  | a :: l, r, h => Keeps.foldlRes hf l _ (hf r a h)

theorem Keeps.pendActs {s₀ s : State} (h : Keeps s₀ s) (p : Pend) (line : Nat) : Keeps s₀ (s.pendActs p line) := by
  unfold State.pendActs
  extract_lets r
  have b : Keeps s₀ r.s := by
    refine Keeps.foldlRes (fun r a hr => ?_) _ _ h
    exact Keeps.act hr _ _ _ _
  clear_value r
  split
  · exact Keeps.foldl (fun s c hs => hs.replyAt _ _ _ _ _) _ _ b
  · exact b.pendReply _ _ _ _ _

theorem Keeps.groupsDone {s₀ s : State} (h : Keeps s₀ s) (line : Nat) :
    Keeps s₀ (s.groupsDone line) := by
  unfold State.groupsDone
  extract_lets a1 a2 a3
  refine Keeps.step (s := a3) ?_ (fun ba3 => ?_); rotate_left; try clear_value a3
  repeat' first | with_reducible assumption | (with_reducible apply Keeps.replyAt) | (with_reducible apply Keeps.foldl) |
                  (with_reducible apply Keeps.foldlSnd) | (with_reducible rfl) |
                  (simp only [fixedSizes, length_upd, List.length_map, List.length_zipIdx]; first | done | rfl) | split |
                  (intro _ _ _) | (with_reducible refine Keeps.set (by with_reducible assumption) ?_ ?_) | unfold a1 | unfold a2 |
                  unfold a3 | dsimp only

theorem Keeps.commitAll {s₀ s : State} (h : Keeps s₀ s) (due : List Pend) (line : Nat) (idle : Bool) :
    Keeps s₀ (s.commitAll due line idle) := by
  unfold State.commitAll
  extract_lets a1 a2 a3 a4 a5 a6 a7 a8 a9 a10 a11
  refine Keeps.step (s := a2) ?_ (fun ba2 => ?_); rotate_left; try clear_value a2
  refine Keeps.step (s := a8) ?_ (fun ba8 => ?_); rotate_left; try clear_value a8
  refine Keeps.step (s := a9) ?_ (fun ba9 => ?_); rotate_left; try clear_value a9
  refine Keeps.step (s := a10) ?_ (fun ba10 => ?_); rotate_left; try clear_value a10
  refine Keeps.step (s := a11) ?_ (fun ba11 => ?_); rotate_left; try clear_value a11
  repeat' first | with_reducible assumption | (with_reducible apply Keeps.committed) | (with_reducible apply Keeps.groupsDone) |
                  (with_reducible apply Keeps.imgSettle) | (with_reducible apply Keeps.pendActs) |
                  (with_reducible apply Keeps.pendReply) | (with_reducible apply Keeps.foldl) | (with_reducible apply Keeps.foldlSnd) |
                  (with_reducible rfl) | (simp only [fixedSizes, length_upd, List.length_map, List.length_zipIdx]; first | done |
                  rfl) | split | (intro _ _ _) | (with_reducible refine Keeps.set (by with_reducible assumption) ?_ ?_) | unfold a1 |
                  unfold a2 | unfold a3 | unfold a4 | unfold a5 | unfold a6 | unfold a7 | unfold a8 | unfold a9 | unfold a10 |
                  unfold a11 | dsimp only

theorem Keeps.commitTick {s₀ s : State} (h : Keeps s₀ s) (k : Nat) (boundary : Bool) :
    Keeps s₀ (s.commitTick k boundary) := by
  unfold State.commitTick
  extract_lets a1 a2 a3 a4 a5 a6 a7
  refine Keeps.step (s := a5) ?_ (fun ba5 => ?_); rotate_left; try clear_value a5
  refine Keeps.step (s := a7) ?_ (fun ba7 => ?_); rotate_left; try clear_value a7
  repeat' first | with_reducible assumption | (with_reducible apply Keeps.commitAll) | (with_reducible apply Keeps.count) |
                  (with_reducible apply Keeps.foldl) | (with_reducible apply Keeps.foldlSnd) | (with_reducible rfl) |
                  (simp only [fixedSizes, length_upd, List.length_map, List.length_zipIdx]; first | done | rfl) | split |
                  (intro _ _ _) | (with_reducible refine Keeps.set (by with_reducible assumption) ?_ ?_) | unfold a1 | unfold a2 |
                  unfold a3 | unfold a4 | unfold a5 | unfold a6 | unfold a7 | dsimp only

theorem Keeps.commitIdle {s₀ s : State} (h : Keeps s₀ s) :
    Keeps s₀ (s.commitIdle) := by
  unfold State.commitIdle
  repeat' first | with_reducible assumption | (with_reducible apply Keeps.commitAll) | (with_reducible rfl) |
                  (simp only [fixedSizes, length_upd, List.length_map, List.length_zipIdx]; first | done | rfl) | split |
                  (intro _ _ _) | (with_reducible refine Keeps.set (by with_reducible assumption) ?_ ?_) | dsimp only

theorem Keeps.submit {s₀ s : State} (h : Keeps s₀ s) (cid : Nat) (ctx : Ctx) (acts : List Act) (ready : Bool) :
    Keeps s₀ (s.submit cid ctx acts ready) := by
  unfold State.submit
  extract_lets a1 a2 a3 a4 a5 a6 a7 a8
  refine Keeps.step (s := a2) ?_ (fun ba2 => ?_); rotate_left; try clear_value a2
  refine Keeps.step (s := a5) ?_ (fun ba5 => ?_); rotate_left; try clear_value a5
  refine Keeps.step (s := a7) ?_ (fun ba7 => ?_); rotate_left; try clear_value a7
  refine Keeps.step (s := a8) ?_ (fun ba8 => ?_); rotate_left; try clear_value a8
  repeat' first | with_reducible assumption | (with_reducible apply Keeps.accept) | (with_reducible apply Keeps.commitIdle) |
                  (with_reducible apply Keeps.committed) | (with_reducible apply Keeps.imgSettle) |
                  (with_reducible apply Keeps.pendActs) | (with_reducible apply Keeps.pendArrives) |
                  (with_reducible apply Keeps.setPars) | (with_reducible rfl) |
                  (simp only [fixedSizes, length_upd, List.length_map, List.length_zipIdx]; first | done | rfl) | split |
                  (intro _ _ _) | (with_reducible refine Keeps.set (by with_reducible assumption) ?_ ?_) | unfold a1 | unfold a2 |
                  unfold a3 | unfold a4 | unfold a5 | unfold a6 | unfold a7 | unfold a8 | dsimp only

theorem Keeps.discardGroup {s₀ s : State} (h : Keeps s₀ s) (g : Group) :
    Keeps s₀ (s.discardGroup g) := by
  unfold State.discardGroup
  extract_lets a1 a2 a3 a4
  refine Keeps.step (s := a2) ?_ (fun ba2 => ?_); rotate_left; try clear_value a2
  refine Keeps.step (s := a3) ?_ (fun ba3 => ?_); rotate_left; try clear_value a3
  refine Keeps.step (s := a4) ?_ (fun ba4 => ?_); rotate_left; try clear_value a4
  repeat' first | with_reducible assumption | (with_reducible apply Keeps.committed) | (with_reducible apply Keeps.cutArm) |
                  (with_reducible apply Keeps.reply) | (with_reducible apply Keeps.updTb) | (with_reducible apply Keeps.foldl) |
                  (with_reducible apply Keeps.foldlSnd) | (with_reducible rfl) |
                  (simp only [fixedSizes, length_upd, List.length_map, List.length_zipIdx]; first | done | rfl) | split |
                  (intro _ _ _) | (with_reducible refine Keeps.set (by with_reducible assumption) ?_ ?_) | unfold a1 | unfold a2 |
                  unfold a3 | unfold a4 | dsimp only

theorem Keeps.groupArrives {s₀ s : State} (h : Keeps s₀ s) (g : Group) :
    Keeps s₀ (s.groupArrives g) := by
  unfold State.groupArrives
  extract_lets a1 a2 a3 a4 a5 a6 a7
  refine Keeps.step (s := a2) ?_ (fun ba2 => ?_); rotate_left; try clear_value a2
  refine Keeps.step (s := a5) ?_ (fun ba5 => ?_); rotate_left; try clear_value a5
  refine Keeps.step (s := a6) ?_ (fun ba6 => ?_); rotate_left; try clear_value a6
  refine Keeps.step (s := a7) ?_ (fun ba7 => ?_); rotate_left; try clear_value a7
  repeat' first | with_reducible assumption | (with_reducible apply Keeps.armArrives) | (with_reducible apply Keeps.commitAll) |
                  (with_reducible apply Keeps.commitIdle) | (with_reducible apply Keeps.discardGroup) |
                  (with_reducible apply Keeps.groupsDone) | (with_reducible apply Keeps.pendArrives) |
                  (with_reducible apply Keeps.reply) | (with_reducible apply Keeps.setPars) | (with_reducible apply Keeps.foldl) |
                  (with_reducible apply Keeps.foldlSnd) | (with_reducible rfl) |
                  (simp only [fixedSizes, length_upd, List.length_map, List.length_zipIdx]; first | done | rfl) | split |
                  (intro _ _ _) | (with_reducible refine Keeps.set (by with_reducible assumption) ?_ ?_) | unfold a1 | unfold a2 |
                  unfold a3 | unfold a4 | unfold a5 | unfold a6 | unfold a7 | dsimp only

theorem Keeps.prepared {s₀ s : State} (h : Keeps s₀ s) (cid : Nat) :
    Keeps s₀ (s.prepared cid) := by
  unfold State.prepared
  extract_lets a1
  repeat' first | with_reducible assumption | (with_reducible apply Keeps.commitIdle) | (with_reducible apply Keeps.groupArrives) |
                  (with_reducible apply Keeps.pendArrives) | (with_reducible rfl) |
                  (simp only [fixedSizes, length_upd, List.length_map, List.length_zipIdx]; first | done | rfl) | split |
                  (intro _ _ _) | (with_reducible refine Keeps.set (by with_reducible assumption) ?_ ?_) | unfold a1 | dsimp only

theorem Keeps.dropShadows {s₀ s : State} (h : Keeps s₀ s) :
    Keeps s₀ (s.dropShadows) := by
  unfold State.dropShadows
  extract_lets a1
  repeat' first | with_reducible assumption | (with_reducible rfl) |
                  (simp only [fixedSizes, length_upd, List.length_map, List.length_zipIdx]; first | done | rfl) | split |
                  (intro _ _ _) | (with_reducible refine Keeps.set (by with_reducible assumption) ?_ ?_) | unfold a1 | dsimp only

theorem Keeps.dropPend {s₀ s : State} (h : Keeps s₀ s) (cid : Nat) :
    Keeps s₀ (s.dropPend cid) := by
  unfold State.dropPend
  extract_lets a1
  repeat' first | with_reducible assumption | (with_reducible rfl) |
                  (simp only [fixedSizes, length_upd, List.length_map, List.length_zipIdx]; first | done | rfl) | split |
                  (intro _ _ _) | (with_reducible refine Keeps.set (by with_reducible assumption) ?_ ?_) | unfold a1 | dsimp only

/-! ### Machine/Tick.lean -/

theorem Keeps.updSeq {s₀ s : State} (h : Keeps s₀ s) (f : SeqSt → SeqSt) :
    Keeps s₀ (s.updSeq f) := by
  unfold State.updSeq
  repeat' first | with_reducible assumption | (with_reducible rfl) |
                  (simp only [fixedSizes, length_upd, List.length_map, List.length_zipIdx]; first | done | rfl) | split |
                  (intro _ _ _) | (with_reducible refine Keeps.set (by with_reducible assumption) ?_ ?_) | dsimp only

theorem Keeps.updCap {s₀ s : State} (h : Keeps s₀ s) (f : CapSt → CapSt) :
    Keeps s₀ (s.updCap f) := by
  unfold State.updCap
  repeat' first | with_reducible assumption | (with_reducible rfl) |
                  (simp only [fixedSizes, length_upd, List.length_map, List.length_zipIdx]; first | done | rfl) | split |
                  (intro _ _ _) | (with_reducible refine Keeps.set (by with_reducible assumption) ?_ ?_) | dsimp only

theorem Keeps.switchPart {s₀ s : State} (h : Keeps s₀ s) (k : Nat) (slot : Nat) (tiles : Nat) (bars : Nat) (part : Nat) :
    Keeps s₀ (s.switchPart k slot tiles bars part) := by
  unfold State.switchPart
  extract_lets a1 a2 a3 a4
  refine Keeps.step (s := a1) ?_ (fun ba1 => ?_); rotate_left; try clear_value a1
  repeat' first | with_reducible assumption | (with_reducible apply Keeps.committed) | (with_reducible apply Keeps.imgAdd) |
                  (with_reducible apply Keeps.swapTile) | (with_reducible apply Keeps.syncSelect) |
                  (with_reducible apply Keeps.updCmp) | (with_reducible apply Keeps.foldl) | (with_reducible apply Keeps.foldlSnd) |
                  (with_reducible rfl) | (simp only [fixedSizes, length_upd, List.length_map, List.length_zipIdx]; first | done |
                  rfl) | split | (intro _ _ _) | (with_reducible refine Keeps.set (by with_reducible assumption) ?_ ?_) | unfold a1 |
                  unfold a2 | unfold a3 | unfold a4 | dsimp only

theorem Keeps.lateNow {s₀ s : State} (h : Keeps s₀ s) (a : JobArm) (k : Nat) (late : Nat) (lateT : Nat) :
    Keeps s₀ (s.lateNow a k late lateT) := by
  unfold State.lateNow
  extract_lets a1 a2 a3
  repeat' first | with_reducible assumption | (with_reducible apply Keeps.imgAdd) | (with_reducible apply Keeps.updCap) |
                  (with_reducible rfl) | (simp only [fixedSizes, length_upd, List.length_map, List.length_zipIdx]; first | done |
                  rfl) | split | (intro _ _ _) | (with_reducible refine Keeps.set (by with_reducible assumption) ?_ ?_) | unfold a1 |
                  unfold a2 | unfold a3 | dsimp only

theorem Keeps.jobSwitch {s₀ s : State} (h : Keeps s₀ s) (a : JobArm) (k : Nat) (flags : Nat) (forced : Nat) :
    Keeps s₀ (s.jobSwitch a k flags forced) := by
  unfold State.jobSwitch
  extract_lets a1 a2 a3 a4 a5 a6 a7 a8 a9 a10 a11 a12
  refine Keeps.step (s := a6) ?_ (fun ba6 => ?_); rotate_left; try clear_value a6
  refine Keeps.step (s := a7) ?_ (fun ba7 => ?_); rotate_left; try clear_value a7
  refine Keeps.step (s := a8) ?_ (fun ba8 => ?_); rotate_left; try clear_value a8
  refine Keeps.step (s := a9) ?_ (fun ba9 => ?_); rotate_left; try clear_value a9
  refine Keeps.step (s := a10) ?_ (fun ba10 => ?_); rotate_left; try clear_value a10
  refine Keeps.step (s := a11) ?_ (fun ba11 => ?_); rotate_left; try clear_value a11
  refine Keeps.step (s := a12) ?_ (fun ba12 => ?_); rotate_left; try clear_value a12
  repeat' first | with_reducible assumption | (with_reducible apply Keeps.count) | (with_reducible apply Keeps.covJob) |
                  (with_reducible apply Keeps.imgAdd) | (with_reducible apply Keeps.lateNow) | (with_reducible apply Keeps.raise) |
                  (with_reducible apply Keeps.replyAt) | (with_reducible apply Keeps.switchPart) |
                  (with_reducible apply Keeps.updCap) | (with_reducible apply Keeps.updCmp) | (with_reducible apply Keeps.foldl) |
                  (with_reducible apply Keeps.foldlSnd) | (with_reducible rfl) |
                  (simp only [fixedSizes, length_upd, List.length_map, List.length_zipIdx]; first | done | rfl) | split |
                  (intro _ _ _) | (with_reducible refine Keeps.set (by with_reducible assumption) ?_ ?_) | unfold a1 | unfold a2 |
                  unfold a3 | unfold a4 | unfold a5 | unfold a6 | unfold a7 | unfold a8 | unfold a9 | unfold a10 | unfold a11 |
                  unfold a12 | dsimp only

theorem Keeps.armTick {s₀ s : State} (h : Keeps s₀ s) (k : Nat) (boundary : Bool) :
    Keeps s₀ (s.armTick k boundary) := by
  unfold State.armTick
  repeat' first | with_reducible assumption | (with_reducible apply Keeps.count) | (with_reducible apply Keeps.groupsDone) |
                  (with_reducible apply Keeps.jobSwitch) | (with_reducible apply Keeps.sendArm) | (with_reducible apply Keeps.updCap) |
                  (with_reducible rfl) | (simp only [fixedSizes, length_upd, List.length_map, List.length_zipIdx]; first | done |
                  rfl) | split | (intro _ _ _) | (with_reducible refine Keeps.set (by with_reducible assumption) ?_ ?_) | dsimp only

theorem Keeps.noteResident {s₀ s : State} (h : Keeps s₀ s) :
    Keeps s₀ (s.noteResident) := by
  unfold State.noteResident
  repeat' first | with_reducible assumption | (with_reducible apply Keeps.updCap) | (with_reducible rfl) |
                  (simp only [fixedSizes, length_upd, List.length_map, List.length_zipIdx]; first | done | rfl) | split |
                  (intro _ _ _) | (with_reducible refine Keeps.set (by with_reducible assumption) ?_ ?_) | dsimp only

theorem Keeps.lateDone {s₀ s : State} (h : Keeps s₀ s) (k : Nat) (parts : Nat) :
    Keeps s₀ (s.lateDone k parts) := by
  unfold State.lateDone
  extract_lets a1
  refine Keeps.step (s := a1) ?_ (fun ba1 => ?_); rotate_left; try clear_value a1
  repeat' first | with_reducible assumption | (with_reducible apply Keeps.imgAdd) | (with_reducible apply Keeps.raise) |
                  (with_reducible apply Keeps.updCap) | (with_reducible rfl) |
                  (simp only [fixedSizes, length_upd, List.length_map, List.length_zipIdx]; first | done | rfl) | split |
                  (intro _ _ _) | (with_reducible refine Keeps.set (by with_reducible assumption) ?_ ?_) | unfold a1 | dsimp only

theorem Keeps.lateTick {s₀ s : State} (h : Keeps s₀ s) (k : Nat) (boundary : Bool) :
    Keeps s₀ (s.lateTick k boundary) := by
  unfold State.lateTick
  repeat' first | with_reducible assumption | (with_reducible apply Keeps.imgAdd) | (with_reducible apply Keeps.lateDone) |
                  (with_reducible apply Keeps.switchPart) | (with_reducible apply Keeps.updCap) | (with_reducible apply Keeps.updCmp) |
                  (with_reducible apply Keeps.foldl) | (with_reducible apply Keeps.foldlSnd) | (with_reducible rfl) |
                  (simp only [fixedSizes, length_upd, List.length_map, List.length_zipIdx]; first | done | rfl) | split |
                  (intro _ _ _) | (with_reducible refine Keeps.set (by with_reducible assumption) ?_ ?_) | dsimp only

theorem Keeps.lateIdle {s₀ s : State} (h : Keeps s₀ s) :
    Keeps s₀ (s.lateIdle) := by
  unfold State.lateIdle
  repeat' first | with_reducible assumption | (with_reducible apply Keeps.startUpload) | (with_reducible apply Keeps.foldl) |
                  (with_reducible apply Keeps.foldlSnd) | (with_reducible rfl) |
                  (simp only [fixedSizes, length_upd, List.length_map, List.length_zipIdx]; first | done | rfl) | split |
                  (intro _ _ _) | (with_reducible refine Keeps.set (by with_reducible assumption) ?_ ?_) | dsimp only

theorem Keeps.retry {s₀ s : State} (h : Keeps s₀ s) :
    Keeps s₀ (s.retry) := by
  unfold State.retry
  repeat' first | with_reducible assumption | (with_reducible apply Keeps.count) | (with_reducible apply Keeps.raise) |
                  (with_reducible rfl) | (simp only [fixedSizes, length_upd, List.length_map, List.length_zipIdx]; first | done |
                  rfl) | split | (intro _ _ _) | (with_reducible refine Keeps.set (by with_reducible assumption) ?_ ?_) | dsimp only

theorem Keeps.cutBar {s₀ s : State} (h : Keeps s₀ s) (b : Nat) :
    Keeps s₀ (s.cutBar b) := by
  unfold State.cutBar
  extract_lets a1 a2 a3 a4
  refine Keeps.step (s := a1) ?_ (fun ba1 => ?_); rotate_left; try clear_value a1
  refine Keeps.step (s := a2) ?_ (fun ba2 => ?_); rotate_left; try clear_value a2
  refine Keeps.step (s := a3) ?_ (fun ba3 => ?_); rotate_left; try clear_value a3
  repeat' first | with_reducible assumption | (with_reducible apply Keeps.retry) | (with_reducible apply Keeps.updBar) |
                  (with_reducible rfl) | (simp only [fixedSizes, length_upd, List.length_map, List.length_zipIdx]; first | done |
                  rfl) | split | (intro _ _ _) | (with_reducible refine Keeps.set (by with_reducible assumption) ?_ ?_) | unfold a1 |
                  unfold a2 | unfold a3 | unfold a4 | dsimp only

theorem Keeps.cutIdle {s₀ s : State} (h : Keeps s₀ s) :
    Keeps s₀ (s.cutIdle) := by
  unfold State.cutIdle
  extract_lets a1 a2 a3 a4 a5
  refine Keeps.step (s := a1) ?_ (fun ba1 => ?_); rotate_left; try clear_value a1
  refine Keeps.step (s := a2) ?_ (fun ba2 => ?_); rotate_left; try clear_value a2
  refine Keeps.step (s := a3) ?_ (fun ba3 => ?_); rotate_left; try clear_value a3
  refine Keeps.step (s := a5) ?_ (fun ba5 => ?_); rotate_left; try clear_value a5
  repeat' first | with_reducible assumption | (with_reducible apply Keeps.cutBar) | (with_reducible apply Keeps.retry) |
                  (with_reducible apply Keeps.updAsk) | (with_reducible apply Keeps.updHlt) | (with_reducible apply Keeps.foldl) |
                  (with_reducible apply Keeps.foldlSnd) | (with_reducible rfl) |
                  (simp only [fixedSizes, State.updHlt, length_upd, List.length_map, List.length_zipIdx]; first | done | rfl) | split |
                  (intro _ _ _) | (with_reducible refine Keeps.set (by with_reducible assumption) ?_ ?_) | unfold a1 | unfold a2 |
                  unfold a3 | unfold a4 | unfold a5 | dsimp only

theorem Keeps.resumeIdle {s₀ s : State} (h : Keeps s₀ s) :
    Keeps s₀ (s.resumeIdle) := by
  unfold State.resumeIdle
  extract_lets a1 a2 a3
  refine Keeps.step (s := a1) ?_ (fun ba1 => ?_); rotate_left; try clear_value a1
  refine Keeps.step (s := a2) ?_ (fun ba2 => ?_); rotate_left; try clear_value a2
  refine Keeps.step (s := a3) ?_ (fun ba3 => ?_); rotate_left; try clear_value a3
  repeat' first | with_reducible assumption | (with_reducible apply Keeps.calBegin) | (with_reducible apply Keeps.lateIdle) |
                  (with_reducible apply Keeps.startUpload) | (with_reducible apply Keeps.updBar) |
                  (with_reducible apply Keeps.updHlt) | (with_reducible apply Keeps.foldl) | (with_reducible apply Keeps.foldlSnd) |
                  (with_reducible rfl) |
                  (simp only [fixedSizes, State.updHlt, length_upd, List.length_map, List.length_zipIdx]; first | done | rfl) | split |
                  (intro _ _ _) | (with_reducible refine Keeps.set (by with_reducible assumption) ?_ ?_) | unfold a1 | unfold a2 |
                  unfold a3 | dsimp only

theorem Keeps.clipLine {s₀ s : State} (h : Keeps s₀ s) :
    Keeps s₀ (s.clipLine) := by
  unfold State.clipLine
  extract_lets a1 a2 a3 a4
  refine Keeps.step (s := a2) ?_ (fun ba2 => ?_); rotate_left; try clear_value a2
  refine Keeps.step (s := a3) ?_ (fun ba3 => ?_); rotate_left; try clear_value a3
  repeat' first | with_reducible assumption | (with_reducible apply Keeps.count) | (with_reducible apply Keeps.raise) |
                  (with_reducible rfl) | (simp only [fixedSizes, length_upd, List.length_map, List.length_zipIdx]; first | done |
                  rfl) | split | (intro _ _ _) | (with_reducible refine Keeps.set (by with_reducible assumption) ?_ ?_) | unfold a1 |
                  unfold a2 | unfold a3 | unfold a4 | dsimp only

theorem Keeps.startSlot {s₀ s : State} (h : Keeps s₀ s) (h : HeldTick) (start : Nat) (packOnly : Bool) :
    Keeps s₀ (s.startSlot h start packOnly) := by
  unfold State.startSlot
  extract_lets a1 a2 a3 a4 a5 a6
  refine Keeps.step (s := a4) ?_ (fun ba4 => ?_); rotate_left; try clear_value a4
  refine Keeps.step (s := a5) ?_ (fun ba5 => ?_); rotate_left; try clear_value a5
  refine Keeps.step (s := a6) ?_ (fun ba6 => ?_); rotate_left; try clear_value a6
  repeat' first | with_reducible assumption | (with_reducible apply Keeps.clipLine) | (with_reducible apply Keeps.runWaves) |
                  (with_reducible apply Keeps.tickAt) | (with_reducible apply Keeps.updSeq) | (with_reducible rfl) |
                  (simp only [fixedSizes, length_upd, List.length_map, List.length_zipIdx]; first | done | rfl) | split |
                  (intro _ _ _) | (with_reducible refine Keeps.set (by with_reducible assumption) ?_ ?_) | unfold a1 | unfold a2 |
                  unfold a3 | unfold a4 | unfold a5 | unfold a6 | dsimp only

theorem Keeps.inSlot {s₀ s : State} (h : Keeps s₀ s) (x : Slot) {f : State → State} (hf : ∀ u, Keeps s₀ u → Keeps s₀ (f u)) :
    Keeps s₀ (s.inSlot x f) := by
  unfold State.inSlot
  dsimp only
  have b : Keeps s₀ (f { s with par := slotStore s.par x.par }) := hf _ (Keeps.set h rfl rfl)
  exact Keeps.set b rfl rfl

theorem Keeps.refuse {s₀ s : State} (h : Keeps s₀ s) (k : Nat) :
    Keeps s₀ (s.refuse k) := by
  unfold State.refuse
  extract_lets a1
  refine Keeps.step (s := a1) ?_ (fun ba1 => ?_); rotate_left; try clear_value a1
  repeat' first | with_reducible assumption | (with_reducible apply Keeps.capture) | (with_reducible apply Keeps.count) |
                  (with_reducible apply Keeps.covLine) | (with_reducible apply Keeps.raise) | (with_reducible rfl) |
                  (simp only [fixedSizes, length_upd, List.length_map, List.length_zipIdx]; first | done | rfl) | split |
                  (intro _ _ _) | (with_reducible refine Keeps.set (by with_reducible assumption) ?_ ?_) | unfold a1 | dsimp only

theorem Keeps.leaveOut {s₀ s : State} (h : Keeps s₀ s) (k : Nat) (cols : Nat × Nat) (cause : Nat) (detail : Nat) :
    Keeps s₀ (s.leaveOut k cols cause detail) := by
  unfold State.leaveOut
  repeat' first | with_reducible assumption | (with_reducible apply Keeps.capture) | (with_reducible apply Keeps.covReport) |
                  (with_reducible apply Keeps.skipCols) | (with_reducible rfl) |
                  (simp only [fixedSizes, length_upd, List.length_map, List.length_zipIdx]; first | done | rfl) | split |
                  (intro _ _ _) | (with_reducible refine Keeps.set (by with_reducible assumption) ?_ ?_) | dsimp only

theorem Keeps.rawLine {s₀ s : State} (h : Keeps s₀ s) (k : Nat) :
    Keeps s₀ (s.rawLine k) := by
  unfold State.rawLine
  extract_lets a1
  refine Keeps.step (s := a1) ?_ (fun ba1 => ?_); rotate_left; try clear_value a1
  repeat' first | with_reducible assumption | (with_reducible apply Keeps.count) | (with_reducible apply Keeps.leaveOut) |
                  (with_reducible apply Keeps.foldl) | (with_reducible apply Keeps.foldlSnd) | (with_reducible rfl) |
                  (simp only [fixedSizes, length_upd, List.length_map, List.length_zipIdx]; first | done | rfl) | split |
                  (intro _ _ _) | (with_reducible refine Keeps.set (by with_reducible assumption) ?_ ?_) | unfold a1 | dsimp only

theorem Keeps.capture {s₀ s : State} (h : Keeps s₀ s) (k : Nat) (x : Int) :
    Keeps s₀ (s.capture k x) := by
  unfold State.capture
  extract_lets a1 a2 a3 a4 a5 a6 a7 a8 a9 a10 a11 a12 a13 a14
  refine Keeps.step (s := a1) ?_ (fun ba1 => ?_); rotate_left; try clear_value a1
  refine Keeps.step (s := a5) ?_ (fun ba5 => ?_); rotate_left; try clear_value a5
  refine Keeps.step (s := a6) ?_ (fun ba6 => ?_); rotate_left; try clear_value a6
  refine Keeps.step (s := a7) ?_ (fun ba7 => ?_); rotate_left; try clear_value a7
  refine Keeps.step (s := a9) ?_ (fun ba9 => ?_); rotate_left; try clear_value a9
  refine Keeps.step (s := a10) ?_ (fun ba10 => ?_); rotate_left; try clear_value a10
  refine Keeps.step (s := a11) ?_ (fun ba11 => ?_); rotate_left; try clear_value a11
  refine Keeps.step (s := a12) ?_ (fun ba12 => ?_); rotate_left; try clear_value a12
  refine Keeps.step (s := a13) ?_ (fun ba13 => ?_); rotate_left; try clear_value a13
  repeat' first | with_reducible assumption | (with_reducible apply Keeps.auxTick) | (with_reducible apply Keeps.count) |
                  (with_reducible apply Keeps.countTemps) | (with_reducible apply Keeps.cutIdle) |
                  (with_reducible apply Keeps.episodeLine) | (with_reducible apply Keeps.hold) |
                  (with_reducible apply Keeps.proofLine) | (with_reducible apply Keeps.raise) | (with_reducible apply Keeps.rawLine) |
                  (with_reducible apply Keeps.shutLine) | (with_reducible apply Keeps.skipCols) |
                  (with_reducible apply Keeps.startSlot) | (with_reducible apply Keeps.unseedAll) |
                  (with_reducible apply Keeps.updCap) | (with_reducible apply Keeps.updPwr) | (with_reducible apply Keeps.updSeq) |
                  (with_reducible apply Keeps.foldl) | (with_reducible apply Keeps.foldlSnd) | (with_reducible rfl) |
                  (simp only [fixedSizes, length_upd, List.length_map, List.length_zipIdx]; first | done | rfl) | split |
                  (intro _ _ _) | (with_reducible refine Keeps.set (by with_reducible assumption) ?_ ?_) | unfold a1 | unfold a2 |
                  unfold a3 | unfold a4 | unfold a5 | unfold a6 | unfold a7 | unfold a8 | unfold a9 | unfold a10 | unfold a11 |
                  unfold a12 | unfold a13 | unfold a14 | dsimp only

theorem Keeps.tickAt {s₀ s : State} (h : Keeps s₀ s) (k : Nat) (last : Bool) :
    Keeps s₀ (s.tickAt k last) := by
  unfold State.tickAt
  extract_lets a1 a2 a3 a4 a5 a6 a7 a8 a9 a10 a11 a12 a13 a14
  refine Keeps.step (s := a3) ?_ (fun ba3 => ?_); rotate_left; try clear_value a3
  refine Keeps.step (s := a4) ?_ (fun ba4 => ?_); rotate_left; try clear_value a4
  refine Keeps.step (s := a5) ?_ (fun ba5 => ?_); rotate_left; try clear_value a5
  refine Keeps.step (s := a6.2) ?_ (fun ba6 => ?_); rotate_left; try clear_value a6
  refine Keeps.step (s := a8) ?_ (fun ba8 => ?_); rotate_left; try clear_value a8
  refine Keeps.step (s := a10) ?_ (fun ba10 => ?_); rotate_left; try clear_value a10
  refine Keeps.step (s := a11) ?_ (fun ba11 => ?_); rotate_left; try clear_value a11
  refine Keeps.step (s := a13) ?_ (fun ba13 => ?_); rotate_left; try clear_value a13
  refine Keeps.step (s := a14) ?_ (fun ba14 => ?_); rotate_left; try clear_value a14
  repeat' first | with_reducible assumption | (with_reducible apply Keeps.applyFactors) | (with_reducible apply Keeps.armKnown) |
                  (with_reducible apply Keeps.armTick) | (with_reducible apply Keeps.boundaryDue) |
                  (with_reducible apply Keeps.capture) | (with_reducible apply Keeps.commitTick) | (with_reducible apply Keeps.hold) |
                  (with_reducible apply Keeps.lampTick) | (with_reducible apply Keeps.lateTick) |
                  (with_reducible apply Keeps.openBoundary) | (with_reducible apply Keeps.refuse) |
                  (with_reducible apply Keeps.spareTakeover) | (with_reducible apply Keeps.updCap) |
                  (with_reducible apply Keeps.updSeq) | (with_reducible rfl) |
                  (simp only [fixedSizes, length_upd, List.length_map, List.length_zipIdx]; first | done | rfl) | split |
                  (intro _ _ _) | (with_reducible refine Keeps.set (by with_reducible assumption) ?_ ?_) | unfold a1 | unfold a2 |
                  unfold a3 | unfold a4 | unfold a5 | unfold a6 | unfold a7 | unfold a8 | unfold a9 | unfold a10 | unfold a11 |
                  unfold a12 | unfold a13 | unfold a14 | dsimp only

theorem Keeps.raiseTick {s₀ s : State} (h : Keeps s₀ s) (k : Nat) :
    Keeps s₀ (s.raiseTick k) := by
  unfold State.raiseTick
  extract_lets a1 a2 a3 a4
  refine Keeps.step (s := a2) ?_ (fun ba2 => ?_); rotate_left; try clear_value a2
  refine Keeps.step (s := a3) ?_ (fun ba3 => ?_); rotate_left; try clear_value a3
  repeat' first | with_reducible assumption | (with_reducible apply Keeps.tickAt) | (with_reducible apply Keeps.updAsk) |
                  (with_reducible apply Keeps.foldl) | (with_reducible apply Keeps.foldlSnd) | (with_reducible rfl) |
                  (simp only [fixedSizes, length_upd, List.length_map, List.length_zipIdx]; first | done | rfl) | split |
                  (intro _ _ _) | (with_reducible refine Keeps.set (by with_reducible assumption) ?_ ?_) | unfold a1 | unfold a2 |
                  unfold a3 | unfold a4 | dsimp only

theorem Keeps.enterHold {s₀ s : State} (h : Keeps s₀ s) :
    Keeps s₀ (s.enterHold) := by
  unfold State.enterHold
  extract_lets a1
  refine Keeps.step (s := a1) ?_ (fun ba1 => ?_); rotate_left; try clear_value a1
  repeat' first | with_reducible assumption | (with_reducible apply Keeps.hold) | (with_reducible apply Keeps.raise) |
                  (with_reducible apply Keeps.updPwr) | (with_reducible apply Keeps.updSeq) | (with_reducible rfl) |
                  (simp only [fixedSizes, length_upd, List.length_map, List.length_zipIdx]; first | done | rfl) | split |
                  (intro _ _ _) | (with_reducible refine Keeps.set (by with_reducible assumption) ?_ ?_) | unfold a1 | dsimp only

theorem Keeps.flushRead {s₀ s : State} (h : Keeps s₀ s) (tests : List LaneTest) :
    Keeps s₀ (s.flushRead tests) := by
  unfold State.flushRead
  extract_lets a1 a2 a3
  refine Keeps.step (s := a2) ?_ (fun ba2 => ?_); rotate_left; try clear_value a2
  refine Keeps.step (s := a3) ?_ (fun ba3 => ?_); rotate_left; try clear_value a3
  repeat' first | with_reducible assumption | (with_reducible apply Keeps.count) | (with_reducible apply Keeps.hold) |
                  (with_reducible apply Keeps.laneTests) | (with_reducible apply Keeps.runWaves) |
                  (with_reducible apply Keeps.updSeq) | (with_reducible rfl) |
                  (simp only [fixedSizes, length_upd, List.length_map, List.length_zipIdx]; first | done | rfl) | split |
                  (intro _ _ _) | (with_reducible refine Keeps.set (by with_reducible assumption) ?_ ?_) | unfold a1 | unfold a2 |
                  unfold a3 | dsimp only

theorem Keeps.serveDeferred {s₀ s : State} (h : Keeps s₀ s) :
    Keeps s₀ (s.serveDeferred) := by
  unfold State.serveDeferred
  repeat' first | with_reducible assumption | (with_reducible apply Keeps.startSlot) | (with_reducible apply Keeps.updSeq) |
                  (with_reducible rfl) | (simp only [fixedSizes, length_upd, List.length_map, List.length_zipIdx]; first | done |
                  rfl) | split | (intro _ _ _) | (with_reducible refine Keeps.set (by with_reducible assumption) ?_ ?_) | dsimp only

theorem Keeps.enterIdle {s₀ s : State} (h : Keeps s₀ s) :
    Keeps s₀ (s.enterIdle) := by
  unfold State.enterIdle
  extract_lets a1
  refine Keeps.step (s := a1) ?_ (fun ba1 => ?_); rotate_left; try clear_value a1
  repeat' first | with_reducible assumption | (with_reducible apply Keeps.commitIdle) | (with_reducible apply Keeps.raise) |
                  (with_reducible apply Keeps.resumeIdle) | (with_reducible apply Keeps.updSeq) | (with_reducible rfl) |
                  (simp only [fixedSizes, length_upd, List.length_map, List.length_zipIdx]; first | done | rfl) | split |
                  (intro _ _ _) | (with_reducible refine Keeps.set (by with_reducible assumption) ?_ ?_) | unfold a1 | dsimp only

/-! ### Machine/Flags.lean -/

theorem Keeps.takeLoad {s₀ s : State} (h : Keeps s₀ s) :
    Keeps s₀ (s.takeLoad).2 := by
  unfold State.takeLoad
  extract_lets a1 a2
  refine Keeps.step (s := a1.2) ?_ (fun ba1 => ?_); rotate_left; try clear_value a1
  refine Keeps.step (s := a2.2) ?_ (fun ba2 => ?_); rotate_left; try clear_value a2
  repeat' first | with_reducible assumption | (with_reducible apply Keeps.takeFree) | (with_reducible rfl) |
                  (simp only [fixedSizes, length_upd, List.length_map, List.length_zipIdx]; first | done | rfl) | split |
                  (intro _ _ _) | (with_reducible refine Keeps.set (by with_reducible assumption) ?_ ?_) | unfold a1 | unfold a2 |
                  dsimp only

/-! ### Machine/HostOps.lean -/

theorem Keeps.updHost {s₀ s : State} (h : Keeps s₀ s) (f : HostSt → HostSt) (z : fixedSizes (s.updHost f) = fixedSizes s := by rfl) :
    Keeps s₀ (s.updHost f) := Keeps.set h rfl z

theorem Keeps.hostIndex {s₀ s : State} (h : Keeps s₀ s) (r : Nat) (v : Nat) :
    Keeps s₀ (s.hostIndex r v) := by
  unfold State.hostIndex
  extract_lets a1
  repeat' first | with_reducible assumption | (with_reducible apply Keeps.count) | (with_reducible apply Keeps.raise) |
                  (with_reducible apply Keeps.updRing) | (with_reducible rfl) |
                  (simp only [fixedSizes, length_upd, List.length_map, List.length_zipIdx]; first | done | rfl) | split |
                  (intro _ _ _) | (with_reducible refine Keeps.set (by with_reducible assumption) ?_ ?_) | unfold a1 | dsimp only

theorem Keeps.ringEnable {s₀ s : State} (h : Keeps s₀ s) (r : Nat) (n : Nat) :
    Keeps s₀ (s.ringEnable r n) := by
  unfold State.ringEnable
  repeat' first | with_reducible assumption | (with_reducible apply Keeps.updRing) | (with_reducible rfl) |
                  (simp only [fixedSizes, length_upd, List.length_map, List.length_zipIdx]; first | done | rfl) | split |
                  (intro _ _ _) | (with_reducible refine Keeps.set (by with_reducible assumption) ?_ ?_) | dsimp only

theorem Keeps.ringDisable {s₀ s : State} (h : Keeps s₀ s) (r : Nat) :
    Keeps s₀ (s.ringDisable r) := by
  unfold State.ringDisable
  repeat' first | with_reducible assumption | (with_reducible apply Keeps.updRing) | (with_reducible rfl) |
                  (simp only [fixedSizes, length_upd, List.length_map, List.length_zipIdx]; first | done | rfl) | split |
                  (intro _ _ _) | (with_reducible refine Keeps.set (by with_reducible assumption) ?_ ?_) | dsimp only

theorem Keeps.vecWrite {s₀ s : State} (h : Keeps s₀ s) (v : Nat) (word : Nat) (x : Nat) :
    Keeps s₀ (s.vecWrite v word x) := by
  unfold State.vecWrite
  extract_lets a1 a2
  refine Keeps.step (s := a2) ?_ (fun ba2 => ?_); rotate_left; try clear_value a2
  repeat' first | with_reducible assumption | (with_reducible apply Keeps.sendMsix) | (with_reducible apply Keeps.updHost) |
                  (with_reducible rfl) |
                  (simp only [fixedSizes, State.updHost, length_upd, List.length_map, List.length_zipIdx]; first | done | rfl) |
                  split | (intro _ _ _) | (with_reducible refine Keeps.set (by with_reducible assumption) ?_ ?_) | unfold a1 |
                  unfold a2 | dsimp only

theorem Keeps.mapClear {s₀ s : State} (h : Keeps s₀ s) (fault : Bool) (first : Nat) (v : Nat) :
    Keeps s₀ (s.mapClear fault first v) := by
  unfold State.mapClear
  repeat' first | with_reducible assumption | (with_reducible apply Keeps.updQueue) | (with_reducible apply Keeps.foldl) |
                  (with_reducible apply Keeps.foldlSnd) | (with_reducible rfl) |
                  (simp only [fixedSizes, length_upd, List.length_map, List.length_zipIdx]; first | done | rfl) | split |
                  (intro _ _ _) | (with_reducible refine Keeps.set (by with_reducible assumption) ?_ ?_) | dsimp only

theorem Keeps.reg4 {s₀ s : State} (h : Keeps s₀ s) (off : Nat) (v : Nat) :
    Keeps s₀ (s.reg4 off v) := by
  unfold State.reg4
  extract_lets a1 a2 a3 a4 a5
  refine Keeps.step (s := a4) ?_ (fun ba4 => ?_); rotate_left; try clear_value a4
  repeat' first | with_reducible assumption | (with_reducible apply Keeps.consWrite) | (with_reducible apply Keeps.grantWrite) |
                  (with_reducible apply Keeps.hostIndex) | (with_reducible apply Keeps.mapClear) |
                  (with_reducible apply Keeps.ringDisable) | (with_reducible apply Keeps.ringEnable) |
                  (with_reducible apply Keeps.updRing) | (with_reducible apply Keeps.vecWrite) | (with_reducible rfl) |
                  (simp only [fixedSizes, length_upd, List.length_map, List.length_zipIdx]; first | done | rfl) | split |
                  (intro _ _ _) | (with_reducible refine Keeps.set (by with_reducible assumption) ?_ ?_) | unfold a1 | unfold a2 |
                  unfold a3 | unfold a4 | unfold a5 | dsimp only

theorem Keeps.barBad {s₀ s : State} (h : Keeps s₀ s) (write : Bool) :
    Keeps s₀ (s.barBad write) := by
  unfold State.barBad
  extract_lets a1
  refine Keeps.step (s := a1) ?_ (fun ba1 => ?_); rotate_left; try clear_value a1
  repeat' first | with_reducible assumption | (with_reducible apply Keeps.count) | (with_reducible apply Keeps.updHost) |
                  (with_reducible rfl) |
                  (simp only [fixedSizes, State.updHost, length_upd, List.length_map, List.length_zipIdx]; first | done | rfl) |
                  split | (intro _ _ _) | (with_reducible refine Keeps.set (by with_reducible assumption) ?_ ?_) | unfold a1 |
                  dsimp only

theorem Keeps.regWrite {s₀ s : State} (h : Keeps s₀ s) (off : Nat) (size : Nat) (v : Nat) :
    Keeps s₀ (s.regWrite off size v) := by
  unfold State.regWrite
  extract_lets a1
  refine Keeps.step (s := a1) ?_ (fun ba1 => ?_); rotate_left; try clear_value a1
  repeat' first | with_reducible assumption | (with_reducible apply Keeps.barBad) | (with_reducible apply Keeps.reg4) |
                  (with_reducible rfl) | (simp only [fixedSizes, length_upd, List.length_map, List.length_zipIdx]; first | done |
                  rfl) | split | (intro _ _ _) | (with_reducible refine Keeps.set (by with_reducible assumption) ?_ ?_) | unfold a1 |
                  dsimp only

theorem Keeps.bar2Read {s₀ s : State} (h : Keeps s₀ s) (off : Nat) (n : Nat) :
    Keeps s₀ (s.bar2Read off n) := by
  unfold State.bar2Read
  extract_lets a1 a2 a3
  repeat' first | with_reducible assumption | (with_reducible apply Keeps.updHost) | (with_reducible rfl) |
                  (simp only [fixedSizes, State.updHost, length_upd, List.length_map, List.length_zipIdx]; first | done | rfl) |
                  split | (intro _ _ _) | (with_reducible refine Keeps.set (by with_reducible assumption) ?_ ?_) | unfold a1 |
                  unfold a2 | unfold a3 | dsimp only

theorem Keeps.bar2Write {s₀ s : State} (h : Keeps s₀ s) (off : Nat) (data : List Byte) :
    Keeps s₀ (s.bar2Write off data) := by
  unfold State.bar2Write
  extract_lets a1 a2 a3 a4
  refine Keeps.step (s := a4) ?_ (fun ba4 => ?_); rotate_left; try clear_value a4
  repeat' first | with_reducible assumption | (with_reducible apply Keeps.count) | (with_reducible apply Keeps.dramWrite) |
                  (with_reducible apply Keeps.raise) | (with_reducible apply Keeps.updCmp) | (with_reducible rfl) |
                  (simp only [fixedSizes, length_upd, List.length_map, List.length_zipIdx]; first | done | rfl) | split |
                  (intro _ _ _) | (with_reducible refine Keeps.set (by with_reducible assumption) ?_ ?_) | unfold a1 | unfold a2 |
                  unfold a3 | unfold a4 | dsimp only

theorem Keeps.waitRead {s₀ s : State} (h : Keeps s₀ s) (q : Nat) :
    Keeps s₀ (s.waitRead q) := by
  unfold State.waitRead
  extract_lets a1
  refine Keeps.step (s := a1) ?_ (fun ba1 => ?_); rotate_left; try clear_value a1
  repeat' first | with_reducible assumption | (with_reducible apply Keeps.checkQueue) | (with_reducible apply Keeps.updHost) |
                  (with_reducible apply Keeps.waitAnswer) | (with_reducible rfl) |
                  (simp only [fixedSizes, State.updHost, length_upd, List.length_map, List.length_zipIdx]; first | done | rfl) |
                  split | (intro _ _ _) | (with_reducible refine Keeps.set (by with_reducible assumption) ?_ ?_) | unfold a1 |
                  dsimp only

theorem Keeps.waitRelease {s₀ s : State} (h : Keeps s₀ s) (q : Nat) :
    Keeps s₀ (s.waitRelease q) := by
  unfold State.waitRelease
  extract_lets a1 a2
  refine Keeps.step (s := a2) ?_ (fun ba2 => ?_); rotate_left; try clear_value a2
  repeat' first | with_reducible assumption | (with_reducible apply Keeps.updHost) | (with_reducible apply Keeps.waitAnswer) |
                  (with_reducible apply Keeps.foldl) | (with_reducible apply Keeps.foldlSnd) | (with_reducible rfl) |
                  (simp only [fixedSizes, State.updHost, length_upd, List.length_map, List.length_zipIdx]; first | done | rfl) |
                  split | (intro _ _ _) | (with_reducible refine Keeps.set (by with_reducible assumption) ?_ ?_) | unfold a1 |
                  unfold a2 | dsimp only

theorem Keeps.waitExpire {s₀ s : State} (h : Keeps s₀ s) (q : Nat) :
    Keeps s₀ (s.waitExpire q) := by
  unfold State.waitExpire
  repeat' first | with_reducible assumption | (with_reducible apply Keeps.count) | (with_reducible apply Keeps.updHost) |
                  (with_reducible apply Keeps.waitAnswer) | (with_reducible rfl) |
                  (simp only [fixedSizes, State.updHost, length_upd, List.length_map, List.length_zipIdx]; first | done | rfl) |
                  split | (intro _ _ _) | (with_reducible refine Keeps.set (by with_reducible assumption) ?_ ?_) | dsimp only

theorem Keeps.completionWrite {s₀ s : State} (h : Keeps s₀ s) :
    Keeps s₀ (s.completionWrite) := by
  unfold State.completionWrite
  extract_lets a1 a2
  repeat' first | with_reducible assumption | (with_reducible apply Keeps.count) | (with_reducible apply Keeps.signal) |
                  (with_reducible apply Keeps.slotsWrite) | (with_reducible apply Keeps.updHost) | (with_reducible rfl) |
                  (simp only [fixedSizes, State.updHost, length_upd, List.length_map, List.length_zipIdx]; first | done | rfl) |
                  split | (intro _ _ _) | (with_reducible refine Keeps.set (by with_reducible assumption) ?_ ?_) | unfold a1 |
                  unfold a2 | dsimp only

theorem Keeps.eventsDrain {s₀ : State} : ∀ (n : Nat) {s : State} (_ : Keeps s₀ s), Keeps s₀ (s.eventsDrain n)
  | 0, _, h => h
  | n + 1, s, h => by
    unfold State.eventsDrain
    split
    · exact h
    · rename_i src _
      split
      · exact h
      · refine Keeps.eventsDrain n ?_
        have k : Keeps s₀ (((s.updHost (fun h => { h with evWait := h.evWait.erase src })).writeEvent src true).count .SYS_EVT_DELAYED) :=
          ((h.updHost _).writeEvent _ _).count _ _ _
        exact Keeps.ite ((k.updHost _).raise _ _) k

theorem Keeps.evtHoldEnd {s₀ s : State} (h : Keeps s₀ s) (src : Nat) :
    Keeps s₀ (s.evtHoldEnd src) := by
  unfold State.evtHoldEnd
  extract_lets a1 a2
  refine Keeps.step (s := a2) ?_ (fun ba2 => ?_); rotate_left; try clear_value a2
  repeat' first | with_reducible assumption | (with_reducible apply Keeps.readyEvent) | (with_reducible apply Keeps.updEv) |
                  (with_reducible rfl) | (simp only [fixedSizes, length_upd, List.length_map, List.length_zipIdx]; first | done |
                  rfl) | split | (intro _ _ _) | (with_reducible refine Keeps.set (by with_reducible assumption) ?_ ?_) | unfold a1 |
                  unfold a2 | dsimp only

theorem Keeps.irqHoldEnd {s₀ s : State} (h : Keeps s₀ s) (v : Nat) :
    Keeps s₀ (s.irqHoldEnd v) := by
  unfold State.irqHoldEnd
  extract_lets a1 a2
  refine Keeps.step (s := a2) ?_ (fun ba2 => ?_); rotate_left; try clear_value a2
  repeat' first | with_reducible assumption | (with_reducible apply Keeps.sendMsix) | (with_reducible apply Keeps.updHost) |
                  (with_reducible rfl) |
                  (simp only [fixedSizes, State.updHost, length_upd, List.length_map, List.length_zipIdx]; first | done | rfl) |
                  split | (intro _ _ _) | (with_reducible refine Keeps.set (by with_reducible assumption) ?_ ?_) | unfold a1 |
                  unfold a2 | dsimp only

theorem Keeps.linkDown {s₀ s : State} (h : Keeps s₀ s) (cause : Nat) :
    Keeps s₀ (s.linkDown cause) := by
  unfold State.linkDown
  extract_lets a1 a2 a3 a4
  refine Keeps.step (s := a1.2) ?_ (fun ba1 => ?_); rotate_left; try clear_value a1
  refine Keeps.step (s := a3) ?_ (fun ba3 => ?_); rotate_left; try clear_value a3
  refine Keeps.step (s := a4) ?_ (fun ba4 => ?_); rotate_left; try clear_value a4
  repeat' first | with_reducible assumption | (with_reducible apply Keeps.raise) | (with_reducible apply Keeps.takeFree) |
                  (with_reducible apply Keeps.updHost) | (with_reducible rfl) |
                  (simp only [fixedSizes, State.updHost, length_upd, List.length_map, List.length_zipIdx]; first | done | rfl) |
                  split | (intro _ _ _) | (with_reducible refine Keeps.set (by with_reducible assumption) ?_ ?_) | unfold a1 |
                  unfold a2 | unfold a3 | unfold a4 | dsimp only

theorem Keeps.linkFinish {s₀ s : State} (h : Keeps s₀ s) :
    Keeps s₀ (s.linkFinish) := by
  unfold State.linkFinish
  extract_lets a1 a2 a3 a4 a5
  refine Keeps.step (s := a3) ?_ (fun ba3 => ?_); rotate_left; try clear_value a3
  refine Keeps.step (s := a4) ?_ (fun ba4 => ?_); rotate_left; try clear_value a4
  refine Keeps.step (s := a5) ?_ (fun ba5 => ?_); rotate_left; try clear_value a5
  repeat' first | with_reducible assumption | (with_reducible apply Keeps.count) | (with_reducible apply Keeps.raise) |
                  (with_reducible apply Keeps.sendMsix) | (with_reducible apply Keeps.updHost) | (with_reducible apply Keeps.foldl) |
                  (with_reducible apply Keeps.foldlSnd) | (with_reducible rfl) |
                  (simp only [fixedSizes, State.updHost, length_upd, List.length_map, List.length_zipIdx]; first | done | rfl) |
                  split | (intro _ _ _) | (with_reducible refine Keeps.set (by with_reducible assumption) ?_ ?_) | unfold a1 |
                  unfold a2 | unfold a3 | unfold a4 | unfold a5 | dsimp only

theorem Keeps.linkBack {s₀ s : State} (h : Keeps s₀ s) (rate : Nat) (width : Nat) (msix : Bool) :
    Keeps s₀ (s.linkBack rate width msix) := by
  unfold State.linkBack
  extract_lets a1 a2
  refine Keeps.step (s := a1) ?_ (fun ba1 => ?_); rotate_left; try clear_value a1
  repeat' first | with_reducible assumption | (with_reducible apply Keeps.linkFinish) | (with_reducible apply Keeps.updHost) |
                  (with_reducible rfl) |
                  (simp only [fixedSizes, State.updHost, length_upd, List.length_map, List.length_zipIdx]; first | done | rfl) |
                  split | (intro _ _ _) | (with_reducible refine Keeps.set (by with_reducible assumption) ?_ ?_) | unfold a1 |
                  unfold a2 | dsimp only

theorem Keeps.hotReset {s₀ s : State} (h : Keeps s₀ s) :
    Keeps s₀ (s.hotReset) := by
  unfold State.hotReset
  extract_lets a1
  refine Keeps.step (s := a1) ?_ (fun ba1 => ?_); rotate_left; try clear_value a1
  repeat' first | with_reducible assumption | (with_reducible apply Keeps.linkDown) | (with_reducible apply Keeps.updHost) |
                  (with_reducible rfl) |
                  (simp only [fixedSizes, State.updHost, length_upd, List.length_map, List.length_zipIdx]; first | done | rfl) |
                  split | (intro _ _ _) | (with_reducible refine Keeps.set (by with_reducible assumption) ?_ ?_) | unfold a1 |
                  dsimp only

theorem Keeps.pmRequest {s₀ s : State} (h : Keeps s₀ s) :
    Keeps s₀ (s.pmRequest) := by
  unfold State.pmRequest
  repeat' first | with_reducible assumption | (with_reducible apply Keeps.count) | (with_reducible apply Keeps.linkDown) |
                  (with_reducible apply Keeps.raise) | (with_reducible rfl) |
                  (simp only [fixedSizes, length_upd, List.length_map, List.length_zipIdx]; first | done | rfl) | split |
                  (intro _ _ _) | (with_reducible refine Keeps.set (by with_reducible assumption) ?_ ?_) | dsimp only

theorem Keeps.dropWork {s₀ s : State} (h : Keeps s₀ s) (cid : Nat) :
    Keeps s₀ (s.dropWork cid) := by
  unfold State.dropWork
  extract_lets a1 a2 a3 a4 a5 a6 a7
  refine Keeps.step (s := a4) ?_ (fun ba4 => ?_); rotate_left; try clear_value a4
  refine Keeps.step (s := a7) ?_ (fun ba7 => ?_); rotate_left; try clear_value a7
  repeat' first | with_reducible assumption | (with_reducible apply Keeps.dropPend) | (with_reducible rfl) |
                  (simp only [fixedSizes, length_upd, List.length_map, List.length_zipIdx]; first | done | rfl) | split |
                  (intro _ _ _) | (with_reducible refine Keeps.set (by with_reducible assumption) ?_ ?_) | unfold a1 | unfold a2 |
                  unfold a3 | unfold a4 | unfold a5 | unfold a6 | unfold a7 | dsimp only

theorem Keeps.endWork {s₀ s : State} (h : Keeps s₀ s) :
    Keeps s₀ (s.endWork) := by
  unfold State.endWork
  extract_lets a1 a2 a3 a4 a5 a6 a7 a8 a9 a10 a11 a12
  refine Keeps.step (s := a6) ?_ (fun ba6 => ?_); rotate_left; try clear_value a6
  refine Keeps.step (s := a12) ?_ (fun ba12 => ?_); rotate_left; try clear_value a12
  repeat' first | with_reducible assumption | (with_reducible apply Keeps.updTb) | (with_reducible rfl) |
                  (simp only [fixedSizes, length_upd, List.length_map, List.length_zipIdx]; first | done | rfl) | split |
                  (intro _ _ _) | (with_reducible refine Keeps.set (by with_reducible assumption) ?_ ?_) | unfold a1 | unfold a2 |
                  unfold a3 | unfold a4 | unfold a5 | unfold a6 | unfold a7 | unfold a8 | unfold a9 | unfold a10 | unfold a11 |
                  unfold a12 | dsimp only

theorem Keeps.coresReset {s₀ s : State} (h : Keeps s₀ s) (cause : Nat) (own : Option Nat) :
    Keeps s₀ (s.coresReset cause own) := by
  unfold State.coresReset
  extract_lets a1
  refine Keeps.step (s := a1) ?_ (fun ba1 => ?_); rotate_left; try clear_value a1
  repeat' first | with_reducible assumption | (with_reducible apply Keeps.cutArm) | (with_reducible apply Keeps.dropShadows) |
                  (with_reducible apply Keeps.endWork) | (with_reducible apply Keeps.scanCores) |
                  (with_reducible apply Keeps.updHost) | (with_reducible rfl) |
                  (simp only [fixedSizes, State.updHost, length_upd, List.length_map, List.length_zipIdx]; first | done | rfl) |
                  split | (intro _ _ _) | (with_reducible refine Keeps.set (by with_reducible assumption) ?_ ?_) | unfold a1 |
                  dsimp only

theorem Keeps.coresRun {s₀ s : State} (h : Keeps s₀ s) :
    Keeps s₀ (s.coresRun) := by
  unfold State.coresRun
  extract_lets a1 a2 a3 a4 a5 a6
  refine Keeps.step (s := a4) ?_ (fun ba4 => ?_); rotate_left; try clear_value a4
  refine Keeps.step (s := a5) ?_ (fun ba5 => ?_); rotate_left; try clear_value a5
  refine Keeps.step (s := a6) ?_ (fun ba6 => ?_); rotate_left; try clear_value a6
  repeat' first | with_reducible assumption | (with_reducible apply Keeps.count) | (with_reducible apply Keeps.done) |
                  (with_reducible apply Keeps.raise) | (with_reducible apply Keeps.reply) | (with_reducible apply Keeps.updHost) |
                  (with_reducible apply Keeps.foldl) | (with_reducible apply Keeps.foldlSnd) | (with_reducible rfl) |
                  (simp only [fixedSizes, State.updHost, length_upd, List.length_map, List.length_zipIdx]; first | done | rfl) |
                  split | (intro _ _ _) | (with_reducible refine Keeps.set (by with_reducible assumption) ?_ ?_) | unfold a1 |
                  unfold a2 | unfold a3 | unfold a4 | unfold a5 | unfold a6 | dsimp only

theorem Keeps.dmaFail {s₀ s : State} (h : Keeps s₀ s) (r : Nat) (cmd : Option Nat) :
    Keeps s₀ (s.dmaFail r cmd) := by
  unfold State.dmaFail
  extract_lets a1
  refine Keeps.step (s := a1) ?_ (fun ba1 => ?_); rotate_left; try clear_value a1
  repeat' first | with_reducible assumption | (with_reducible apply Keeps.count) | (with_reducible apply Keeps.dropWork) |
                  (with_reducible apply Keeps.raise) | (with_reducible apply Keeps.reply) | (with_reducible apply Keeps.updRing) |
                  (with_reducible rfl) | (simp only [fixedSizes, length_upd, List.length_map, List.length_zipIdx]; first | done |
                  rfl) | split | (intro _ _ _) | (with_reducible refine Keeps.set (by with_reducible assumption) ?_ ?_) | unfold a1 |
                  dsimp only

theorem Keeps.flr {s₀ s : State} (h : Keeps s₀ s) :
    Keeps s₀ (s.flr) := by
  unfold State.flr
  extract_lets a1 a2 a3 a4 a5 a6 a7 a8 a9 a10 a11 a12 a13
  refine Keeps.step (s := a1) ?_ (fun ba1 => ?_); rotate_left; try clear_value a1
  refine Keeps.step (s := a3) ?_ (fun ba3 => ?_); rotate_left; try clear_value a3
  refine Keeps.step (s := a4) ?_ (fun ba4 => ?_); rotate_left; try clear_value a4
  refine Keeps.step (s := a5) ?_ (fun ba5 => ?_); rotate_left; try clear_value a5
  refine Keeps.step (s := a7) ?_ (fun ba7 => ?_); rotate_left; try clear_value a7
  refine Keeps.step (s := a11) ?_ (fun ba11 => ?_); rotate_left; try clear_value a11
  refine Keeps.step (s := a12) ?_ (fun ba12 => ?_); rotate_left; try clear_value a12
  refine Keeps.step (s := a13) ?_ (fun ba13 => ?_); rotate_left; try clear_value a13
  repeat' first | with_reducible assumption | (with_reducible apply Keeps.count) | (with_reducible apply Keeps.cutArm) |
                  (with_reducible apply Keeps.dropShadows) | (with_reducible apply Keeps.flushQueue) |
                  (with_reducible apply Keeps.ringDisable) | (with_reducible apply Keeps.updHost) |
                  (with_reducible apply Keeps.updQueue) | (with_reducible apply Keeps.foldl) | (with_reducible apply Keeps.foldlSnd) |
                  (with_reducible rfl) |
                  (simp only [fixedSizes, State.updHost, length_upd, List.length_map, List.length_zipIdx]; first | done | rfl) |
                  split | (intro _ _ _) | (with_reducible refine Keeps.set (by with_reducible assumption) ?_ ?_) | unfold a1 |
                  unfold a2 | unfold a3 | unfold a4 | unfold a5 | unfold a6 | unfold a7 | unfold a8 | unfold a9 | unfold a10 |
                  unfold a11 | unfold a12 | unfold a13 | dsimp only

end Sys2Proof.Machine
end

