-- ==== Sys2Proof/Laws/KeepsRows.lean ====
section
/-! SUPPORT. What every operation keeps: the rows' own operations. One lemma an operation. -/

set_option Elab.async false
set_option linter.all false
set_option linter.tactic.unusedName false

namespace Sys2Proof.Machine

/-! ### Machine/Cor.lean -/

theorem Keeps.updCor {s₀ s : State} (h : Keeps s₀ s) (f : CorSt → CorSt) (z : fixedSizes (s.updCor f) = fixedSizes s := by rfl) :
    Keeps s₀ (s.updCor f) := Keeps.set h rfl z

theorem Keeps.swapsReady {s₀ s : State} (h : Keeps s₀ s) :
    Keeps s₀ (s.swapsReady) := by
  unfold State.swapsReady
  repeat' first | with_reducible assumption | (with_reducible apply Keeps.prepared) | (with_reducible apply Keeps.foldl) |
                  (with_reducible apply Keeps.foldlSnd) | (with_reducible rfl) |
                  (simp only [fixedSizes, length_upd, List.length_map, List.length_zipIdx]; first | done | rfl) | split |
                  (intro _ _ _) | (with_reducible refine Keeps.set (by with_reducible assumption) ?_ ?_) | dsimp only

theorem Keeps.corLoaded {s₀ s : State} (h : Keeps s₀ s) :
    Keeps s₀ (s.corLoaded) := by
  unfold State.corLoaded
  repeat' first | with_reducible assumption | (with_reducible apply Keeps.badRecords) | (with_reducible apply Keeps.loadHalf) |
                  (with_reducible apply Keeps.noteResident) | (with_reducible apply Keeps.reply) |
                  (with_reducible apply Keeps.swapsReady) | (with_reducible apply Keeps.updCor) | (with_reducible apply Keeps.foldl) |
                  (with_reducible apply Keeps.foldlSnd) | (with_reducible rfl) |
                  (simp only [fixedSizes, State.updCor, length_upd, List.length_map, List.length_zipIdx]; first | done | rfl) | split |
                  (intro _ _ _) | (with_reducible refine Keeps.set (by with_reducible assumption) ?_ ?_) | dsimp only

theorem Keeps.factorsReady {s₀ s : State} (h : Keeps s₀ s) :
    Keeps s₀ (s.factorsReady) := by
  unfold State.factorsReady
  repeat' first | with_reducible assumption | (with_reducible apply Keeps.updCor) | (with_reducible rfl) |
                  (simp only [fixedSizes, State.updCor, length_upd, List.length_map, List.length_zipIdx]; first | done | rfl) | split |
                  (intro _ _ _) | (with_reducible refine Keeps.set (by with_reducible assumption) ?_ ?_) | dsimp only

theorem Keeps.corStored {s₀ s : State} (h : Keeps s₀ s) (ok : Bool) : Keeps s₀ (s.corStored ok) := by
  unfold State.corStored
  split
  · exact h
  · split
    · exact h.calStored _
    · rename_i x _
      have b : Keeps s₀ (s.updCor (fun c => { c with store := none })) := h.updCor _
      extract_lets a m bad
      change Keeps s₀ a at b
      clear_value a
      by_cases hr : x.restore = true
      · rw [if_pos hr]
        by_cases ho : (!ok) = true
        · rw [if_pos ho]
          exact b.reply _ _ _ _
        · rw [if_neg ho]
          have k := b.restoreSet x.slot x.flash
          refine Keeps.ite (k.reply _ _ _ _) ?_
          exact (k.badRecords _).reply _ _ _ _
      · rw [if_neg hr]
        exact Keeps.ite ((b.storeSet _ _).done _ _) ((b.raise _ _).reply _ _ _ _)

/-! ### Machine/Slots.lean -/

theorem Keeps.rewound {s₀ s t : State} {n m : Nat} (h : Keeps s₀ s) (k : Keeps { s with now := n } t) (hm : s₀.now ≤ m) :
    Keeps s₀ { t with now := m } :=
  ⟨k.1.trans h.1, hm, h.3.trans k.3, k.4 ∘ h.4, k.5 ∘ h.5, k.6 ∘ h.6, k.7 ∘ h.7, k.8 ∘ h.8, k.9 ∘ h.9⟩

theorem Keeps.memberTick {s₀ s : State} (h : Keeps s₀ s) (k : Nat) : Keeps s₀ (s.memberTick k) := by
  unfold State.memberTick
  split
  · exact h
  · rename_i x _
    extract_lets later a b c
    have ha : Keeps s₀ a := h.updAsk _
    clear_value a
    have hb : Keeps s₀ b := Keeps.ite ((ha.gapEnds k).updCap _) ha
    clear_value b
    refine Keeps.ite ha ?_
    exact hb.rewound ((Keeps.refl _).raiseTick k) ((h.now.trans (Nat.le_max_left ..)).trans (Nat.le_max_right ..))

theorem Keeps.memberGuess {s₀ s : State} (h : Keeps s₀ s) :
    Keeps s₀ (s.memberGuess) := by
  unfold State.memberGuess
  repeat' first | with_reducible assumption | (with_reducible apply Keeps.count) | (with_reducible apply Keeps.memberTick) |
                  (with_reducible rfl) | (simp only [fixedSizes, length_upd, List.length_map, List.length_zipIdx]; first | done |
                  rfl) | split | (intro _ _ _) | (with_reducible refine Keeps.set (by with_reducible assumption) ?_ ?_) | dsimp only

theorem Keeps.judgeMissing {s₀ s : State} (h : Keeps s₀ s) (line : Nat) (p : Nat) (video : List LaneVideo) :
    Keeps s₀ (s.judgeMissing line p video) := by
  unfold State.judgeMissing
  repeat' first | with_reducible assumption | (with_reducible apply Keeps.failTile) | (with_reducible apply Keeps.foldl) |
                  (with_reducible apply Keeps.foldlSnd) | (with_reducible rfl) |
                  (simp only [fixedSizes, length_upd, List.length_map, List.length_zipIdx]; first | done | rfl) | split |
                  (intro _ _ _) | (with_reducible refine Keeps.set (by with_reducible assumption) ?_ ?_) | dsimp only

theorem Keeps.snapServe {s₀ s : State} (h : Keeps s₀ s) (line : Nat) (tickAt : Nat) (l : Nat) (p : Nat) (o : LaneOut) :
    Keeps s₀ (s.snapServe line tickAt l p o) := by
  unfold State.snapServe
  extract_lets a1 a2 a3
  refine Keeps.step (s := a3) ?_ (fun ba3 => ?_); rotate_left; try clear_value a3
  repeat' first | with_reducible assumption | (with_reducible apply Keeps.done) | (with_reducible apply Keeps.hostWrite) |
                  (with_reducible apply Keeps.foldl) | (with_reducible apply Keeps.foldlSnd) | (with_reducible rfl) |
                  (simp only [fixedSizes, length_upd, List.length_map, List.length_zipIdx]; first | done | rfl) | split |
                  (intro _ _ _) | (with_reducible refine Keeps.set (by with_reducible assumption) ?_ ?_) | unfold a1 | unfold a2 |
                  unfold a3 | dsimp only

theorem Keeps.readSpare {s₀ s : State} (h : Keeps s₀ s) (p : Nat) (plan : PhasePlan) (video : List LaneVideo) (l : Nat) :
    Keeps s₀ (s.readSpare p plan video l) := by
  unfold State.readSpare
  extract_lets a1
  repeat' first | with_reducible assumption | (with_reducible apply Keeps.updSpare) | (with_reducible rfl) |
                  (simp only [fixedSizes, length_upd, List.length_map, List.length_zipIdx]; first | done | rfl) | split |
                  (intro _ _ _) | (with_reducible refine Keeps.set (by with_reducible assumption) ?_ ?_) | unfold a1 | dsimp only

theorem Keeps.settleSeen {s₀ s : State} (h : Keeps s₀ s) (l : Nat) (settling : Nat) :
    Keeps s₀ (s.settleSeen l settling) := by
  unfold State.settleSeen
  extract_lets a1 a2
  refine Keeps.step (s := a1) ?_ (fun ba1 => ?_); rotate_left; try clear_value a1
  repeat' first | with_reducible assumption | (with_reducible apply Keeps.raise) | (with_reducible rfl) |
                  (simp only [fixedSizes, length_upd, List.length_map, List.length_zipIdx]; first | done | rfl) | split |
                  (intro _ _ _) | (with_reducible refine Keeps.set (by with_reducible assumption) ?_ ?_) | unfold a1 | unfold a2 |
                  dsimp only

theorem Keeps.keepWords {s₀ s : State} (h : Keeps s₀ s) (x : Slot) (p : Nat) (l : Nat) (o : LaneOut) :
    Keeps s₀ (s.keepWords x p l o).2 := by
  unfold State.keepWords
  extract_lets a1 a2 a3
  refine Keeps.step (s := a1) ?_ (fun ba1 => ?_); rotate_left; try clear_value a1
  refine Keeps.step (s := a3) ?_ (fun ba3 => ?_); rotate_left; try clear_value a3
  repeat' first | with_reducible assumption | (with_reducible apply Keeps.countDefault) | (with_reducible apply Keeps.countSat) |
                  (with_reducible apply Keeps.settleSeen) | (with_reducible apply Keeps.skipCols) |
                  (with_reducible apply Keeps.snapServe) | (with_reducible apply Keeps.tickAt) | (with_reducible rfl) |
                  (simp only [fixedSizes, length_upd, List.length_map, List.length_zipIdx]; first | done | rfl) | split |
                  (intro _ _ _) | (with_reducible refine Keeps.set (by with_reducible assumption) ?_ ?_) | unfold a1 | unfold a2 |
                  unfold a3 | dsimp only

theorem Keeps.readLane {s₀ s : State} (h : Keeps s₀ s) (x : Slot) (p : Nat) (plan : PhasePlan) (video : List LaneVideo) (l : Nat) :
    Keeps s₀ (s.readLane x p plan video l).2 := by
  unfold State.readLane
  extract_lets a1 a2 a3
  refine Keeps.step (s := a3) ?_ (fun ba3 => ?_); rotate_left; try clear_value a3
  repeat' first | with_reducible assumption | (with_reducible apply Keeps.count) | (with_reducible apply Keeps.keepWords) |
                  (with_reducible apply Keeps.lanePixels) | (with_reducible apply Keeps.readSpare) | (with_reducible rfl) |
                  (simp only [fixedSizes, length_upd, List.length_map, List.length_zipIdx]; first | done | rfl) | split |
                  (intro _ _ _) | (with_reducible refine Keeps.set (by with_reducible assumption) ?_ ?_) | unfold a1 | unfold a2 |
                  unfold a3 | dsimp only

theorem Keeps.readPhase {s₀ s : State} (h : Keeps s₀ s) (x : Slot) (p : Nat) (plan : PhasePlan) (video : List LaneVideo) :
    Keeps s₀ (s.readPhase x p plan video) := by
  unfold State.readPhase
  extract_lets a1 a2 a3 a4
  refine Keeps.step (s := a1) ?_ (fun ba1 => ?_); rotate_left; try clear_value a1
  refine Keeps.step (s := a2.2) ?_ (fun ba2 => ?_); rotate_left; try clear_value a2
  refine Keeps.step (s := a3) ?_ (fun ba3 => ?_); rotate_left; try clear_value a3
  refine Keeps.step (s := a4.2) ?_ (fun ba4 => ?_); rotate_left; try clear_value a4
  repeat' first | with_reducible assumption | (with_reducible apply Keeps.addSubLine) | (with_reducible apply Keeps.judgeMissing) |
                  (with_reducible apply Keeps.readLane) | (with_reducible apply Keeps.takeTag) | (with_reducible apply Keeps.foldl) |
                  (with_reducible apply Keeps.foldlSnd) | (with_reducible rfl) |
                  (simp only [fixedSizes, length_upd, List.length_map, List.length_zipIdx]; first | done | rfl) | split |
                  (intro _ _ _) | (with_reducible refine Keeps.set (by with_reducible assumption) ?_ ?_) | unfold a1 | unfold a2 |
                  unfold a3 | unfold a4 | dsimp only

/-! ### Machine/Cap.lean -/

theorem Keeps.runClosed {s₀ s : State} (h : Keeps s₀ s) :
    Keeps s₀ (s.runClosed) := by
  unfold State.runClosed
  extract_lets a1 a2 a3 a4 a5 a6
  refine Keeps.step (s := a1) ?_ (fun ba1 => ?_); rotate_left; try clear_value a1
  refine Keeps.step (s := a2) ?_ (fun ba2 => ?_); rotate_left; try clear_value a2
  refine Keeps.step (s := a4) ?_ (fun ba4 => ?_); rotate_left; try clear_value a4
  refine Keeps.step (s := a5) ?_ (fun ba5 => ?_); rotate_left; try clear_value a5
  refine Keeps.step (s := a6) ?_ (fun ba6 => ?_); rotate_left; try clear_value a6
  repeat' first | with_reducible assumption | (with_reducible apply Keeps.bandsClose) | (with_reducible apply Keeps.commitIdle) |
                  (with_reducible apply Keeps.compareAll) | (with_reducible apply Keeps.emitAll) |
                  (with_reducible apply Keeps.episodeEntry) | (with_reducible apply Keeps.gapSealed) |
                  (with_reducible apply Keeps.imgSettle) | (with_reducible apply Keeps.raise) | (with_reducible apply Keeps.replyAt) |
                  (with_reducible apply Keeps.sealMap) | (with_reducible apply Keeps.testAfterRun) |
                  (with_reducible apply Keeps.updCap) | (with_reducible apply Keeps.updPwr) | (with_reducible apply Keeps.updSeq) |
                  (with_reducible rfl) | (simp only [fixedSizes, length_upd, List.length_map, List.length_zipIdx]; first | done |
                  rfl) | split | (intro _ _ _) | (with_reducible refine Keeps.set (by with_reducible assumption) ?_ ?_) | unfold a1 |
                  unfold a2 | unfold a3 | unfold a4 | unfold a5 | unfold a6 | dsimp only

theorem Keeps.armJob {s₀ s : State} (h : Keeps s₀ s) (cid : Nat) (c : Cmd) :
    Keeps s₀ (s.armJob cid c) := by
  unfold State.armJob
  extract_lets a1 a2 a3 a4 a5 a6 a7 a8
  refine Keeps.step (s := a6) ?_ (fun ba6 => ?_); rotate_left; try clear_value a6
  refine Keeps.step (s := a7) ?_ (fun ba7 => ?_); rotate_left; try clear_value a7
  repeat' first | with_reducible assumption | (with_reducible apply Keeps.accept) | (with_reducible apply Keeps.armArrives) |
                  (with_reducible apply Keeps.jobSwitch) | (with_reducible apply Keeps.noteResident) |
                  (with_reducible apply Keeps.startUpload) | (with_reducible apply Keeps.updAsk) |
                  (with_reducible apply Keeps.updCap) | (with_reducible apply Keeps.foldl) | (with_reducible apply Keeps.foldlSnd) |
                  (with_reducible rfl) | (simp only [fixedSizes, length_upd, List.length_map, List.length_zipIdx]; first | done |
                  rfl) | split | (intro _ _ _) | (with_reducible refine Keeps.set (by with_reducible assumption) ?_ ?_) | unfold a1 |
                  unfold a2 | unfold a3 | unfold a4 | unfold a5 | unfold a6 | unfold a7 | unfold a8 | dsimp only

theorem Keeps.covRead {s₀ s : State} (h : Keeps s₀ s) (cid : Nat) (which : Bool) (addr : Nat) (size : Nat) :
    Keeps s₀ (s.covRead cid which addr size) := by
  unfold State.covRead
  extract_lets a1 a2
  repeat' first | with_reducible assumption | (with_reducible apply Keeps.done) | (with_reducible apply Keeps.hostWrite) |
                  (with_reducible rfl) | (simp only [fixedSizes, length_upd, List.length_map, List.length_zipIdx]; first | done |
                  rfl) | split | (intro _ _ _) | (with_reducible refine Keeps.set (by with_reducible assumption) ?_ ?_) | unfold a1 |
                  unfold a2 | dsimp only

/-! ### Machine/Hq.lean -/

theorem Keeps.updHq {s₀ s : State} (h : Keeps s₀ s) (f : HqSt → HqSt) :
    Keeps s₀ (s.updHq f) := by
  unfold State.updHq
  repeat' first | with_reducible assumption | (with_reducible rfl) |
                  (simp only [fixedSizes, length_upd, List.length_map, List.length_zipIdx]; first | done | rfl) | split |
                  (intro _ _ _) | (with_reducible refine Keeps.set (by with_reducible assumption) ?_ ?_) | dsimp only

theorem Keeps.queueSetup {s₀ s : State} (h : Keeps s₀ s) (c : Cmd) :
    Keeps s₀ (s.queueSetup c) := by
  unfold State.queueSetup
  repeat' first | with_reducible assumption | (with_reducible apply Keeps.updQueue) | (with_reducible rfl) |
                  (simp only [fixedSizes, length_upd, List.length_map, List.length_zipIdx]; first | done | rfl) | split |
                  (intro _ _ _) | (with_reducible refine Keeps.set (by with_reducible assumption) ?_ ?_) | dsimp only

theorem Keeps.queueStale {s₀ s : State} (h : Keeps s₀ s) (q : Nat) :
    Keeps s₀ (s.queueStale q) := by
  unfold State.queueStale
  extract_lets a1
  repeat' first | with_reducible assumption | (with_reducible apply Keeps.raise) | (with_reducible apply Keeps.updQueue) |
                  (with_reducible rfl) | (simp only [fixedSizes, length_upd, List.length_map, List.length_zipIdx]; first | done |
                  rfl) | split | (intro _ _ _) | (with_reducible refine Keeps.set (by with_reducible assumption) ?_ ?_) | unfold a1 |
                  dsimp only

theorem Keeps.replayRange {s₀ s : State} (h : Keeps s₀ s) (c : Cmd) :
    Keeps s₀ (s.replayRange c).2.2 := by
  unfold State.replayRange
  extract_lets a1 a2 a3 a4 a5 a6
  refine Keeps.step (s := a6.2) ?_ (fun ba6 => ?_); rotate_left; try clear_value a6
  repeat' first | with_reducible assumption | (with_reducible apply Keeps.takeFree) | (with_reducible rfl) |
                  (simp only [fixedSizes, length_upd, List.length_map, List.length_zipIdx]; first | done | rfl) | split |
                  (intro _ _ _) | (with_reducible refine Keeps.set (by with_reducible assumption) ?_ ?_) | unfold a1 | unfold a2 |
                  unfold a3 | unfold a4 | unfold a5 | unfold a6 | dsimp only

theorem Keeps.replayStart {s₀ s : State} (h : Keeps s₀ s) (cid : Nat) (c : Cmd) :
    Keeps s₀ (s.replayStart cid c) := by
  unfold State.replayStart
  extract_lets a1 a2 a3 a4 a5 a6 a7 a8 a9 a10
  first | (refine Keeps.step (s := a1) ?_ (fun ba1 => ?_); rotate_left; try clear_value a1) | (refine Keeps.step (s := a1.2) ?_ (fun ba1 => ?_); rotate_left; try clear_value a1) | skip
  refine Keeps.step (s := a2) ?_ (fun ba2 => ?_); rotate_left; try clear_value a2
  refine Keeps.step (s := a7) ?_ (fun ba7 => ?_); rotate_left; try clear_value a7
  repeat' first | with_reducible assumption | (with_reducible apply Keeps.defer) | (with_reducible apply Keeps.replayRange) |
                  (with_reducible apply Keeps.reply) | (with_reducible apply Keeps.updHq) | (with_reducible rfl) |
                  (simp only [fixedSizes, length_upd, List.length_map, List.length_zipIdx]; first | done | rfl) | split |
                  (intro _ _ _) | (with_reducible refine Keeps.set (by with_reducible assumption) ?_ ?_) | unfold a1 | unfold a2 |
                  unfold a3 | unfold a4 | unfold a5 | unfold a6 | unfold a7 | unfold a8 | unfold a9 | unfold a10 | dsimp only

theorem Keeps.replayCopied {s₀ s : State} (h : Keeps s₀ s) :
    Keeps s₀ (s.replayCopied) := by
  unfold State.replayCopied
  repeat' first | with_reducible assumption | (with_reducible apply Keeps.copyReplay) | (with_reducible rfl) |
                  (simp only [fixedSizes, length_upd, List.length_map, List.length_zipIdx]; first | done | rfl) | split |
                  (intro _ _ _) | (with_reducible refine Keeps.set (by with_reducible assumption) ?_ ?_) | dsimp only

theorem Keeps.clearQueueCounters {s₀ s : State} (h : Keeps s₀ s) (mask : Nat) :
    Keeps s₀ (s.clearQueueCounters mask) := by
  unfold State.clearQueueCounters
  extract_lets a1
  refine Keeps.step (s := a1) ?_ (fun ba1 => ?_); rotate_left; try clear_value a1
  repeat' first | with_reducible assumption | (with_reducible apply Keeps.clearCounters) | (with_reducible apply Keeps.updQueue) |
                  (with_reducible apply Keeps.foldl) | (with_reducible apply Keeps.foldlSnd) | (with_reducible rfl) |
                  (simp only [fixedSizes, length_upd, List.length_map, List.length_zipIdx]; first | done | rfl) | split |
                  (intro _ _ _) | (with_reducible refine Keeps.set (by with_reducible assumption) ?_ ?_) | unfold a1 | dsimp only

/-! ### Machine/Cmp.lean -/

theorem Keeps.cmpSet {s₀ s : State} (h : Keeps s₀ s) (cid : Nat) (c : Cmd) (ctx : Ctx) :
    Keeps s₀ (s.cmpSet cid c ctx) := by
  unfold State.cmpSet
  repeat' first | with_reducible assumption | (with_reducible apply Keeps.done) | (with_reducible apply Keeps.submit) |
                  (with_reducible apply Keeps.updCmp) | (with_reducible rfl) |
                  (simp only [fixedSizes, length_upd, List.length_map, List.length_zipIdx]; first | done | rfl) | split |
                  (intro _ _ _) | (with_reducible refine Keeps.set (by with_reducible assumption) ?_ ?_) | dsimp only

theorem Keeps.refCheckEnds {s₀ s : State} (h : Keeps s₀ s) :
    Keeps s₀ (s.refCheckEnds) := by
  unfold State.refCheckEnds
  repeat' first | with_reducible assumption | (with_reducible apply Keeps.noteResident) | (with_reducible apply Keeps.refChecked) |
                  (with_reducible apply Keeps.updCmp) | (with_reducible rfl) |
                  (simp only [fixedSizes, length_upd, List.length_map, List.length_zipIdx]; first | done | rfl) | split |
                  (intro _ _ _) | (with_reducible refine Keeps.set (by with_reducible assumption) ?_ ?_) | dsimp only

theorem Keeps.hatchLoaded {s₀ s : State} (h : Keeps s₀ s) :
    Keeps s₀ (s.hatchLoaded) := by
  unfold State.hatchLoaded
  extract_lets a1
  refine Keeps.step (s := a1) ?_ (fun ba1 => ?_); rotate_left; try clear_value a1
  repeat' first | with_reducible assumption | (with_reducible apply Keeps.done) | (with_reducible apply Keeps.noteResident) |
                  (with_reducible apply Keeps.ok) | (with_reducible apply Keeps.reply) | (with_reducible apply Keeps.updCmp) |
                  (with_reducible apply Keeps.foldl) | (with_reducible apply Keeps.foldlSnd) | (with_reducible rfl) |
                  (simp only [fixedSizes, length_upd, List.length_map, List.length_zipIdx]; first | done | rfl) | split |
                  (intro _ _ _) | (with_reducible refine Keeps.set (by with_reducible assumption) ?_ ?_) | unfold a1 | dsimp only

/-! ### Machine/Lmp.lean -/

theorem Keeps.barSet {s₀ s : State} (h : Keeps s₀ s) (cid : Nat) (c : Cmd) (ctx : Ctx) :
    Keeps s₀ (s.barSet cid c ctx) := by
  unfold State.barSet
  extract_lets a1
  repeat' first | with_reducible assumption | (with_reducible apply Keeps.barMode) | (with_reducible apply Keeps.submit) |
                  (with_reducible rfl) | (simp only [fixedSizes, length_upd, List.length_map, List.length_zipIdx]; first | done |
                  rfl) | split | (intro _ _ _) | (with_reducible refine Keeps.set (by with_reducible assumption) ?_ ?_) | unfold a1 |
                  dsimp only

theorem Keeps.appliesReady {s₀ s : State} (h : Keeps s₀ s) :
    Keeps s₀ (s.appliesReady) := by
  unfold State.appliesReady
  repeat' first | with_reducible assumption | (with_reducible apply Keeps.prepared) | (with_reducible apply Keeps.foldl) |
                  (with_reducible apply Keeps.foldlSnd) | (with_reducible rfl) |
                  (simp only [fixedSizes, length_upd, List.length_map, List.length_zipIdx]; first | done | rfl) | split |
                  (intro _ _ _) | (with_reducible refine Keeps.set (by with_reducible assumption) ?_ ?_) | dsimp only

theorem Keeps.uploadDone {s₀ s : State} (h : Keeps s₀ s) (b : Nat) :
    Keeps s₀ (s.uploadDone b) := by
  unfold State.uploadDone
  repeat' first | with_reducible assumption | (with_reducible apply Keeps.appliesReady) | (with_reducible apply Keeps.noteResident) |
                  (with_reducible apply Keeps.updBar) | (with_reducible rfl) |
                  (simp only [fixedSizes, length_upd, List.length_map, List.length_zipIdx]; first | done | rfl) | split |
                  (intro _ _ _) | (with_reducible refine Keeps.set (by with_reducible assumption) ?_ ?_) | dsimp only

theorem Keeps.lateP64 {s₀ s : State} (h : Keeps s₀ s) (b : Nat) :
    Keeps s₀ (s.lateP64 b) := by
  unfold State.lateP64
  repeat' first | with_reducible assumption | (with_reducible apply Keeps.lateDone) | (with_reducible apply Keeps.switchPart) |
                  (with_reducible apply Keeps.updCap) | (with_reducible rfl) |
                  (simp only [fixedSizes, length_upd, List.length_map, List.length_zipIdx]; first | done | rfl) | split |
                  (intro _ _ _) | (with_reducible refine Keeps.set (by with_reducible assumption) ?_ ?_) | dsimp only

theorem Keeps.p64Latched {s₀ s : State} (h : Keeps s₀ s) (b : Nat) :
    Keeps s₀ (s.p64Latched b) := by
  unfold State.p64Latched
  extract_lets a1 a2
  refine Keeps.step (s := a1) ?_ (fun ba1 => ?_); rotate_left; try clear_value a1
  repeat' first | with_reducible assumption | (with_reducible apply Keeps.lateP64) | (with_reducible apply Keeps.replyAt) |
                  (with_reducible apply Keeps.syncSelect) | (with_reducible apply Keeps.foldl) |
                  (with_reducible apply Keeps.foldlSnd) | (with_reducible rfl) |
                  (simp only [fixedSizes, length_upd, List.length_map, List.length_zipIdx]; first | done | rfl) | split |
                  (intro _ _ _) | (with_reducible refine Keeps.set (by with_reducible assumption) ?_ ?_) | unfold a1 | unfold a2 |
                  dsimp only

theorem Keeps.readsDone {s₀ s : State} (h : Keeps s₀ s) (b : Nat) :
    Keeps s₀ (s.readsDone b) := by
  unfold State.readsDone
  extract_lets a1 a2 a3 a4
  refine Keeps.step (s := a4) ?_ (fun ba4 => ?_); rotate_left; try clear_value a4
  repeat' first | with_reducible assumption | (with_reducible apply Keeps.count) | (with_reducible apply Keeps.done) |
                  (with_reducible apply Keeps.foldl) | (with_reducible apply Keeps.foldlSnd) | (with_reducible rfl) |
                  (simp only [fixedSizes, length_upd, List.length_map, List.length_zipIdx]; first | done | rfl) | split |
                  (intro _ _ _) | (with_reducible refine Keeps.set (by with_reducible assumption) ?_ ?_) | unfold a1 | unfold a2 |
                  unfold a3 | unfold a4 | dsimp only

theorem Keeps.chainFrame {s₀ s : State} (h : Keeps s₀ s) (b : Nat) (status : List Nat) :
    Keeps s₀ (s.chainFrame b status) := by
  unfold State.chainFrame
  repeat' first | with_reducible assumption | (with_reducible apply Keeps.frameLatch) | (with_reducible apply Keeps.readsDone) |
                  (with_reducible rfl) | (simp only [fixedSizes, length_upd, List.length_map, List.length_zipIdx]; first | done |
                  rfl) | split | (intro _ _ _) | (with_reducible refine Keeps.set (by with_reducible assumption) ?_ ?_) | dsimp only

theorem Keeps.discovered {s₀ s : State} (h : Keeps s₀ s) (b : Nat) (delays : List Nat) (ids : List Nat) :
    Keeps s₀ (s.discovered b delays ids) := by
  unfold State.discovered
  extract_lets a1 a2 a3
  refine Keeps.step (s := a1) ?_ (fun ba1 => ?_); rotate_left; try clear_value a1
  repeat' first | with_reducible assumption | (with_reducible apply Keeps.barMode) | (with_reducible apply Keeps.committed) |
                  (with_reducible apply Keeps.replyAt) | (with_reducible apply Keeps.updBar) | (with_reducible rfl) |
                  (simp only [fixedSizes, length_upd, List.length_map, List.length_zipIdx]; first | done | rfl) | split |
                  (intro _ _ _) | (with_reducible refine Keeps.set (by with_reducible assumption) ?_ ?_) | unfold a1 | unfold a2 |
                  unfold a3 | dsimp only

theorem Keeps.diagDone {s₀ s : State} (h : Keeps s₀ s) (b : Nat) (opens : List Nat) (shorts : List Nat) (leaks1 : List Nat) (leaks2 : List Nat) :
    Keeps s₀ (s.diagDone b opens shorts leaks1 leaks2) := by
  unfold State.diagDone
  extract_lets a1 a2
  first | (refine Keeps.step (s := a2) ?_ (fun ba2 => ?_); rotate_left; try clear_value a2) | (refine Keeps.step (s := a2.2) ?_ (fun ba2 => ?_); rotate_left; try clear_value a2) | skip
  repeat' first | with_reducible assumption | (with_reducible apply Keeps.count) | (with_reducible apply Keeps.newFaults) |
                  (with_reducible apply Keeps.replyAt) | (with_reducible apply Keeps.updBar) | (with_reducible apply Keeps.foldl) |
                  (with_reducible apply Keeps.foldlSnd) | (with_reducible rfl) |
                  (simp only [fixedSizes, length_upd, List.length_map, List.length_zipIdx]; first | done | rfl) | split |
                  (intro _ _ _) | (with_reducible refine Keeps.set (by with_reducible assumption) ?_ ?_) | unfold a1 | unfold a2 |
                  dsimp only

/-! ### Machine/Mot.lean -/

theorem Keeps.burinEvent {s₀ s : State} (h : Keeps s₀ s) (a : Nat) :
    Keeps s₀ (s.burinEvent a) := by
  unfold State.burinEvent
  repeat' first | with_reducible assumption | (with_reducible apply Keeps.burin) | (with_reducible apply Keeps.calAxis) |
                  (with_reducible apply Keeps.gearStep) | (with_reducible rfl) |
                  (simp only [fixedSizes, length_upd, List.length_map, List.length_zipIdx]; first | done | rfl) | split |
                  (intro _ _ _) | (with_reducible refine Keeps.set (by with_reducible assumption) ?_ ?_) | dsimp only

theorem Keeps.chopperTrip {s₀ s : State} (h : Keeps s₀ s) (a : Nat) (coil : Nat) :
    Keeps s₀ (s.chopperTrip a coil) := by
  unfold State.chopperTrip
  extract_lets a1 a2 a3 a4
  refine Keeps.step (s := a4) ?_ (fun ba4 => ?_); rotate_left; try clear_value a4
  repeat' first | with_reducible assumption | (with_reducible apply Keeps.axisShort) | (with_reducible apply Keeps.coilOff) |
                  (with_reducible apply Keeps.homeOnTime) | (with_reducible apply Keeps.updCoil) | (with_reducible rfl) |
                  (simp only [fixedSizes, length_upd, List.length_map, List.length_zipIdx]; first | done | rfl) | split |
                  (intro _ _ _) | (with_reducible refine Keeps.set (by with_reducible assumption) ?_ ?_) | unfold a1 | unfold a2 |
                  unfold a3 | unfold a4 | dsimp only

/-! ### Machine/Pos.lean -/

theorem Keeps.gearAll {s₀ s : State} (h : Keeps s₀ s) (k : Nat) :
    Keeps s₀ (s.gearAll k) := by
  unfold State.gearAll
  repeat' first | with_reducible assumption | (with_reducible apply Keeps.gearSample) | (with_reducible apply Keeps.foldl) |
                  (with_reducible apply Keeps.foldlSnd) | (with_reducible rfl) |
                  (simp only [fixedSizes, length_upd, List.length_map, List.length_zipIdx]; first | done | rfl) | split |
                  (intro _ _ _) | (with_reducible refine Keeps.set (by with_reducible assumption) ?_ ?_) | dsimp only

theorem Keeps.positionSample {s₀ s : State} (h : Keeps s₀ s) (x : EncSample) :
    Keeps s₀ (s.positionSample x) := by
  unfold State.positionSample
  repeat' first | with_reducible assumption | (with_reducible apply Keeps.encSample) | (with_reducible apply Keeps.gearAll) |
                  (with_reducible rfl) | (simp only [fixedSizes, length_upd, List.length_map, List.length_zipIdx]; first | done |
                  rfl) | split | (intro _ _ _) | (with_reducible refine Keeps.set (by with_reducible assumption) ?_ ?_) | dsimp only

theorem Keeps.inputEdge {s₀ s : State} (h : Keeps s₀ s) (e : EdgeObs) :
    Keeps s₀ (s.inputEdge e) := by
  unfold State.inputEdge
  extract_lets a1 a2 a3 a4
  refine Keeps.step (s := a1.2) ?_ (fun ba1 => ?_); rotate_left; try clear_value a1
  refine Keeps.step (s := a2.2) ?_ (fun ba2 => ?_); rotate_left; try clear_value a2
  first | (refine Keeps.step (s := a3) ?_ (fun ba3 => ?_); rotate_left; try clear_value a3) | (refine Keeps.step (s := a3.2) ?_ (fun ba3 => ?_); rotate_left; try clear_value a3) | skip
  refine Keeps.step (s := a4) ?_ (fun ba4 => ?_); rotate_left; try clear_value a4
  repeat' first | with_reducible assumption | (with_reducible apply Keeps.admitEdge) | (with_reducible apply Keeps.armKnown) |
                  (with_reducible apply Keeps.mark) | (with_reducible apply Keeps.takeFree) | (with_reducible apply Keeps.tdcEdges) |
                  (with_reducible apply Keeps.foldl) | (with_reducible apply Keeps.foldlSnd) | (with_reducible rfl) |
                  (simp only [fixedSizes, length_upd, List.length_map, List.length_zipIdx]; first | done | rfl) | split |
                  (intro _ _ _) | (with_reducible refine Keeps.set (by with_reducible assumption) ?_ ?_) | unfold a1 | unfold a2 |
                  unfold a3 | unfold a4 | dsimp only

theorem Keeps.timeSet {s₀ s : State} (h : Keeps s₀ s) (cid : Nat) (c : Cmd) (ctx : Ctx) :
    Keeps s₀ (s.timeSet cid c ctx) := by
  unfold State.timeSet
  extract_lets a1 a2 a3
  refine Keeps.step (s := a3) ?_ (fun ba3 => ?_); rotate_left; try clear_value a3
  repeat' first | with_reducible assumption | (with_reducible apply Keeps.submit) | (with_reducible rfl) |
                  (simp only [fixedSizes, length_upd, List.length_map, List.length_zipIdx]; first | done | rfl) | split |
                  (intro _ _ _) | (with_reducible refine Keeps.set (by with_reducible assumption) ?_ ?_) | unfold a1 | unfold a2 |
                  unfold a3 | dsimp only

theorem Keeps.ppsIn {s₀ s : State} (h : Keeps s₀ s) (stamp : Nat) : Keeps s₀ (s.ppsIn stamp) := by
  unfold State.ppsIn
  have k := h.performLoad stamp
  split
  · exact h
  · split
    · next e =>
      rw [e] at k
      exact (k.loadReply _).ppsEdge _
    · next e =>
      rw [e] at k
      exact k.ppsEdge _

/-! ### Machine/Auxm.lean -/

theorem Keeps.inject {s₀ s : State} (h : Keeps s₀ s) (cid : Nat) (c : Cmd) :
    Keeps s₀ (s.inject cid c) := by
  unfold State.inject
  extract_lets a1 a2
  repeat' first | with_reducible assumption | (with_reducible apply Keeps.count) | (with_reducible apply Keeps.defer) |
                  (with_reducible apply Keeps.injectNow) | (with_reducible apply Keeps.reply) | (with_reducible apply Keeps.updAux) |
                  (with_reducible rfl) |
                  (simp only [fixedSizes, State.updAux, length_upd, List.length_map, List.length_zipIdx]; first | done | rfl) | split |
                  (intro _ _ _) | (with_reducible refine Keeps.set (by with_reducible assumption) ?_ ?_) | unfold a1 | unfold a2 |
                  dsimp only

theorem Keeps.auxCal {s₀ s : State} (h : Keeps s₀ s) (cid : Nat) (c : Cmd) (ctx : Ctx) :
    Keeps s₀ (s.auxCal cid c ctx) := by
  unfold State.auxCal
  extract_lets a1
  refine Keeps.step (s := a1) ?_ (fun ba1 => ?_); rotate_left; try clear_value a1
  repeat' first | with_reducible assumption | (with_reducible apply Keeps.inject) | (with_reducible apply Keeps.submit) |
                  (with_reducible apply Keeps.updAux) | (with_reducible rfl) |
                  (simp only [fixedSizes, State.updAux, length_upd, List.length_map, List.length_zipIdx]; first | done | rfl) | split |
                  (intro _ _ _) | (with_reducible refine Keeps.set (by with_reducible assumption) ?_ ?_) | unfold a1 | dsimp only

theorem Keeps.auxCalCapture {s₀ s : State} (h : Keeps s₀ s) (nv : List Int) : Keeps s₀ (s.auxCalCapture nv) := by
  unfold State.auxCalCapture
  generalize s.aux.cal = o
  cases o with
  | none => exact h
  | some k =>
    dsimp -zeta only
    by_cases hb : k.ahead ≠ 0 ∨ s.auxLocked = true
    · rw [if_pos hb]
      exact h
    · rw [if_neg hb]
      extract_lets n a took codes r par b ws extra src c
      have ha : Keeps s₀ a := h.scanEnd _
      clear_value a
      have hb : Keeps s₀ b := ha.updAux _
      clear_value b
      have hc : Keeps s₀ c := Keeps.set hb rfl rfl
      exact hc.prepared _

/-! ### Machine/Sec.lean -/

theorem Keeps.identity {s₀ s : State} (h : Keeps s₀ s) (cid : Nat) :
    Keeps s₀ (s.identity cid) := by
  unfold State.identity
  extract_lets a1 a2 a3
  refine Keeps.step (s := a1.2) ?_ (fun ba1 => ?_); rotate_left; try clear_value a1
  repeat' first | with_reducible assumption | (with_reducible apply Keeps.done) | (with_reducible apply Keeps.takeFree) |
                  (with_reducible rfl) | (simp only [fixedSizes, length_upd, List.length_map, List.length_zipIdx]; first | done |
                  rfl) | split | (intro _ _ _) | (with_reducible refine Keeps.set (by with_reducible assumption) ?_ ?_) | unfold a1 |
                  unfold a2 | unfold a3 | dsimp only

theorem Keeps.certRead {s₀ s : State} (h : Keeps s₀ s) (cid : Nat) (addr : Nat) (size : Nat) :
    Keeps s₀ (s.certRead cid addr size) := by
  unfold State.certRead
  extract_lets a1
  repeat' first | with_reducible assumption | (with_reducible apply Keeps.hostWrite) | (with_reducible apply Keeps.reply) |
                  (with_reducible rfl) | (simp only [fixedSizes, length_upd, List.length_map, List.length_zipIdx]; first | done |
                  rfl) | split | (intro _ _ _) | (with_reducible refine Keeps.set (by with_reducible assumption) ?_ ?_) | unfold a1 |
                  dsimp only

theorem Keeps.roleKeySet {s₀ s : State} (h : Keeps s₀ s) (c : Cmd) :
    Keeps s₀ (s.roleKeySet c) := by
  unfold State.roleKeySet
  extract_lets a1 a2
  repeat' first | with_reducible assumption | (with_reducible apply Keeps.updSec) | (with_reducible rfl) |
                  (simp only [fixedSizes, State.updSec, length_upd, List.length_map, List.length_zipIdx]; first | done | rfl) | split |
                  (intro _ _ _) | (with_reducible refine Keeps.set (by with_reducible assumption) ?_ ?_) | unfold a1 | unfold a2 |
                  dsimp only

theorem Keeps.rmkRun {s₀ s : State} (h : Keeps s₀ s) (cid : Nat) (c : Cmd) :
    Keeps s₀ (s.rmkRun cid c) := by
  unfold State.rmkRun
  extract_lets a1 a2
  refine Keeps.step (s := a1.2) ?_ (fun ba1 => ?_); rotate_left; try clear_value a1
  refine Keeps.step (s := a2.2) ?_ (fun ba2 => ?_); rotate_left; try clear_value a2
  repeat' first | with_reducible assumption | (with_reducible apply Keeps.done) | (with_reducible apply Keeps.draw) |
                  (with_reducible apply Keeps.reply) | (with_reducible apply Keeps.rmkExport) |
                  (with_reducible apply Keeps.rmkImport) | (with_reducible apply Keeps.updSec) | (with_reducible rfl) |
                  (simp only [fixedSizes, State.updSec, length_upd, List.length_map, List.length_zipIdx]; first | done | rfl) | split |
                  (intro _ _ _) | (with_reducible refine Keeps.set (by with_reducible assumption) ?_ ?_) | unfold a1 | unfold a2 |
                  dsimp only

theorem Keeps.auditReadDone {s₀ s : State} (h : Keeps s₀ s) (cid : Nat) (first : Nat) (addr : Nat) (size : Nat) :
    Keeps s₀ (s.auditReadDone cid first addr size) := by
  unfold State.auditReadDone
  extract_lets a1
  first | (refine Keeps.step (s := a1) ?_ (fun ba1 => ?_); rotate_left; try clear_value a1) | (refine Keeps.step (s := a1.2) ?_ (fun ba1 => ?_); rotate_left; try clear_value a1) | skip
  repeat' first | with_reducible assumption | (with_reducible apply Keeps.auditRead) | (with_reducible apply Keeps.reply) |
                  (with_reducible rfl) | (simp only [fixedSizes, length_upd, List.length_map, List.length_zipIdx]; first | done |
                  rfl) | split | (intro _ _ _) | (with_reducible refine Keeps.set (by with_reducible assumption) ?_ ?_) | unfold a1 |
                  dsimp only

theorem Keeps.fwVerifyDone {s₀ s : State} (h : Keeps s₀ s) (cid : Nat) (slot : Nat) :
    Keeps s₀ (s.fwVerifyDone cid slot) := by
  unfold State.fwVerifyDone
  extract_lets a1
  repeat' first | with_reducible assumption | (with_reducible apply Keeps.done) | (with_reducible apply Keeps.updSec) |
                  (with_reducible rfl) |
                  (simp only [fixedSizes, State.updSec, length_upd, List.length_map, List.length_zipIdx]; first | done | rfl) | split |
                  (intro _ _ _) | (with_reducible refine Keeps.set (by with_reducible assumption) ?_ ?_) | unfold a1 | dsimp only

theorem Keeps.debugSet {s₀ s : State} (h : Keeps s₀ s) (unlock : Bool) :
    Keeps s₀ (s.debugSet unlock) := by
  unfold State.debugSet
  extract_lets a1
  refine Keeps.step (s := a1) ?_ (fun ba1 => ?_); rotate_left; try clear_value a1
  repeat' first | with_reducible assumption | (with_reducible apply Keeps.auditDevice) | (with_reducible apply Keeps.raise) |
                  (with_reducible apply Keeps.updSec) | (with_reducible rfl) |
                  (simp only [fixedSizes, State.updSec, length_upd, List.length_map, List.length_zipIdx]; first | done | rfl) | split |
                  (intro _ _ _) | (with_reducible refine Keeps.set (by with_reducible assumption) ?_ ?_) | unfold a1 | dsimp only

/-! ### Machine/Hlt.lean -/

theorem Keeps.scrub {s₀ s : State} (h : Keeps s₀ s) :
    Keeps s₀ (s.scrub) := by
  unfold State.scrub
  extract_lets a1 a2 a3 a4 a5
  refine Keeps.step (s := a2.2) ?_ (fun ba2 => ?_); rotate_left; try clear_value a2
  refine Keeps.step (s := a3) ?_ (fun ba3 => ?_); rotate_left; try clear_value a3
  refine Keeps.step (s := a4) ?_ (fun ba4 => ?_); rotate_left; try clear_value a4
  repeat' first | with_reducible assumption | (with_reducible apply Keeps.count) | (with_reducible apply Keeps.takeFree) |
                  (with_reducible apply Keeps.updCmp) | (with_reducible apply Keeps.updHlt) | (with_reducible rfl) |
                  (simp only [fixedSizes, State.updHlt, length_upd, List.length_map, List.length_zipIdx]; first | done | rfl) | split |
                  (intro _ _ _) | (with_reducible refine Keeps.set (by with_reducible assumption) ?_ ?_) | unfold a1 | unfold a2 |
                  unfold a3 | unfold a4 | unfold a5 | dsimp only

theorem Keeps.lateCommit {s₀ s : State} (h : Keeps s₀ s) (cid : Nat) (point : Pt) (flags : Nat) (acts : List Act) :
    Keeps s₀ (s.lateCommit cid point flags acts) := by
  unfold State.lateCommit
  extract_lets a1 a2
  refine Keeps.step (s := a2) ?_ (fun ba2 => ?_); rotate_left; try clear_value a2
  repeat' first | with_reducible assumption | (with_reducible apply Keeps.commitIdle) | (with_reducible apply Keeps.pendArrives) |
                  (with_reducible rfl) | (simp only [fixedSizes, length_upd, List.length_map, List.length_zipIdx]; first | done |
                  rfl) | split | (intro _ _ _) | (with_reducible refine Keeps.set (by with_reducible assumption) ?_ ?_) | unfold a1 |
                  unfold a2 | dsimp only

theorem Keeps.trimDone {s₀ s : State} (h : Keeps s₀ s) (ok : Bool) :
    Keeps s₀ (s.trimDone ok) := by
  unfold State.trimDone
  repeat' first | with_reducible assumption | (with_reducible apply Keeps.lateCommit) | (with_reducible apply Keeps.reply) |
                  (with_reducible apply Keeps.updHlt) | (with_reducible rfl) |
                  (simp only [fixedSizes, State.updHlt, length_upd, List.length_map, List.length_zipIdx]; first | done | rfl) | split |
                  (intro _ _ _) | (with_reducible refine Keeps.set (by with_reducible assumption) ?_ ?_) | dsimp only

theorem Keeps.laneBack {s₀ s : State} (h : Keeps s₀ s) (c : Nat) :
    Keeps s₀ (s.laneBack c) := by
  unfold State.laneBack
  extract_lets a1 a2 a3 a4 a5
  refine Keeps.step (s := a4) ?_ (fun ba4 => ?_); rotate_left; try clear_value a4
  refine Keeps.step (s := a5) ?_ (fun ba5 => ?_); rotate_left; try clear_value a5
  repeat' first | with_reducible assumption | (with_reducible apply Keeps.raise) | (with_reducible apply Keeps.unseed) |
                  (with_reducible apply Keeps.updLane) | (with_reducible apply Keeps.updSpare) | (with_reducible rfl) |
                  (simp only [fixedSizes, length_upd, List.length_map, List.length_zipIdx]; first | done | rfl) | split |
                  (intro _ _ _) | (with_reducible refine Keeps.set (by with_reducible assumption) ?_ ?_) | unfold a1 | unfold a2 |
                  unfold a3 | unfold a4 | unfold a5 | dsimp only

theorem Keeps.restoreDone {s₀ s : State} (h : Keeps s₀ s) (fails : List Nat) :
    Keeps s₀ (s.restoreDone fails) := by
  unfold State.restoreDone
  extract_lets a1 a2
  repeat' first | with_reducible assumption | (with_reducible apply Keeps.laneBack) | (with_reducible apply Keeps.replyAt) |
                  (with_reducible rfl) | (simp only [fixedSizes, length_upd, List.length_map, List.length_zipIdx]; first | done |
                  rfl) | split | (intro _ _ _) | (with_reducible refine Keeps.set (by with_reducible assumption) ?_ ?_) | unfold a1 |
                  unfold a2 | dsimp only

/-! ### Machine/Link.lean -/

theorem Keeps.badOpcode {s₀ s : State} (h : Keeps s₀ s) (r : Nat) (ws : List Word) :
    Keeps s₀ (s.badOpcode r ws) := by
  unfold State.badOpcode
  extract_lets a1 a2 a3
  repeat' first | with_reducible assumption | (with_reducible apply Keeps.fetch) | (with_reducible apply Keeps.reply) |
                  (with_reducible rfl) | (simp only [fixedSizes, length_upd, List.length_map, List.length_zipIdx]; first | done |
                  rfl) | split | (intro _ _ _) | (with_reducible refine Keeps.set (by with_reducible assumption) ?_ ?_) | unfold a1 |
                  unfold a2 | unfold a3 | dsimp only

theorem Keeps.spillRead {s₀ s : State} (h : Keeps s₀ s) :
    Keeps s₀ (s.spillRead) := by
  unfold State.spillRead
  repeat' first | with_reducible assumption | (with_reducible apply Keeps.spillBad) | (with_reducible apply Keeps.foldl) |
                  (with_reducible apply Keeps.foldlSnd) | (with_reducible rfl) |
                  (simp only [fixedSizes, length_upd, List.length_map, List.length_zipIdx]; first | done | rfl) | split |
                  (intro _ _ _) | (with_reducible refine Keeps.set (by with_reducible assumption) ?_ ?_) | dsimp only

/-! ### Machine/Pwr.lean -/

theorem Keeps.endReplays {s₀ s : State} (h : Keeps s₀ s) :
    Keeps s₀ (s.endReplays) := by
  unfold State.endReplays
  extract_lets a1 a2
  refine Keeps.step (s := a2) ?_ (fun ba2 => ?_); rotate_left; try clear_value a2
  repeat' first | with_reducible assumption | (with_reducible apply Keeps.reply) | (with_reducible apply Keeps.updHq) |
                  (with_reducible apply Keeps.foldl) | (with_reducible apply Keeps.foldlSnd) | (with_reducible rfl) |
                  (simp only [fixedSizes, length_upd, List.length_map, List.length_zipIdx]; first | done | rfl) | split |
                  (intro _ _ _) | (with_reducible refine Keeps.set (by with_reducible assumption) ?_ ?_) | unfold a1 | unfold a2 |
                  dsimp only

theorem Keeps.disableQueues {s₀ s : State} (h : Keeps s₀ s) :
    Keeps s₀ (s.disableQueues) := by
  unfold State.disableQueues
  extract_lets a1
  repeat' first | with_reducible assumption | (with_reducible apply Keeps.flushQueue) | (with_reducible apply Keeps.updQueue) |
                  (with_reducible apply Keeps.foldl) | (with_reducible apply Keeps.foldlSnd) | (with_reducible rfl) |
                  (simp only [fixedSizes, length_upd, List.length_map, List.length_zipIdx]; first | done | rfl) | split |
                  (intro _ _ _) | (with_reducible refine Keeps.set (by with_reducible assumption) ?_ ?_) | unfold a1 | dsimp only

theorem Keeps.keepAliveDone {s₀ s : State} (h : Keeps s₀ s) (cid : Nat) :
    Keeps s₀ (s.keepAliveDone cid) := by
  unfold State.keepAliveDone
  extract_lets a1
  refine Keeps.step (s := a1) ?_ (fun ba1 => ?_); rotate_left; try clear_value a1
  repeat' first | with_reducible assumption | (with_reducible apply Keeps.auditFlush) | (with_reducible apply Keeps.disableQueues) |
                  (with_reducible apply Keeps.done) | (with_reducible apply Keeps.endReplays) | (with_reducible apply Keeps.updPwr) |
                  (with_reducible rfl) | (simp only [fixedSizes, length_upd, List.length_map, List.length_zipIdx]; first | done |
                  rfl) | split | (intro _ _ _) | (with_reducible refine Keeps.set (by with_reducible assumption) ?_ ?_) | unfold a1 |
                  dsimp only

theorem Sparse.get_le {m : Sparse Nat} {n : Nat} (h : ∀ e ∈ m, e.2 ≤ n) (k : Nat) : Sparse.get m 0 k ≤ n := by
  induction m with
  | nil => exact Nat.zero_le _
  | cons e m ih =>
    obtain ⟨j, v⟩ := e
    simp only [Sparse.get]
    split
    · exact h _ List.mem_cons_self
    · exact ih fun e he => h e (List.mem_cons_of_mem _ he)

theorem countersBounded_sets : ∀ (l : List (Ctr × Nat)) {s : State}, (∀ x ∈ l, x.2 ≤ 0xFFFFFFFF) → countersBounded s →
    countersBounded { s with cnt := l.foldl (fun m x => Sparse.set m 0 (Ctr.key x.1 0) x.2) s.cnt }
  | [], _, _, h => h
  | x :: l, s, hl, h => countersBounded_sets l (s := { s with cnt := Sparse.set s.cnt 0 (Ctr.key x.1 0) x.2 })
      (fun y hy => hl y (List.mem_cons_of_mem _ hy)) (countersBounded_set (hl x List.mem_cons_self) h)

theorem Keeps.pwrResetNow {s₀ s : State} (h : Keeps s₀ s) (straps : Nat) : Keeps s₀ (s.pwrResetNow straps) := by
  unfold State.pwrResetNow
  extract_lets a kept b
  have ha : Keeps s₀ a := (h.count _ _ _).updPwr _
  have hb : Keeps s₀ b := ha.resetFall.resetRise _
  clear_value b
  refine ⟨hb.1, hb.2, hb.3, hb.4, hb.5, hb.6, fun w => countersBounded_sets kept (fun x hx => ?_) (hb.7 w), hb.8, hb.9⟩
  obtain ⟨c, _, rfl⟩ := List.mem_map.1 hx
  exact Sparse.get_le (ha.7 w).2 _

theorem Keeps.workEnds {s₀ s : State} (h : Keeps s₀ s) (o : Outst) :
    Keeps s₀ (s.workEnds o) := by
  unfold State.workEnds
  repeat' first | with_reducible assumption | (with_reducible apply Keeps.auditReadDone) | (with_reducible apply Keeps.certRead) |
                  (with_reducible apply Keeps.covRead) | (with_reducible apply Keeps.done) |
                  (with_reducible apply Keeps.fwVerifyDone) | (with_reducible apply Keeps.injectServe) |
                  (with_reducible apply Keeps.keepAliveDone) | (with_reducible apply Keeps.trimStore) | (with_reducible rfl) |
                  (simp only [fixedSizes, length_upd, List.length_map, List.length_zipIdx]; first | done | rfl) | split |
                  (intro _ _ _) | (with_reducible refine Keeps.set (by with_reducible assumption) ?_ ?_) | dsimp only

theorem Keeps.deferredDone {s₀ s : State} (h : Keeps s₀ s) (cid : Nat) (ok : Bool) :
    Keeps s₀ (s.deferredDone cid ok) := by
  unfold State.deferredDone
  repeat' first | with_reducible assumption | (with_reducible apply Keeps.reply) | (with_reducible apply Keeps.workEnds) |
                  (with_reducible rfl) | (simp only [fixedSizes, length_upd, List.length_map, List.length_zipIdx]; first | done |
                  rfl) | split | (intro _ _ _) | (with_reducible refine Keeps.set (by with_reducible assumption) ?_ ?_) | dsimp only

end Sys2Proof.Machine
end

