-- ==== Sys2Proof/Laws/KeepsExec.lean ====
section
/-! SUPPORT. What every command and every event keeps: one lemma a command's definition, one a row, and over all rows. -/

set_option Elab.async false
set_option linter.all false
set_option linter.tactic.unusedName false

namespace Sys2Proof.Machine

theorem Keeps.ofNext {t : Nat} {f : State → State} {s u : State} (hf : ∀ v, Keeps s v → Keeps s (f v)) (h : nextAt t s f = .next u) :
    Keeps s u := by
  cases h
  exact hf _ ((Keeps.refl s).advance t)

theorem Keeps.ofRun {t : Nat} {d : CmdDef} {c : Cmd} {s u : State} (hd : d.steady)
    (h : (Host.Outcome.next (Sys2Proof.Machine.runHost d t c s) : Host.Outcome State Fault Refusal) = .next u) : Keeps s u := by
  cases h
  exact (Keeps.refl s).runHost hd t c

/-! ### Machine/Relate.lean -/

theorem setDef_steady (op hi : Nat) (levels : List Nat) (points : Points) (written : Cmd → Nat → Bool) (fields : Cmd → List SetField) (fails : State → Cmd → Ctx → List (Nat × Nat)) (acts : State → Cmd → Ctx → List Act) : CmdDef.steady (setDef op hi levels points written fields fails acts) := by
  intro s₀ s cid c ctx h
  unfold setDef
  try dsimp -zeta only
  repeat' first | with_reducible assumption | (with_reducible apply Keeps.submit) | (with_reducible rfl) |
                  (simp only [fixedSizes, length_upd, List.length_map]; first | done | rfl) | split | (intro _ _ _) | (intro _ _) |
                  (with_reducible refine Keeps.set (by with_reducible assumption) ?_ ?_) | dsimp only

theorem statusDef_steady (op : Nat) (levels : List Nat) (need : Nat) (fails : State → Cmd → Ctx → List (Nat × Nat)) (words : State → Cmd → List Word) : CmdDef.steady (statusDef op levels need fails words) := by
  intro s₀ s cid c ctx h
  unfold statusDef
  try dsimp -zeta only
  repeat' first | with_reducible assumption | (with_reducible apply Keeps.done) | (with_reducible rfl) |
                  (simp only [fixedSizes, length_upd, List.length_map]; first | done | rfl) | split | (intro _ _ _) | (intro _ _) |
                  (with_reducible refine Keeps.set (by with_reducible assumption) ?_ ?_) | dsimp only

theorem clearDef_steady (op group : Nat) : CmdDef.steady (clearDef op group) := by
  intro s₀ s cid c ctx h
  unfold clearDef
  try dsimp -zeta only
  repeat' first | with_reducible assumption | (with_reducible apply Keeps.clearCounters) | (with_reducible apply Keeps.done) |
                  (with_reducible rfl) | (simp only [fixedSizes, length_upd, List.length_map]; first | done | rfl) | split |
                  (intro _ _ _) | (intro _ _) | (with_reducible refine Keeps.set (by with_reducible assumption) ?_ ?_) | dsimp only

theorem actDef_steady (op need : Nat) (levels : List Nat) (points : Points) (fails : State → Cmd → Ctx → List (Nat × Nat)) (acts : State → Cmd → Ctx → List Act) : CmdDef.steady (actDef op need levels points fails acts) := by
  intro s₀ s cid c ctx h
  unfold actDef
  try dsimp -zeta only
  repeat' first | with_reducible assumption | (with_reducible apply Keeps.submit) | (with_reducible rfl) |
                  (simp only [fixedSizes, length_upd, List.length_map]; first | done | rfl) | split | (intro _ _ _) | (intro _ _) |
                  (with_reducible refine Keeps.set (by with_reducible assumption) ?_ ?_) | dsimp only

/-! ### Machine/Sen.lean -/

theorem senGenSetDef_steady : CmdDef.steady senGenSetDef := setDef_steady _ _ _ _ _ _ _ _

theorem senWaveLoadDef_steady : CmdDef.steady senWaveLoadDef := actDef_steady _ _ _ _ _ _

theorem senLaneSetDef_steady : CmdDef.steady senLaneSetDef := setDef_steady _ _ _ _ _ _ _ _

theorem senGainSetDef_steady : CmdDef.steady senGainSetDef := setDef_steady _ _ _ _ _ _ _ _

theorem senSubstLoadDef_steady : CmdDef.steady senSubstLoadDef := by
  intro s₀ s cid c ctx h
  unfold senSubstLoadDef
  try dsimp -zeta only
  repeat' first | with_reducible assumption | (with_reducible apply Keeps.submit) | (with_reducible rfl) |
                  (simp only [fixedSizes, length_upd, List.length_map]; first | done | rfl) | split | (intro _ _ _) | (intro _ _) |
                  (with_reducible refine Keeps.set (by with_reducible assumption) ?_ ?_) | dsimp only

theorem senLaneRestoreDef_steady : CmdDef.steady senLaneRestoreDef := actDef_steady _ _ _ _ _ _

theorem senSpareForceDef_steady : CmdDef.steady senSpareForceDef := actDef_steady _ _ _ _ _ _

theorem senSnapshotDef_steady : CmdDef.steady senSnapshotDef := by
  intro s₀ s cid c ctx h
  unfold senSnapshotDef
  try dsimp -zeta only
  extract_lets a1 a2
  refine Keeps.step (s := a1) ?_ (fun ba1 => ?_); rotate_left; try clear_value a1
  repeat' first | with_reducible assumption | (with_reducible apply Keeps.defer) | (with_reducible rfl) |
                  (simp only [fixedSizes, length_upd, List.length_map]; first | done | rfl) | split | (intro _ _ _) | (intro _ _) |
                  (with_reducible refine Keeps.set (by with_reducible assumption) ?_ ?_) | unfold a1 | unfold a2 | dsimp only

theorem senTrimRunDef_steady : CmdDef.steady senTrimRunDef := by
  intro s₀ s cid c ctx h
  unfold senTrimRunDef
  try dsimp -zeta only
  extract_lets a1
  refine Keeps.step (s := a1) ?_ (fun ba1 => ?_); rotate_left; try clear_value a1
  repeat' first | with_reducible assumption | (with_reducible apply Keeps.defer) | (with_reducible apply Keeps.updHlt) |
                  (with_reducible rfl) | (simp only [fixedSizes, State.updHlt, length_upd, List.length_map]; first | done | rfl) |
                  split | (intro _ _ _) | (intro _ _) | (with_reducible refine Keeps.set (by with_reducible assumption) ?_ ?_) |
                  unfold a1 | dsimp only

theorem execSenGenSet_keeps {t : Nat} {c : Cmd} {s u : State} (h : execSenGenSet t c s = .next u) : Keeps s u := Keeps.ofRun senGenSetDef_steady h

theorem execSenWaveLoad_keeps {t : Nat} {c : Cmd} {s u : State} (h : execSenWaveLoad t c s = .next u) : Keeps s u := Keeps.ofRun senWaveLoadDef_steady h

theorem execSenLaneSet_keeps {t : Nat} {c : Cmd} {s u : State} (h : execSenLaneSet t c s = .next u) : Keeps s u := Keeps.ofRun senLaneSetDef_steady h

theorem execSenGainSet_keeps {t : Nat} {c : Cmd} {s u : State} (h : execSenGainSet t c s = .next u) : Keeps s u := Keeps.ofRun senGainSetDef_steady h

theorem execSenSubstLoad_keeps {t : Nat} {c : Cmd} {s u : State} (h : execSenSubstLoad t c s = .next u) : Keeps s u := Keeps.ofRun senSubstLoadDef_steady h

theorem execSenLaneRestore_keeps {t : Nat} {c : Cmd} {s u : State} (h : execSenLaneRestore t c s = .next u) : Keeps s u := Keeps.ofRun senLaneRestoreDef_steady h

theorem execSenSpareForce_keeps {t : Nat} {c : Cmd} {s u : State} (h : execSenSpareForce t c s = .next u) : Keeps s u := Keeps.ofRun senSpareForceDef_steady h

theorem execSenStatus_keeps {t : Nat} {c : Cmd} {s u : State} (h : execSenStatus t c s = .next u) : Keeps s u := Keeps.ofRun (statusDef_steady _ _ _ _ _) h

theorem execSenSnapshot_keeps {t : Nat} {c : Cmd} {s u : State} (h : execSenSnapshot t c s = .next u) : Keeps s u := Keeps.ofRun senSnapshotDef_steady h

theorem execSenTrimRun_keeps {t : Nat} {c : Cmd} {s u : State} (h : execSenTrimRun t c s = .next u) : Keeps s u := Keeps.ofRun senTrimRunDef_steady h

theorem execSenCountersClear_keeps {t : Nat} {c : Cmd} {s u : State} (h : execSenCountersClear t c s = .next u) : Keeps s u := Keeps.ofRun (clearDef_steady _ _) h

/-! ### Machine/Cor.lean -/

theorem corSetDef_steady : CmdDef.steady corSetDef := setDef_steady _ _ _ _ _ _ _ _

theorem corSetLoadDef_steady : CmdDef.steady corSetLoadDef := by
  intro s₀ s cid c ctx h
  unfold corSetLoadDef
  try dsimp -zeta only
  extract_lets a1
  refine Keeps.step (s := a1) ?_ (fun ba1 => ?_); rotate_left; try clear_value a1
  repeat' first | with_reducible assumption | (with_reducible apply Keeps.defer) | (with_reducible apply Keeps.updCor) |
                  (with_reducible rfl) | (simp only [fixedSizes, State.updCor, length_upd, List.length_map]; first | done | rfl) |
                  split | (intro _ _ _) | (intro _ _) | (with_reducible refine Keeps.set (by with_reducible assumption) ?_ ?_) |
                  unfold a1 | dsimp only

theorem corSetSwapDef_steady : CmdDef.steady corSetSwapDef := by
  intro s₀ s cid c ctx h
  unfold corSetSwapDef
  try dsimp -zeta only
  repeat' first | with_reducible assumption | (with_reducible apply Keeps.submit) | (with_reducible rfl) |
                  (simp only [fixedSizes, length_upd, List.length_map]; first | done | rfl) | split | (intro _ _ _) | (intro _ _) |
                  (with_reducible refine Keeps.set (by with_reducible assumption) ?_ ?_) | dsimp only

theorem corSetStoreDef_steady : CmdDef.steady corSetStoreDef := by
  intro s₀ s cid c ctx h
  unfold corSetStoreDef
  try dsimp -zeta only
  repeat' first | with_reducible assumption | (with_reducible apply Keeps.defer) | (with_reducible apply Keeps.updCor) |
                  (with_reducible rfl) | (simp only [fixedSizes, State.updCor, length_upd, List.length_map]; first | done | rfl) |
                  split | (intro _ _ _) | (intro _ _) | (with_reducible refine Keeps.set (by with_reducible assumption) ?_ ?_) |
                  dsimp only

theorem corSetRestoreDef_steady : CmdDef.steady corSetRestoreDef := by
  intro s₀ s cid c ctx h
  unfold corSetRestoreDef
  try dsimp -zeta only
  repeat' first | with_reducible assumption | (with_reducible apply Keeps.defer) | (with_reducible apply Keeps.updCor) |
                  (with_reducible rfl) | (simp only [fixedSizes, State.updCor, length_upd, List.length_map]; first | done | rfl) |
                  split | (intro _ _ _) | (intro _ _) | (with_reducible refine Keeps.set (by with_reducible assumption) ?_ ?_) |
                  dsimp only

theorem corCalRunDef_steady : CmdDef.steady corCalRunDef := by
  intro s₀ s cid c ctx h
  unfold corCalRunDef
  try dsimp -zeta only
  repeat' first | with_reducible assumption | (with_reducible apply Keeps.calStart) | (with_reducible apply Keeps.defer) |
                  (with_reducible rfl) | (simp only [fixedSizes, length_upd, List.length_map]; first | done | rfl) | split |
                  (intro _ _ _) | (intro _ _) | (with_reducible refine Keeps.set (by with_reducible assumption) ?_ ?_) | dsimp only

theorem corCalAbortDef_steady : CmdDef.steady corCalAbortDef := by
  intro s₀ s cid c ctx h
  unfold corCalAbortDef
  try dsimp -zeta only
  repeat' first | with_reducible assumption | (with_reducible apply Keeps.calFail) | (with_reducible apply Keeps.done) |
                  (with_reducible rfl) | (simp only [fixedSizes, length_upd, List.length_map]; first | done | rfl) | split |
                  (intro _ _ _) | (intro _ _) | (with_reducible refine Keeps.set (by with_reducible assumption) ?_ ?_) | dsimp only

theorem execCorSet_keeps {t : Nat} {c : Cmd} {s u : State} (h : execCorSet t c s = .next u) : Keeps s u := Keeps.ofRun corSetDef_steady h

theorem execCorSetLoad_keeps {t : Nat} {c : Cmd} {s u : State} (h : execCorSetLoad t c s = .next u) : Keeps s u := Keeps.ofRun corSetLoadDef_steady h

theorem execCorLoadDone_keeps {t : Nat} {s u : State} (h : execCorLoadDone t s = .next u) : Keeps s u := Keeps.ofNext (fun v hv => hv.corLoaded) h

theorem execCorFactorsReady_keeps {t : Nat} {s u : State} (h : execCorFactorsReady t s = .next u) : Keeps s u := Keeps.ofNext (fun v hv => hv.factorsReady) h

theorem execCorSetSwap_keeps {t : Nat} {c : Cmd} {s u : State} (h : execCorSetSwap t c s = .next u) : Keeps s u := Keeps.ofRun corSetSwapDef_steady h

theorem execCorSetCheck_keeps {t : Nat} {c : Cmd} {s u : State} (h : execCorSetCheck t c s = .next u) : Keeps s u := Keeps.ofRun (statusDef_steady _ _ _ _ _) h

theorem execCorSetStore_keeps {t : Nat} {c : Cmd} {s u : State} (h : execCorSetStore t c s = .next u) : Keeps s u := Keeps.ofRun corSetStoreDef_steady h

theorem execCorSetRestore_keeps {t : Nat} {c : Cmd} {s u : State} (h : execCorSetRestore t c s = .next u) : Keeps s u := Keeps.ofRun corSetRestoreDef_steady h

theorem execCorStoreDone_keeps {t : Nat} {ok : Bool} {s u : State} (h : execCorStoreDone t ok s = .next u) : Keeps s u := by
  refine Keeps.ofNext (fun v hv => ?_) h
  beta_reduce
  repeat' first | with_reducible assumption | (with_reducible apply Keeps.corStored) | (with_reducible rfl) |
                  (simp only [fixedSizes, length_upd, List.length_map]; first | done | rfl) | split | (intro _ _ _) | (intro _ _) |
                  (with_reducible refine Keeps.set (by with_reducible assumption) ?_ ?_) | dsimp only

theorem execCorCalRun_keeps {t : Nat} {c : Cmd} {s u : State} (h : execCorCalRun t c s = .next u) : Keeps s u := Keeps.ofRun corCalRunDef_steady h

theorem execCorCalAbort_keeps {t : Nat} {c : Cmd} {s u : State} (h : execCorCalAbort t c s = .next u) : Keeps s u := Keeps.ofRun corCalAbortDef_steady h

theorem execCorCalStatus_keeps {t : Nat} {c : Cmd} {s u : State} (h : execCorCalStatus t c s = .next u) : Keeps s u := Keeps.ofRun (statusDef_steady _ _ _ _ _) h

theorem execCorStatus_keeps {t : Nat} {c : Cmd} {s u : State} (h : execCorStatus t c s = .next u) : Keeps s u := Keeps.ofRun (statusDef_steady _ _ _ _ _) h

theorem execCorCountersClear_keeps {t : Nat} {c : Cmd} {s u : State} (h : execCorCountersClear t c s = .next u) : Keeps s u := Keeps.ofRun (clearDef_steady _ _) h

theorem execCalCaptureTick_keeps {t : Nat} {tests : List (List LaneTest)} {video : List (List LaneVideo)} {s u : State} (h : execCalCaptureTick t tests video s = .next u) : Keeps s u := by
  refine Keeps.ofNext (fun v hv => ?_) h
  beta_reduce
  repeat' first | with_reducible assumption | (with_reducible apply Keeps.calTick) | (with_reducible rfl) |
                  (simp only [fixedSizes, length_upd, List.length_map]; first | done | rfl) | split | (intro _ _ _) | (intro _ _) |
                  (with_reducible refine Keeps.set (by with_reducible assumption) ?_ ?_) | dsimp only

theorem execWarmupSample_keeps {t : Nat} {s u : State} (h : execWarmupSample t s = .next u) : Keeps s u := Keeps.ofNext (fun v hv => hv.calSample) h

theorem execCorCalDone_keeps {t : Nat} {s u : State} (h : execCorCalDone t s = .next u) : Keeps s u := Keeps.ofNext (fun v hv => hv.calDone) h

theorem execCalCaptureFail_keeps {t : Nat} {cause : Nat} {s u : State} (h : execCalCaptureFail t cause s = .next u) : Keeps s u := by
  refine Keeps.ofNext (fun v hv => ?_) h
  beta_reduce
  repeat' first | with_reducible assumption | (with_reducible apply Keeps.calFail) | (with_reducible rfl) |
                  (simp only [fixedSizes, length_upd, List.length_map]; first | done | rfl) | split | (intro _ _ _) | (intro _ _) |
                  (with_reducible refine Keeps.set (by with_reducible assumption) ?_ ?_) | dsimp only

theorem execCorSettleExpiry_keeps {t : Nat} {s u : State} (h : execCorSettleExpiry t s = .next u) : Keeps s u := Keeps.ofNext (fun v hv => hv.calSettled) h

/-! ### Machine/Slots.lean -/

theorem execGridTick_keeps {t : Nat} {s u : State} (h : execGridTick t s = .next u) : Keeps s u := by
  refine Keeps.ofNext (fun v hv => ?_) h
  beta_reduce
  repeat' first | with_reducible assumption | (with_reducible apply Keeps.raiseTick) | (with_reducible rfl) |
                  (simp only [fixedSizes, length_upd, List.length_map]; first | done | rfl) | split | (intro _ _ _) | (intro _ _) |
                  (with_reducible refine Keeps.set (by with_reducible assumption) ?_ ?_) | dsimp only

theorem execPeriodTick_keeps {t : Nat} {s u : State} (h : execPeriodTick t s = .next u) : Keeps s u := by
  refine Keeps.ofNext (fun v hv => ?_) h
  beta_reduce
  extract_lets a1
  refine Keeps.step (s := a1) ?_ (fun ba1 => ?_); rotate_left; try clear_value a1
  repeat' first | with_reducible assumption | (with_reducible apply Keeps.raiseTick) | (with_reducible apply Keeps.updSeq) |
                  (with_reducible rfl) | (simp only [fixedSizes, length_upd, List.length_map]; first | done | rfl) | split |
                  (intro _ _ _) | (intro _ _) | (with_reducible refine Keeps.set (by with_reducible assumption) ?_ ?_) | unfold a1 |
                  dsimp only

theorem execTrigTick_keeps {t : Nat} {falling : Bool} {s u : State} (h : execTrigTick t falling s = .next u) : Keeps s u := by
  refine Keeps.ofNext (fun v hv => ?_) h
  beta_reduce
  repeat' first | with_reducible assumption | (with_reducible apply Keeps.raiseTick) | (with_reducible rfl) |
                  (simp only [fixedSizes, length_upd, List.length_map]; first | done | rfl) | split | (intro _ _ _) | (intro _ _) |
                  (with_reducible refine Keeps.set (by with_reducible assumption) ?_ ?_) | dsimp only

theorem execAskuriTick_keeps {t : Nat} {s u : State} (h : execAskuriTick t s = .next u) : Keeps s u := by
  refine Keeps.ofNext (fun v hv => ?_) h
  beta_reduce
  extract_lets a1 a2
  refine Keeps.step (s := a1) ?_ (fun ba1 => ?_); rotate_left; try clear_value a1
  repeat' first | with_reducible assumption | (with_reducible apply Keeps.count) | (with_reducible apply Keeps.memberGuess) |
                  (with_reducible apply Keeps.updAsk) | (with_reducible rfl) |
                  (simp only [fixedSizes, length_upd, List.length_map]; first | done | rfl) | split | (intro _ _ _) | (intro _ _) |
                  (with_reducible refine Keeps.set (by with_reducible assumption) ?_ ?_) | unfold a1 | unfold a2 | dsimp only

theorem execPhaseGuardStart_keeps {t p : Nat} {tests : List LaneTest} {s u : State} (h : execPhaseGuardStart t p tests s = .next u) : Keeps s u := by
  refine Keeps.ofNext (fun v hv => ?_) h
  beta_reduce
  repeat' first | with_reducible assumption | (with_reducible apply Keeps.applyGains) | (with_reducible apply Keeps.inSlot) |
                  (with_reducible apply Keeps.laneTests) | (with_reducible apply Keeps.readsDone) |
                  (with_reducible apply Keeps.updSeq) | (with_reducible rfl) |
                  (simp only [fixedSizes, length_upd, List.length_map]; first | done | rfl) | split | (intro _ _ _) | (intro _ _) |
                  (with_reducible refine Keeps.set (by with_reducible assumption) ?_ ?_) | dsimp only

theorem execLampStrobe_keeps {t bar p : Nat} {s u : State} (h : execLampStrobe t bar p s = .next u) : Keeps s u := by
  refine Keeps.ofNext (fun v hv => ?_) h
  beta_reduce
  repeat' first | with_reducible assumption | (with_reducible apply Keeps.inSlot) | (with_reducible apply Keeps.readsDone) |
                  (with_reducible apply Keeps.strobe) | (with_reducible rfl) |
                  (simp only [fixedSizes, length_upd, List.length_map]; first | done | rfl) | split | (intro _ _ _) | (intro _ _) |
                  (with_reducible refine Keeps.set (by with_reducible assumption) ?_ ?_) | dsimp only

theorem execLampSyncInEdge_keeps {t : Nat} {s u : State} (h : execLampSyncInEdge t s = .next u) : Keeps s u := by
  refine Keeps.ofNext (fun v hv => ?_) h
  beta_reduce
  repeat' first | with_reducible assumption | (with_reducible apply Keeps.count) | (with_reducible apply Keeps.inSlot) |
                  (with_reducible apply Keeps.strobe) | (with_reducible apply Keeps.takeFree) | (with_reducible apply Keeps.foldl) |
                  (with_reducible rfl) | (simp only [fixedSizes, length_upd, List.length_map]; first | done | rfl) | split |
                  (intro _ _ _) | (intro _ _) | (with_reducible refine Keeps.set (by with_reducible assumption) ?_ ?_) | dsimp only

theorem execLampSyncMissed_keeps {t : Nat} {s u : State} (h : execLampSyncMissed t s = .next u) : Keeps s u := by
  refine Keeps.ofNext (fun v hv => ?_) h
  beta_reduce
  repeat' first | with_reducible assumption | (with_reducible apply Keeps.count) | (with_reducible apply Keeps.inSlot) |
                  (with_reducible apply Keeps.raise) | (with_reducible apply Keeps.strobe) | (with_reducible apply Keeps.foldl) |
                  (with_reducible rfl) | (simp only [fixedSizes, length_upd, List.length_map]; first | done | rfl) | split |
                  (intro _ _ _) | (intro _ _) | (with_reducible refine Keeps.set (by with_reducible assumption) ?_ ?_) | dsimp only

theorem execReadoutEnd_keeps {t p : Nat} {video : List LaneVideo} {s u : State} (h : execReadoutEnd t p video s = .next u) : Keeps s u := by
  refine Keeps.ofNext (fun v hv => ?_) h
  beta_reduce
  generalize v.seq.slot = o
  cases o with
  | none => exact hv
  | some x =>
    dsimp -zeta only
    generalize x.plans[p]? = q
    cases q with
    | none => exact hv
    | some plan =>
      dsimp -zeta only
      refine Keeps.ite hv ?_
      extract_lets a b
      have ha : Keeps s a := hv.inSlot x (fun u hu => hu.readPhase _ _ _ _)
      clear_value a
      have hb : Keeps s b := ha.updSeq _
      clear_value b
      generalize b.seq.nextSlot = r
      cases r with
      | none => exact hb
      | some n => exact Keeps.ite hb ((hb.updSeq _).startSlot _ _ _)

theorem execDeferredTickServe_keeps {t : Nat} {s u : State} (h : execDeferredTickServe t s = .next u) : Keeps s u := by
  refine Keeps.ofNext (fun v hv => ?_) h
  beta_reduce
  repeat' first | with_reducible assumption | (with_reducible apply Keeps.serveDeferred) | (with_reducible rfl) |
                  (simp only [fixedSizes, length_upd, List.length_map]; first | done | rfl) | split | (intro _ _ _) | (intro _ _) |
                  (with_reducible refine Keeps.set (by with_reducible assumption) ?_ ?_) | dsimp only

theorem execHoldEnter_keeps {t : Nat} {s u : State} (h : execHoldEnter t s = .next u) : Keeps s u := by
  refine Keeps.ofNext (fun v hv => ?_) h
  beta_reduce
  repeat' first | with_reducible assumption | (with_reducible apply Keeps.enterHold) | (with_reducible rfl) |
                  (simp only [fixedSizes, length_upd, List.length_map]; first | done | rfl) | split | (intro _ _ _) | (intro _ _) |
                  (with_reducible refine Keeps.set (by with_reducible assumption) ?_ ?_) | dsimp only

theorem execFlushRead_keeps {t : Nat} {tests : List LaneTest} {s u : State} (h : execFlushRead t tests s = .next u) : Keeps s u := by
  refine Keeps.ofNext (fun v hv => ?_) h
  beta_reduce
  repeat' first | with_reducible assumption | (with_reducible apply Keeps.flushRead) | (with_reducible rfl) |
                  (simp only [fixedSizes, length_upd, List.length_map]; first | done | rfl) | split | (intro _ _ _) | (intro _ _) |
                  (with_reducible refine Keeps.set (by with_reducible assumption) ?_ ?_) | dsimp only

theorem execIdleEnter_keeps {t : Nat} {s u : State} (h : execIdleEnter t s = .next u) : Keeps s u := by
  refine Keeps.ofNext (fun v hv => ?_) h
  beta_reduce
  repeat' first | with_reducible assumption | (with_reducible apply Keeps.enterIdle) | (with_reducible rfl) |
                  (simp only [fixedSizes, length_upd, List.length_map]; first | done | rfl) | split | (intro _ _ _) | (intro _ _) |
                  (with_reducible refine Keeps.set (by with_reducible assumption) ?_ ?_) | dsimp only

theorem execGroupTimeout_keeps {t ring : Nat} {s u : State} (h : execGroupTimeout t ring s = .next u) : Keeps s u := by
  refine Keeps.ofNext (fun v hv => ?_) h
  beta_reduce
  repeat' first | with_reducible assumption | (with_reducible apply Keeps.discardGroup) | (with_reducible apply Keeps.raise) |
                  (with_reducible rfl) | (simp only [fixedSizes, length_upd, List.length_map]; first | done | rfl) | split |
                  (intro _ _ _) | (intro _ _) | (with_reducible refine Keeps.set (by with_reducible assumption) ?_ ?_) | dsimp only

theorem execImageLineEmit_keeps {t : Nat} {s u : State} (h : execImageLineEmit t s = .next u) : Keeps s u := by
  refine Keeps.ofNext (fun v hv => ?_) h
  beta_reduce
  repeat' first | with_reducible assumption | (with_reducible apply Keeps.emitLine) | (with_reducible rfl) |
                  (simp only [fixedSizes, length_upd, List.length_map]; first | done | rfl) | split | (intro _ _ _) | (intro _ _) |
                  (with_reducible refine Keeps.set (by with_reducible assumption) ?_ ?_) | dsimp only

theorem execLineCompare_keeps {t : Nat} {s u : State} (h : execLineCompare t s = .next u) : Keeps s u := by
  refine Keeps.ofNext (fun v hv => ?_) h
  beta_reduce
  repeat' first | with_reducible assumption | (with_reducible apply Keeps.compareLine) | (with_reducible rfl) |
                  (simp only [fixedSizes, length_upd, List.length_map]; first | done | rfl) | split | (intro _ _ _) | (intro _ _) |
                  (with_reducible refine Keeps.set (by with_reducible assumption) ?_ ?_) | dsimp only

theorem execDriftReady_keeps {t : Nat} {s u : State} (h : execDriftReady t s = .next u) : Keeps s u := by
  refine Keeps.ofNext (fun v hv => ?_) h
  beta_reduce
  repeat' first | with_reducible assumption | (with_reducible apply Keeps.driftReady) | (with_reducible rfl) |
                  (simp only [fixedSizes, length_upd, List.length_map]; first | done | rfl) | split | (intro _ _ _) | (intro _ _) |
                  (with_reducible refine Keeps.set (by with_reducible assumption) ?_ ?_) | dsimp only

theorem execCmpMarkMissing_keeps {t : Nat} {s u : State} (h : execCmpMarkMissing t s = .next u) : Keeps s u := by
  refine Keeps.ofNext (fun v hv => ?_) h
  beta_reduce
  repeat' first | with_reducible assumption | (with_reducible apply Keeps.armKnown) | (with_reducible apply Keeps.markMissing) |
                  (with_reducible rfl) | (simp only [fixedSizes, length_upd, List.length_map]; first | done | rfl) | split |
                  (intro _ _ _) | (intro _ _) | (with_reducible refine Keeps.set (by with_reducible assumption) ?_ ?_) | dsimp only

/-! ### Machine/Cap.lean -/

theorem runOpenDef_steady : CmdDef.steady runOpenDef := actDef_steady _ _ _ _ _ _

theorem runCloseDef_steady : CmdDef.steady runCloseDef := actDef_steady _ _ _ _ _ _

theorem jobArmDef_steady : CmdDef.steady jobArmDef := by
  intro s₀ s cid c ctx h
  unfold jobArmDef
  try dsimp -zeta only
  repeat' first | with_reducible assumption | (with_reducible apply Keeps.armJob) | (with_reducible rfl) |
                  (simp only [fixedSizes, length_upd, List.length_map]; first | done | rfl) | split | (intro _ _ _) | (intro _ _) |
                  (with_reducible refine Keeps.set (by with_reducible assumption) ?_ ?_) | dsimp only

theorem jobDisarmDef_steady : CmdDef.steady jobDisarmDef := by
  intro s₀ s cid c ctx h
  unfold jobDisarmDef
  try dsimp -zeta only
  repeat' first | with_reducible assumption | (with_reducible apply Keeps.disarm) | (with_reducible apply Keeps.done) |
                  (with_reducible apply Keeps.groupsDone) | (with_reducible rfl) |
                  (simp only [fixedSizes, length_upd, List.length_map]; first | done | rfl) | split | (intro _ _ _) | (intro _ _) |
                  (with_reducible refine Keeps.set (by with_reducible assumption) ?_ ?_) | dsimp only

theorem capSetDef_steady : CmdDef.steady capSetDef := setDef_steady _ _ _ _ _ _ _ _

theorem capCovReadDef_steady : CmdDef.steady capCovReadDef := by
  intro s₀ s cid c ctx h
  unfold capCovReadDef
  try dsimp -zeta only
  repeat' first | with_reducible assumption | (with_reducible apply Keeps.defer) | (with_reducible rfl) |
                  (simp only [fixedSizes, length_upd, List.length_map]; first | done | rfl) | split | (intro _ _ _) | (intro _ _) |
                  (with_reducible refine Keeps.set (by with_reducible assumption) ?_ ?_) | dsimp only

theorem execRunOpen_keeps {t : Nat} {c : Cmd} {s u : State} (h : execRunOpen t c s = .next u) : Keeps s u := Keeps.ofRun runOpenDef_steady h

theorem execRunClose_keeps {t : Nat} {c : Cmd} {s u : State} (h : execRunClose t c s = .next u) : Keeps s u := Keeps.ofRun runCloseDef_steady h

theorem execCapRunClosed_keeps {t : Nat} {s u : State} (h : execCapRunClosed t s = .next u) : Keeps s u := Keeps.ofNext (fun v hv => hv.runClosed) h

theorem execJobArm_keeps {t : Nat} {c : Cmd} {s u : State} (h : execJobArm t c s = .next u) : Keeps s u := Keeps.ofRun jobArmDef_steady h

theorem execJobDisarm_keeps {t : Nat} {c : Cmd} {s u : State} (h : execJobDisarm t c s = .next u) : Keeps s u := Keeps.ofRun jobDisarmDef_steady h

theorem execCapJobPartArrived_keeps {t : Nat} {s u : State} (h : execCapJobPartArrived t s = .next u) : Keeps s u := Keeps.ofNext (fun v hv => hv.noteResident) h

theorem execCapSet_keeps {t : Nat} {c : Cmd} {s u : State} (h : execCapSet t c s = .next u) : Keeps s u := Keeps.ofRun capSetDef_steady h

theorem execCapStatus_keeps {t : Nat} {c : Cmd} {s u : State} (h : execCapStatus t c s = .next u) : Keeps s u := Keeps.ofRun (statusDef_steady _ _ _ _ _) h

theorem execCapCovRead_keeps {t : Nat} {c : Cmd} {s u : State} (h : execCapCovRead t c s = .next u) : Keeps s u := Keeps.ofRun capCovReadDef_steady h

theorem execCapCountersClear_keeps {t : Nat} {c : Cmd} {s u : State} (h : execCapCountersClear t c s = .next u) : Keeps s u := Keeps.ofRun (clearDef_steady _ _) h

/-! ### Machine/Hq.lean -/

theorem queueSetupDef_steady : CmdDef.steady queueSetupDef := by
  intro s₀ s cid c ctx h
  unfold queueSetupDef
  try dsimp -zeta only
  repeat' first | with_reducible assumption | (with_reducible apply Keeps.doneNow) | (with_reducible apply Keeps.queueSetup) |
                  (with_reducible rfl) | (simp only [fixedSizes, length_upd, List.length_map]; first | done | rfl) | split |
                  (intro _ _ _) | (intro _ _) | (with_reducible refine Keeps.set (by with_reducible assumption) ?_ ?_) | dsimp only

theorem queueDisableDef_steady : CmdDef.steady queueDisableDef := by
  intro s₀ s cid c ctx h
  unfold queueDisableDef
  try dsimp -zeta only
  extract_lets a1
  refine Keeps.step (s := a1.2) ?_ (fun ba1 => ?_); rotate_left; try clear_value a1
  repeat' first | with_reducible assumption | (with_reducible apply Keeps.doneNow) | (with_reducible apply Keeps.flushQueue) |
                  (with_reducible apply Keeps.updQueue) | (with_reducible rfl) |
                  (simp only [fixedSizes, length_upd, List.length_map]; first | done | rfl) | split | (intro _ _ _) | (intro _ _) |
                  (with_reducible refine Keeps.set (by with_reducible assumption) ?_ ?_) | unfold a1 | dsimp only

theorem queueFlushDef_steady : CmdDef.steady queueFlushDef := by
  intro s₀ s cid c ctx h
  unfold queueFlushDef
  try dsimp -zeta only
  extract_lets a1
  refine Keeps.step (s := a1.2) ?_ (fun ba1 => ?_); rotate_left; try clear_value a1
  repeat' first | with_reducible assumption | (with_reducible apply Keeps.doneNow) | (with_reducible apply Keeps.flushQueue) |
                  (with_reducible rfl) | (simp only [fixedSizes, length_upd, List.length_map]; first | done | rfl) | split |
                  (intro _ _ _) | (intro _ _) | (with_reducible refine Keeps.set (by with_reducible assumption) ?_ ?_) | unfold a1 |
                  dsimp only

theorem streamSetDef_steady : CmdDef.steady streamSetDef := setDef_steady _ _ _ _ _ _ _ _

theorem hqSetDef_steady : CmdDef.steady hqSetDef := setDef_steady _ _ _ _ _ _ _ _

theorem arenaSetDef_steady : CmdDef.steady arenaSetDef := setDef_steady _ _ _ _ _ _ _ _

theorem bar2MapDef_steady : CmdDef.steady bar2MapDef := setDef_steady _ _ _ _ _ _ _ _

theorem histReplayDef_steady : CmdDef.steady histReplayDef := by
  intro s₀ s cid c ctx h
  unfold histReplayDef
  try dsimp -zeta only
  repeat' first | with_reducible assumption | (with_reducible apply Keeps.replayStart) | (with_reducible rfl) |
                  (simp only [fixedSizes, length_upd, List.length_map]; first | done | rfl) | split | (intro _ _ _) | (intro _ _) |
                  (with_reducible refine Keeps.set (by with_reducible assumption) ?_ ?_) | dsimp only

theorem histReleaseDef_steady : CmdDef.steady histReleaseDef := by
  intro s₀ s cid c ctx h
  unfold histReleaseDef
  try dsimp -zeta only
  repeat' first | with_reducible assumption | (with_reducible apply Keeps.reply) | (with_reducible apply Keeps.updHq) |
                  (with_reducible rfl) | (simp only [fixedSizes, length_upd, List.length_map]; first | done | rfl) | split |
                  (intro _ _ _) | (intro _ _) | (with_reducible refine Keeps.set (by with_reducible assumption) ?_ ?_) | dsimp only

theorem hqCountersClearDef_steady : CmdDef.steady hqCountersClearDef := by
  intro s₀ s cid c ctx h
  unfold hqCountersClearDef
  try dsimp -zeta only
  repeat' first | with_reducible assumption | (with_reducible apply Keeps.clearQueueCounters) | (with_reducible apply Keeps.done) |
                  (with_reducible rfl) | (simp only [fixedSizes, length_upd, List.length_map]; first | done | rfl) | split |
                  (intro _ _ _) | (intro _ _) | (with_reducible refine Keeps.set (by with_reducible assumption) ?_ ?_) | dsimp only

theorem execQueueSetup_keeps {t : Nat} {c : Cmd} {s u : State} (h : execQueueSetup t c s = .next u) : Keeps s u := Keeps.ofRun queueSetupDef_steady h

theorem execQueueDisable_keeps {t : Nat} {c : Cmd} {s u : State} (h : execQueueDisable t c s = .next u) : Keeps s u := Keeps.ofRun queueDisableDef_steady h

theorem execQueueFlush_keeps {t : Nat} {c : Cmd} {s u : State} (h : execQueueFlush t c s = .next u) : Keeps s u := Keeps.ofRun queueFlushDef_steady h

theorem execQueueStatus_keeps {t : Nat} {c : Cmd} {s u : State} (h : execQueueStatus t c s = .next u) : Keeps s u := Keeps.ofRun (statusDef_steady _ _ _ _ _) h

theorem execStreamSet_keeps {t : Nat} {c : Cmd} {s u : State} (h : execStreamSet t c s = .next u) : Keeps s u := Keeps.ofRun streamSetDef_steady h

theorem execHqSet_keeps {t : Nat} {c : Cmd} {s u : State} (h : execHqSet t c s = .next u) : Keeps s u := Keeps.ofRun hqSetDef_steady h

theorem execHqStale_keeps {t : Nat} {q : Nat} {s u : State} (h : execHqStale t q s = .next u) : Keeps s u := by
  refine Keeps.ofNext (fun v hv => ?_) h
  beta_reduce
  repeat' first | with_reducible assumption | (with_reducible apply Keeps.queueStale) | (with_reducible rfl) |
                  (simp only [fixedSizes, length_upd, List.length_map]; first | done | rfl) | split | (intro _ _ _) | (intro _ _) |
                  (with_reducible refine Keeps.set (by with_reducible assumption) ?_ ?_) | dsimp only

theorem execArenaSet_keeps {t : Nat} {c : Cmd} {s u : State} (h : execArenaSet t c s = .next u) : Keeps s u := Keeps.ofRun arenaSetDef_steady h

theorem execArenaStatus_keeps {t : Nat} {c : Cmd} {s u : State} (h : execArenaStatus t c s = .next u) : Keeps s u := Keeps.ofRun (statusDef_steady _ _ _ _ _) h

theorem execBar2Map_keeps {t : Nat} {c : Cmd} {s u : State} (h : execBar2Map t c s = .next u) : Keeps s u := Keeps.ofRun bar2MapDef_steady h

theorem execHistReplay_keeps {t : Nat} {c : Cmd} {s u : State} (h : execHistReplay t c s = .next u) : Keeps s u := Keeps.ofRun histReplayDef_steady h

theorem execHistRelease_keeps {t : Nat} {c : Cmd} {s u : State} (h : execHistRelease t c s = .next u) : Keeps s u := Keeps.ofRun histReleaseDef_steady h

theorem execReplayCopyDone_keeps {t : Nat} {s u : State} (h : execReplayCopyDone t s = .next u) : Keeps s u := Keeps.ofNext (fun v hv => hv.replayCopied) h

theorem execHqCountersClear_keeps {t : Nat} {c : Cmd} {s u : State} (h : execHqCountersClear t c s = .next u) : Keeps s u := Keeps.ofRun hqCountersClearDef_steady h

/-! ### Machine/Cmp.lean -/

theorem cmpSetDef_steady : CmdDef.steady cmpSetDef := by
  intro s₀ s cid c ctx h
  unfold cmpSetDef
  try dsimp -zeta only
  repeat' first | with_reducible assumption | (with_reducible apply Keeps.cmpSet) | (with_reducible rfl) |
                  (simp only [fixedSizes, length_upd, List.length_map]; first | done | rfl) | split | (intro _ _ _) | (intro _ _) |
                  (with_reducible refine Keeps.set (by with_reducible assumption) ?_ ?_) | dsimp only

theorem cmpRefCheckDef_steady : CmdDef.steady cmpRefCheckDef := by
  intro s₀ s cid c ctx h
  unfold cmpRefCheckDef
  try dsimp -zeta only
  repeat' first | with_reducible assumption | (with_reducible apply Keeps.defer) | (with_reducible apply Keeps.updCmp) |
                  (with_reducible rfl) | (simp only [fixedSizes, length_upd, List.length_map]; first | done | rfl) | split |
                  (intro _ _ _) | (intro _ _) | (with_reducible refine Keeps.set (by with_reducible assumption) ?_ ?_) | dsimp only

theorem cmpHatchLoadDef_steady : CmdDef.steady cmpHatchLoadDef := by
  intro s₀ s cid c ctx h
  unfold cmpHatchLoadDef
  try dsimp -zeta only
  repeat' first | with_reducible assumption | (with_reducible apply Keeps.defer) | (with_reducible apply Keeps.updCmp) |
                  (with_reducible rfl) | (simp only [fixedSizes, length_upd, List.length_map]; first | done | rfl) | split |
                  (intro _ _ _) | (intro _ _) | (with_reducible refine Keeps.set (by with_reducible assumption) ?_ ?_) | dsimp only

theorem execCmpSet_keeps {t : Nat} {c : Cmd} {s u : State} (h : execCmpSet t c s = .next u) : Keeps s u := Keeps.ofRun cmpSetDef_steady h

theorem execCmpRefCheck_keeps {t : Nat} {c : Cmd} {s u : State} (h : execCmpRefCheck t c s = .next u) : Keeps s u := Keeps.ofRun cmpRefCheckDef_steady h

theorem execRefCheckDone_keeps {t : Nat} {s u : State} (h : execRefCheckDone t s = .next u) : Keeps s u := Keeps.ofNext (fun v hv => hv.refCheckEnds) h

theorem execCmpHatchLoad_keeps {t : Nat} {c : Cmd} {s u : State} (h : execCmpHatchLoad t c s = .next u) : Keeps s u := Keeps.ofRun cmpHatchLoadDef_steady h

theorem execHatchLoadDone_keeps {t : Nat} {s u : State} (h : execHatchLoadDone t s = .next u) : Keeps s u := Keeps.ofNext (fun v hv => hv.hatchLoaded) h

theorem execCmpStatus_keeps {t : Nat} {c : Cmd} {s u : State} (h : execCmpStatus t c s = .next u) : Keeps s u := Keeps.ofRun (statusDef_steady _ _ _ _ _) h

theorem execCmpCountersClear_keeps {t : Nat} {c : Cmd} {s u : State} (h : execCmpCountersClear t c s = .next u) : Keeps s u := Keeps.ofRun (clearDef_steady _ _) h

/-! ### Machine/Lmp.lean -/

theorem lmpBarSetDef_steady : CmdDef.steady lmpBarSetDef := by
  intro s₀ s cid c ctx h
  unfold lmpBarSetDef
  try dsimp -zeta only
  repeat' first | with_reducible assumption | (with_reducible apply Keeps.barSet) | (with_reducible rfl) |
                  (simp only [fixedSizes, length_upd, List.length_map]; first | done | rfl) | split | (intro _ _ _) | (intro _ _) |
                  (with_reducible refine Keeps.set (by with_reducible assumption) ?_ ?_) | dsimp only

theorem lmpPhaseSetDef_steady : CmdDef.steady lmpPhaseSetDef := setDef_steady _ _ _ _ _ _ _ _

theorem lmpPatternLoadDef_steady : CmdDef.steady lmpPatternLoadDef := by
  intro s₀ s cid c ctx h
  unfold lmpPatternLoadDef
  try dsimp -zeta only
  extract_lets a1
  repeat' first | with_reducible assumption | (with_reducible apply Keeps.done) | (with_reducible apply Keeps.updBar) |
                  (with_reducible apply Keeps.foldl) | (with_reducible rfl) |
                  (simp only [fixedSizes, length_upd, List.length_map]; first | done | rfl) | split | (intro _ _ _) | (intro _ _) |
                  (with_reducible refine Keeps.set (by with_reducible assumption) ?_ ?_) | unfold a1 | dsimp only

theorem lmpPatternApplyDef_steady : CmdDef.steady lmpPatternApplyDef := by
  intro s₀ s cid c ctx h
  unfold lmpPatternApplyDef
  try dsimp -zeta only
  extract_lets a1 a2
  refine Keeps.step (s := a2) ?_ (fun ba2 => ?_); rotate_left; try clear_value a2
  repeat' first | with_reducible assumption | (with_reducible apply Keeps.startUpload) | (with_reducible apply Keeps.submit) |
                  (with_reducible apply Keeps.foldl) | (with_reducible rfl) |
                  (simp only [fixedSizes, length_upd, List.length_map]; first | done | rfl) | split | (intro _ _ _) | (intro _ _) |
                  (with_reducible refine Keeps.set (by with_reducible assumption) ?_ ?_) | unfold a1 | unfold a2 | dsimp only

theorem lmpPatternReadDef_steady : CmdDef.steady lmpPatternReadDef := by
  intro s₀ s cid c ctx h
  unfold lmpPatternReadDef
  try dsimp -zeta only
  extract_lets a1 a2 a3 a4 a5
  refine Keeps.step (s := a3) ?_ (fun ba3 => ?_); rotate_left; try clear_value a3
  refine Keeps.step (s := a4) ?_ (fun ba4 => ?_); rotate_left; try clear_value a4
  repeat' first | with_reducible assumption | (with_reducible apply Keeps.defer) | (with_reducible apply Keeps.updBar) |
                  (with_reducible rfl) | (simp only [fixedSizes, length_upd, List.length_map]; first | done | rfl) | split |
                  (intro _ _ _) | (intro _ _) | (with_reducible refine Keeps.set (by with_reducible assumption) ?_ ?_) | unfold a1 |
                  unfold a2 | unfold a3 | unfold a4 | unfold a5 | dsimp only

theorem lmpDiagRunDef_steady : CmdDef.steady lmpDiagRunDef := actDef_steady _ _ _ _ _ _

theorem lmpFaultClearDef_steady : CmdDef.steady lmpFaultClearDef := actDef_steady _ _ _ _ _ _

theorem execLmpBarSet_keeps {t : Nat} {c : Cmd} {s u : State} (h : execLmpBarSet t c s = .next u) : Keeps s u := Keeps.ofRun lmpBarSetDef_steady h

theorem execLmpPhaseSet_keeps {t : Nat} {c : Cmd} {s u : State} (h : execLmpPhaseSet t c s = .next u) : Keeps s u := Keeps.ofRun lmpPhaseSetDef_steady h

theorem execLmpPatternLoad_keeps {t : Nat} {c : Cmd} {s u : State} (h : execLmpPatternLoad t c s = .next u) : Keeps s u := Keeps.ofRun lmpPatternLoadDef_steady h

theorem execLmpPatternApply_keeps {t : Nat} {c : Cmd} {s u : State} (h : execLmpPatternApply t c s = .next u) : Keeps s u := Keeps.ofRun lmpPatternApplyDef_steady h

theorem execPatternUploadDone_keeps {t : Nat} {bar : Nat} {s u : State} (h : execPatternUploadDone t bar s = .next u) : Keeps s u := by
  refine Keeps.ofNext (fun v hv => ?_) h
  beta_reduce
  repeat' first | with_reducible assumption | (with_reducible apply Keeps.uploadDone) | (with_reducible rfl) |
                  (simp only [fixedSizes, length_upd, List.length_map]; first | done | rfl) | split | (intro _ _ _) | (intro _ _) |
                  (with_reducible refine Keeps.set (by with_reducible assumption) ?_ ?_) | dsimp only

theorem execP64UploadDone_keeps {t : Nat} {bar : Nat} {s u : State} (h : execP64UploadDone t bar s = .next u) : Keeps s u := by
  refine Keeps.ofNext (fun v hv => ?_) h
  beta_reduce
  repeat' first | with_reducible assumption | (with_reducible apply Keeps.p64Latched) | (with_reducible rfl) |
                  (simp only [fixedSizes, length_upd, List.length_map]; first | done | rfl) | split | (intro _ _ _) | (intro _ _) |
                  (with_reducible refine Keeps.set (by with_reducible assumption) ?_ ?_) | dsimp only

theorem execLmpPatternRead_keeps {t : Nat} {c : Cmd} {s u : State} (h : execLmpPatternRead t c s = .next u) : Keeps s u := Keeps.ofRun lmpPatternReadDef_steady h

theorem execChainFrameLatch_keeps {t : Nat} {bar : Nat} {status : List Nat} {s u : State} (h : execChainFrameLatch t bar status s = .next u) : Keeps s u := by
  refine Keeps.ofNext (fun v hv => ?_) h
  beta_reduce
  repeat' first | with_reducible assumption | (with_reducible apply Keeps.chainFrame) | (with_reducible rfl) |
                  (simp only [fixedSizes, length_upd, List.length_map]; first | done | rfl) | split | (intro _ _ _) | (intro _ _) |
                  (with_reducible refine Keeps.set (by with_reducible assumption) ?_ ?_) | dsimp only

theorem execChainDiscovery_keeps {t : Nat} {bar : Nat} {delays ids : List Nat} {s u : State} (h : execChainDiscovery t bar delays ids s = .next u) : Keeps s u := by
  refine Keeps.ofNext (fun v hv => ?_) h
  beta_reduce
  repeat' first | with_reducible assumption | (with_reducible apply Keeps.discovered) | (with_reducible rfl) |
                  (simp only [fixedSizes, length_upd, List.length_map]; first | done | rfl) | split | (intro _ _ _) | (intro _ _) |
                  (with_reducible refine Keeps.set (by with_reducible assumption) ?_ ?_) | dsimp only

theorem execLmpDiagRun_keeps {t : Nat} {c : Cmd} {s u : State} (h : execLmpDiagRun t c s = .next u) : Keeps s u := Keeps.ofRun lmpDiagRunDef_steady h

theorem execLmpDiagDone_keeps {t : Nat} {bar : Nat} {opens shorts leaks1 leaks2 : List Nat} {s u : State} (h : execLmpDiagDone t bar opens shorts leaks1 leaks2 s = .next u) : Keeps s u := by
  refine Keeps.ofNext (fun v hv => ?_) h
  beta_reduce
  repeat' first | with_reducible assumption | (with_reducible apply Keeps.diagDone) | (with_reducible rfl) |
                  (simp only [fixedSizes, length_upd, List.length_map]; first | done | rfl) | split | (intro _ _ _) | (intro _ _) |
                  (with_reducible refine Keeps.set (by with_reducible assumption) ?_ ?_) | dsimp only

theorem execLmpFaults_keeps {t : Nat} {c : Cmd} {s u : State} (h : execLmpFaults t c s = .next u) : Keeps s u := Keeps.ofRun (statusDef_steady _ _ _ _ _) h

theorem execLmpFaultClear_keeps {t : Nat} {c : Cmd} {s u : State} (h : execLmpFaultClear t c s = .next u) : Keeps s u := Keeps.ofRun lmpFaultClearDef_steady h

theorem execLmpStatus_keeps {t : Nat} {c : Cmd} {s u : State} (h : execLmpStatus t c s = .next u) : Keeps s u := Keeps.ofRun (statusDef_steady _ _ _ _ _) h

theorem execLmpCountersClear_keeps {t : Nat} {c : Cmd} {s u : State} (h : execLmpCountersClear t c s = .next u) : Keeps s u := Keeps.ofRun (clearDef_steady _ _) h

theorem execProofPulse_keeps {t : Nat} {s u : State} (h : execProofPulse t s = .next u) : Keeps s u := by
  refine Keeps.ofNext (fun v hv => ?_) h
  beta_reduce
  extract_lets a1
  repeat' first | with_reducible assumption | (with_reducible apply Keeps.proofPulse) | (with_reducible rfl) |
                  (simp only [fixedSizes, length_upd, List.length_map]; first | done | rfl) | split | (intro _ _ _) | (intro _ _) |
                  (with_reducible refine Keeps.set (by with_reducible assumption) ?_ ?_) | unfold a1 | dsimp only

theorem execIdleProofPulse_keeps {t : Nat} {s u : State} (h : execIdleProofPulse t s = .next u) : Keeps s u := by
  refine Keeps.ofNext (fun v hv => ?_) h
  beta_reduce
  extract_lets a1
  repeat' first | with_reducible assumption | (with_reducible apply Keeps.hold) | (with_reducible apply Keeps.proofPulse) |
                  (with_reducible rfl) | (simp only [fixedSizes, length_upd, List.length_map]; first | done | rfl) | split |
                  (intro _ _ _) | (intro _ _) | (with_reducible refine Keeps.set (by with_reducible assumption) ?_ ?_) | unfold a1 |
                  dsimp only

theorem execLampBoostOvp_keeps {t : Nat} {bar : Nat} {volts : Nat} {s u : State} (h : execLampBoostOvp t bar volts s = .next u) : Keeps s u := by
  refine Keeps.ofNext (fun v hv => ?_) h
  beta_reduce
  repeat' first | with_reducible assumption | (with_reducible apply Keeps.raise) | (with_reducible apply Keeps.updBar) |
                  (with_reducible rfl) | (simp only [fixedSizes, length_upd, List.length_map]; first | done | rfl) | split |
                  (intro _ _ _) | (intro _ _) | (with_reducible refine Keeps.set (by with_reducible assumption) ?_ ?_) | dsimp only

theorem execBoostOvpRelease_keeps {t : Nat} {bar : Nat} {volts : Nat} {s u : State} (h : execBoostOvpRelease t bar volts s = .next u) : Keeps s u := by
  refine Keeps.ofNext (fun v hv => ?_) h
  beta_reduce
  repeat' first | with_reducible assumption | (with_reducible apply Keeps.updBar) | (with_reducible rfl) |
                  (simp only [fixedSizes, length_upd, List.length_map]; first | done | rfl) | split | (intro _ _ _) | (intro _ _) |
                  (with_reducible refine Keeps.set (by with_reducible assumption) ?_ ?_) | dsimp only

theorem execLampTempInvalid_keeps {t : Nat} {bar : Nat} {s u : State} (h : execLampTempInvalid t bar s = .next u) : Keeps s u := by
  refine Keeps.ofNext (fun v hv => ?_) h
  beta_reduce
  repeat' first | with_reducible assumption | (with_reducible apply Keeps.lampInvalid) | (with_reducible rfl) |
                  (simp only [fixedSizes, length_upd, List.length_map]; first | done | rfl) | split | (intro _ _ _) | (intro _ _) |
                  (with_reducible refine Keeps.set (by with_reducible assumption) ?_ ?_) | dsimp only

/-! ### Machine/Mot.lean -/

theorem motAxisSetDef_steady : CmdDef.steady motAxisSetDef := setDef_steady _ _ _ _ _ _ _ _

theorem motProfileSetDef_steady : CmdDef.steady motProfileSetDef := setDef_steady _ _ _ _ _ _ _ _

theorem motMoveDef_steady : CmdDef.steady motMoveDef := by
  intro s₀ s cid c ctx h
  unfold motMoveDef
  try dsimp -zeta only
  repeat' first | with_reducible assumption | (with_reducible apply Keeps.submit) | (with_reducible rfl) |
                  (simp only [fixedSizes, length_upd, List.length_map]; first | done | rfl) | split | (intro _ _ _) | (intro _ _) |
                  (with_reducible refine Keeps.set (by with_reducible assumption) ?_ ?_) | dsimp only

theorem motJogDef_steady : CmdDef.steady motJogDef := actDef_steady _ _ _ _ _ _

theorem motStopDef_steady : CmdDef.steady motStopDef := actDef_steady _ _ _ _ _ _

theorem motGearDef_steady : CmdDef.steady motGearDef := by
  intro s₀ s cid c ctx h
  unfold motGearDef
  try dsimp -zeta only
  repeat' first | with_reducible assumption | (with_reducible apply Keeps.submit) | (with_reducible rfl) |
                  (simp only [fixedSizes, length_upd, List.length_map]; first | done | rfl) | split | (intro _ _ _) | (intro _ _) |
                  (with_reducible refine Keeps.set (by with_reducible assumption) ?_ ?_) | dsimp only

theorem motHomeDef_steady : CmdDef.steady motHomeDef := actDef_steady _ _ _ _ _ _

theorem motAckDef_steady : CmdDef.steady motAckDef := actDef_steady _ _ _ _ _ _

theorem motPosSetDef_steady : CmdDef.steady motPosSetDef := actDef_steady _ _ _ _ _ _

theorem motPaceSetDef_steady : CmdDef.steady motPaceSetDef := setDef_steady _ _ _ _ _ _ _ _

theorem execMotAxisSet_keeps {t : Nat} {c : Cmd} {s u : State} (h : execMotAxisSet t c s = .next u) : Keeps s u := Keeps.ofRun motAxisSetDef_steady h

theorem execMotProfileSet_keeps {t : Nat} {c : Cmd} {s u : State} (h : execMotProfileSet t c s = .next u) : Keeps s u := Keeps.ofRun motProfileSetDef_steady h

theorem execMotMove_keeps {t : Nat} {c : Cmd} {s u : State} (h : execMotMove t c s = .next u) : Keeps s u := Keeps.ofRun motMoveDef_steady h

theorem execMotJog_keeps {t : Nat} {c : Cmd} {s u : State} (h : execMotJog t c s = .next u) : Keeps s u := Keeps.ofRun motJogDef_steady h

theorem execMotStop_keeps {t : Nat} {c : Cmd} {s u : State} (h : execMotStop t c s = .next u) : Keeps s u := Keeps.ofRun motStopDef_steady h

theorem execMotGear_keeps {t : Nat} {c : Cmd} {s u : State} (h : execMotGear t c s = .next u) : Keeps s u := Keeps.ofRun motGearDef_steady h

theorem execMotHome_keeps {t : Nat} {c : Cmd} {s u : State} (h : execMotHome t c s = .next u) : Keeps s u := Keeps.ofRun motHomeDef_steady h

theorem execMotAck_keeps {t : Nat} {c : Cmd} {s u : State} (h : execMotAck t c s = .next u) : Keeps s u := Keeps.ofRun motAckDef_steady h

theorem execMotPosSet_keeps {t : Nat} {c : Cmd} {s u : State} (h : execMotPosSet t c s = .next u) : Keeps s u := Keeps.ofRun motPosSetDef_steady h

theorem execMotPaceSet_keeps {t : Nat} {c : Cmd} {s u : State} (h : execMotPaceSet t c s = .next u) : Keeps s u := Keeps.ofRun motPaceSetDef_steady h

theorem execMotStatus_keeps {t : Nat} {c : Cmd} {s u : State} (h : execMotStatus t c s = .next u) : Keeps s u := Keeps.ofRun (statusDef_steady _ _ _ _ _) h

theorem execMotCountersClear_keeps {t : Nat} {c : Cmd} {s u : State} (h : execMotCountersClear t c s = .next u) : Keeps s u := Keeps.ofRun (clearDef_steady _ _) h

theorem execBurinEvent_keeps {t : Nat} {axis : Nat} {s u : State} (h : execBurinEvent t axis s = .next u) : Keeps s u := by
  refine Keeps.ofNext (fun v hv => ?_) h
  beta_reduce
  repeat' first | with_reducible assumption | (with_reducible apply Keeps.burinEvent) | (with_reducible rfl) |
                  (simp only [fixedSizes, length_upd, List.length_map]; first | done | rfl) | split | (intro _ _ _) | (intro _ _) |
                  (with_reducible refine Keeps.set (by with_reducible assumption) ?_ ?_) | dsimp only

theorem execMotGearChanged_keeps {t : Nat} {axis : Nat} {s u : State} (h : execMotGearChanged t axis s = .next u) : Keeps s u := by
  refine Keeps.ofNext (fun v hv => ?_) h
  beta_reduce
  repeat' first | with_reducible assumption | (with_reducible apply Keeps.gearCross) | (with_reducible rfl) |
                  (simp only [fixedSizes, length_upd, List.length_map]; first | done | rfl) | split | (intro _ _ _) | (intro _ _) |
                  (with_reducible refine Keeps.set (by with_reducible assumption) ?_ ?_) | dsimp only

theorem execChopperTrip_keeps {t : Nat} {axis : Nat} {coil : Nat} {s u : State} (h : execChopperTrip t axis coil s = .next u) : Keeps s u := by
  refine Keeps.ofNext (fun v hv => ?_) h
  beta_reduce
  repeat' first | with_reducible assumption | (with_reducible apply Keeps.chopperTrip) | (with_reducible rfl) |
                  (simp only [fixedSizes, length_upd, List.length_map]; first | done | rfl) | split | (intro _ _ _) | (intro _ _) |
                  (with_reducible refine Keeps.set (by with_reducible assumption) ?_ ?_) | dsimp only

theorem execChopperOffEnd_keeps {t : Nat} {axis : Nat} {coil : Nat} {s u : State} (h : execChopperOffEnd t axis coil s = .next u) : Keeps s u := by
  refine Keeps.ofNext (fun v hv => ?_) h
  beta_reduce
  extract_lets a1
  repeat' first | with_reducible assumption | (with_reducible apply Keeps.coilOn) | (with_reducible rfl) |
                  (simp only [fixedSizes, length_upd, List.length_map]; first | done | rfl) | split | (intro _ _ _) | (intro _ _) |
                  (with_reducible refine Keeps.set (by with_reducible assumption) ?_ ?_) | unfold a1 | dsimp only

theorem execHoldCurrent_keeps {t : Nat} {axis : Nat} {s u : State} (h : execHoldCurrent t axis s = .next u) : Keeps s u := by
  refine Keeps.ofNext (fun v hv => ?_) h
  beta_reduce
  extract_lets a1
  repeat' first | with_reducible assumption | (with_reducible apply Keeps.coilsFollow) | (with_reducible apply Keeps.updAxis) |
                  (with_reducible rfl) | (simp only [fixedSizes, length_upd, List.length_map]; first | done | rfl) | split |
                  (intro _ _ _) | (intro _ _) | (with_reducible refine Keeps.set (by with_reducible assumption) ?_ ?_) | unfold a1 |
                  dsimp only

theorem execMotLimit_keeps {t : Nat} {axis : Nat} {side : Nat} {s u : State} (h : execMotLimit t axis side s = .next u) : Keeps s u := by
  refine Keeps.ofNext (fun v hv => ?_) h
  beta_reduce
  repeat' first | with_reducible assumption | (with_reducible apply Keeps.limitTrip) | (with_reducible rfl) |
                  (simp only [fixedSizes, length_upd, List.length_map]; first | done | rfl) | split | (intro _ _ _) | (intro _ _) |
                  (with_reducible refine Keeps.set (by with_reducible assumption) ?_ ?_) | dsimp only

theorem execLimitRelease_keeps {t : Nat} {axis : Nat} {side : Nat} {s u : State} (h : execLimitRelease t axis side s = .next u) : Keeps s u := by
  refine Keeps.ofNext (fun v hv => ?_) h
  beta_reduce
  repeat' first | with_reducible assumption | (with_reducible apply Keeps.limitClear) | (with_reducible apply Keeps.updAxis) |
                  (with_reducible rfl) | (simp only [fixedSizes, length_upd, List.length_map]; first | done | rfl) | split |
                  (intro _ _ _) | (intro _ _) | (with_reducible refine Keeps.set (by with_reducible assumption) ?_ ?_) | dsimp only

theorem execPaceEval_keeps {t : Nat} {s u : State} (h : execPaceEval t s = .next u) : Keeps s u := by
  refine Keeps.ofNext (fun v hv => ?_) h
  beta_reduce
  repeat' first | with_reducible assumption | (with_reducible apply Keeps.paceEval) | (with_reducible rfl) |
                  (simp only [fixedSizes, length_upd, List.length_map]; first | done | rfl) | split | (intro _ _ _) | (intro _ _) |
                  (with_reducible refine Keeps.set (by with_reducible assumption) ?_ ?_) | dsimp only

/-! ### Machine/Pos.lean -/

theorem posSetDef_steady : CmdDef.steady posSetDef := setDef_steady _ _ _ _ _ _ _ _

theorem tdcInputSetDef_steady : CmdDef.steady tdcInputSetDef := setDef_steady _ _ _ _ _ _ _ _

theorem tdcChannelSetDef_steady : CmdDef.steady tdcChannelSetDef := setDef_steady _ _ _ _ _ _ _ _

theorem tdcArmDef_steady : CmdDef.steady tdcArmDef := actDef_steady _ _ _ _ _ _

theorem timeSetDef_steady : CmdDef.steady timeSetDef := by
  intro s₀ s cid c ctx h
  unfold timeSetDef
  try dsimp -zeta only
  repeat' first | with_reducible assumption | (with_reducible apply Keeps.timeSet) | (with_reducible rfl) |
                  (simp only [fixedSizes, length_upd, List.length_map]; first | done | rfl) | split | (intro _ _ _) | (intro _ _) |
                  (with_reducible refine Keeps.set (by with_reducible assumption) ?_ ?_) | dsimp only

theorem execPosSet_keeps {t : Nat} {c : Cmd} {s u : State} (h : execPosSet t c s = .next u) : Keeps s u := Keeps.ofRun posSetDef_steady h

theorem execPosStatus_keeps {t : Nat} {c : Cmd} {s u : State} (h : execPosStatus t c s = .next u) : Keeps s u := Keeps.ofRun (statusDef_steady _ _ _ _ _) h

theorem execPosCountersClear_keeps {t : Nat} {c : Cmd} {s u : State} (h : execPosCountersClear t c s = .next u) : Keeps s u := Keeps.ofRun (clearDef_steady _ _) h

theorem execPositionSample_keeps {t : Nat} {xs : List EncSample} {s u : State} (h : execPositionSample t xs s = .next u) : Keeps s u := by
  refine Keeps.ofNext (fun v hv => ?_) h
  beta_reduce
  repeat' first | with_reducible assumption | (with_reducible apply Keeps.positionSample) | (with_reducible apply Keeps.foldl) |
                  (with_reducible rfl) | (simp only [fixedSizes, length_upd, List.length_map]; first | done | rfl) | split |
                  (intro _ _ _) | (intro _ _) | (with_reducible refine Keeps.set (by with_reducible assumption) ?_ ?_) | dsimp only

theorem execEncDoubleChange_keeps {t : Nat} {x : EncSample} {s u : State} (h : execEncDoubleChange t x s = .next u) : Keeps s u := by
  refine Keeps.ofNext (fun v hv => ?_) h
  beta_reduce
  extract_lets a1
  repeat' first | with_reducible assumption | (with_reducible apply Keeps.positionSample) | (with_reducible rfl) |
                  (simp only [fixedSizes, length_upd, List.length_map]; first | done | rfl) | split | (intro _ _ _) | (intro _ _) |
                  (with_reducible refine Keeps.set (by with_reducible assumption) ?_ ?_) | unfold a1 | dsimp only

theorem execEncAmplitude_keeps {t : Nat} {x : EncSample} {s u : State} (h : execEncAmplitude t x s = .next u) : Keeps s u := by
  refine Keeps.ofNext (fun v hv => ?_) h
  beta_reduce
  repeat' first | with_reducible assumption | (with_reducible apply Keeps.positionSample) | (with_reducible rfl) |
                  (simp only [fixedSizes, length_upd, List.length_map]; first | done | rfl) | split | (intro _ _ _) | (intro _ _) |
                  (with_reducible refine Keeps.set (by with_reducible assumption) ?_ ?_) | dsimp only

theorem execEncCorrLimit_keeps {t : Nat} {x : EncSample} {s u : State} (h : execEncCorrLimit t x s = .next u) : Keeps s u := by
  refine Keeps.ofNext (fun v hv => ?_) h
  beta_reduce
  extract_lets a1
  refine Keeps.step (s := a1) ?_ (fun ba1 => ?_); rotate_left; try clear_value a1
  repeat' first | with_reducible assumption | (with_reducible apply Keeps.positionSample) | (with_reducible rfl) |
                  (simp only [fixedSizes, length_upd, List.length_map]; first | done | rfl) | split | (intro _ _ _) | (intro _ _) |
                  (with_reducible refine Keeps.set (by with_reducible assumption) ?_ ?_) | unfold a1 | dsimp only

theorem execReferenceMark_keeps {t : Nat} {enc : Nat} {s u : State} (h : execReferenceMark t enc s = .next u) : Keeps s u := by
  refine Keeps.ofNext (fun v hv => ?_) h
  beta_reduce
  repeat' first | with_reducible assumption | (with_reducible apply Keeps.gearAll) | (with_reducible apply Keeps.refMark) |
                  (with_reducible rfl) | (simp only [fixedSizes, length_upd, List.length_map]; first | done | rfl) | split |
                  (intro _ _ _) | (intro _ _) | (with_reducible refine Keeps.set (by with_reducible assumption) ?_ ?_) | dsimp only

theorem execVwinBlockEnd_keeps {t : Nat} {enc : Nat} {s u : State} (h : execVwinBlockEnd t enc s = .next u) : Keeps s u := by
  refine Keeps.ofNext (fun v hv => ?_) h
  beta_reduce
  extract_lets a1
  repeat' first | with_reducible assumption | (with_reducible apply Keeps.updEnc) | (with_reducible rfl) |
                  (simp only [fixedSizes, length_upd, List.length_map]; first | done | rfl) | split | (intro _ _ _) | (intro _ _) |
                  (with_reducible refine Keeps.set (by with_reducible assumption) ?_ ?_) | unfold a1 | dsimp only

theorem execStandstill_keeps {t : Nat} {enc : Nat} {s u : State} (h : execStandstill t enc s = .next u) : Keeps s u := by
  refine Keeps.ofNext (fun v hv => ?_) h
  beta_reduce
  repeat' first | with_reducible assumption | (with_reducible apply Keeps.updEnc) | (with_reducible rfl) |
                  (simp only [fixedSizes, length_upd, List.length_map]; first | done | rfl) | split | (intro _ _ _) | (intro _ _) |
                  (with_reducible refine Keeps.set (by with_reducible assumption) ?_ ?_) | dsimp only

theorem execPosLogEntry_keeps {t : Nat} {s u : State} (h : execPosLogEntry t s = .next u) : Keeps s u := by
  refine Keeps.ofNext (fun v hv => ?_) h
  beta_reduce
  extract_lets a1
  repeat' first | with_reducible assumption | (with_reducible apply Keeps.serviceRecord) | (with_reducible rfl) |
                  (simp only [fixedSizes, length_upd, List.length_map]; first | done | rfl) | split | (intro _ _ _) | (intro _ _) |
                  (with_reducible refine Keeps.set (by with_reducible assumption) ?_ ?_) | unfold a1 | dsimp only

theorem execTdcInputSet_keeps {t : Nat} {c : Cmd} {s u : State} (h : execTdcInputSet t c s = .next u) : Keeps s u := Keeps.ofRun tdcInputSetDef_steady h

theorem execTdcChannelSet_keeps {t : Nat} {c : Cmd} {s u : State} (h : execTdcChannelSet t c s = .next u) : Keeps s u := Keeps.ofRun tdcChannelSetDef_steady h

theorem execTdcArm_keeps {t : Nat} {c : Cmd} {s u : State} (h : execTdcArm t c s = .next u) : Keeps s u := Keeps.ofRun tdcArmDef_steady h

theorem execTimingInputEdge_keeps {t : Nat} {edge : EdgeObs} {s u : State} (h : execTimingInputEdge t edge s = .next u) : Keeps s u := by
  refine Keeps.ofNext (fun v hv => ?_) h
  beta_reduce
  repeat' first | with_reducible assumption | (with_reducible apply Keeps.inputEdge) | (with_reducible rfl) |
                  (simp only [fixedSizes, length_upd, List.length_map]; first | done | rfl) | split | (intro _ _ _) | (intro _ _) |
                  (with_reducible refine Keeps.set (by with_reducible assumption) ?_ ?_) | dsimp only

theorem execTdcOrderWindowExpiry_keeps {t : Nat} {ch : Nat} {s u : State} (h : execTdcOrderWindowExpiry t ch s = .next u) : Keeps s u := by
  refine Keeps.ofNext (fun v hv => ?_) h
  beta_reduce
  extract_lets a1
  repeat' first | with_reducible assumption | (with_reducible apply Keeps.orphanStop) | (with_reducible apply Keeps.updChan) |
                  (with_reducible rfl) | (simp only [fixedSizes, length_upd, List.length_map]; first | done | rfl) | split |
                  (intro _ _ _) | (intro _ _) | (with_reducible refine Keeps.set (by with_reducible assumption) ?_ ?_) | unfold a1 |
                  dsimp only

theorem execTdcTimeout_keeps {t : Nat} {ch : Nat} {s u : State} (h : execTdcTimeout t ch s = .next u) : Keeps s u := by
  refine Keeps.ofNext (fun v hv => ?_) h
  beta_reduce
  extract_lets a1 a2
  repeat' first | with_reducible assumption | (with_reducible apply Keeps.tdcEntry) | (with_reducible apply Keeps.updChan) |
                  (with_reducible rfl) | (simp only [fixedSizes, length_upd, List.length_map]; first | done | rfl) | split |
                  (intro _ _ _) | (intro _ _) | (with_reducible refine Keeps.set (by with_reducible assumption) ?_ ?_) | unfold a1 |
                  unfold a2 | dsimp only

theorem execTimeSet_keeps {t : Nat} {c : Cmd} {s u : State} (h : execTimeSet t c s = .next u) : Keeps s u := Keeps.ofRun timeSetDef_steady h

theorem execTimeStatus_keeps {t : Nat} {c : Cmd} {s u : State} (h : execTimeStatus t c s = .next u) : Keeps s u := Keeps.ofRun (statusDef_steady _ _ _ _ _) h

theorem execPpsEdge_keeps {t : Nat} {stamp : Nat} {s u : State} (h : execPpsEdge t stamp s = .next u) : Keeps s u := by
  refine Keeps.ofNext (fun v hv => ?_) h
  beta_reduce
  repeat' first | with_reducible assumption | (with_reducible apply Keeps.ppsIn) | (with_reducible rfl) |
                  (simp only [fixedSizes, length_upd, List.length_map]; first | done | rfl) | split | (intro _ _ _) | (intro _ _) |
                  (with_reducible refine Keeps.set (by with_reducible assumption) ?_ ?_) | dsimp only

theorem execPpsHoldover_keeps {t : Nat} {s u : State} (h : execPpsHoldover t s = .next u) : Keeps s u := by
  refine Keeps.ofNext (fun v hv => ?_) h
  beta_reduce
  repeat' first | with_reducible assumption | (with_reducible apply Keeps.holdover) | (with_reducible rfl) |
                  (simp only [fixedSizes, length_upd, List.length_map]; first | done | rfl) | split | (intro _ _ _) | (intro _ _) |
                  (with_reducible refine Keeps.set (by with_reducible assumption) ?_ ?_) | dsimp only

theorem execHoldoverAgeStep_keeps {t : Nat} {s u : State} (h : execHoldoverAgeStep t s = .next u) : Keeps s u := by
  refine Keeps.ofNext (fun v hv => ?_) h
  beta_reduce
  repeat' first | with_reducible assumption | (with_reducible apply Keeps.ageStep) | (with_reducible apply Keeps.holdover) |
                  (with_reducible rfl) | (simp only [fixedSizes, length_upd, List.length_map]; first | done | rfl) | split |
                  (intro _ _ _) | (intro _ _) | (with_reducible refine Keeps.set (by with_reducible assumption) ?_ ?_) | dsimp only

theorem execAgeLearn_keeps {t : Nat} {s u : State} (h : execAgeLearn t s = .next u) : Keeps s u := by
  refine Keeps.ofNext (fun v hv => ?_) h
  beta_reduce
  repeat' first | with_reducible assumption | (with_reducible apply Keeps.ageLearn) | (with_reducible rfl) |
                  (simp only [fixedSizes, length_upd, List.length_map]; first | done | rfl) | split | (intro _ _ _) | (intro _ _) |
                  (with_reducible refine Keeps.set (by with_reducible assumption) ?_ ?_) | dsimp only

/-! ### Machine/Auxm.lean -/

theorem auxSetDef_steady : CmdDef.steady auxSetDef := setDef_steady _ _ _ _ _ _ _ _

theorem auxChSetDef_steady : CmdDef.steady auxChSetDef := setDef_steady _ _ _ _ _ _ _ _

theorem auxLinLoadDef_steady : CmdDef.steady auxLinLoadDef := actDef_steady _ _ _ _ _ _

theorem auxInjectDef_steady : CmdDef.steady auxInjectDef := by
  intro s₀ s cid c ctx h
  unfold auxInjectDef
  try dsimp -zeta only
  repeat' first | with_reducible assumption | (with_reducible apply Keeps.inject) | (with_reducible rfl) |
                  (simp only [fixedSizes, length_upd, List.length_map]; first | done | rfl) | split | (intro _ _ _) | (intro _ _) |
                  (with_reducible refine Keeps.set (by with_reducible assumption) ?_ ?_) | dsimp only

theorem auxCalDef_steady : CmdDef.steady auxCalDef := by
  intro s₀ s cid c ctx h
  unfold auxCalDef
  try dsimp -zeta only
  repeat' first | with_reducible assumption | (with_reducible apply Keeps.auxCal) | (with_reducible rfl) |
                  (simp only [fixedSizes, length_upd, List.length_map]; first | done | rfl) | split | (intro _ _ _) | (intro _ _) |
                  (with_reducible refine Keeps.set (by with_reducible assumption) ?_ ?_) | dsimp only

theorem auxLoopCfgDef_steady : CmdDef.steady auxLoopCfgDef := setDef_steady _ _ _ _ _ _ _ _

theorem execAuxSet_keeps {t : Nat} {c : Cmd} {s u : State} (h : execAuxSet t c s = .next u) : Keeps s u := Keeps.ofRun auxSetDef_steady h

theorem execAuxChSet_keeps {t : Nat} {c : Cmd} {s u : State} (h : execAuxChSet t c s = .next u) : Keeps s u := Keeps.ofRun auxChSetDef_steady h

theorem execAuxLinLoad_keeps {t : Nat} {c : Cmd} {s u : State} (h : execAuxLinLoad t c s = .next u) : Keeps s u := Keeps.ofRun auxLinLoadDef_steady h

theorem execAuxInject_keeps {t : Nat} {c : Cmd} {s u : State} (h : execAuxInject t c s = .next u) : Keeps s u := Keeps.ofRun auxInjectDef_steady h

theorem execAuxCal_keeps {t : Nat} {c : Cmd} {s u : State} (h : execAuxCal t c s = .next u) : Keeps s u := Keeps.ofRun auxCalDef_steady h

theorem execAuxCalCapture_keeps {t : Nat} {nanovolts : List Int} {s u : State} (h : execAuxCalCapture t nanovolts s = .next u) : Keeps s u := by
  refine Keeps.ofNext (fun v hv => ?_) h
  beta_reduce
  repeat' first | with_reducible assumption | (with_reducible apply Keeps.auxCalCapture) | (with_reducible rfl) |
                  (simp only [fixedSizes, length_upd, List.length_map]; first | done | rfl) | split | (intro _ _ _) | (intro _ _) |
                  (with_reducible refine Keeps.set (by with_reducible assumption) ?_ ?_) | dsimp only

theorem execAuxLoopCfg_keeps {t : Nat} {c : Cmd} {s u : State} (h : execAuxLoopCfg t c s = .next u) : Keeps s u := Keeps.ofRun auxLoopCfgDef_steady h

theorem execLoopReadback_keeps {t : Nat} {loop : Nat} {code : Nat} {atLimit : Bool} {s u : State} (h : execLoopReadback t loop code atLimit s = .next u) : Keeps s u := by
  refine Keeps.ofNext (fun v hv => ?_) h
  beta_reduce
  repeat' first | with_reducible assumption | (with_reducible apply Keeps.loopReadback) | (with_reducible rfl) |
                  (simp only [fixedSizes, length_upd, List.length_map]; first | done | rfl) | split | (intro _ _ _) | (intro _ _) |
                  (with_reducible refine Keeps.set (by with_reducible assumption) ?_ ?_) | dsimp only

theorem execLoopFollowTimeout_keeps {t : Nat} {loop : Nat} {s u : State} (h : execLoopFollowTimeout t loop s = .next u) : Keeps s u := by
  refine Keeps.ofNext (fun v hv => ?_) h
  beta_reduce
  repeat' first | with_reducible assumption | (with_reducible apply Keeps.loopOut) | (with_reducible rfl) |
                  (simp only [fixedSizes, length_upd, List.length_map]; first | done | rfl) | split | (intro _ _ _) | (intro _ _) |
                  (with_reducible refine Keeps.set (by with_reducible assumption) ?_ ?_) | dsimp only

theorem execAuxStatus_keeps {t : Nat} {c : Cmd} {s u : State} (h : execAuxStatus t c s = .next u) : Keeps s u := Keeps.ofRun (statusDef_steady _ _ _ _ _) h

theorem execAuxCountersClear_keeps {t : Nat} {c : Cmd} {s u : State} (h : execAuxCountersClear t c s = .next u) : Keeps s u := Keeps.ofRun (clearDef_steady _ _) h

theorem execAuxScanTrigger_keeps {t : Nat} {s u : State} (h : execAuxScanTrigger t s = .next u) : Keeps s u := by
  refine Keeps.ofNext (fun v hv => ?_) h
  beta_reduce
  repeat' first | with_reducible assumption | (with_reducible apply Keeps.scanTrigger) | (with_reducible apply Keeps.updAux) |
                  (with_reducible rfl) | (simp only [fixedSizes, State.updAux, length_upd, List.length_map]; first | done | rfl) |
                  split | (intro _ _ _) | (intro _ _) | (with_reducible refine Keeps.set (by with_reducible assumption) ?_ ?_) |
                  dsimp only

theorem execAuxScanStep_keeps {t : Nat} {nanovolts : List Int} {s u : State} (h : execAuxScanStep t nanovolts s = .next u) : Keeps s u := by
  refine Keeps.ofNext (fun v hv => ?_) h
  beta_reduce
  repeat' first | with_reducible assumption | (with_reducible apply Keeps.scanStep) | (with_reducible rfl) |
                  (simp only [fixedSizes, length_upd, List.length_map]; first | done | rfl) | split | (intro _ _ _) | (intro _ _) |
                  (with_reducible refine Keeps.set (by with_reducible assumption) ?_ ?_) | dsimp only

theorem execMuxAddressLoad_keeps {t : Nat} {s u : State} (h : execMuxAddressLoad t s = .next u) : Keeps s u := by
  refine Keeps.ofNext (fun v hv => ?_) h
  beta_reduce
  repeat' first | with_reducible assumption | (with_reducible apply Keeps.updAux) | (with_reducible rfl) |
                  (simp only [fixedSizes, State.updAux, length_upd, List.length_map]; first | done | rfl) | split | (intro _ _ _) |
                  (intro _ _) | (with_reducible refine Keeps.set (by with_reducible assumption) ?_ ?_) | dsimp only

theorem execAuxScanEnd_keeps {t : Nat} {s u : State} (h : execAuxScanEnd t s = .next u) : Keeps s u := by
  refine Keeps.ofNext (fun v hv => ?_) h
  beta_reduce
  repeat' first | with_reducible assumption | (with_reducible apply Keeps.scanEnd) | (with_reducible rfl) |
                  (simp only [fixedSizes, length_upd, List.length_map]; first | done | rfl) | split | (intro _ _ _) | (intro _ _) |
                  (with_reducible refine Keeps.set (by with_reducible assumption) ?_ ?_) | dsimp only

theorem execAuxExcFault_keeps {t : Nat} {exc : Nat} {current : Nat} {s u : State} (h : execAuxExcFault t exc current s = .next u) : Keeps s u := by
  refine Keeps.ofNext (fun v hv => ?_) h
  beta_reduce
  repeat' first | with_reducible assumption | (with_reducible apply Keeps.excCurrent) | (with_reducible rfl) |
                  (simp only [fixedSizes, length_upd, List.length_map]; first | done | rfl) | split | (intro _ _ _) | (intro _ _) |
                  (with_reducible refine Keeps.set (by with_reducible assumption) ?_ ?_) | dsimp only

theorem execAuxWireRestored_keeps {t : Nat} {ch : Nat} {s u : State} (h : execAuxWireRestored t ch s = .next u) : Keeps s u := by
  refine Keeps.ofNext (fun v hv => ?_) h
  beta_reduce
  repeat' first | with_reducible assumption | (with_reducible apply Keeps.excGood) | (with_reducible rfl) |
                  (simp only [fixedSizes, length_upd, List.length_map]; first | done | rfl) | split | (intro _ _ _) | (intro _ _) |
                  (with_reducible refine Keeps.set (by with_reducible assumption) ?_ ?_) | dsimp only

theorem execAuxExcReduced_keeps {t : Nat} {exc : Nat} {s u : State} (h : execAuxExcReduced t exc s = .next u) : Keeps s u := by
  refine Keeps.ofNext (fun v hv => ?_) h
  beta_reduce
  extract_lets a1 a2
  refine Keeps.step (s := a2) ?_ (fun ba2 => ?_); rotate_left; try clear_value a2
  repeat' first | with_reducible assumption | (with_reducible apply Keeps.excReduce) | (with_reducible apply Keeps.raise) |
                  (with_reducible rfl) | (simp only [fixedSizes, length_upd, List.length_map]; first | done | rfl) | split |
                  (intro _ _ _) | (intro _ _) | (with_reducible refine Keeps.set (by with_reducible assumption) ?_ ?_) | unfold a1 |
                  unfold a2 | dsimp only

theorem execExcRestore_keeps {t : Nat} {exc : Nat} {s u : State} (h : execExcRestore t exc s = .next u) : Keeps s u := by
  refine Keeps.ofNext (fun v hv => ?_) h
  beta_reduce
  extract_lets a1 a2
  refine Keeps.step (s := a2) ?_ (fun ba2 => ?_); rotate_left; try clear_value a2
  repeat' first | with_reducible assumption | (with_reducible apply Keeps.excReduce) | (with_reducible rfl) |
                  (simp only [fixedSizes, length_upd, List.length_map]; first | done | rfl) | split | (intro _ _ _) | (intro _ _) |
                  (with_reducible refine Keeps.set (by with_reducible assumption) ?_ ?_) | unfold a1 | unfold a2 | dsimp only

/-! ### Machine/Sec.lean -/

theorem secDef_steady (op need : Nat) (fails : State → Cmd → List (Nat × Nat)) (run : State → Nat → Cmd → State) (hr : ∀ (s₀ s : State) (cid : Nat) (c : Cmd), Keeps s₀ s → Keeps s₀ (run s cid c)) : CmdDef.steady (secDef op need fails run) :=
  fun s₀ s cid c _ h => hr s₀ s cid c h

theorem secCertReadDef_steady : CmdDef.steady secCertReadDef := by
  refine secDef_steady _ _ _ _ (fun s₀ s cid c h => ?_)
  beta_reduce
  repeat' first | with_reducible assumption | (with_reducible apply Keeps.defer) | (with_reducible rfl) |
                  (simp only [fixedSizes, length_upd, List.length_map]; first | done | rfl) | split | (intro _ _ _) | (intro _ _) |
                  (with_reducible refine Keeps.set (by with_reducible assumption) ?_ ?_) | dsimp only

theorem secRoleKeyDef_steady : CmdDef.steady secRoleKeyDef := by
  intro s₀ s cid c ctx h
  unfold secRoleKeyDef
  try dsimp -zeta only
  repeat' first | with_reducible assumption | (with_reducible apply Keeps.done) | (with_reducible apply Keeps.roleKeySet) |
                  (with_reducible rfl) | (simp only [fixedSizes, length_upd, List.length_map]; first | done | rfl) | split |
                  (intro _ _ _) | (intro _ _) | (with_reducible refine Keeps.set (by with_reducible assumption) ?_ ?_) | dsimp only

theorem secRmkDef_steady : CmdDef.steady secRmkDef := by
  intro s₀ s cid c ctx h
  unfold secRmkDef
  try dsimp -zeta only
  repeat' first | with_reducible assumption | (with_reducible apply Keeps.rmkRun) | (with_reducible rfl) |
                  (simp only [fixedSizes, length_upd, List.length_map]; first | done | rfl) | split | (intro _ _ _) | (intro _ _) |
                  (with_reducible refine Keeps.set (by with_reducible assumption) ?_ ?_) | dsimp only

theorem secPolicySetDef_steady : CmdDef.steady secPolicySetDef := by
  intro s₀ s cid c ctx h
  unfold secPolicySetDef
  try dsimp -zeta only
  repeat' first | with_reducible assumption | (with_reducible apply Keeps.done) | (with_reducible apply Keeps.updSec) |
                  (with_reducible rfl) | (simp only [fixedSizes, State.updSec, length_upd, List.length_map]; first | done | rfl) |
                  split | (intro _ _ _) | (intro _ _) | (with_reducible refine Keeps.set (by with_reducible assumption) ?_ ?_) |
                  dsimp only

theorem secCosignKeyDef_steady : CmdDef.steady secCosignKeyDef := by
  refine secDef_steady _ _ _ _ (fun s₀ s cid c h => ?_)
  beta_reduce
  repeat' first | with_reducible assumption | (with_reducible apply Keeps.done) | (with_reducible apply Keeps.updSec) |
                  (with_reducible rfl) | (simp only [fixedSizes, State.updSec, length_upd, List.length_map]; first | done | rfl) |
                  split | (intro _ _ _) | (intro _ _) | (with_reducible refine Keeps.set (by with_reducible assumption) ?_ ?_) |
                  dsimp only

theorem secAuditReadDef_steady : CmdDef.steady secAuditReadDef := by
  refine secDef_steady _ _ _ _ (fun s₀ s cid c h => ?_)
  beta_reduce
  repeat' first | with_reducible assumption | (with_reducible apply Keeps.defer) | (with_reducible rfl) |
                  (simp only [fixedSizes, length_upd, List.length_map]; first | done | rfl) | split | (intro _ _ _) | (intro _ _) |
                  (with_reducible refine Keeps.set (by with_reducible assumption) ?_ ?_) | dsimp only

theorem secFwWriteDef_steady : CmdDef.steady secFwWriteDef := by
  refine secDef_steady _ _ _ _ (fun s₀ s cid c h => ?_)
  beta_reduce
  repeat' first | with_reducible assumption | (with_reducible apply Keeps.done) | (with_reducible apply Keeps.fwWrite) |
                  (with_reducible rfl) | (simp only [fixedSizes, length_upd, List.length_map]; first | done | rfl) | split |
                  (intro _ _ _) | (intro _ _) | (with_reducible refine Keeps.set (by with_reducible assumption) ?_ ?_) | dsimp only

theorem secFwVerifyDef_steady : CmdDef.steady secFwVerifyDef := by
  refine secDef_steady _ _ _ _ (fun s₀ s cid c h => ?_)
  beta_reduce
  repeat' first | with_reducible assumption | (with_reducible apply Keeps.defer) | (with_reducible rfl) |
                  (simp only [fixedSizes, length_upd, List.length_map]; first | done | rfl) | split | (intro _ _ _) | (intro _ _) |
                  (with_reducible refine Keeps.set (by with_reducible assumption) ?_ ?_) | dsimp only

theorem secFwActivateDef_steady : CmdDef.steady secFwActivateDef := by
  refine secDef_steady _ _ _ _ (fun s₀ s cid c h => ?_)
  beta_reduce
  repeat' first | with_reducible assumption | (with_reducible apply Keeps.done) | (with_reducible apply Keeps.updSec) |
                  (with_reducible rfl) | (simp only [fixedSizes, State.updSec, length_upd, List.length_map]; first | done | rfl) |
                  split | (intro _ _ _) | (intro _ _) | (with_reducible refine Keeps.set (by with_reducible assumption) ?_ ?_) |
                  dsimp only

theorem secSvnCommitDef_steady : CmdDef.steady secSvnCommitDef := by
  refine secDef_steady _ _ _ _ (fun s₀ s cid c h => ?_)
  beta_reduce
  extract_lets a1
  repeat' first | with_reducible assumption | (with_reducible apply Keeps.done) | (with_reducible apply Keeps.updSec) |
                  (with_reducible rfl) | (simp only [fixedSizes, State.updSec, length_upd, List.length_map]; first | done | rfl) |
                  split | (intro _ _ _) | (intro _ _) | (with_reducible refine Keeps.set (by with_reducible assumption) ?_ ?_) |
                  unfold a1 | dsimp only

theorem secSelftestDef_steady : CmdDef.steady secSelftestDef := by
  refine secDef_steady _ _ _ _ (fun s₀ s cid c h => ?_)
  beta_reduce
  extract_lets a1
  refine Keeps.step (s := a1) ?_ (fun ba1 => ?_); rotate_left; try clear_value a1
  repeat' first | with_reducible assumption | (with_reducible apply Keeps.defer) | (with_reducible apply Keeps.testStart) |
                  (with_reducible rfl) | (simp only [fixedSizes, length_upd, List.length_map]; first | done | rfl) | split |
                  (intro _ _ _) | (intro _ _) | (with_reducible refine Keeps.set (by with_reducible assumption) ?_ ?_) | unfold a1 |
                  dsimp only

theorem secZeroiseDef_steady : CmdDef.steady secZeroiseDef := by
  refine secDef_steady _ _ _ _ (fun s₀ s cid c h => ?_)
  beta_reduce
  repeat' first | with_reducible assumption | (with_reducible apply Keeps.done) | (with_reducible apply Keeps.zeroise) |
                  (with_reducible rfl) | (simp only [fixedSizes, length_upd, List.length_map]; first | done | rfl) | split |
                  (intro _ _ _) | (intro _ _) | (with_reducible refine Keeps.set (by with_reducible assumption) ?_ ?_) | dsimp only

theorem secDebugDef_steady : CmdDef.steady secDebugDef := by
  refine secDef_steady _ _ _ _ (fun s₀ s cid c h => ?_)
  beta_reduce
  repeat' first | with_reducible assumption | (with_reducible apply Keeps.debugSet) | (with_reducible apply Keeps.done) |
                  (with_reducible rfl) | (simp only [fixedSizes, length_upd, List.length_map]; first | done | rfl) | split |
                  (intro _ _ _) | (intro _ _) | (with_reducible refine Keeps.set (by with_reducible assumption) ?_ ?_) | dsimp only

theorem execSecIdentity_keeps {t : Nat} {c : Cmd} {s u : State} (h : execSecIdentity t c s = .next u) : Keeps s u := by
  refine Keeps.ofRun (secDef_steady _ _ _ _ (fun s₀ s cid c h => ?_)) h
  beta_reduce
  repeat' first | with_reducible assumption | (with_reducible apply Keeps.identity) | (with_reducible rfl) |
                  (simp only [fixedSizes, length_upd, List.length_map]; first | done | rfl) | split | (intro _ _ _) | (intro _ _) |
                  (with_reducible refine Keeps.set (by with_reducible assumption) ?_ ?_) | dsimp only

theorem execSecCertRead_keeps {t : Nat} {c : Cmd} {s u : State} (h : execSecCertRead t c s = .next u) : Keeps s u := Keeps.ofRun secCertReadDef_steady h

theorem execSecRoleKey_keeps {t : Nat} {c : Cmd} {s u : State} (h : execSecRoleKey t c s = .next u) : Keeps s u := Keeps.ofRun secRoleKeyDef_steady h

theorem execSecRmk_keeps {t : Nat} {c : Cmd} {s u : State} (h : execSecRmk t c s = .next u) : Keeps s u := Keeps.ofRun secRmkDef_steady h

theorem execSecPolicySet_keeps {t : Nat} {c : Cmd} {s u : State} (h : execSecPolicySet t c s = .next u) : Keeps s u := Keeps.ofRun secPolicySetDef_steady h

theorem execSecCosignKey_keeps {t : Nat} {c : Cmd} {s u : State} (h : execSecCosignKey t c s = .next u) : Keeps s u := Keeps.ofRun secCosignKeyDef_steady h

theorem execSecAuditRead_keeps {t : Nat} {c : Cmd} {s u : State} (h : execSecAuditRead t c s = .next u) : Keeps s u := Keeps.ofRun secAuditReadDef_steady h

theorem execSecAuditSign_keeps {t : Nat} {c : Cmd} {s u : State} (h : execSecAuditSign t c s = .next u) : Keeps s u := by
  refine Keeps.ofRun (secDef_steady _ _ _ _ (fun s₀ s cid c h => ?_)) h
  beta_reduce
  extract_lets a1
  refine Keeps.step (s := a1.2) ?_ (fun ba1 => ?_); rotate_left; try clear_value a1
  repeat' first | with_reducible assumption | (with_reducible apply Keeps.auditHead) | (with_reducible apply Keeps.done) |
                  (with_reducible rfl) | (simp only [fixedSizes, length_upd, List.length_map]; first | done | rfl) | split |
                  (intro _ _ _) | (intro _ _) | (with_reducible refine Keeps.set (by with_reducible assumption) ?_ ?_) | unfold a1 |
                  dsimp only

theorem execSecMapSign_keeps {t : Nat} {c : Cmd} {s u : State} (h : execSecMapSign t c s = .next u) : Keeps s u := by
  refine Keeps.ofRun (secDef_steady _ _ _ _ (fun s₀ s cid c h => ?_)) h
  beta_reduce
  repeat' first | with_reducible assumption | (with_reducible apply Keeps.done) | (with_reducible apply Keeps.signMap) |
                  (with_reducible rfl) | (simp only [fixedSizes, length_upd, List.length_map]; first | done | rfl) | split |
                  (intro _ _ _) | (intro _ _) | (with_reducible refine Keeps.set (by with_reducible assumption) ?_ ?_) | dsimp only

theorem execSecFwWrite_keeps {t : Nat} {c : Cmd} {s u : State} (h : execSecFwWrite t c s = .next u) : Keeps s u := Keeps.ofRun secFwWriteDef_steady h

theorem execSecFwVerify_keeps {t : Nat} {c : Cmd} {s u : State} (h : execSecFwVerify t c s = .next u) : Keeps s u := Keeps.ofRun secFwVerifyDef_steady h

theorem execSecFwActivate_keeps {t : Nat} {c : Cmd} {s u : State} (h : execSecFwActivate t c s = .next u) : Keeps s u := Keeps.ofRun secFwActivateDef_steady h

theorem execSecSvnCommit_keeps {t : Nat} {c : Cmd} {s u : State} (h : execSecSvnCommit t c s = .next u) : Keeps s u := Keeps.ofRun secSvnCommitDef_steady h

theorem execSecSelftest_keeps {t : Nat} {c : Cmd} {s u : State} (h : execSecSelftest t c s = .next u) : Keeps s u := Keeps.ofRun secSelftestDef_steady h

theorem execSecZeroise_keeps {t : Nat} {c : Cmd} {s u : State} (h : execSecZeroise t c s = .next u) : Keeps s u := Keeps.ofRun secZeroiseDef_steady h

theorem execSecDebug_keeps {t : Nat} {c : Cmd} {s u : State} (h : execSecDebug t c s = .next u) : Keeps s u := Keeps.ofRun secDebugDef_steady h

theorem execSecCountersClear_keeps {t : Nat} {c : Cmd} {s u : State} (h : execSecCountersClear t c s = .next u) : Keeps s u := Keeps.ofRun (clearDef_steady _ _) h

theorem execSelftestDue_keeps {t : Nat} {s u : State} (h : execSelftestDue t s = .next u) : Keeps s u := by
  refine Keeps.ofNext (fun v hv => ?_) h
  beta_reduce
  repeat' first | with_reducible assumption | (with_reducible apply Keeps.testPeriod) | (with_reducible rfl) |
                  (simp only [fixedSizes, length_upd, List.length_map]; first | done | rfl) | split | (intro _ _ _) | (intro _ _) |
                  (with_reducible refine Keeps.set (by with_reducible assumption) ?_ ?_) | dsimp only

theorem execSelftestDone_keeps {t : Nat} {cause : Nat} {s u : State} (h : execSelftestDone t cause s = .next u) : Keeps s u := by
  refine Keeps.ofNext (fun v hv => ?_) h
  beta_reduce
  repeat' first | with_reducible assumption | (with_reducible apply Keeps.testDone) | (with_reducible rfl) |
                  (simp only [fixedSizes, length_upd, List.length_map]; first | done | rfl) | split | (intro _ _ _) | (intro _ _) |
                  (with_reducible refine Keeps.set (by with_reducible assumption) ?_ ?_) | dsimp only

theorem execEntropyTestFail_keeps {t : Nat} {cause : Nat} {s u : State} (h : execEntropyTestFail t cause s = .next u) : Keeps s u := by
  refine Keeps.ofNext (fun v hv => ?_) h
  beta_reduce
  repeat' first | with_reducible assumption | (with_reducible apply Keeps.secError) | (with_reducible rfl) |
                  (simp only [fixedSizes, length_upd, List.length_map]; first | done | rfl) | split | (intro _ _ _) | (intro _ _) |
                  (with_reducible refine Keeps.set (by with_reducible assumption) ?_ ?_) | dsimp only

theorem execAuditFlush_keeps {t : Nat} {ok : Bool} {s u : State} (h : execAuditFlush t ok s = .next u) : Keeps s u := by
  refine Keeps.ofNext (fun v hv => ?_) h
  beta_reduce
  repeat' first | with_reducible assumption | (with_reducible apply Keeps.auditFlush) | (with_reducible rfl) |
                  (simp only [fixedSizes, length_upd, List.length_map]; first | done | rfl) | split | (intro _ _ _) | (intro _ _) |
                  (with_reducible refine Keeps.set (by with_reducible assumption) ?_ ?_) | dsimp only

/-! ### Machine/Hlt.lean -/

theorem hltFaultReadDef_steady : CmdDef.steady hltFaultReadDef := statusDef_steady _ _ _ _ _

theorem hltFaultAckDef_steady : CmdDef.steady hltFaultAckDef := by
  intro s₀ s cid c ctx h
  unfold hltFaultAckDef
  try dsimp -zeta only
  extract_lets a1
  refine Keeps.step (s := a1.2) ?_ (fun ba1 => ?_); rotate_left; try clear_value a1
  repeat' first | with_reducible assumption | (with_reducible apply Keeps.ackFaults) | (with_reducible apply Keeps.done) |
                  (with_reducible rfl) | (simp only [fixedSizes, length_upd, List.length_map]; first | done | rfl) | split |
                  (intro _ _ _) | (intro _ _) | (with_reducible refine Keeps.set (by with_reducible assumption) ?_ ?_) | unfold a1 |
                  dsimp only

theorem hltSetDef_steady : CmdDef.steady hltSetDef := setDef_steady _ _ _ _ _ _ _ _

theorem hltClassSetDef_steady : CmdDef.steady hltClassSetDef := by
  intro s₀ s cid c ctx h
  unfold hltClassSetDef
  try dsimp -zeta only
  repeat' first | with_reducible assumption | (with_reducible apply Keeps.submit) | (with_reducible rfl) |
                  (simp only [fixedSizes, length_upd, List.length_map]; first | done | rfl) | split | (intro _ _ _) | (intro _ _) |
                  (with_reducible refine Keeps.set (by with_reducible assumption) ?_ ?_) | dsimp only

theorem hltTrimRunDef_steady : CmdDef.steady hltTrimRunDef := by
  intro s₀ s cid c ctx h
  unfold hltTrimRunDef
  try dsimp -zeta only
  repeat' first | with_reducible assumption | (with_reducible apply Keeps.defer) | (with_reducible apply Keeps.updHlt) |
                  (with_reducible rfl) | (simp only [fixedSizes, State.updHlt, length_upd, List.length_map]; first | done | rfl) |
                  split | (intro _ _ _) | (intro _ _) | (with_reducible refine Keeps.set (by with_reducible assumption) ?_ ?_) |
                  dsimp only

theorem hltTrimStoreDef_steady : CmdDef.steady hltTrimStoreDef := by
  intro s₀ s cid c ctx h
  unfold hltTrimStoreDef
  try dsimp -zeta only
  repeat' first | with_reducible assumption | (with_reducible apply Keeps.defer) | (with_reducible rfl) |
                  (simp only [fixedSizes, length_upd, List.length_map]; first | done | rfl) | split | (intro _ _ _) | (intro _ _) |
                  (with_reducible refine Keeps.set (by with_reducible assumption) ?_ ?_) | dsimp only

theorem hltTrimReadDef_steady : CmdDef.steady hltTrimReadDef := statusDef_steady _ _ _ _ _

theorem hltCountersReadDef_steady : CmdDef.steady hltCountersReadDef := statusDef_steady _ _ _ _ _

theorem execHltStatus_keeps {t : Nat} {c : Cmd} {s u : State} (h : execHltStatus t c s = .next u) : Keeps s u := Keeps.ofRun (statusDef_steady _ _ _ _ _) h

theorem execHltFaultRead_keeps {t : Nat} {c : Cmd} {s u : State} (h : execHltFaultRead t c s = .next u) : Keeps s u := Keeps.ofRun hltFaultReadDef_steady h

theorem execHltFaultAck_keeps {t : Nat} {c : Cmd} {s u : State} (h : execHltFaultAck t c s = .next u) : Keeps s u := Keeps.ofRun hltFaultAckDef_steady h

theorem execHltSet_keeps {t : Nat} {c : Cmd} {s u : State} (h : execHltSet t c s = .next u) : Keeps s u := Keeps.ofRun hltSetDef_steady h

theorem execHltClassSet_keeps {t : Nat} {c : Cmd} {s u : State} (h : execHltClassSet t c s = .next u) : Keeps s u := Keeps.ofRun hltClassSetDef_steady h

theorem execHltMonitorRead_keeps {t : Nat} {c : Cmd} {s u : State} (h : execHltMonitorRead t c s = .next u) : Keeps s u := Keeps.ofRun (statusDef_steady _ _ _ _ _) h

theorem execHltTrimRun_keeps {t : Nat} {c : Cmd} {s u : State} (h : execHltTrimRun t c s = .next u) : Keeps s u := Keeps.ofRun hltTrimRunDef_steady h

theorem execHltTrimStore_keeps {t : Nat} {c : Cmd} {s u : State} (h : execHltTrimStore t c s = .next u) : Keeps s u := Keeps.ofRun hltTrimStoreDef_steady h

theorem execHltTrimRead_keeps {t : Nat} {c : Cmd} {s u : State} (h : execHltTrimRead t c s = .next u) : Keeps s u := Keeps.ofRun hltTrimReadDef_steady h

theorem execHltCountersRead_keeps {t : Nat} {c : Cmd} {s u : State} (h : execHltCountersRead t c s = .next u) : Keeps s u := Keeps.ofRun hltCountersReadDef_steady h

theorem execHltCountersClear_keeps {t : Nat} {c : Cmd} {s u : State} (h : execHltCountersClear t c s = .next u) : Keeps s u := Keeps.ofRun (clearDef_steady _ _) h

theorem execFaultHandle_keeps {t : Nat} {s u : State} (h : execFaultHandle t s = .next u) : Keeps s u := by
  refine Keeps.ofNext (fun v hv => ?_) h
  beta_reduce
  repeat' first | with_reducible assumption | (with_reducible apply Keeps.handleFault) | (with_reducible rfl) |
                  (simp only [fixedSizes, length_upd, List.length_map]; first | done | rfl) | split | (intro _ _ _) | (intro _ _) |
                  (with_reducible refine Keeps.set (by with_reducible assumption) ?_ ?_) | dsimp only

theorem execTempSample_keeps {t : Nat} {temps : List Int} {s u : State} (h : execTempSample t temps s = .next u) : Keeps s u := by
  refine Keeps.ofNext (fun v hv => ?_) h
  beta_reduce
  repeat' first | with_reducible assumption | (with_reducible apply Keeps.tempSample) | (with_reducible rfl) |
                  (simp only [fixedSizes, length_upd, List.length_map]; first | done | rfl) | split | (intro _ _ _) | (intro _ _) |
                  (with_reducible refine Keeps.set (by with_reducible assumption) ?_ ?_) | dsimp only

theorem execThermalStepDown_keeps {t : Nat} {s u : State} (h : execThermalStepDown t s = .next u) : Keeps s u := by
  refine Keeps.ofNext (fun v hv => ?_) h
  beta_reduce
  repeat' first | with_reducible assumption | (with_reducible apply Keeps.thermDown) | (with_reducible rfl) |
                  (simp only [fixedSizes, length_upd, List.length_map]; first | done | rfl) | split | (intro _ _ _) | (intro _ _) |
                  (with_reducible refine Keeps.set (by with_reducible assumption) ?_ ?_) | dsimp only

theorem execHltVoltage_keeps {t mon mv : Nat} {s u : State} (h : execHltVoltage t mon mv s = .next u) : Keeps s u := by
  refine Keeps.ofNext (fun v hv => ?_) h
  beta_reduce
  extract_lets a1
  refine Keeps.step (s := a1) ?_ (fun ba1 => ?_); rotate_left; try clear_value a1
  repeat' first | with_reducible assumption | (with_reducible apply Keeps.updPwr) | (with_reducible apply Keeps.voltSample) |
                  (with_reducible rfl) | (simp only [fixedSizes, length_upd, List.length_map]; first | done | rfl) | split |
                  (intro _ _ _) | (intro _ _) | (with_reducible refine Keeps.set (by with_reducible assumption) ?_ ?_) | unfold a1 |
                  dsimp only

theorem execVoltageFaultPersist_keeps {t mon : Nat} {s u : State} (h : execVoltageFaultPersist t mon s = .next u) : Keeps s u := by
  refine Keeps.ofNext (fun v hv => ?_) h
  beta_reduce
  repeat' first | with_reducible assumption | (with_reducible apply Keeps.voltPersist) | (with_reducible rfl) |
                  (simp only [fixedSizes, length_upd, List.length_map]; first | done | rfl) | split | (intro _ _ _) | (intro _ _) |
                  (with_reducible refine Keeps.set (by with_reducible assumption) ?_ ?_) | dsimp only

theorem execHltProcess_keeps {t tile : Nat} {dev : Int} {s u : State} (h : execHltProcess t tile dev s = .next u) : Keeps s u := by
  refine Keeps.ofNext (fun v hv => ?_) h
  beta_reduce
  repeat' first | with_reducible assumption | (with_reducible apply Keeps.process) | (with_reducible rfl) |
                  (simp only [fixedSizes, length_upd, List.length_map]; first | done | rfl) | split | (intro _ _ _) | (intro _ _) |
                  (with_reducible refine Keeps.set (by with_reducible assumption) ?_ ?_) | dsimp only

theorem execClockFault_keeps {t clk : Nat} {s u : State} (h : execClockFault t clk s = .next u) : Keeps s u := by
  refine Keeps.ofNext (fun v hv => ?_) h
  beta_reduce
  extract_lets a1
  refine Keeps.step (s := a1) ?_ (fun ba1 => ?_); rotate_left; try clear_value a1
  repeat' first | with_reducible assumption | (with_reducible apply Keeps.clockFault) | (with_reducible apply Keeps.linkDown) |
                  (with_reducible rfl) | (simp only [fixedSizes, length_upd, List.length_map]; first | done | rfl) | split |
                  (intro _ _ _) | (intro _ _) | (with_reducible refine Keeps.set (by with_reducible assumption) ?_ ?_) | unfold a1 |
                  dsimp only

theorem execClockRelock_keeps {t clk : Nat} {s u : State} (h : execClockRelock t clk s = .next u) : Keeps s u := by
  refine Keeps.ofNext (fun v hv => ?_) h
  beta_reduce
  repeat' first | with_reducible assumption | (with_reducible apply Keeps.clockBack) | (with_reducible rfl) |
                  (simp only [fixedSizes, length_upd, List.length_map]; first | done | rfl) | split | (intro _ _ _) | (intro _ _) |
                  (with_reducible refine Keeps.set (by with_reducible assumption) ?_ ?_) | dsimp only

theorem execDramEccError_keeps {t addr : Nat} {correctable : Bool} {s u : State} (h : execDramEccError t addr correctable s = .next u) : Keeps s u := by
  refine Keeps.ofNext (fun v hv => ?_) h
  beta_reduce
  repeat' first | with_reducible assumption | (with_reducible apply Keeps.dramError) | (with_reducible rfl) |
                  (simp only [fixedSizes, length_upd, List.length_map]; first | done | rfl) | split | (intro _ _ _) | (intro _ _) |
                  (with_reducible refine Keeps.set (by with_reducible assumption) ?_ ?_) | dsimp only

theorem execSramEccError_keeps {t mem item : Nat} {kind : EccKind} {s u : State} (h : execSramEccError t mem item kind s = .next u) : Keeps s u := by
  refine Keeps.ofNext (fun v hv => ?_) h
  beta_reduce
  repeat' first | with_reducible assumption | (with_reducible apply Keeps.sramError) | (with_reducible rfl) |
                  (simp only [fixedSizes, length_upd, List.length_map]; first | done | rfl) | split | (intro _ _ _) | (intro _ _) |
                  (with_reducible refine Keeps.set (by with_reducible assumption) ?_ ?_) | dsimp only

theorem execScrub_keeps {t : Nat} {s u : State} (h : execScrub t s = .next u) : Keeps s u := by
  refine Keeps.ofNext (fun v hv => ?_) h
  beta_reduce
  repeat' first | with_reducible assumption | (with_reducible apply Keeps.scrub) | (with_reducible rfl) |
                  (simp only [fixedSizes, length_upd, List.length_map]; first | done | rfl) | split | (intro _ _ _) | (intro _ _) |
                  (with_reducible refine Keeps.set (by with_reducible assumption) ?_ ?_) | dsimp only

theorem execTrimRunDone_keeps {t : Nat} {ok : Bool} {s u : State} (h : execTrimRunDone t ok s = .next u) : Keeps s u := by
  refine Keeps.ofNext (fun v hv => ?_) h
  beta_reduce
  repeat' first | with_reducible assumption | (with_reducible apply Keeps.trimDone) | (with_reducible rfl) |
                  (simp only [fixedSizes, length_upd, List.length_map]; first | done | rfl) | split | (intro _ _ _) | (intro _ _) |
                  (with_reducible refine Keeps.set (by with_reducible assumption) ?_ ?_) | dsimp only

theorem execLaneRestoreDone_keeps {t : Nat} {fails : List Nat} {s u : State} (h : execLaneRestoreDone t fails s = .next u) : Keeps s u := by
  refine Keeps.ofNext (fun v hv => ?_) h
  beta_reduce
  repeat' first | with_reducible assumption | (with_reducible apply Keeps.restoreDone) | (with_reducible rfl) |
                  (simp only [fixedSizes, length_upd, List.length_map]; first | done | rfl) | split | (intro _ _ _) | (intro _ _) |
                  (with_reducible refine Keeps.set (by with_reducible assumption) ?_ ?_) | dsimp only

/-! ### Machine/Ask.lean -/

theorem askSetDef_steady : CmdDef.steady askSetDef := setDef_steady _ _ _ _ _ _ _ _

theorem askCalDef_steady : CmdDef.steady askCalDef := by
  intro s₀ s cid c ctx h
  unfold askCalDef
  try dsimp -zeta only
  repeat' first | with_reducible assumption | (with_reducible apply Keeps.defer) | (with_reducible apply Keeps.lateCommit) |
                  (with_reducible apply Keeps.submit) | (with_reducible rfl) |
                  (simp only [fixedSizes, length_upd, List.length_map]; first | done | rfl) | split | (intro _ _ _) | (intro _ _) |
                  (with_reducible refine Keeps.set (by with_reducible assumption) ?_ ?_) | dsimp only

theorem execAskSet_keeps {t : Nat} {c : Cmd} {s u : State} (h : execAskSet t c s = .next u) : Keeps s u := Keeps.ofRun askSetDef_steady h

theorem execAskCal_keeps {t : Nat} {c : Cmd} {s u : State} (h : execAskCal t c s = .next u) : Keeps s u := Keeps.ofRun askCalDef_steady h

theorem execAskStatus_keeps {t : Nat} {c : Cmd} {s u : State} (h : execAskStatus t c s = .next u) : Keeps s u := Keeps.ofRun (statusDef_steady _ _ _ _ _) h

theorem execAskCountersClear_keeps {t : Nat} {c : Cmd} {s u : State} (h : execAskCountersClear t c s = .next u) : Keeps s u := Keeps.ofRun (clearDef_steady _ _) h

theorem execAskuriFrameRx_keeps {t : Nat} {bytes : List Byte} {s u : State} (h : execAskuriFrameRx t bytes s = .next u) : Keeps s u := by
  refine Keeps.ofNext (fun v hv => ?_) h
  beta_reduce
  extract_lets a1
  refine Keeps.step (s := a1) ?_ (fun ba1 => ?_); rotate_left; try clear_value a1
  repeat' first | with_reducible assumption | (with_reducible apply Keeps.frameIn) | (with_reducible apply Keeps.memberGuess) |
                  (with_reducible rfl) | (simp only [fixedSizes, length_upd, List.length_map]; first | done | rfl) | split |
                  (intro _ _ _) | (intro _ _) | (with_reducible refine Keeps.set (by with_reducible assumption) ?_ ?_) | unfold a1 |
                  dsimp only

theorem execMasterFrameOriginate_keeps {t : Nat} {s u : State} (h : execMasterFrameOriginate t s = .next u) : Keeps s u := by
  refine Keeps.ofNext (fun v hv => ?_) h
  beta_reduce
  repeat' first | with_reducible assumption | (with_reducible apply Keeps.frameOut) | (with_reducible rfl) |
                  (simp only [fixedSizes, length_upd, List.length_map]; first | done | rfl) | split | (intro _ _ _) | (intro _ _) |
                  (with_reducible refine Keeps.set (by with_reducible assumption) ?_ ?_) | dsimp only

theorem execTickInfo_keeps {t : Nat} {payload : List Byte} {s u : State} (h : execTickInfo t payload s = .next u) : Keeps s u := by
  refine Keeps.ofNext (fun v hv => ?_) h
  beta_reduce
  repeat' first | with_reducible assumption | (with_reducible apply Keeps.memberTick) | (with_reducible rfl) |
                  (simp only [fixedSizes, length_upd, List.length_map]; first | done | rfl) | split | (intro _ _ _) | (intro _ _) |
                  (with_reducible refine Keeps.set (by with_reducible assumption) ?_ ?_) | dsimp only

theorem execTimeFrame_keeps {t : Nat} {payload : List Byte} {s u : State} (h : execTimeFrame t payload s = .next u) : Keeps s u := by
  refine Keeps.ofNext (fun v hv => ?_) h
  beta_reduce
  repeat' first | with_reducible assumption | (with_reducible apply Keeps.timeFrame) | (with_reducible rfl) |
                  (simp only [fixedSizes, length_upd, List.length_map]; first | done | rfl) | split | (intro _ _ _) | (intro _ _) |
                  (with_reducible refine Keeps.set (by with_reducible assumption) ?_ ?_) | dsimp only

theorem execRunFrame_keeps {t : Nat} {payload : List Byte} {s u : State} (h : execRunFrame t payload s = .next u) : Keeps s u := by
  refine Keeps.ofNext (fun v hv => ?_) h
  beta_reduce
  repeat' first | with_reducible assumption | (with_reducible apply Keeps.runFrame) | (with_reducible rfl) |
                  (simp only [fixedSizes, length_upd, List.length_map]; first | done | rfl) | split | (intro _ _ _) | (intro _ _) |
                  (with_reducible refine Keeps.set (by with_reducible assumption) ?_ ?_) | dsimp only

theorem execRepeatFrame_keeps {t : Nat} {payload : List Byte} {s u : State} (h : execRepeatFrame t payload s = .next u) : Keeps s u := by
  refine Keeps.ofNext (fun v hv => ?_) h
  beta_reduce
  repeat' first | with_reducible assumption | (with_reducible apply Keeps.repeatFrame) | (with_reducible rfl) |
                  (simp only [fixedSizes, length_upd, List.length_map]; first | done | rfl) | split | (intro _ _ _) | (intro _ _) |
                  (with_reducible refine Keeps.set (by with_reducible assumption) ?_ ?_) | dsimp only

theorem execArmFrame_keeps {t : Nat} {payload : List Byte} {s u : State} (h : execArmFrame t payload s = .next u) : Keeps s u := by
  refine Keeps.ofNext (fun v hv => ?_) h
  beta_reduce
  repeat' first | with_reducible assumption | (with_reducible apply Keeps.armFrame) | (with_reducible rfl) |
                  (simp only [fixedSizes, length_upd, List.length_map]; first | done | rfl) | split | (intro _ _ _) | (intro _ _) |
                  (with_reducible refine Keeps.set (by with_reducible assumption) ?_ ?_) | dsimp only

theorem execSeamRecordRx_keeps {t : Nat} {payload : List Byte} {s u : State} (h : execSeamRecordRx t payload s = .next u) : Keeps s u := by
  refine Keeps.ofNext (fun v hv => ?_) h
  beta_reduce
  repeat' first | with_reducible assumption | (with_reducible apply Keeps.count) | (with_reducible apply Keeps.seamRecord) |
                  (with_reducible rfl) | (simp only [fixedSizes, length_upd, List.length_map]; first | done | rfl) | split |
                  (intro _ _ _) | (intro _ _) | (with_reducible refine Keeps.set (by with_reducible assumption) ?_ ?_) | dsimp only

theorem execCalFrame_keeps {t : Nat} {payload : List Byte} {s u : State} (h : execCalFrame t payload s = .next u) : Keeps s u := by
  refine Keeps.ofNext (fun v hv => ?_) h
  beta_reduce
  repeat' first | with_reducible assumption | (with_reducible apply Keeps.calFrame) | (with_reducible rfl) |
                  (simp only [fixedSizes, length_upd, List.length_map]; first | done | rfl) | split | (intro _ _ _) | (intro _ _) |
                  (with_reducible refine Keeps.set (by with_reducible assumption) ?_ ?_) | dsimp only

theorem execAskLinkUp_keeps {t : Nat} {s u : State} (h : execAskLinkUp t s = .next u) : Keeps s u := by
  refine Keeps.ofNext (fun v hv => ?_) h
  beta_reduce
  repeat' first | with_reducible assumption | (with_reducible apply Keeps.linkIn) | (with_reducible rfl) |
                  (simp only [fixedSizes, length_upd, List.length_map]; first | done | rfl) | split | (intro _ _ _) | (intro _ _) |
                  (with_reducible refine Keeps.set (by with_reducible assumption) ?_ ?_) | dsimp only

theorem execAskLinkDown_keeps {t : Nat} {s u : State} (h : execAskLinkDown t s = .next u) : Keeps s u := by
  refine Keeps.ofNext (fun v hv => ?_) h
  beta_reduce
  repeat' first | with_reducible assumption | (with_reducible apply Keeps.linkOut) | (with_reducible rfl) |
                  (simp only [fixedSizes, length_upd, List.length_map]; first | done | rfl) | split | (intro _ _ _) | (intro _ _) |
                  (with_reducible refine Keeps.set (by with_reducible assumption) ?_ ?_) | dsimp only

theorem execAskTimeMarkPulse_keeps {t : Nat} {s u : State} (h : execAskTimeMarkPulse t s = .next u) : Keeps s u := by
  refine Keeps.ofNext (fun v hv => ?_) h
  beta_reduce
  repeat' first | with_reducible assumption | (with_reducible apply Keeps.timeMark) | (with_reducible rfl) |
                  (simp only [fixedSizes, length_upd, List.length_map]; first | done | rfl) | split | (intro _ _ _) | (intro _ _) |
                  (with_reducible refine Keeps.set (by with_reducible assumption) ?_ ?_) | dsimp only

theorem execAskCalPulse_keeps {t : Nat} {s u : State} (h : execAskCalPulse t s = .next u) : Keeps s u := by
  refine Keeps.ofNext (fun v hv => ?_) h
  beta_reduce
  repeat' first | with_reducible assumption | (with_reducible apply Keeps.calPulse) | (with_reducible rfl) |
                  (simp only [fixedSizes, length_upd, List.length_map]; first | done | rfl) | split | (intro _ _ _) | (intro _ _) |
                  (with_reducible refine Keeps.set (by with_reducible assumption) ?_ ?_) | dsimp only

theorem execAskMasterLost_keeps {t : Nat} {s u : State} (h : execAskMasterLost t s = .next u) : Keeps s u := by
  refine Keeps.ofNext (fun v hv => ?_) h
  beta_reduce
  repeat' first | with_reducible assumption | (with_reducible apply Keeps.masterLost) | (with_reducible rfl) |
                  (simp only [fixedSizes, length_upd, List.length_map]; first | done | rfl) | split | (intro _ _ _) | (intro _ _) |
                  (with_reducible refine Keeps.set (by with_reducible assumption) ?_ ?_) | dsimp only

theorem execAskMasterRestored_keeps {t : Nat} {s u : State} (h : execAskMasterRestored t s = .next u) : Keeps s u := by
  refine Keeps.ofNext (fun v hv => ?_) h
  beta_reduce
  repeat' first | with_reducible assumption | (with_reducible apply Keeps.masterBack) | (with_reducible rfl) |
                  (simp only [fixedSizes, length_upd, List.length_map]; first | done | rfl) | split | (intro _ _ _) | (intro _ _) |
                  (with_reducible refine Keeps.set (by with_reducible assumption) ?_ ?_) | dsimp only

/-! ### Machine/Link.lean -/

theorem execSubmissionDoorbell_keeps {t ring value : Nat} {others : List (List Word)} {s u : State} (h : execSubmissionDoorbell t ring value others s = .next u) : Keeps s u := by
  refine Keeps.ofNext (fun v hv => ?_) h
  beta_reduce
  repeat' first | with_reducible assumption | (with_reducible apply Keeps.badOpcode) | (with_reducible apply Keeps.hostIndex) |
                  (with_reducible apply Keeps.foldl) | (with_reducible rfl) |
                  (simp only [fixedSizes, length_upd, List.length_map]; first | done | rfl) | split | (intro _ _ _) | (intro _ _) |
                  (with_reducible refine Keeps.set (by with_reducible assumption) ?_ ?_) | dsimp only

theorem execConsumerIndexWrite_keeps {t ring value : Nat} {s u : State} (h : execConsumerIndexWrite t ring value s = .next u) : Keeps s u := by
  refine Keeps.ofNext (fun v hv => ?_) h
  beta_reduce
  repeat' first | with_reducible assumption | (with_reducible apply Keeps.hostIndex) | (with_reducible rfl) |
                  (simp only [fixedSizes, length_upd, List.length_map]; first | done | rfl) | split | (intro _ _ _) | (intro _ _) |
                  (with_reducible refine Keeps.set (by with_reducible assumption) ?_ ?_) | dsimp only

theorem execRingEnable_keeps {t ring size : Nat} {s u : State} (h : execRingEnable t ring size s = .next u) : Keeps s u := by
  refine Keeps.ofNext (fun v hv => ?_) h
  beta_reduce
  repeat' first | with_reducible assumption | (with_reducible apply Keeps.ringEnable) | (with_reducible rfl) |
                  (simp only [fixedSizes, length_upd, List.length_map]; first | done | rfl) | split | (intro _ _ _) | (intro _ _) |
                  (with_reducible refine Keeps.set (by with_reducible assumption) ?_ ?_) | dsimp only

theorem execRingDisable_keeps {t ring : Nat} {s u : State} (h : execRingDisable t ring s = .next u) : Keeps s u := by
  refine Keeps.ofNext (fun v hv => ?_) h
  beta_reduce
  repeat' first | with_reducible assumption | (with_reducible apply Keeps.ringDisable) | (with_reducible rfl) |
                  (simp only [fixedSizes, length_upd, List.length_map]; first | done | rfl) | split | (intro _ _ _) | (intro _ _) |
                  (with_reducible refine Keeps.set (by with_reducible assumption) ?_ ?_) | dsimp only

theorem execHqConsWrite_keeps {t q value : Nat} {s u : State} (h : execHqConsWrite t q value s = .next u) : Keeps s u := by
  refine Keeps.ofNext (fun v hv => ?_) h
  beta_reduce
  repeat' first | with_reducible assumption | (with_reducible apply Keeps.consWrite) | (with_reducible rfl) |
                  (simp only [fixedSizes, length_upd, List.length_map]; first | done | rfl) | split | (intro _ _ _) | (intro _ _) |
                  (with_reducible refine Keeps.set (by with_reducible assumption) ?_ ?_) | dsimp only

theorem execHqGrantWrite_keeps {t q blocks : Nat} {s u : State} (h : execHqGrantWrite t q blocks s = .next u) : Keeps s u := by
  refine Keeps.ofNext (fun v hv => ?_) h
  beta_reduce
  repeat' first | with_reducible assumption | (with_reducible apply Keeps.grantWrite) | (with_reducible rfl) |
                  (simp only [fixedSizes, length_upd, List.length_map]; first | done | rfl) | split | (intro _ _ _) | (intro _ _) |
                  (with_reducible refine Keeps.set (by with_reducible assumption) ?_ ?_) | dsimp only

theorem execWaitWindowRead_keeps {t q : Nat} {s u : State} (h : execWaitWindowRead t q s = .next u) : Keeps s u := by
  refine Keeps.ofNext (fun v hv => ?_) h
  beta_reduce
  repeat' first | with_reducible assumption | (with_reducible apply Keeps.waitRead) | (with_reducible rfl) |
                  (simp only [fixedSizes, length_upd, List.length_map]; first | done | rfl) | split | (intro _ _ _) | (intro _ _) |
                  (with_reducible refine Keeps.set (by with_reducible assumption) ?_ ?_) | dsimp only

theorem execWaitWindowRelease_keeps {t q : Nat} {s u : State} (h : execWaitWindowRelease t q s = .next u) : Keeps s u := by
  refine Keeps.ofNext (fun v hv => ?_) h
  beta_reduce
  repeat' first | with_reducible assumption | (with_reducible apply Keeps.waitRelease) | (with_reducible rfl) |
                  (simp only [fixedSizes, length_upd, List.length_map]; first | done | rfl) | split | (intro _ _ _) | (intro _ _) |
                  (with_reducible refine Keeps.set (by with_reducible assumption) ?_ ?_) | dsimp only

theorem execWaitLimitExpiry_keeps {t q : Nat} {s u : State} (h : execWaitLimitExpiry t q s = .next u) : Keeps s u := by
  refine Keeps.ofNext (fun v hv => ?_) h
  beta_reduce
  repeat' first | with_reducible assumption | (with_reducible apply Keeps.waitExpire) | (with_reducible rfl) |
                  (simp only [fixedSizes, length_upd, List.length_map]; first | done | rfl) | split | (intro _ _ _) | (intro _ _) |
                  (with_reducible refine Keeps.set (by with_reducible assumption) ?_ ?_) | dsimp only

theorem execRegisterWrite_keeps {t off size value : Nat} {s u : State} (h : execRegisterWrite t off size value s = .next u) : Keeps s u := by
  refine Keeps.ofNext (fun v hv => ?_) h
  beta_reduce
  repeat' first | with_reducible assumption | (with_reducible apply Keeps.regWrite) | (with_reducible rfl) |
                  (simp only [fixedSizes, length_upd, List.length_map]; first | done | rfl) | split | (intro _ _ _) | (intro _ _) |
                  (with_reducible refine Keeps.set (by with_reducible assumption) ?_ ?_) | dsimp only

theorem execBarBadAccess_keeps {t : Nat} {write : Bool} {s u : State} (h : execBarBadAccess t write s = .next u) : Keeps s u := by
  refine Keeps.ofNext (fun v hv => ?_) h
  beta_reduce
  repeat' first | with_reducible assumption | (with_reducible apply Keeps.barBad) | (with_reducible rfl) |
                  (simp only [fixedSizes, length_upd, List.length_map]; first | done | rfl) | split | (intro _ _ _) | (intro _ _) |
                  (with_reducible refine Keeps.set (by with_reducible assumption) ?_ ?_) | dsimp only

theorem execBar2Read_keeps {t off len : Nat} {s u : State} (h : execBar2Read t off len s = .next u) : Keeps s u := by
  refine Keeps.ofNext (fun v hv => ?_) h
  beta_reduce
  repeat' first | with_reducible assumption | (with_reducible apply Keeps.bar2Read) | (with_reducible rfl) |
                  (simp only [fixedSizes, length_upd, List.length_map]; first | done | rfl) | split | (intro _ _ _) | (intro _ _) |
                  (with_reducible refine Keeps.set (by with_reducible assumption) ?_ ?_) | dsimp only

theorem execBar2Write_keeps {t off : Nat} {data : List Byte} {s u : State} (h : execBar2Write t off data s = .next u) : Keeps s u := by
  refine Keeps.ofNext (fun v hv => ?_) h
  beta_reduce
  repeat' first | with_reducible assumption | (with_reducible apply Keeps.bar2Write) | (with_reducible rfl) |
                  (simp only [fixedSizes, length_upd, List.length_map]; first | done | rfl) | split | (intro _ _ _) | (intro _ _) |
                  (with_reducible refine Keeps.set (by with_reducible assumption) ?_ ?_) | dsimp only

theorem execFunctionLevelReset_keeps {t : Nat} {s u : State} (h : execFunctionLevelReset t s = .next u) : Keeps s u := by
  refine Keeps.ofNext (fun v hv => ?_) h
  beta_reduce
  repeat' first | with_reducible assumption | (with_reducible apply Keeps.flr) | (with_reducible rfl) |
                  (simp only [fixedSizes, length_upd, List.length_map]; first | done | rfl) | split | (intro _ _ _) | (intro _ _) |
                  (with_reducible refine Keeps.set (by with_reducible assumption) ?_ ?_) | dsimp only

theorem execHotReset_keeps {t : Nat} {s u : State} (h : execHotReset t s = .next u) : Keeps s u := by
  refine Keeps.ofNext (fun v hv => ?_) h
  beta_reduce
  repeat' first | with_reducible assumption | (with_reducible apply Keeps.hotReset) | (with_reducible rfl) |
                  (simp only [fixedSizes, length_upd, List.length_map]; first | done | rfl) | split | (intro _ _ _) | (intro _ _) |
                  (with_reducible refine Keeps.set (by with_reducible assumption) ?_ ?_) | dsimp only

theorem execPmRequest_keeps {t : Nat} {s u : State} (h : execPmRequest t s = .next u) : Keeps s u := by
  refine Keeps.ofNext (fun v hv => ?_) h
  beta_reduce
  repeat' first | with_reducible assumption | (with_reducible apply Keeps.pmRequest) | (with_reducible rfl) |
                  (simp only [fixedSizes, length_upd, List.length_map]; first | done | rfl) | split | (intro _ _ _) | (intro _ _) |
                  (with_reducible refine Keeps.set (by with_reducible assumption) ?_ ?_) | dsimp only

theorem execSysLinkLost_keeps {t cause : Nat} {s u : State} (h : execSysLinkLost t cause s = .next u) : Keeps s u := by
  refine Keeps.ofNext (fun v hv => ?_) h
  beta_reduce
  repeat' first | with_reducible assumption | (with_reducible apply Keeps.linkDown) | (with_reducible rfl) |
                  (simp only [fixedSizes, length_upd, List.length_map]; first | done | rfl) | split | (intro _ _ _) | (intro _ _) |
                  (with_reducible refine Keeps.set (by with_reducible assumption) ?_ ?_) | dsimp only

theorem execSysLinkRestored_keeps {t rate width : Nat} {msix : Bool} {s u : State} (h : execSysLinkRestored t rate width msix s = .next u) : Keeps s u := by
  refine Keeps.ofNext (fun v hv => ?_) h
  beta_reduce
  repeat' first | with_reducible assumption | (with_reducible apply Keeps.linkBack) | (with_reducible rfl) |
                  (simp only [fixedSizes, length_upd, List.length_map]; first | done | rfl) | split | (intro _ _ _) | (intro _ _) |
                  (with_reducible refine Keeps.set (by with_reducible assumption) ?_ ?_) | dsimp only

theorem execHqSpillDrained_keeps {t : Nat} {s u : State} (h : execHqSpillDrained t s = .next u) : Keeps s u := by
  refine Keeps.ofNext (fun v hv => ?_) h
  beta_reduce
  repeat' first | with_reducible assumption | (with_reducible apply Keeps.drainSpill) | (with_reducible apply Keeps.linkFinish) |
                  (with_reducible apply Keeps.spillRead) | (with_reducible rfl) |
                  (simp only [fixedSizes, length_upd, List.length_map]; first | done | rfl) | split | (intro _ _ _) | (intro _ _) |
                  (with_reducible refine Keeps.set (by with_reducible assumption) ?_ ?_) | dsimp only

theorem execExecBudgetExpiry_keeps {t cid : Nat} {s u : State} (h : execExecBudgetExpiry t cid s = .next u) : Keeps s u := by
  refine Keeps.ofNext (fun v hv => ?_) h
  beta_reduce
  repeat' first | with_reducible assumption | (with_reducible apply Keeps.defer) | (with_reducible rfl) |
                  (simp only [fixedSizes, length_upd, List.length_map]; first | done | rfl) | split | (intro _ _ _) | (intro _ _) |
                  (with_reducible refine Keeps.set (by with_reducible assumption) ?_ ?_) | dsimp only

theorem execDmaReadFail_keeps {t ring : Nat} {cmd : Option Nat} {s u : State} (h : execDmaReadFail t ring cmd s = .next u) : Keeps s u := by
  refine Keeps.ofNext (fun v hv => ?_) h
  beta_reduce
  repeat' first | with_reducible assumption | (with_reducible apply Keeps.dmaFail) | (with_reducible rfl) |
                  (simp only [fixedSizes, length_upd, List.length_map]; first | done | rfl) | split | (intro _ _ _) | (intro _ _) |
                  (with_reducible refine Keeps.set (by with_reducible assumption) ?_ ?_) | dsimp only

theorem execCompletionWrite_keeps {t : Nat} {s u : State} (h : execCompletionWrite t s = .next u) : Keeps s u := by
  refine Keeps.ofNext (fun v hv => ?_) h
  beta_reduce
  repeat' first | with_reducible assumption | (with_reducible apply Keeps.completionWrite) | (with_reducible rfl) |
                  (simp only [fixedSizes, length_upd, List.length_map]; first | done | rfl) | split | (intro _ _ _) | (intro _ _) |
                  (with_reducible refine Keeps.set (by with_reducible assumption) ?_ ?_) | dsimp only

theorem execEventHoldoffExpiry_keeps {t src : Nat} {s u : State} (h : execEventHoldoffExpiry t src s = .next u) : Keeps s u := by
  refine Keeps.ofNext (fun v hv => ?_) h
  beta_reduce
  repeat' first | with_reducible assumption | (with_reducible apply Keeps.evtHoldEnd) | (with_reducible rfl) |
                  (simp only [fixedSizes, length_upd, List.length_map]; first | done | rfl) | split | (intro _ _ _) | (intro _ _) |
                  (with_reducible refine Keeps.set (by with_reducible assumption) ?_ ?_) | dsimp only

theorem execSysEvtDelayed_keeps {t : Nat} {s u : State} (h : execSysEvtDelayed t s = .next u) : Keeps s u := by
  refine Keeps.ofNext (fun v hv => ?_) h
  beta_reduce
  repeat' first | with_reducible assumption | (with_reducible apply Keeps.eventsDrain) | (with_reducible rfl) |
                  (simp only [fixedSizes, length_upd, List.length_map]; first | done | rfl) | split | (intro _ _ _) | (intro _ _) |
                  (with_reducible refine Keeps.set (by with_reducible assumption) ?_ ?_) | dsimp only

theorem execIrqHoldoffExpiry_keeps {t vec : Nat} {s u : State} (h : execIrqHoldoffExpiry t vec s = .next u) : Keeps s u := by
  refine Keeps.ofNext (fun v hv => ?_) h
  beta_reduce
  repeat' first | with_reducible assumption | (with_reducible apply Keeps.irqHoldEnd) | (with_reducible rfl) |
                  (simp only [fixedSizes, length_upd, List.length_map]; first | done | rfl) | split | (intro _ _ _) | (intro _ _) |
                  (with_reducible refine Keeps.set (by with_reducible assumption) ?_ ?_) | dsimp only

theorem execWatchdogExpiry_keeps {t cores : Nat} {s u : State} (h : execWatchdogExpiry t cores s = .next u) : Keeps s u := by
  refine Keeps.ofNext (fun v hv => ?_) h
  beta_reduce
  repeat' first | with_reducible assumption | (with_reducible apply Keeps.coresReset) | (with_reducible rfl) |
                  (simp only [fixedSizes, length_upd, List.length_map]; first | done | rfl) | split | (intro _ _ _) | (intro _ _) |
                  (with_reducible refine Keeps.set (by with_reducible assumption) ?_ ?_) | dsimp only

theorem execSysWatchdog_keeps {t : Nat} {s u : State} (h : execSysWatchdog t s = .next u) : Keeps s u := by
  refine Keeps.ofNext (fun v hv => ?_) h
  beta_reduce
  repeat' first | with_reducible assumption | (with_reducible apply Keeps.coresRun) | (with_reducible rfl) |
                  (simp only [fixedSizes, length_upd, List.length_map]; first | done | rfl) | split | (intro _ _ _) | (intro _ _) |
                  (with_reducible refine Keeps.set (by with_reducible assumption) ?_ ?_) | dsimp only

/-! ### Machine/Pwr.lean -/

theorem pwrDomainSetDef_steady : CmdDef.steady pwrDomainSetDef := actDef_steady _ _ _ _ _ _

theorem pwrSafeExitDef_steady : CmdDef.steady pwrSafeExitDef := by
  intro s₀ s cid c ctx h
  unfold pwrSafeExitDef
  try dsimp -zeta only
  repeat' first | with_reducible assumption | (with_reducible apply Keeps.done) | (with_reducible apply Keeps.safeExit) |
                  (with_reducible rfl) | (simp only [fixedSizes, length_upd, List.length_map]; first | done | rfl) | split |
                  (intro _ _ _) | (intro _ _) | (with_reducible refine Keeps.set (by with_reducible assumption) ?_ ?_) | dsimp only

theorem pwrKeepAliveDef_steady : CmdDef.steady pwrKeepAliveDef := by
  intro s₀ s cid c ctx h
  unfold pwrKeepAliveDef
  try dsimp -zeta only
  repeat' first | with_reducible assumption | (with_reducible apply Keeps.defer) | (with_reducible rfl) |
                  (simp only [fixedSizes, length_upd, List.length_map]; first | done | rfl) | split | (intro _ _ _) | (intro _ _) |
                  (with_reducible refine Keeps.set (by with_reducible assumption) ?_ ?_) | dsimp only

theorem pwrResetDef_steady : CmdDef.steady pwrResetDef := by
  intro s₀ s cid c ctx h
  unfold pwrResetDef
  try dsimp -zeta only
  repeat' first | with_reducible assumption | (with_reducible apply Keeps.done) | (with_reducible apply Keeps.updPwr) |
                  (with_reducible rfl) | (simp only [fixedSizes, length_upd, List.length_map]; first | done | rfl) | split |
                  (intro _ _ _) | (intro _ _) | (with_reducible refine Keeps.set (by with_reducible assumption) ?_ ?_) | dsimp only

theorem execPwrStatus_keeps {t : Nat} {c : Cmd} {s u : State} (h : execPwrStatus t c s = .next u) : Keeps s u := Keeps.ofRun (statusDef_steady _ _ _ _ _) h

theorem execPwrDomainSet_keeps {t : Nat} {c : Cmd} {s u : State} (h : execPwrDomainSet t c s = .next u) : Keeps s u := Keeps.ofRun pwrDomainSetDef_steady h

theorem execPwrSafeExit_keeps {t : Nat} {c : Cmd} {s u : State} (h : execPwrSafeExit t c s = .next u) : Keeps s u := Keeps.ofRun pwrSafeExitDef_steady h

theorem execPwrKeepAlive_keeps {t : Nat} {c : Cmd} {s u : State} (h : execPwrKeepAlive t c s = .next u) : Keeps s u := Keeps.ofRun pwrKeepAliveDef_steady h

theorem execPwrReset_keeps {t : Nat} {c : Cmd} {s u : State} (h : execPwrReset t c s = .next u) : Keeps s u := Keeps.ofRun pwrResetDef_steady h

theorem execPwrCountersClear_keeps {t : Nat} {c : Cmd} {s u : State} (h : execPwrCountersClear t c s = .next u) : Keeps s u := Keeps.ofRun (clearDef_steady _ _) h

theorem execSafeCauseCleared_keeps {t : Nat} {s u : State} (h : execSafeCauseCleared t s = .next u) : Keeps s u := by
  refine Keeps.ofNext (fun v hv => ?_) h
  beta_reduce
  repeat' first | with_reducible assumption | (with_reducible apply Keeps.safeCleared) | (with_reducible rfl) |
                  (simp only [fixedSizes, length_upd, List.length_map]; first | done | rfl) | split | (intro _ _ _) | (intro _ _) |
                  (with_reducible refine Keeps.set (by with_reducible assumption) ?_ ?_) | dsimp only

theorem execDomainPowerGood_keeps {t dom : Nat} {s u : State} (h : execDomainPowerGood t dom s = .next u) : Keeps s u := by
  refine Keeps.ofNext (fun v hv => ?_) h
  beta_reduce
  repeat' first | with_reducible assumption | (with_reducible apply Keeps.powerGood) | (with_reducible rfl) |
                  (simp only [fixedSizes, length_upd, List.length_map]; first | done | rfl) | split | (intro _ _ _) | (intro _ _) |
                  (with_reducible refine Keeps.set (by with_reducible assumption) ?_ ?_) | dsimp only

theorem execPwrDomainFault_keeps {t dom : Nat} {s u : State} (h : execPwrDomainFault t dom s = .next u) : Keeps s u := by
  refine Keeps.ofNext (fun v hv => ?_) h
  beta_reduce
  repeat' first | with_reducible assumption | (with_reducible apply Keeps.domainFault) | (with_reducible rfl) |
                  (simp only [fixedSizes, length_upd, List.length_map]; first | done | rfl) | split | (intro _ _ _) | (intro _ _) |
                  (with_reducible refine Keeps.set (by with_reducible assumption) ?_ ?_) | dsimp only

theorem execVfieldRise_keeps {t : Nat} {s u : State} (h : execVfieldRise t s = .next u) : Keeps s u := by
  refine Keeps.ofNext (fun v hv => ?_) h
  beta_reduce
  extract_lets a1
  refine Keeps.step (s := a1) ?_ (fun ba1 => ?_); rotate_left; try clear_value a1
  repeat' first | with_reducible assumption | (with_reducible apply Keeps.updPwr) | (with_reducible rfl) |
                  (simp only [fixedSizes, length_upd, List.length_map]; first | done | rfl) | split | (intro _ _ _) | (intro _ _) |
                  (with_reducible refine Keeps.set (by with_reducible assumption) ?_ ?_) | unfold a1 | dsimp only

theorem execVfieldFall_keeps {t : Nat} {s u : State} (h : execVfieldFall t s = .next u) : Keeps s u := by
  refine Keeps.ofNext (fun v hv => ?_) h
  beta_reduce
  repeat' first | with_reducible assumption | (with_reducible apply Keeps.powerLoss) | (with_reducible rfl) |
                  (simp only [fixedSizes, length_upd, List.length_map]; first | done | rfl) | split | (intro _ _ _) | (intro _ _) |
                  (with_reducible refine Keeps.set (by with_reducible assumption) ?_ ?_) | dsimp only

theorem execRstNFall_keeps {t : Nat} {s u : State} (h : execRstNFall t s = .next u) : Keeps s u := by
  refine Keeps.ofNext (fun v hv => ?_) h
  beta_reduce
  repeat' first | with_reducible assumption | (with_reducible apply Keeps.resetFall) | (with_reducible rfl) |
                  (simp only [fixedSizes, length_upd, List.length_map]; first | done | rfl) | split | (intro _ _ _) | (intro _ _) |
                  (with_reducible refine Keeps.set (by with_reducible assumption) ?_ ?_) | dsimp only

theorem execRstNRise_keeps {t straps : Nat} {s u : State} (h : execRstNRise t straps s = .next u) : Keeps s u := by
  refine Keeps.ofNext (fun v hv => ?_) h
  beta_reduce
  repeat' first | with_reducible assumption | (with_reducible apply Keeps.resetRise) | (with_reducible rfl) |
                  (simp only [fixedSizes, length_upd, List.length_map]; first | done | rfl) | split | (intro _ _ _) | (intro _ _) |
                  (with_reducible refine Keeps.set (by with_reducible assumption) ?_ ?_) | dsimp only

theorem execPwrResetAct_keeps {t straps : Nat} {s u : State} (h : execPwrResetAct t straps s = .next u) : Keeps s u := by
  refine Keeps.ofNext (fun v hv => ?_) h
  beta_reduce
  repeat' first | with_reducible assumption | (with_reducible apply Keeps.pwrResetNow) | (with_reducible rfl) |
                  (simp only [fixedSizes, length_upd, List.length_map]; first | done | rfl) | split | (intro _ _ _) | (intro _ _) |
                  (with_reducible refine Keeps.set (by with_reducible assumption) ?_ ?_) | dsimp only

theorem execVcoreCollapse_keeps {t : Nat} {s u : State} (h : execVcoreCollapse t s = .next u) : Keeps s u := by
  refine Keeps.ofNext (fun v hv => ?_) h
  beta_reduce
  repeat' first | with_reducible assumption | (with_reducible apply Keeps.resetFall) | (with_reducible rfl) |
                  (simp only [fixedSizes, length_upd, List.length_map]; first | done | rfl) | split | (intro _ _ _) | (intro _ _) |
                  (with_reducible refine Keeps.set (by with_reducible assumption) ?_ ?_) | dsimp only

theorem execPwrBootDone_keeps {t : Nat} {s u : State} (h : execPwrBootDone t s = .next u) : Keeps s u := by
  refine Keeps.ofNext (fun v hv => ?_) h
  beta_reduce
  repeat' first | with_reducible assumption | (with_reducible apply Keeps.bootDone) | (with_reducible rfl) |
                  (simp only [fixedSizes, length_upd, List.length_map]; first | done | rfl) | split | (intro _ _ _) | (intro _ _) |
                  (with_reducible refine Keeps.set (by with_reducible assumption) ?_ ?_) | dsimp only

theorem execDeferredWorkDone_keeps {t cid : Nat} {ok : Bool} {s u : State} (h : execDeferredWorkDone t cid ok s = .next u) : Keeps s u := by
  refine Keeps.ofNext (fun v hv => ?_) h
  beta_reduce
  repeat' first | with_reducible assumption | (with_reducible apply Keeps.deferredDone) | (with_reducible rfl) |
                  (simp only [fixedSizes, length_upd, List.length_map]; first | done | rfl) | split | (intro _ _ _) | (intro _ _) |
                  (with_reducible refine Keeps.set (by with_reducible assumption) ?_ ?_) | dsimp only

/-! ### Machine/Seq.lean -/

theorem seqSetDef_steady : CmdDef.steady seqSetDef := setDef_steady _ _ _ _ _ _ _ _

theorem groupBeginDef_steady : CmdDef.steady groupBeginDef := by
  intro s₀ s cid c ctx h
  unfold groupBeginDef
  try dsimp -zeta only
  extract_lets a1
  repeat' first | with_reducible assumption | (with_reducible apply Keeps.done) | (with_reducible apply Keeps.updSeq) |
                  (with_reducible rfl) | (simp only [fixedSizes, length_upd, List.length_map]; first | done | rfl) | split |
                  (intro _ _ _) | (intro _ _) | (with_reducible refine Keeps.set (by with_reducible assumption) ?_ ?_) | unfold a1 |
                  dsimp only

theorem groupEndDef_steady : CmdDef.steady groupEndDef := by
  intro s₀ s cid c ctx h
  unfold groupEndDef
  try dsimp -zeta only
  repeat' first | with_reducible assumption | (with_reducible apply Keeps.accept) | (with_reducible apply Keeps.discardGroup) |
                  (with_reducible apply Keeps.groupArrives) | (with_reducible apply Keeps.reply) |
                  (with_reducible apply Keeps.updSeq) | (with_reducible rfl) |
                  (simp only [fixedSizes, length_upd, List.length_map]; first | done | rfl) | split | (intro _ _ _) | (intro _ _) |
                  (with_reducible refine Keeps.set (by with_reducible assumption) ?_ ?_) | dsimp only

theorem execSeqSet_keeps {t : Nat} {c : Cmd} {s u : State} (h : execSeqSet t c s = .next u) : Keeps s u := Keeps.ofRun seqSetDef_steady h

theorem execSeqStatus_keeps {t : Nat} {c : Cmd} {s u : State} (h : execSeqStatus t c s = .next u) : Keeps s u := Keeps.ofRun (statusDef_steady _ _ _ _ _) h

theorem execSeqBudget_keeps {t : Nat} {c : Cmd} {s u : State} (h : execSeqBudget t c s = .next u) : Keeps s u := Keeps.ofRun (statusDef_steady _ _ _ _ _) h

theorem execGroupBegin_keeps {t : Nat} {c : Cmd} {s u : State} (h : execGroupBegin t c s = .next u) : Keeps s u := Keeps.ofRun groupBeginDef_steady h

theorem execGroupEnd_keeps {t : Nat} {c : Cmd} {s u : State} (h : execGroupEnd t c s = .next u) : Keeps s u := Keeps.ofRun groupEndDef_steady h

theorem execSeqCountersClear_keeps {t : Nat} {c : Cmd} {s u : State} (h : execSeqCountersClear t c s = .next u) : Keeps s u := Keeps.ofRun (clearDef_steady _ _) h

/-! ### Machine/Sys.lean -/

theorem sysNopDef_steady : CmdDef.steady sysNopDef := by
  intro s₀ s cid c ctx h
  unfold sysNopDef
  try dsimp -zeta only
  repeat' first | with_reducible assumption | (with_reducible apply Keeps.done) | (with_reducible rfl) |
                  (simp only [fixedSizes, length_upd, List.length_map]; first | done | rfl) | split | (intro _ _ _) | (intro _ _) |
                  (with_reducible refine Keeps.set (by with_reducible assumption) ?_ ?_) | dsimp only

theorem sysSetDef_steady : CmdDef.steady sysSetDef := setDef_steady _ _ _ _ _ _ _ _

theorem evtRouteDef_steady : CmdDef.steady evtRouteDef := by
  intro s₀ s cid c ctx h
  unfold evtRouteDef
  try dsimp -zeta only
  repeat' first | with_reducible assumption | (with_reducible apply Keeps.submit) | (with_reducible rfl) |
                  (simp only [fixedSizes, length_upd, List.length_map]; first | done | rfl) | split | (intro _ _ _) | (intro _ _) |
                  (with_reducible refine Keeps.set (by with_reducible assumption) ?_ ?_) | dsimp only

theorem evtReadDef_steady : CmdDef.steady evtReadDef := by
  intro s₀ s cid c ctx h
  unfold evtReadDef
  try dsimp -zeta only
  extract_lets a1 a2 a3
  refine Keeps.step (s := a3) ?_ (fun ba3 => ?_); rotate_left; try clear_value a3
  repeat' first | with_reducible assumption | (with_reducible apply Keeps.count) | (with_reducible apply Keeps.done) |
                  (with_reducible apply Keeps.updEv) | (with_reducible apply Keeps.foldl) | (with_reducible rfl) |
                  (simp only [fixedSizes, length_upd, List.length_map]; first | done | rfl) | split | (intro _ _ _) | (intro _ _) |
                  (with_reducible refine Keeps.set (by with_reducible assumption) ?_ ?_) | unfold a1 | unfold a2 | unfold a3 |
                  dsimp only

theorem sysStatusDef_steady : CmdDef.steady sysStatusDef := by
  intro s₀ s cid c ctx h
  unfold sysStatusDef
  try dsimp -zeta only
  extract_lets a1
  refine Keeps.step (s := a1.2) ?_ (fun ba1 => ?_); rotate_left; try clear_value a1
  repeat' first | with_reducible assumption | (with_reducible apply Keeps.done) | (with_reducible apply Keeps.takeLoad) |
                  (with_reducible rfl) | (simp only [fixedSizes, length_upd, List.length_map]; first | done | rfl) | split |
                  (intro _ _ _) | (intro _ _) | (with_reducible refine Keeps.set (by with_reducible assumption) ?_ ?_) | unfold a1 |
                  dsimp only

theorem sysCoreResetDef_steady : CmdDef.steady sysCoreResetDef := by
  intro s₀ s cid c ctx h
  unfold sysCoreResetDef
  try dsimp -zeta only
  repeat' first | with_reducible assumption | (with_reducible apply Keeps.coresReset) | (with_reducible rfl) |
                  (simp only [fixedSizes, length_upd, List.length_map]; first | done | rfl) | split | (intro _ _ _) | (intro _ _) |
                  (with_reducible refine Keeps.set (by with_reducible assumption) ?_ ?_) | dsimp only

theorem execSysNop_keeps {t : Nat} {c : Cmd} {s u : State} (h : execSysNop t c s = .next u) : Keeps s u := Keeps.ofRun sysNopDef_steady h

theorem execSysInfo_keeps {t : Nat} {c : Cmd} {s u : State} (h : execSysInfo t c s = .next u) : Keeps s u := Keeps.ofRun (statusDef_steady _ _ _ _ _) h

theorem execSysSet_keeps {t : Nat} {c : Cmd} {s u : State} (h : execSysSet t c s = .next u) : Keeps s u := Keeps.ofRun sysSetDef_steady h

theorem execEvtRoute_keeps {t : Nat} {c : Cmd} {s u : State} (h : execEvtRoute t c s = .next u) : Keeps s u := Keeps.ofRun evtRouteDef_steady h

theorem execEvtRead_keeps {t : Nat} {c : Cmd} {s u : State} (h : execEvtRead t c s = .next u) : Keeps s u := Keeps.ofRun evtReadDef_steady h

theorem execSysStatus_keeps {t : Nat} {c : Cmd} {s u : State} (h : execSysStatus t c s = .next u) : Keeps s u := Keeps.ofRun sysStatusDef_steady h

theorem execSysCoreReset_keeps {t : Nat} {c : Cmd} {s u : State} (h : execSysCoreReset t c s = .next u) : Keeps s u := Keeps.ofRun sysCoreResetDef_steady h

theorem execSysCountersClear_keeps {t : Nat} {c : Cmd} {s u : State} (h : execSysCountersClear t c s = .next u) : Keeps s u := Keeps.ofRun (clearDef_steady _ _) h

/-! ### Over all rows -/

/-- Every row keeps the queue, the clock and what makes a state sound. -/
theorem exec_keeps {s u : State} {i : Instr} (h : exec i s = .next u) : Keeps s u := by
  cases i with
  | sysNop t c => exact execSysNop_keeps (show execSysNop t c s = .next u from h)
  | sysInfo t c => exact execSysInfo_keeps (show execSysInfo t c s = .next u from h)
  | sysSet t c => exact execSysSet_keeps (show execSysSet t c s = .next u from h)
  | evtRoute t c => exact execEvtRoute_keeps (show execEvtRoute t c s = .next u from h)
  | evtRead t c => exact execEvtRead_keeps (show execEvtRead t c s = .next u from h)
  | sysStatus t c => exact execSysStatus_keeps (show execSysStatus t c s = .next u from h)
  | sysCoreReset t c => exact execSysCoreReset_keeps (show execSysCoreReset t c s = .next u from h)
  | sysCountersClear t c => exact execSysCountersClear_keeps (show execSysCountersClear t c s = .next u from h)
  | seqSet t c => exact execSeqSet_keeps (show execSeqSet t c s = .next u from h)
  | seqStatus t c => exact execSeqStatus_keeps (show execSeqStatus t c s = .next u from h)
  | seqBudget t c => exact execSeqBudget_keeps (show execSeqBudget t c s = .next u from h)
  | groupBegin t c => exact execGroupBegin_keeps (show execGroupBegin t c s = .next u from h)
  | groupEnd t c => exact execGroupEnd_keeps (show execGroupEnd t c s = .next u from h)
  | seqCountersClear t c => exact execSeqCountersClear_keeps (show execSeqCountersClear t c s = .next u from h)
  | senGenSet t c => exact execSenGenSet_keeps (show execSenGenSet t c s = .next u from h)
  | senWaveLoad t c => exact execSenWaveLoad_keeps (show execSenWaveLoad t c s = .next u from h)
  | senLaneSet t c => exact execSenLaneSet_keeps (show execSenLaneSet t c s = .next u from h)
  | senGainSet t c => exact execSenGainSet_keeps (show execSenGainSet t c s = .next u from h)
  | senSubstLoad t c => exact execSenSubstLoad_keeps (show execSenSubstLoad t c s = .next u from h)
  | senLaneRestore t c => exact execSenLaneRestore_keeps (show execSenLaneRestore t c s = .next u from h)
  | senSpareForce t c => exact execSenSpareForce_keeps (show execSenSpareForce t c s = .next u from h)
  | senStatus t c => exact execSenStatus_keeps (show execSenStatus t c s = .next u from h)
  | senSnapshot t c => exact execSenSnapshot_keeps (show execSenSnapshot t c s = .next u from h)
  | senTrimRun t c => exact execSenTrimRun_keeps (show execSenTrimRun t c s = .next u from h)
  | senCountersClear t c => exact execSenCountersClear_keeps (show execSenCountersClear t c s = .next u from h)
  | corSet t c => exact execCorSet_keeps (show execCorSet t c s = .next u from h)
  | corSetLoad t c => exact execCorSetLoad_keeps (show execCorSetLoad t c s = .next u from h)
  | corSetSwap t c => exact execCorSetSwap_keeps (show execCorSetSwap t c s = .next u from h)
  | corSetCheck t c => exact execCorSetCheck_keeps (show execCorSetCheck t c s = .next u from h)
  | corSetStore t c => exact execCorSetStore_keeps (show execCorSetStore t c s = .next u from h)
  | corSetRestore t c => exact execCorSetRestore_keeps (show execCorSetRestore t c s = .next u from h)
  | corCalRun t c => exact execCorCalRun_keeps (show execCorCalRun t c s = .next u from h)
  | corCalAbort t c => exact execCorCalAbort_keeps (show execCorCalAbort t c s = .next u from h)
  | corCalStatus t c => exact execCorCalStatus_keeps (show execCorCalStatus t c s = .next u from h)
  | corStatus t c => exact execCorStatus_keeps (show execCorStatus t c s = .next u from h)
  | corCountersClear t c => exact execCorCountersClear_keeps (show execCorCountersClear t c s = .next u from h)
  | runOpen t c => exact execRunOpen_keeps (show execRunOpen t c s = .next u from h)
  | runClose t c => exact execRunClose_keeps (show execRunClose t c s = .next u from h)
  | jobArm t c => exact execJobArm_keeps (show execJobArm t c s = .next u from h)
  | jobDisarm t c => exact execJobDisarm_keeps (show execJobDisarm t c s = .next u from h)
  | capSet t c => exact execCapSet_keeps (show execCapSet t c s = .next u from h)
  | capStatus t c => exact execCapStatus_keeps (show execCapStatus t c s = .next u from h)
  | capCovRead t c => exact execCapCovRead_keeps (show execCapCovRead t c s = .next u from h)
  | capCountersClear t c => exact execCapCountersClear_keeps (show execCapCountersClear t c s = .next u from h)
  | cmpSet t c => exact execCmpSet_keeps (show execCmpSet t c s = .next u from h)
  | cmpRefCheck t c => exact execCmpRefCheck_keeps (show execCmpRefCheck t c s = .next u from h)
  | cmpHatchLoad t c => exact execCmpHatchLoad_keeps (show execCmpHatchLoad t c s = .next u from h)
  | cmpStatus t c => exact execCmpStatus_keeps (show execCmpStatus t c s = .next u from h)
  | cmpCountersClear t c => exact execCmpCountersClear_keeps (show execCmpCountersClear t c s = .next u from h)
  | queueSetup t c => exact execQueueSetup_keeps (show execQueueSetup t c s = .next u from h)
  | queueDisable t c => exact execQueueDisable_keeps (show execQueueDisable t c s = .next u from h)
  | queueFlush t c => exact execQueueFlush_keeps (show execQueueFlush t c s = .next u from h)
  | queueStatus t c => exact execQueueStatus_keeps (show execQueueStatus t c s = .next u from h)
  | streamSet t c => exact execStreamSet_keeps (show execStreamSet t c s = .next u from h)
  | hqSet t c => exact execHqSet_keeps (show execHqSet t c s = .next u from h)
  | arenaSet t c => exact execArenaSet_keeps (show execArenaSet t c s = .next u from h)
  | arenaStatus t c => exact execArenaStatus_keeps (show execArenaStatus t c s = .next u from h)
  | histReplay t c => exact execHistReplay_keeps (show execHistReplay t c s = .next u from h)
  | histRelease t c => exact execHistRelease_keeps (show execHistRelease t c s = .next u from h)
  | bar2Map t c => exact execBar2Map_keeps (show execBar2Map t c s = .next u from h)
  | hqCountersClear t c => exact execHqCountersClear_keeps (show execHqCountersClear t c s = .next u from h)
  | lmpBarSet t c => exact execLmpBarSet_keeps (show execLmpBarSet t c s = .next u from h)
  | lmpPhaseSet t c => exact execLmpPhaseSet_keeps (show execLmpPhaseSet t c s = .next u from h)
  | lmpPatternLoad t c => exact execLmpPatternLoad_keeps (show execLmpPatternLoad t c s = .next u from h)
  | lmpPatternApply t c => exact execLmpPatternApply_keeps (show execLmpPatternApply t c s = .next u from h)
  | lmpPatternRead t c => exact execLmpPatternRead_keeps (show execLmpPatternRead t c s = .next u from h)
  | lmpDiagRun t c => exact execLmpDiagRun_keeps (show execLmpDiagRun t c s = .next u from h)
  | lmpFaults t c => exact execLmpFaults_keeps (show execLmpFaults t c s = .next u from h)
  | lmpFaultClear t c => exact execLmpFaultClear_keeps (show execLmpFaultClear t c s = .next u from h)
  | lmpStatus t c => exact execLmpStatus_keeps (show execLmpStatus t c s = .next u from h)
  | lmpCountersClear t c => exact execLmpCountersClear_keeps (show execLmpCountersClear t c s = .next u from h)
  | motAxisSet t c => exact execMotAxisSet_keeps (show execMotAxisSet t c s = .next u from h)
  | motProfileSet t c => exact execMotProfileSet_keeps (show execMotProfileSet t c s = .next u from h)
  | motMove t c => exact execMotMove_keeps (show execMotMove t c s = .next u from h)
  | motJog t c => exact execMotJog_keeps (show execMotJog t c s = .next u from h)
  | motStop t c => exact execMotStop_keeps (show execMotStop t c s = .next u from h)
  | motGear t c => exact execMotGear_keeps (show execMotGear t c s = .next u from h)
  | motHome t c => exact execMotHome_keeps (show execMotHome t c s = .next u from h)
  | motAck t c => exact execMotAck_keeps (show execMotAck t c s = .next u from h)
  | motPosSet t c => exact execMotPosSet_keeps (show execMotPosSet t c s = .next u from h)
  | motPaceSet t c => exact execMotPaceSet_keeps (show execMotPaceSet t c s = .next u from h)
  | motStatus t c => exact execMotStatus_keeps (show execMotStatus t c s = .next u from h)
  | motCountersClear t c => exact execMotCountersClear_keeps (show execMotCountersClear t c s = .next u from h)
  | posSet t c => exact execPosSet_keeps (show execPosSet t c s = .next u from h)
  | posStatus t c => exact execPosStatus_keeps (show execPosStatus t c s = .next u from h)
  | tdcInputSet t c => exact execTdcInputSet_keeps (show execTdcInputSet t c s = .next u from h)
  | tdcChannelSet t c => exact execTdcChannelSet_keeps (show execTdcChannelSet t c s = .next u from h)
  | tdcArm t c => exact execTdcArm_keeps (show execTdcArm t c s = .next u from h)
  | timeSet t c => exact execTimeSet_keeps (show execTimeSet t c s = .next u from h)
  | timeStatus t c => exact execTimeStatus_keeps (show execTimeStatus t c s = .next u from h)
  | posCountersClear t c => exact execPosCountersClear_keeps (show execPosCountersClear t c s = .next u from h)
  | auxSet t c => exact execAuxSet_keeps (show execAuxSet t c s = .next u from h)
  | auxChSet t c => exact execAuxChSet_keeps (show execAuxChSet t c s = .next u from h)
  | auxLinLoad t c => exact execAuxLinLoad_keeps (show execAuxLinLoad t c s = .next u from h)
  | auxInject t c => exact execAuxInject_keeps (show execAuxInject t c s = .next u from h)
  | auxCal t c => exact execAuxCal_keeps (show execAuxCal t c s = .next u from h)
  | auxLoopCfg t c => exact execAuxLoopCfg_keeps (show execAuxLoopCfg t c s = .next u from h)
  | auxStatus t c => exact execAuxStatus_keeps (show execAuxStatus t c s = .next u from h)
  | auxCountersClear t c => exact execAuxCountersClear_keeps (show execAuxCountersClear t c s = .next u from h)
  | secIdentity t c => exact execSecIdentity_keeps (show execSecIdentity t c s = .next u from h)
  | secCertRead t c => exact execSecCertRead_keeps (show execSecCertRead t c s = .next u from h)
  | secRoleKey t c => exact execSecRoleKey_keeps (show execSecRoleKey t c s = .next u from h)
  | secRmk t c => exact execSecRmk_keeps (show execSecRmk t c s = .next u from h)
  | secPolicySet t c => exact execSecPolicySet_keeps (show execSecPolicySet t c s = .next u from h)
  | secAuditRead t c => exact execSecAuditRead_keeps (show execSecAuditRead t c s = .next u from h)
  | secAuditSign t c => exact execSecAuditSign_keeps (show execSecAuditSign t c s = .next u from h)
  | secMapSign t c => exact execSecMapSign_keeps (show execSecMapSign t c s = .next u from h)
  | secFwWrite t c => exact execSecFwWrite_keeps (show execSecFwWrite t c s = .next u from h)
  | secFwVerify t c => exact execSecFwVerify_keeps (show execSecFwVerify t c s = .next u from h)
  | secFwActivate t c => exact execSecFwActivate_keeps (show execSecFwActivate t c s = .next u from h)
  | secSvnCommit t c => exact execSecSvnCommit_keeps (show execSecSvnCommit t c s = .next u from h)
  | secSelftest t c => exact execSecSelftest_keeps (show execSecSelftest t c s = .next u from h)
  | secZeroise t c => exact execSecZeroise_keeps (show execSecZeroise t c s = .next u from h)
  | secDebug t c => exact execSecDebug_keeps (show execSecDebug t c s = .next u from h)
  | secCosignKey t c => exact execSecCosignKey_keeps (show execSecCosignKey t c s = .next u from h)
  | secCountersClear t c => exact execSecCountersClear_keeps (show execSecCountersClear t c s = .next u from h)
  | hltStatus t c => exact execHltStatus_keeps (show execHltStatus t c s = .next u from h)
  | hltFaultRead t c => exact execHltFaultRead_keeps (show execHltFaultRead t c s = .next u from h)
  | hltFaultAck t c => exact execHltFaultAck_keeps (show execHltFaultAck t c s = .next u from h)
  | hltSet t c => exact execHltSet_keeps (show execHltSet t c s = .next u from h)
  | hltClassSet t c => exact execHltClassSet_keeps (show execHltClassSet t c s = .next u from h)
  | hltMonitorRead t c => exact execHltMonitorRead_keeps (show execHltMonitorRead t c s = .next u from h)
  | hltTrimRun t c => exact execHltTrimRun_keeps (show execHltTrimRun t c s = .next u from h)
  | hltTrimStore t c => exact execHltTrimStore_keeps (show execHltTrimStore t c s = .next u from h)
  | hltTrimRead t c => exact execHltTrimRead_keeps (show execHltTrimRead t c s = .next u from h)
  | hltCountersRead t c => exact execHltCountersRead_keeps (show execHltCountersRead t c s = .next u from h)
  | hltCountersClear t c => exact execHltCountersClear_keeps (show execHltCountersClear t c s = .next u from h)
  | askSet t c => exact execAskSet_keeps (show execAskSet t c s = .next u from h)
  | askCal t c => exact execAskCal_keeps (show execAskCal t c s = .next u from h)
  | askStatus t c => exact execAskStatus_keeps (show execAskStatus t c s = .next u from h)
  | askCountersClear t c => exact execAskCountersClear_keeps (show execAskCountersClear t c s = .next u from h)
  | pwrStatus t c => exact execPwrStatus_keeps (show execPwrStatus t c s = .next u from h)
  | pwrDomainSet t c => exact execPwrDomainSet_keeps (show execPwrDomainSet t c s = .next u from h)
  | pwrSafeExit t c => exact execPwrSafeExit_keeps (show execPwrSafeExit t c s = .next u from h)
  | pwrKeepAlive t c => exact execPwrKeepAlive_keeps (show execPwrKeepAlive t c s = .next u from h)
  | pwrReset t c => exact execPwrReset_keeps (show execPwrReset t c s = .next u from h)
  | pwrCountersClear t c => exact execPwrCountersClear_keeps (show execPwrCountersClear t c s = .next u from h)
  | submissionDoorbell t ring value others => exact execSubmissionDoorbell_keeps (show execSubmissionDoorbell t ring value others s = .next u from h)
  | consumerIndexWrite t ring value => exact execConsumerIndexWrite_keeps (show execConsumerIndexWrite t ring value s = .next u from h)
  | ringEnable t ring size => exact execRingEnable_keeps (show execRingEnable t ring size s = .next u from h)
  | ringDisable t ring => exact execRingDisable_keeps (show execRingDisable t ring s = .next u from h)
  | hqConsWrite t q value => exact execHqConsWrite_keeps (show execHqConsWrite t q value s = .next u from h)
  | hqGrantWrite t q blocks => exact execHqGrantWrite_keeps (show execHqGrantWrite t q blocks s = .next u from h)
  | waitWindowRead t q => exact execWaitWindowRead_keeps (show execWaitWindowRead t q s = .next u from h)
  | waitWindowRelease t q => exact execWaitWindowRelease_keeps (show execWaitWindowRelease t q s = .next u from h)
  | waitLimitExpiry t q => exact execWaitLimitExpiry_keeps (show execWaitLimitExpiry t q s = .next u from h)
  | registerWrite t off size value => exact execRegisterWrite_keeps (show execRegisterWrite t off size value s = .next u from h)
  | barBadAccess t write => exact execBarBadAccess_keeps (show execBarBadAccess t write s = .next u from h)
  | bar2Read t off len => exact execBar2Read_keeps (show execBar2Read t off len s = .next u from h)
  | bar2Write t off data => exact execBar2Write_keeps (show execBar2Write t off data s = .next u from h)
  | functionLevelReset t => exact execFunctionLevelReset_keeps (show execFunctionLevelReset t s = .next u from h)
  | hotReset t => exact execHotReset_keeps (show execHotReset t s = .next u from h)
  | pmRequest t => exact execPmRequest_keeps (show execPmRequest t s = .next u from h)
  | sysLinkLost t cause => exact execSysLinkLost_keeps (show execSysLinkLost t cause s = .next u from h)
  | sysLinkRestored t rate width msix => exact execSysLinkRestored_keeps (show execSysLinkRestored t rate width msix s = .next u from h)
  | hqSpillDrained t => exact execHqSpillDrained_keeps (show execHqSpillDrained t s = .next u from h)
  | execBudgetExpiry t cid => exact execExecBudgetExpiry_keeps (show execExecBudgetExpiry t cid s = .next u from h)
  | dmaReadFail t ring cmd => exact execDmaReadFail_keeps (show execDmaReadFail t ring cmd s = .next u from h)
  | completionWrite t => exact execCompletionWrite_keeps (show execCompletionWrite t s = .next u from h)
  | eventHoldoffExpiry t src => exact execEventHoldoffExpiry_keeps (show execEventHoldoffExpiry t src s = .next u from h)
  | sysEvtDelayed t => exact execSysEvtDelayed_keeps (show execSysEvtDelayed t s = .next u from h)
  | irqHoldoffExpiry t vec => exact execIrqHoldoffExpiry_keeps (show execIrqHoldoffExpiry t vec s = .next u from h)
  | watchdogExpiry t cores => exact execWatchdogExpiry_keeps (show execWatchdogExpiry t cores s = .next u from h)
  | sysWatchdog t => exact execSysWatchdog_keeps (show execSysWatchdog t s = .next u from h)
  | gridTick t => exact execGridTick_keeps (show execGridTick t s = .next u from h)
  | periodTick t => exact execPeriodTick_keeps (show execPeriodTick t s = .next u from h)
  | trigTick t falling => exact execTrigTick_keeps (show execTrigTick t falling s = .next u from h)
  | askuriTick t => exact execAskuriTick_keeps (show execAskuriTick t s = .next u from h)
  | deferredTickServe t => exact execDeferredTickServe_keeps (show execDeferredTickServe t s = .next u from h)
  | phaseGuardStart t p tests => exact execPhaseGuardStart_keeps (show execPhaseGuardStart t p tests s = .next u from h)
  | lampStrobe t bar p => exact execLampStrobe_keeps (show execLampStrobe t bar p s = .next u from h)
  | lampSyncInEdge t => exact execLampSyncInEdge_keeps (show execLampSyncInEdge t s = .next u from h)
  | lampSyncMissed t => exact execLampSyncMissed_keeps (show execLampSyncMissed t s = .next u from h)
  | readoutEnd t p video => exact execReadoutEnd_keeps (show execReadoutEnd t p video s = .next u from h)
  | imageLineEmit t => exact execImageLineEmit_keeps (show execImageLineEmit t s = .next u from h)
  | lineCompare t => exact execLineCompare_keeps (show execLineCompare t s = .next u from h)
  | driftReady t => exact execDriftReady_keeps (show execDriftReady t s = .next u from h)
  | cmpMarkMissing t => exact execCmpMarkMissing_keeps (show execCmpMarkMissing t s = .next u from h)
  | timingInputEdge t edge => exact execTimingInputEdge_keeps (show execTimingInputEdge t edge s = .next u from h)
  | tdcOrderWindowExpiry t ch => exact execTdcOrderWindowExpiry_keeps (show execTdcOrderWindowExpiry t ch s = .next u from h)
  | tdcTimeout t ch => exact execTdcTimeout_keeps (show execTdcTimeout t ch s = .next u from h)
  | ppsEdge t stamp => exact execPpsEdge_keeps (show execPpsEdge t stamp s = .next u from h)
  | ppsHoldover t => exact execPpsHoldover_keeps (show execPpsHoldover t s = .next u from h)
  | holdoverAgeStep t => exact execHoldoverAgeStep_keeps (show execHoldoverAgeStep t s = .next u from h)
  | ageLearn t => exact execAgeLearn_keeps (show execAgeLearn t s = .next u from h)
  | referenceMark t enc => exact execReferenceMark_keeps (show execReferenceMark t enc s = .next u from h)
  | encDoubleChange t x => exact execEncDoubleChange_keeps (show execEncDoubleChange t x s = .next u from h)
  | encAmplitude t x => exact execEncAmplitude_keeps (show execEncAmplitude t x s = .next u from h)
  | encCorrLimit t x => exact execEncCorrLimit_keeps (show execEncCorrLimit t x s = .next u from h)
  | vwinBlockEnd t enc => exact execVwinBlockEnd_keeps (show execVwinBlockEnd t enc s = .next u from h)
  | standstill t enc => exact execStandstill_keeps (show execStandstill t enc s = .next u from h)
  | posLogEntry t => exact execPosLogEntry_keeps (show execPosLogEntry t s = .next u from h)
  | holdEnter t => exact execHoldEnter_keeps (show execHoldEnter t s = .next u from h)
  | flushRead t tests => exact execFlushRead_keeps (show execFlushRead t tests s = .next u from h)
  | idleEnter t => exact execIdleEnter_keeps (show execIdleEnter t s = .next u from h)
  | groupTimeout t ring => exact execGroupTimeout_keeps (show execGroupTimeout t ring s = .next u from h)
  | proofPulse t => exact execProofPulse_keeps (show execProofPulse t s = .next u from h)
  | idleProofPulse t => exact execIdleProofPulse_keeps (show execIdleProofPulse t s = .next u from h)
  | chainFrameLatch t bar status => exact execChainFrameLatch_keeps (show execChainFrameLatch t bar status s = .next u from h)
  | chainDiscovery t bar delays ids => exact execChainDiscovery_keeps (show execChainDiscovery t bar delays ids s = .next u from h)
  | patternUploadDone t bar => exact execPatternUploadDone_keeps (show execPatternUploadDone t bar s = .next u from h)
  | lampBoostOvp t bar volts => exact execLampBoostOvp_keeps (show execLampBoostOvp t bar volts s = .next u from h)
  | lampTempInvalid t bar => exact execLampTempInvalid_keeps (show execLampTempInvalid t bar s = .next u from h)
  | lmpDiagDone t bar opens shorts leaks1 leaks2 => exact execLmpDiagDone_keeps (show execLmpDiagDone t bar opens shorts leaks1 leaks2 s = .next u from h)
  | p64UploadDone t bar => exact execP64UploadDone_keeps (show execP64UploadDone t bar s = .next u from h)
  | corLoadDone t => exact execCorLoadDone_keeps (show execCorLoadDone t s = .next u from h)
  | corFactorsReady t => exact execCorFactorsReady_keeps (show execCorFactorsReady t s = .next u from h)
  | corStoreDone t ok => exact execCorStoreDone_keeps (show execCorStoreDone t ok s = .next u from h)
  | calCaptureTick t tests video => exact execCalCaptureTick_keeps (show execCalCaptureTick t tests video s = .next u from h)
  | warmupSample t => exact execWarmupSample_keeps (show execWarmupSample t s = .next u from h)
  | corCalDone t => exact execCorCalDone_keeps (show execCorCalDone t s = .next u from h)
  | calCaptureFail t cause => exact execCalCaptureFail_keeps (show execCalCaptureFail t cause s = .next u from h)
  | refCheckDone t => exact execRefCheckDone_keeps (show execRefCheckDone t s = .next u from h)
  | hatchLoadDone t => exact execHatchLoadDone_keeps (show execHatchLoadDone t s = .next u from h)
  | capJobPartArrived t => exact execCapJobPartArrived_keeps (show execCapJobPartArrived t s = .next u from h)
  | capRunClosed t => exact execCapRunClosed_keeps (show execCapRunClosed t s = .next u from h)
  | replayCopyDone t => exact execReplayCopyDone_keeps (show execReplayCopyDone t s = .next u from h)
  | hqStale t q => exact execHqStale_keeps (show execHqStale t q s = .next u from h)
  | trimRunDone t ok => exact execTrimRunDone_keeps (show execTrimRunDone t ok s = .next u from h)
  | laneRestoreDone t fails => exact execLaneRestoreDone_keeps (show execLaneRestoreDone t fails s = .next u from h)
  | auxScanTrigger t => exact execAuxScanTrigger_keeps (show execAuxScanTrigger t s = .next u from h)
  | auxScanStep t nanovolts => exact execAuxScanStep_keeps (show execAuxScanStep t nanovolts s = .next u from h)
  | muxAddressLoad t => exact execMuxAddressLoad_keeps (show execMuxAddressLoad t s = .next u from h)
  | auxScanEnd t => exact execAuxScanEnd_keeps (show execAuxScanEnd t s = .next u from h)
  | auxCalCapture t nanovolts => exact execAuxCalCapture_keeps (show execAuxCalCapture t nanovolts s = .next u from h)
  | auxExcFault t exc current => exact execAuxExcFault_keeps (show execAuxExcFault t exc current s = .next u from h)
  | auxExcReduced t exc => exact execAuxExcReduced_keeps (show execAuxExcReduced t exc s = .next u from h)
  | excRestore t exc => exact execExcRestore_keeps (show execExcRestore t exc s = .next u from h)
  | loopReadback t loop code atLimit => exact execLoopReadback_keeps (show execLoopReadback t loop code atLimit s = .next u from h)
  | loopFollowTimeout t loop => exact execLoopFollowTimeout_keeps (show execLoopFollowTimeout t loop s = .next u from h)
  | burinEvent t axis => exact execBurinEvent_keeps (show execBurinEvent t axis s = .next u from h)
  | motGearChanged t axis => exact execMotGearChanged_keeps (show execMotGearChanged t axis s = .next u from h)
  | chopperTrip t axis coil => exact execChopperTrip_keeps (show execChopperTrip t axis coil s = .next u from h)
  | chopperOffEnd t axis coil => exact execChopperOffEnd_keeps (show execChopperOffEnd t axis coil s = .next u from h)
  | holdCurrent t axis => exact execHoldCurrent_keeps (show execHoldCurrent t axis s = .next u from h)
  | motLimit t axis side => exact execMotLimit_keeps (show execMotLimit t axis side s = .next u from h)
  | limitRelease t axis side => exact execLimitRelease_keeps (show execLimitRelease t axis side s = .next u from h)
  | paceEval t => exact execPaceEval_keeps (show execPaceEval t s = .next u from h)
  | askuriFrameRx t bytes => exact execAskuriFrameRx_keeps (show execAskuriFrameRx t bytes s = .next u from h)
  | masterFrameOriginate t => exact execMasterFrameOriginate_keeps (show execMasterFrameOriginate t s = .next u from h)
  | tickInfo t payload => exact execTickInfo_keeps (show execTickInfo t payload s = .next u from h)
  | timeFrame t payload => exact execTimeFrame_keeps (show execTimeFrame t payload s = .next u from h)
  | runFrame t payload => exact execRunFrame_keeps (show execRunFrame t payload s = .next u from h)
  | repeatFrame t payload => exact execRepeatFrame_keeps (show execRepeatFrame t payload s = .next u from h)
  | armFrame t payload => exact execArmFrame_keeps (show execArmFrame t payload s = .next u from h)
  | seamRecordRx t payload => exact execSeamRecordRx_keeps (show execSeamRecordRx t payload s = .next u from h)
  | calFrame t payload => exact execCalFrame_keeps (show execCalFrame t payload s = .next u from h)
  | askLinkUp t => exact execAskLinkUp_keeps (show execAskLinkUp t s = .next u from h)
  | askLinkDown t => exact execAskLinkDown_keeps (show execAskLinkDown t s = .next u from h)
  | askTimeMarkPulse t => exact execAskTimeMarkPulse_keeps (show execAskTimeMarkPulse t s = .next u from h)
  | askCalPulse t => exact execAskCalPulse_keeps (show execAskCalPulse t s = .next u from h)
  | askMasterLost t => exact execAskMasterLost_keeps (show execAskMasterLost t s = .next u from h)
  | askMasterRestored t => exact execAskMasterRestored_keeps (show execAskMasterRestored t s = .next u from h)
  | faultHandle t => exact execFaultHandle_keeps (show execFaultHandle t s = .next u from h)
  | tempSample t temps => exact execTempSample_keeps (show execTempSample t temps s = .next u from h)
  | thermalStepDown t => exact execThermalStepDown_keeps (show execThermalStepDown t s = .next u from h)
  | hltVoltage t mon mv => exact execHltVoltage_keeps (show execHltVoltage t mon mv s = .next u from h)
  | voltageFaultPersist t mon => exact execVoltageFaultPersist_keeps (show execVoltageFaultPersist t mon s = .next u from h)
  | hltProcess t tile dev => exact execHltProcess_keeps (show execHltProcess t tile dev s = .next u from h)
  | clockFault t clk => exact execClockFault_keeps (show execClockFault t clk s = .next u from h)
  | dramEccError t addr correctable => exact execDramEccError_keeps (show execDramEccError t addr correctable s = .next u from h)
  | sramEccError t mem item kind => exact execSramEccError_keeps (show execSramEccError t mem item kind s = .next u from h)
  | scrub t => exact execScrub_keeps (show execScrub t s = .next u from h)
  | safeCauseCleared t => exact execSafeCauseCleared_keeps (show execSafeCauseCleared t s = .next u from h)
  | domainPowerGood t dom => exact execDomainPowerGood_keeps (show execDomainPowerGood t dom s = .next u from h)
  | pwrDomainFault t dom => exact execPwrDomainFault_keeps (show execPwrDomainFault t dom s = .next u from h)
  | vfieldRise t => exact execVfieldRise_keeps (show execVfieldRise t s = .next u from h)
  | vfieldFall t => exact execVfieldFall_keeps (show execVfieldFall t s = .next u from h)
  | rstNFall t => exact execRstNFall_keeps (show execRstNFall t s = .next u from h)
  | rstNRise t straps => exact execRstNRise_keeps (show execRstNRise t straps s = .next u from h)
  | pwrResetAct t straps => exact execPwrResetAct_keeps (show execPwrResetAct t straps s = .next u from h)
  | vcoreCollapse t => exact execVcoreCollapse_keeps (show execVcoreCollapse t s = .next u from h)
  | pwrBootDone t => exact execPwrBootDone_keeps (show execPwrBootDone t s = .next u from h)
  | selftestDue t => exact execSelftestDue_keeps (show execSelftestDue t s = .next u from h)
  | entropyTestFail t cause => exact execEntropyTestFail_keeps (show execEntropyTestFail t cause s = .next u from h)
  | auditFlush t ok => exact execAuditFlush_keeps (show execAuditFlush t ok s = .next u from h)
  | positionSample t samples => exact execPositionSample_keeps (show execPositionSample t samples s = .next u from h)
  | clockRelock t clk => exact execClockRelock_keeps (show execClockRelock t clk s = .next u from h)
  | deferredWorkDone t cid ok => exact execDeferredWorkDone_keeps (show execDeferredWorkDone t cid ok s = .next u from h)
  | selftestDone t cause => exact execSelftestDone_keeps (show execSelftestDone t cause s = .next u from h)
  | corSettleExpiry t => exact execCorSettleExpiry_keeps (show execCorSettleExpiry t s = .next u from h)
  | boostOvpRelease t bar volts => exact execBoostOvpRelease_keeps (show execBoostOvpRelease t bar volts s = .next u from h)
  | auxWireRestored t ch => exact execAuxWireRestored_keeps (show execAuxWireRestored t ch s = .next u from h)

/-- Every row answers a next state. -/
theorem exec_next (i : Instr) (s : State) : ∃ u, exec i s = .next u := by
  cases i <;> exact ⟨_, rfl⟩

end Sys2Proof.Machine
end

