-- ==== Sys2Proof/Laws/State.lean ====
section
/-! SUPPORT. What a plain update leaves alone, and what it writes: one lemma per update and part of the state, each by rfl. -/

namespace Sys2Proof.Machine

set_option Elab.async false
set_option linter.all false

/-! ### updRing -/

@[simp] theorem State.updRing_now (s : State) (r : Nat) (f : Ring → Ring) : (s.updRing r f).now = s.now := rfl
@[simp] theorem State.updRing_pending (s : State) (r : Nat) (f : Ring → Ring) : (s.updRing r f).pending = s.pending := rfl
@[simp] theorem State.updRing_freeCount (s : State) (r : Nat) (f : Ring → Ring) : (s.updRing r f).freeCount = s.freeCount := rfl
@[simp] theorem State.updRing_par (s : State) (r : Nat) (f : Ring → Ring) : (s.updRing r f).par = s.par := rfl
@[simp] theorem State.updRing_imgPar (s : State) (r : Nat) (f : Ring → Ring) : (s.updRing r f).imgPar = s.imgPar := rfl
@[simp] theorem State.updRing_imgQueue (s : State) (r : Nat) (f : Ring → Ring) : (s.updRing r f).imgQueue = s.imgQueue := rfl
@[simp] theorem State.updRing_cnt (s : State) (r : Nat) (f : Ring → Ring) : (s.updRing r f).cnt = s.cnt := rfl
@[simp] theorem State.updRing_hostMem (s : State) (r : Nat) (f : Ring → Ring) : (s.updRing r f).hostMem = s.hostMem := rfl
@[simp] theorem State.updRing_dram (s : State) (r : Nat) (f : Ring → Ring) : (s.updRing r f).dram = s.dram := rfl
@[simp] theorem State.updRing_flash (s : State) (r : Nat) (f : Ring → Ring) : (s.updRing r f).flash = s.flash := rfl
@[simp] theorem State.updRing_seq (s : State) (r : Nat) (f : Ring → Ring) : (s.updRing r f).seq = s.seq := rfl
@[simp] theorem State.updRing_pos (s : State) (r : Nat) (f : Ring → Ring) : (s.updRing r f).pos = s.pos := rfl
@[simp] theorem State.updRing_lamp (s : State) (r : Nat) (f : Ring → Ring) : (s.updRing r f).lamp = s.lamp := rfl
@[simp] theorem State.updRing_sen (s : State) (r : Nat) (f : Ring → Ring) : (s.updRing r f).sen = s.sen := rfl
@[simp] theorem State.updRing_cor (s : State) (r : Nat) (f : Ring → Ring) : (s.updRing r f).cor = s.cor := rfl
@[simp] theorem State.updRing_cap (s : State) (r : Nat) (f : Ring → Ring) : (s.updRing r f).cap = s.cap := rfl
@[simp] theorem State.updRing_cmp (s : State) (r : Nat) (f : Ring → Ring) : (s.updRing r f).cmp = s.cmp := rfl
@[simp] theorem State.updRing_hq (s : State) (r : Nat) (f : Ring → Ring) : (s.updRing r f).hq = s.hq := rfl
@[simp] theorem State.updRing_mot (s : State) (r : Nat) (f : Ring → Ring) : (s.updRing r f).mot = s.mot := rfl
@[simp] theorem State.updRing_aux (s : State) (r : Nat) (f : Ring → Ring) : (s.updRing r f).aux = s.aux := rfl
@[simp] theorem State.updRing_sec (s : State) (r : Nat) (f : Ring → Ring) : (s.updRing r f).sec = s.sec := rfl
@[simp] theorem State.updRing_hlt (s : State) (r : Nat) (f : Ring → Ring) : (s.updRing r f).hlt = s.hlt := rfl
@[simp] theorem State.updRing_ask (s : State) (r : Nat) (f : Ring → Ring) : (s.updRing r f).ask = s.ask := rfl
@[simp] theorem State.updRing_pwr (s : State) (r : Nat) (f : Ring → Ring) : (s.updRing r f).pwr = s.pwr := rfl

/-! ### hostWrite -/

@[simp] theorem State.hostWrite_now (s : State) (a : Nat) (bs : List Byte) : (s.hostWrite a bs).now = s.now := rfl
@[simp] theorem State.hostWrite_pending (s : State) (a : Nat) (bs : List Byte) : (s.hostWrite a bs).pending = s.pending := rfl
@[simp] theorem State.hostWrite_freeCount (s : State) (a : Nat) (bs : List Byte) : (s.hostWrite a bs).freeCount = s.freeCount := rfl
@[simp] theorem State.hostWrite_par (s : State) (a : Nat) (bs : List Byte) : (s.hostWrite a bs).par = s.par := rfl
@[simp] theorem State.hostWrite_imgPar (s : State) (a : Nat) (bs : List Byte) : (s.hostWrite a bs).imgPar = s.imgPar := rfl
@[simp] theorem State.hostWrite_imgQueue (s : State) (a : Nat) (bs : List Byte) : (s.hostWrite a bs).imgQueue = s.imgQueue := rfl
@[simp] theorem State.hostWrite_cnt (s : State) (a : Nat) (bs : List Byte) : (s.hostWrite a bs).cnt = s.cnt := rfl
@[simp] theorem State.hostWrite_dram (s : State) (a : Nat) (bs : List Byte) : (s.hostWrite a bs).dram = s.dram := rfl
@[simp] theorem State.hostWrite_flash (s : State) (a : Nat) (bs : List Byte) : (s.hostWrite a bs).flash = s.flash := rfl
@[simp] theorem State.hostWrite_host (s : State) (a : Nat) (bs : List Byte) : (s.hostWrite a bs).host = s.host := rfl
@[simp] theorem State.hostWrite_seq (s : State) (a : Nat) (bs : List Byte) : (s.hostWrite a bs).seq = s.seq := rfl
@[simp] theorem State.hostWrite_pos (s : State) (a : Nat) (bs : List Byte) : (s.hostWrite a bs).pos = s.pos := rfl
@[simp] theorem State.hostWrite_lamp (s : State) (a : Nat) (bs : List Byte) : (s.hostWrite a bs).lamp = s.lamp := rfl
@[simp] theorem State.hostWrite_sen (s : State) (a : Nat) (bs : List Byte) : (s.hostWrite a bs).sen = s.sen := rfl
@[simp] theorem State.hostWrite_cor (s : State) (a : Nat) (bs : List Byte) : (s.hostWrite a bs).cor = s.cor := rfl
@[simp] theorem State.hostWrite_cap (s : State) (a : Nat) (bs : List Byte) : (s.hostWrite a bs).cap = s.cap := rfl
@[simp] theorem State.hostWrite_cmp (s : State) (a : Nat) (bs : List Byte) : (s.hostWrite a bs).cmp = s.cmp := rfl
@[simp] theorem State.hostWrite_hq (s : State) (a : Nat) (bs : List Byte) : (s.hostWrite a bs).hq = s.hq := rfl
@[simp] theorem State.hostWrite_mot (s : State) (a : Nat) (bs : List Byte) : (s.hostWrite a bs).mot = s.mot := rfl
@[simp] theorem State.hostWrite_aux (s : State) (a : Nat) (bs : List Byte) : (s.hostWrite a bs).aux = s.aux := rfl
@[simp] theorem State.hostWrite_sec (s : State) (a : Nat) (bs : List Byte) : (s.hostWrite a bs).sec = s.sec := rfl
@[simp] theorem State.hostWrite_hlt (s : State) (a : Nat) (bs : List Byte) : (s.hostWrite a bs).hlt = s.hlt := rfl
@[simp] theorem State.hostWrite_ask (s : State) (a : Nat) (bs : List Byte) : (s.hostWrite a bs).ask = s.ask := rfl
@[simp] theorem State.hostWrite_pwr (s : State) (a : Nat) (bs : List Byte) : (s.hostWrite a bs).pwr = s.pwr := rfl

/-! ### advance -/

@[simp] theorem State.advance_pending (s : State) (t : Nat) : (s.advance t).pending = s.pending := rfl
@[simp] theorem State.advance_freeCount (s : State) (t : Nat) : (s.advance t).freeCount = s.freeCount := rfl
@[simp] theorem State.advance_par (s : State) (t : Nat) : (s.advance t).par = s.par := rfl
@[simp] theorem State.advance_imgPar (s : State) (t : Nat) : (s.advance t).imgPar = s.imgPar := rfl
@[simp] theorem State.advance_imgQueue (s : State) (t : Nat) : (s.advance t).imgQueue = s.imgQueue := rfl
@[simp] theorem State.advance_cnt (s : State) (t : Nat) : (s.advance t).cnt = s.cnt := rfl
@[simp] theorem State.advance_hostMem (s : State) (t : Nat) : (s.advance t).hostMem = s.hostMem := rfl
@[simp] theorem State.advance_dram (s : State) (t : Nat) : (s.advance t).dram = s.dram := rfl
@[simp] theorem State.advance_flash (s : State) (t : Nat) : (s.advance t).flash = s.flash := rfl
@[simp] theorem State.advance_host (s : State) (t : Nat) : (s.advance t).host = s.host := rfl
@[simp] theorem State.advance_seq (s : State) (t : Nat) : (s.advance t).seq = s.seq := rfl
@[simp] theorem State.advance_pos (s : State) (t : Nat) : (s.advance t).pos = s.pos := rfl
@[simp] theorem State.advance_lamp (s : State) (t : Nat) : (s.advance t).lamp = s.lamp := rfl
@[simp] theorem State.advance_sen (s : State) (t : Nat) : (s.advance t).sen = s.sen := rfl
@[simp] theorem State.advance_cor (s : State) (t : Nat) : (s.advance t).cor = s.cor := rfl
@[simp] theorem State.advance_cap (s : State) (t : Nat) : (s.advance t).cap = s.cap := rfl
@[simp] theorem State.advance_cmp (s : State) (t : Nat) : (s.advance t).cmp = s.cmp := rfl
@[simp] theorem State.advance_hq (s : State) (t : Nat) : (s.advance t).hq = s.hq := rfl
@[simp] theorem State.advance_mot (s : State) (t : Nat) : (s.advance t).mot = s.mot := rfl
@[simp] theorem State.advance_aux (s : State) (t : Nat) : (s.advance t).aux = s.aux := rfl
@[simp] theorem State.advance_sec (s : State) (t : Nat) : (s.advance t).sec = s.sec := rfl
@[simp] theorem State.advance_hlt (s : State) (t : Nat) : (s.advance t).hlt = s.hlt := rfl
@[simp] theorem State.advance_ask (s : State) (t : Nat) : (s.advance t).ask = s.ask := rfl
@[simp] theorem State.advance_pwr (s : State) (t : Nat) : (s.advance t).pwr = s.pwr := rfl

/-! ### fetch -/

@[simp] theorem State.fetch_now (s : State) (op : Nat) (c : Cmd) : (s.fetch op c).now = s.now := rfl
@[simp] theorem State.fetch_pending (s : State) (op : Nat) (c : Cmd) : (s.fetch op c).pending = s.pending := rfl
@[simp] theorem State.fetch_freeCount (s : State) (op : Nat) (c : Cmd) : (s.fetch op c).freeCount = s.freeCount := rfl
@[simp] theorem State.fetch_par (s : State) (op : Nat) (c : Cmd) : (s.fetch op c).par = s.par := rfl
@[simp] theorem State.fetch_imgPar (s : State) (op : Nat) (c : Cmd) : (s.fetch op c).imgPar = s.imgPar := rfl
@[simp] theorem State.fetch_imgQueue (s : State) (op : Nat) (c : Cmd) : (s.fetch op c).imgQueue = s.imgQueue := rfl
@[simp] theorem State.fetch_cnt (s : State) (op : Nat) (c : Cmd) : (s.fetch op c).cnt = s.cnt := rfl
@[simp] theorem State.fetch_hostMem (s : State) (op : Nat) (c : Cmd) : (s.fetch op c).hostMem = s.hostMem := rfl
@[simp] theorem State.fetch_dram (s : State) (op : Nat) (c : Cmd) : (s.fetch op c).dram = s.dram := rfl
@[simp] theorem State.fetch_flash (s : State) (op : Nat) (c : Cmd) : (s.fetch op c).flash = s.flash := rfl
@[simp] theorem State.fetch_seq (s : State) (op : Nat) (c : Cmd) : (s.fetch op c).seq = s.seq := rfl
@[simp] theorem State.fetch_pos (s : State) (op : Nat) (c : Cmd) : (s.fetch op c).pos = s.pos := rfl
@[simp] theorem State.fetch_lamp (s : State) (op : Nat) (c : Cmd) : (s.fetch op c).lamp = s.lamp := rfl
@[simp] theorem State.fetch_sen (s : State) (op : Nat) (c : Cmd) : (s.fetch op c).sen = s.sen := rfl
@[simp] theorem State.fetch_cor (s : State) (op : Nat) (c : Cmd) : (s.fetch op c).cor = s.cor := rfl
@[simp] theorem State.fetch_cap (s : State) (op : Nat) (c : Cmd) : (s.fetch op c).cap = s.cap := rfl
@[simp] theorem State.fetch_cmp (s : State) (op : Nat) (c : Cmd) : (s.fetch op c).cmp = s.cmp := rfl
@[simp] theorem State.fetch_hq (s : State) (op : Nat) (c : Cmd) : (s.fetch op c).hq = s.hq := rfl
@[simp] theorem State.fetch_mot (s : State) (op : Nat) (c : Cmd) : (s.fetch op c).mot = s.mot := rfl
@[simp] theorem State.fetch_aux (s : State) (op : Nat) (c : Cmd) : (s.fetch op c).aux = s.aux := rfl
@[simp] theorem State.fetch_sec (s : State) (op : Nat) (c : Cmd) : (s.fetch op c).sec = s.sec := rfl
@[simp] theorem State.fetch_hlt (s : State) (op : Nat) (c : Cmd) : (s.fetch op c).hlt = s.hlt := rfl
@[simp] theorem State.fetch_ask (s : State) (op : Nat) (c : Cmd) : (s.fetch op c).ask = s.ask := rfl
@[simp] theorem State.fetch_pwr (s : State) (op : Nat) (c : Cmd) : (s.fetch op c).pwr = s.pwr := rfl

/-! ### bump -/

@[simp] theorem State.bump_now (s : State) (c : Ctr) (i n : Nat) : (s.bump c i n).now = s.now := rfl
@[simp] theorem State.bump_pending (s : State) (c : Ctr) (i n : Nat) : (s.bump c i n).pending = s.pending := rfl
@[simp] theorem State.bump_freeCount (s : State) (c : Ctr) (i n : Nat) : (s.bump c i n).freeCount = s.freeCount := rfl
@[simp] theorem State.bump_par (s : State) (c : Ctr) (i n : Nat) : (s.bump c i n).par = s.par := rfl
@[simp] theorem State.bump_imgPar (s : State) (c : Ctr) (i n : Nat) : (s.bump c i n).imgPar = s.imgPar := rfl
@[simp] theorem State.bump_imgQueue (s : State) (c : Ctr) (i n : Nat) : (s.bump c i n).imgQueue = s.imgQueue := rfl
@[simp] theorem State.bump_hostMem (s : State) (c : Ctr) (i n : Nat) : (s.bump c i n).hostMem = s.hostMem := rfl
@[simp] theorem State.bump_dram (s : State) (c : Ctr) (i n : Nat) : (s.bump c i n).dram = s.dram := rfl
@[simp] theorem State.bump_flash (s : State) (c : Ctr) (i n : Nat) : (s.bump c i n).flash = s.flash := rfl
@[simp] theorem State.bump_host (s : State) (c : Ctr) (i n : Nat) : (s.bump c i n).host = s.host := rfl
@[simp] theorem State.bump_seq (s : State) (c : Ctr) (i n : Nat) : (s.bump c i n).seq = s.seq := rfl
@[simp] theorem State.bump_pos (s : State) (c : Ctr) (i n : Nat) : (s.bump c i n).pos = s.pos := rfl
@[simp] theorem State.bump_lamp (s : State) (c : Ctr) (i n : Nat) : (s.bump c i n).lamp = s.lamp := rfl
@[simp] theorem State.bump_sen (s : State) (c : Ctr) (i n : Nat) : (s.bump c i n).sen = s.sen := rfl
@[simp] theorem State.bump_cor (s : State) (c : Ctr) (i n : Nat) : (s.bump c i n).cor = s.cor := rfl
@[simp] theorem State.bump_cap (s : State) (c : Ctr) (i n : Nat) : (s.bump c i n).cap = s.cap := rfl
@[simp] theorem State.bump_cmp (s : State) (c : Ctr) (i n : Nat) : (s.bump c i n).cmp = s.cmp := rfl
@[simp] theorem State.bump_hq (s : State) (c : Ctr) (i n : Nat) : (s.bump c i n).hq = s.hq := rfl
@[simp] theorem State.bump_mot (s : State) (c : Ctr) (i n : Nat) : (s.bump c i n).mot = s.mot := rfl
@[simp] theorem State.bump_aux (s : State) (c : Ctr) (i n : Nat) : (s.bump c i n).aux = s.aux := rfl
@[simp] theorem State.bump_sec (s : State) (c : Ctr) (i n : Nat) : (s.bump c i n).sec = s.sec := rfl
@[simp] theorem State.bump_hlt (s : State) (c : Ctr) (i n : Nat) : (s.bump c i n).hlt = s.hlt := rfl
@[simp] theorem State.bump_ask (s : State) (c : Ctr) (i n : Nat) : (s.bump c i n).ask = s.ask := rfl
@[simp] theorem State.bump_pwr (s : State) (c : Ctr) (i n : Nat) : (s.bump c i n).pwr = s.pwr := rfl

/-! ### updEv -/

@[simp] theorem State.updEv_now (s : State) (x : Nat) (f : EvSrc → EvSrc) : (s.updEv x f).now = s.now := rfl
@[simp] theorem State.updEv_pending (s : State) (x : Nat) (f : EvSrc → EvSrc) : (s.updEv x f).pending = s.pending := rfl
@[simp] theorem State.updEv_freeCount (s : State) (x : Nat) (f : EvSrc → EvSrc) : (s.updEv x f).freeCount = s.freeCount := rfl
@[simp] theorem State.updEv_par (s : State) (x : Nat) (f : EvSrc → EvSrc) : (s.updEv x f).par = s.par := rfl
@[simp] theorem State.updEv_imgPar (s : State) (x : Nat) (f : EvSrc → EvSrc) : (s.updEv x f).imgPar = s.imgPar := rfl
@[simp] theorem State.updEv_imgQueue (s : State) (x : Nat) (f : EvSrc → EvSrc) : (s.updEv x f).imgQueue = s.imgQueue := rfl
@[simp] theorem State.updEv_cnt (s : State) (x : Nat) (f : EvSrc → EvSrc) : (s.updEv x f).cnt = s.cnt := rfl
@[simp] theorem State.updEv_hostMem (s : State) (x : Nat) (f : EvSrc → EvSrc) : (s.updEv x f).hostMem = s.hostMem := rfl
@[simp] theorem State.updEv_dram (s : State) (x : Nat) (f : EvSrc → EvSrc) : (s.updEv x f).dram = s.dram := rfl
@[simp] theorem State.updEv_flash (s : State) (x : Nat) (f : EvSrc → EvSrc) : (s.updEv x f).flash = s.flash := rfl
@[simp] theorem State.updEv_seq (s : State) (x : Nat) (f : EvSrc → EvSrc) : (s.updEv x f).seq = s.seq := rfl
@[simp] theorem State.updEv_pos (s : State) (x : Nat) (f : EvSrc → EvSrc) : (s.updEv x f).pos = s.pos := rfl
@[simp] theorem State.updEv_lamp (s : State) (x : Nat) (f : EvSrc → EvSrc) : (s.updEv x f).lamp = s.lamp := rfl
@[simp] theorem State.updEv_sen (s : State) (x : Nat) (f : EvSrc → EvSrc) : (s.updEv x f).sen = s.sen := rfl
@[simp] theorem State.updEv_cor (s : State) (x : Nat) (f : EvSrc → EvSrc) : (s.updEv x f).cor = s.cor := rfl
@[simp] theorem State.updEv_cap (s : State) (x : Nat) (f : EvSrc → EvSrc) : (s.updEv x f).cap = s.cap := rfl
@[simp] theorem State.updEv_cmp (s : State) (x : Nat) (f : EvSrc → EvSrc) : (s.updEv x f).cmp = s.cmp := rfl
@[simp] theorem State.updEv_hq (s : State) (x : Nat) (f : EvSrc → EvSrc) : (s.updEv x f).hq = s.hq := rfl
@[simp] theorem State.updEv_mot (s : State) (x : Nat) (f : EvSrc → EvSrc) : (s.updEv x f).mot = s.mot := rfl
@[simp] theorem State.updEv_aux (s : State) (x : Nat) (f : EvSrc → EvSrc) : (s.updEv x f).aux = s.aux := rfl
@[simp] theorem State.updEv_sec (s : State) (x : Nat) (f : EvSrc → EvSrc) : (s.updEv x f).sec = s.sec := rfl
@[simp] theorem State.updEv_hlt (s : State) (x : Nat) (f : EvSrc → EvSrc) : (s.updEv x f).hlt = s.hlt := rfl
@[simp] theorem State.updEv_ask (s : State) (x : Nat) (f : EvSrc → EvSrc) : (s.updEv x f).ask = s.ask := rfl
@[simp] theorem State.updEv_pwr (s : State) (x : Nat) (f : EvSrc → EvSrc) : (s.updEv x f).pwr = s.pwr := rfl

/-! ### setPars -/

@[simp] theorem State.setPars_now (s : State) (ws : List ParWrite) : (s.setPars ws).now = s.now := rfl
@[simp] theorem State.setPars_pending (s : State) (ws : List ParWrite) : (s.setPars ws).pending = s.pending := rfl
@[simp] theorem State.setPars_freeCount (s : State) (ws : List ParWrite) : (s.setPars ws).freeCount = s.freeCount := rfl
@[simp] theorem State.setPars_imgPar (s : State) (ws : List ParWrite) : (s.setPars ws).imgPar = s.imgPar := rfl
@[simp] theorem State.setPars_imgQueue (s : State) (ws : List ParWrite) : (s.setPars ws).imgQueue = s.imgQueue := rfl
@[simp] theorem State.setPars_cnt (s : State) (ws : List ParWrite) : (s.setPars ws).cnt = s.cnt := rfl
@[simp] theorem State.setPars_hostMem (s : State) (ws : List ParWrite) : (s.setPars ws).hostMem = s.hostMem := rfl
@[simp] theorem State.setPars_dram (s : State) (ws : List ParWrite) : (s.setPars ws).dram = s.dram := rfl
@[simp] theorem State.setPars_flash (s : State) (ws : List ParWrite) : (s.setPars ws).flash = s.flash := rfl
@[simp] theorem State.setPars_host (s : State) (ws : List ParWrite) : (s.setPars ws).host = s.host := rfl
@[simp] theorem State.setPars_seq (s : State) (ws : List ParWrite) : (s.setPars ws).seq = s.seq := rfl
@[simp] theorem State.setPars_pos (s : State) (ws : List ParWrite) : (s.setPars ws).pos = s.pos := rfl
@[simp] theorem State.setPars_lamp (s : State) (ws : List ParWrite) : (s.setPars ws).lamp = s.lamp := rfl
@[simp] theorem State.setPars_sen (s : State) (ws : List ParWrite) : (s.setPars ws).sen = s.sen := rfl
@[simp] theorem State.setPars_cor (s : State) (ws : List ParWrite) : (s.setPars ws).cor = s.cor := rfl
@[simp] theorem State.setPars_cap (s : State) (ws : List ParWrite) : (s.setPars ws).cap = s.cap := rfl
@[simp] theorem State.setPars_cmp (s : State) (ws : List ParWrite) : (s.setPars ws).cmp = s.cmp := rfl
@[simp] theorem State.setPars_hq (s : State) (ws : List ParWrite) : (s.setPars ws).hq = s.hq := rfl
@[simp] theorem State.setPars_mot (s : State) (ws : List ParWrite) : (s.setPars ws).mot = s.mot := rfl
@[simp] theorem State.setPars_aux (s : State) (ws : List ParWrite) : (s.setPars ws).aux = s.aux := rfl
@[simp] theorem State.setPars_sec (s : State) (ws : List ParWrite) : (s.setPars ws).sec = s.sec := rfl
@[simp] theorem State.setPars_hlt (s : State) (ws : List ParWrite) : (s.setPars ws).hlt = s.hlt := rfl
@[simp] theorem State.setPars_ask (s : State) (ws : List ParWrite) : (s.setPars ws).ask = s.ask := rfl
@[simp] theorem State.setPars_pwr (s : State) (ws : List ParWrite) : (s.setPars ws).pwr = s.pwr := rfl

/-! ### rebase -/

@[simp] theorem State.rebase_now (s : State) : (s.rebase).now = s.now := rfl
@[simp] theorem State.rebase_pending (s : State) : (s.rebase).pending = s.pending := rfl
@[simp] theorem State.rebase_freeCount (s : State) : (s.rebase).freeCount = s.freeCount := rfl
@[simp] theorem State.rebase_par (s : State) : (s.rebase).par = s.par := rfl
@[simp] theorem State.rebase_imgPar (s : State) : (s.rebase).imgPar = s.imgPar := rfl
@[simp] theorem State.rebase_imgQueue (s : State) : (s.rebase).imgQueue = s.imgQueue := rfl
@[simp] theorem State.rebase_cnt (s : State) : (s.rebase).cnt = s.cnt := rfl
@[simp] theorem State.rebase_hostMem (s : State) : (s.rebase).hostMem = s.hostMem := rfl
@[simp] theorem State.rebase_dram (s : State) : (s.rebase).dram = s.dram := rfl
@[simp] theorem State.rebase_flash (s : State) : (s.rebase).flash = s.flash := rfl
@[simp] theorem State.rebase_host (s : State) : (s.rebase).host = s.host := rfl
@[simp] theorem State.rebase_seq (s : State) : (s.rebase).seq = s.seq := rfl
@[simp] theorem State.rebase_lamp (s : State) : (s.rebase).lamp = s.lamp := rfl
@[simp] theorem State.rebase_sen (s : State) : (s.rebase).sen = s.sen := rfl
@[simp] theorem State.rebase_cor (s : State) : (s.rebase).cor = s.cor := rfl
@[simp] theorem State.rebase_cap (s : State) : (s.rebase).cap = s.cap := rfl
@[simp] theorem State.rebase_cmp (s : State) : (s.rebase).cmp = s.cmp := rfl
@[simp] theorem State.rebase_hq (s : State) : (s.rebase).hq = s.hq := rfl
@[simp] theorem State.rebase_mot (s : State) : (s.rebase).mot = s.mot := rfl
@[simp] theorem State.rebase_aux (s : State) : (s.rebase).aux = s.aux := rfl
@[simp] theorem State.rebase_sec (s : State) : (s.rebase).sec = s.sec := rfl
@[simp] theorem State.rebase_hlt (s : State) : (s.rebase).hlt = s.hlt := rfl
@[simp] theorem State.rebase_ask (s : State) : (s.rebase).ask = s.ask := rfl
@[simp] theorem State.rebase_pwr (s : State) : (s.rebase).pwr = s.pwr := rfl

/-! ### clearCounters -/

@[simp] theorem State.clearCounters_now (s : State) (g m : Nat) : (s.clearCounters g m).now = s.now := rfl
@[simp] theorem State.clearCounters_pending (s : State) (g m : Nat) : (s.clearCounters g m).pending = s.pending := rfl
@[simp] theorem State.clearCounters_freeCount (s : State) (g m : Nat) : (s.clearCounters g m).freeCount = s.freeCount := rfl
@[simp] theorem State.clearCounters_par (s : State) (g m : Nat) : (s.clearCounters g m).par = s.par := rfl
@[simp] theorem State.clearCounters_imgPar (s : State) (g m : Nat) : (s.clearCounters g m).imgPar = s.imgPar := rfl
@[simp] theorem State.clearCounters_imgQueue (s : State) (g m : Nat) : (s.clearCounters g m).imgQueue = s.imgQueue := rfl
@[simp] theorem State.clearCounters_hostMem (s : State) (g m : Nat) : (s.clearCounters g m).hostMem = s.hostMem := rfl
@[simp] theorem State.clearCounters_dram (s : State) (g m : Nat) : (s.clearCounters g m).dram = s.dram := rfl
@[simp] theorem State.clearCounters_flash (s : State) (g m : Nat) : (s.clearCounters g m).flash = s.flash := rfl
@[simp] theorem State.clearCounters_host (s : State) (g m : Nat) : (s.clearCounters g m).host = s.host := rfl
@[simp] theorem State.clearCounters_seq (s : State) (g m : Nat) : (s.clearCounters g m).seq = s.seq := rfl
@[simp] theorem State.clearCounters_pos (s : State) (g m : Nat) : (s.clearCounters g m).pos = s.pos := rfl
@[simp] theorem State.clearCounters_lamp (s : State) (g m : Nat) : (s.clearCounters g m).lamp = s.lamp := rfl
@[simp] theorem State.clearCounters_sen (s : State) (g m : Nat) : (s.clearCounters g m).sen = s.sen := rfl
@[simp] theorem State.clearCounters_cor (s : State) (g m : Nat) : (s.clearCounters g m).cor = s.cor := rfl
@[simp] theorem State.clearCounters_cap (s : State) (g m : Nat) : (s.clearCounters g m).cap = s.cap := rfl
@[simp] theorem State.clearCounters_cmp (s : State) (g m : Nat) : (s.clearCounters g m).cmp = s.cmp := rfl
@[simp] theorem State.clearCounters_hq (s : State) (g m : Nat) : (s.clearCounters g m).hq = s.hq := rfl
@[simp] theorem State.clearCounters_mot (s : State) (g m : Nat) : (s.clearCounters g m).mot = s.mot := rfl
@[simp] theorem State.clearCounters_aux (s : State) (g m : Nat) : (s.clearCounters g m).aux = s.aux := rfl
@[simp] theorem State.clearCounters_sec (s : State) (g m : Nat) : (s.clearCounters g m).sec = s.sec := rfl
@[simp] theorem State.clearCounters_hlt (s : State) (g m : Nat) : (s.clearCounters g m).hlt = s.hlt := rfl
@[simp] theorem State.clearCounters_ask (s : State) (g m : Nat) : (s.clearCounters g m).ask = s.ask := rfl
@[simp] theorem State.clearCounters_pwr (s : State) (g m : Nat) : (s.clearCounters g m).pwr = s.pwr := rfl

/-! ### auditAppend -/

@[simp] theorem State.auditAppend_now (s : State) (d : Bool) (o w st c l : Nat) (h : List Byte) (ws : List Word) : (s.auditAppend d o w st c l h ws).now = s.now := rfl
@[simp] theorem State.auditAppend_pending (s : State) (d : Bool) (o w st c l : Nat) (h : List Byte) (ws : List Word) : (s.auditAppend d o w st c l h ws).pending = s.pending := rfl
@[simp] theorem State.auditAppend_freeCount (s : State) (d : Bool) (o w st c l : Nat) (h : List Byte) (ws : List Word) : (s.auditAppend d o w st c l h ws).freeCount = s.freeCount := rfl
@[simp] theorem State.auditAppend_par (s : State) (d : Bool) (o w st c l : Nat) (h : List Byte) (ws : List Word) : (s.auditAppend d o w st c l h ws).par = s.par := rfl
@[simp] theorem State.auditAppend_imgPar (s : State) (d : Bool) (o w st c l : Nat) (h : List Byte) (ws : List Word) : (s.auditAppend d o w st c l h ws).imgPar = s.imgPar := rfl
@[simp] theorem State.auditAppend_imgQueue (s : State) (d : Bool) (o w st c l : Nat) (h : List Byte) (ws : List Word) : (s.auditAppend d o w st c l h ws).imgQueue = s.imgQueue := rfl
@[simp] theorem State.auditAppend_cnt (s : State) (d : Bool) (o w st c l : Nat) (h : List Byte) (ws : List Word) : (s.auditAppend d o w st c l h ws).cnt = s.cnt := rfl
@[simp] theorem State.auditAppend_hostMem (s : State) (d : Bool) (o w st c l : Nat) (h : List Byte) (ws : List Word) : (s.auditAppend d o w st c l h ws).hostMem = s.hostMem := rfl
@[simp] theorem State.auditAppend_dram (s : State) (d : Bool) (o w st c l : Nat) (h : List Byte) (ws : List Word) : (s.auditAppend d o w st c l h ws).dram = s.dram := rfl
@[simp] theorem State.auditAppend_flash (s : State) (d : Bool) (o w st c l : Nat) (h : List Byte) (ws : List Word) : (s.auditAppend d o w st c l h ws).flash = s.flash := rfl
@[simp] theorem State.auditAppend_host (s : State) (d : Bool) (o w st c l : Nat) (h : List Byte) (ws : List Word) : (s.auditAppend d o w st c l h ws).host = s.host := rfl
@[simp] theorem State.auditAppend_seq (s : State) (d : Bool) (o w st c l : Nat) (h : List Byte) (ws : List Word) : (s.auditAppend d o w st c l h ws).seq = s.seq := rfl
@[simp] theorem State.auditAppend_pos (s : State) (d : Bool) (o w st c l : Nat) (h : List Byte) (ws : List Word) : (s.auditAppend d o w st c l h ws).pos = s.pos := rfl
@[simp] theorem State.auditAppend_lamp (s : State) (d : Bool) (o w st c l : Nat) (h : List Byte) (ws : List Word) : (s.auditAppend d o w st c l h ws).lamp = s.lamp := rfl
@[simp] theorem State.auditAppend_sen (s : State) (d : Bool) (o w st c l : Nat) (h : List Byte) (ws : List Word) : (s.auditAppend d o w st c l h ws).sen = s.sen := rfl
@[simp] theorem State.auditAppend_cor (s : State) (d : Bool) (o w st c l : Nat) (h : List Byte) (ws : List Word) : (s.auditAppend d o w st c l h ws).cor = s.cor := rfl
@[simp] theorem State.auditAppend_cap (s : State) (d : Bool) (o w st c l : Nat) (h : List Byte) (ws : List Word) : (s.auditAppend d o w st c l h ws).cap = s.cap := rfl
@[simp] theorem State.auditAppend_cmp (s : State) (d : Bool) (o w st c l : Nat) (h : List Byte) (ws : List Word) : (s.auditAppend d o w st c l h ws).cmp = s.cmp := rfl
@[simp] theorem State.auditAppend_hq (s : State) (d : Bool) (o w st c l : Nat) (h : List Byte) (ws : List Word) : (s.auditAppend d o w st c l h ws).hq = s.hq := rfl
@[simp] theorem State.auditAppend_mot (s : State) (d : Bool) (o w st c l : Nat) (h : List Byte) (ws : List Word) : (s.auditAppend d o w st c l h ws).mot = s.mot := rfl
@[simp] theorem State.auditAppend_aux (s : State) (d : Bool) (o w st c l : Nat) (h : List Byte) (ws : List Word) : (s.auditAppend d o w st c l h ws).aux = s.aux := rfl
@[simp] theorem State.auditAppend_hlt (s : State) (d : Bool) (o w st c l : Nat) (h : List Byte) (ws : List Word) : (s.auditAppend d o w st c l h ws).hlt = s.hlt := rfl
@[simp] theorem State.auditAppend_ask (s : State) (d : Bool) (o w st c l : Nat) (h : List Byte) (ws : List Word) : (s.auditAppend d o w st c l h ws).ask = s.ask := rfl
@[simp] theorem State.auditAppend_pwr (s : State) (d : Bool) (o w st c l : Nat) (h : List Byte) (ws : List Word) : (s.auditAppend d o w st c l h ws).pwr = s.pwr := rfl

/-! ### auditDevice -/

@[simp] theorem State.auditDevice_now (s : State) (e d : Nat) : (s.auditDevice e d).now = s.now := rfl
@[simp] theorem State.auditDevice_pending (s : State) (e d : Nat) : (s.auditDevice e d).pending = s.pending := rfl
@[simp] theorem State.auditDevice_freeCount (s : State) (e d : Nat) : (s.auditDevice e d).freeCount = s.freeCount := rfl
@[simp] theorem State.auditDevice_par (s : State) (e d : Nat) : (s.auditDevice e d).par = s.par := rfl
@[simp] theorem State.auditDevice_imgPar (s : State) (e d : Nat) : (s.auditDevice e d).imgPar = s.imgPar := rfl
@[simp] theorem State.auditDevice_imgQueue (s : State) (e d : Nat) : (s.auditDevice e d).imgQueue = s.imgQueue := rfl
@[simp] theorem State.auditDevice_cnt (s : State) (e d : Nat) : (s.auditDevice e d).cnt = s.cnt := rfl
@[simp] theorem State.auditDevice_hostMem (s : State) (e d : Nat) : (s.auditDevice e d).hostMem = s.hostMem := rfl
@[simp] theorem State.auditDevice_dram (s : State) (e d : Nat) : (s.auditDevice e d).dram = s.dram := rfl
@[simp] theorem State.auditDevice_flash (s : State) (e d : Nat) : (s.auditDevice e d).flash = s.flash := rfl
@[simp] theorem State.auditDevice_host (s : State) (e d : Nat) : (s.auditDevice e d).host = s.host := rfl
@[simp] theorem State.auditDevice_seq (s : State) (e d : Nat) : (s.auditDevice e d).seq = s.seq := rfl
@[simp] theorem State.auditDevice_pos (s : State) (e d : Nat) : (s.auditDevice e d).pos = s.pos := rfl
@[simp] theorem State.auditDevice_lamp (s : State) (e d : Nat) : (s.auditDevice e d).lamp = s.lamp := rfl
@[simp] theorem State.auditDevice_sen (s : State) (e d : Nat) : (s.auditDevice e d).sen = s.sen := rfl
@[simp] theorem State.auditDevice_cor (s : State) (e d : Nat) : (s.auditDevice e d).cor = s.cor := rfl
@[simp] theorem State.auditDevice_cap (s : State) (e d : Nat) : (s.auditDevice e d).cap = s.cap := rfl
@[simp] theorem State.auditDevice_cmp (s : State) (e d : Nat) : (s.auditDevice e d).cmp = s.cmp := rfl
@[simp] theorem State.auditDevice_hq (s : State) (e d : Nat) : (s.auditDevice e d).hq = s.hq := rfl
@[simp] theorem State.auditDevice_mot (s : State) (e d : Nat) : (s.auditDevice e d).mot = s.mot := rfl
@[simp] theorem State.auditDevice_aux (s : State) (e d : Nat) : (s.auditDevice e d).aux = s.aux := rfl
@[simp] theorem State.auditDevice_hlt (s : State) (e d : Nat) : (s.auditDevice e d).hlt = s.hlt := rfl
@[simp] theorem State.auditDevice_ask (s : State) (e d : Nat) : (s.auditDevice e d).ask = s.ask := rfl
@[simp] theorem State.auditDevice_pwr (s : State) (e d : Nat) : (s.auditDevice e d).pwr = s.pwr := rfl

/-! ### updHost -/

@[simp] theorem State.updHost_now (s : State) (f : HostSt → HostSt) : (s.updHost f).now = s.now := rfl
@[simp] theorem State.updHost_pending (s : State) (f : HostSt → HostSt) : (s.updHost f).pending = s.pending := rfl
@[simp] theorem State.updHost_freeCount (s : State) (f : HostSt → HostSt) : (s.updHost f).freeCount = s.freeCount := rfl
@[simp] theorem State.updHost_par (s : State) (f : HostSt → HostSt) : (s.updHost f).par = s.par := rfl
@[simp] theorem State.updHost_imgPar (s : State) (f : HostSt → HostSt) : (s.updHost f).imgPar = s.imgPar := rfl
@[simp] theorem State.updHost_imgQueue (s : State) (f : HostSt → HostSt) : (s.updHost f).imgQueue = s.imgQueue := rfl
@[simp] theorem State.updHost_cnt (s : State) (f : HostSt → HostSt) : (s.updHost f).cnt = s.cnt := rfl
@[simp] theorem State.updHost_hostMem (s : State) (f : HostSt → HostSt) : (s.updHost f).hostMem = s.hostMem := rfl
@[simp] theorem State.updHost_dram (s : State) (f : HostSt → HostSt) : (s.updHost f).dram = s.dram := rfl
@[simp] theorem State.updHost_flash (s : State) (f : HostSt → HostSt) : (s.updHost f).flash = s.flash := rfl
@[simp] theorem State.updHost_seq (s : State) (f : HostSt → HostSt) : (s.updHost f).seq = s.seq := rfl
@[simp] theorem State.updHost_pos (s : State) (f : HostSt → HostSt) : (s.updHost f).pos = s.pos := rfl
@[simp] theorem State.updHost_lamp (s : State) (f : HostSt → HostSt) : (s.updHost f).lamp = s.lamp := rfl
@[simp] theorem State.updHost_sen (s : State) (f : HostSt → HostSt) : (s.updHost f).sen = s.sen := rfl
@[simp] theorem State.updHost_cor (s : State) (f : HostSt → HostSt) : (s.updHost f).cor = s.cor := rfl
@[simp] theorem State.updHost_cap (s : State) (f : HostSt → HostSt) : (s.updHost f).cap = s.cap := rfl
@[simp] theorem State.updHost_cmp (s : State) (f : HostSt → HostSt) : (s.updHost f).cmp = s.cmp := rfl
@[simp] theorem State.updHost_hq (s : State) (f : HostSt → HostSt) : (s.updHost f).hq = s.hq := rfl
@[simp] theorem State.updHost_mot (s : State) (f : HostSt → HostSt) : (s.updHost f).mot = s.mot := rfl
@[simp] theorem State.updHost_aux (s : State) (f : HostSt → HostSt) : (s.updHost f).aux = s.aux := rfl
@[simp] theorem State.updHost_sec (s : State) (f : HostSt → HostSt) : (s.updHost f).sec = s.sec := rfl
@[simp] theorem State.updHost_hlt (s : State) (f : HostSt → HostSt) : (s.updHost f).hlt = s.hlt := rfl
@[simp] theorem State.updHost_ask (s : State) (f : HostSt → HostSt) : (s.updHost f).ask = s.ask := rfl
@[simp] theorem State.updHost_pwr (s : State) (f : HostSt → HostSt) : (s.updHost f).pwr = s.pwr := rfl
@[simp] theorem State.updHost_host (s : State) (f : HostSt → HostSt) : (s.updHost f).host = f s.host := rfl

/-! ### updSeq -/

@[simp] theorem State.updSeq_now (s : State) (f : SeqSt → SeqSt) : (s.updSeq f).now = s.now := rfl
@[simp] theorem State.updSeq_pending (s : State) (f : SeqSt → SeqSt) : (s.updSeq f).pending = s.pending := rfl
@[simp] theorem State.updSeq_freeCount (s : State) (f : SeqSt → SeqSt) : (s.updSeq f).freeCount = s.freeCount := rfl
@[simp] theorem State.updSeq_par (s : State) (f : SeqSt → SeqSt) : (s.updSeq f).par = s.par := rfl
@[simp] theorem State.updSeq_imgPar (s : State) (f : SeqSt → SeqSt) : (s.updSeq f).imgPar = s.imgPar := rfl
@[simp] theorem State.updSeq_imgQueue (s : State) (f : SeqSt → SeqSt) : (s.updSeq f).imgQueue = s.imgQueue := rfl
@[simp] theorem State.updSeq_cnt (s : State) (f : SeqSt → SeqSt) : (s.updSeq f).cnt = s.cnt := rfl
@[simp] theorem State.updSeq_hostMem (s : State) (f : SeqSt → SeqSt) : (s.updSeq f).hostMem = s.hostMem := rfl
@[simp] theorem State.updSeq_dram (s : State) (f : SeqSt → SeqSt) : (s.updSeq f).dram = s.dram := rfl
@[simp] theorem State.updSeq_flash (s : State) (f : SeqSt → SeqSt) : (s.updSeq f).flash = s.flash := rfl
@[simp] theorem State.updSeq_host (s : State) (f : SeqSt → SeqSt) : (s.updSeq f).host = s.host := rfl
@[simp] theorem State.updSeq_pos (s : State) (f : SeqSt → SeqSt) : (s.updSeq f).pos = s.pos := rfl
@[simp] theorem State.updSeq_lamp (s : State) (f : SeqSt → SeqSt) : (s.updSeq f).lamp = s.lamp := rfl
@[simp] theorem State.updSeq_sen (s : State) (f : SeqSt → SeqSt) : (s.updSeq f).sen = s.sen := rfl
@[simp] theorem State.updSeq_cor (s : State) (f : SeqSt → SeqSt) : (s.updSeq f).cor = s.cor := rfl
@[simp] theorem State.updSeq_cap (s : State) (f : SeqSt → SeqSt) : (s.updSeq f).cap = s.cap := rfl
@[simp] theorem State.updSeq_cmp (s : State) (f : SeqSt → SeqSt) : (s.updSeq f).cmp = s.cmp := rfl
@[simp] theorem State.updSeq_hq (s : State) (f : SeqSt → SeqSt) : (s.updSeq f).hq = s.hq := rfl
@[simp] theorem State.updSeq_mot (s : State) (f : SeqSt → SeqSt) : (s.updSeq f).mot = s.mot := rfl
@[simp] theorem State.updSeq_aux (s : State) (f : SeqSt → SeqSt) : (s.updSeq f).aux = s.aux := rfl
@[simp] theorem State.updSeq_sec (s : State) (f : SeqSt → SeqSt) : (s.updSeq f).sec = s.sec := rfl
@[simp] theorem State.updSeq_hlt (s : State) (f : SeqSt → SeqSt) : (s.updSeq f).hlt = s.hlt := rfl
@[simp] theorem State.updSeq_ask (s : State) (f : SeqSt → SeqSt) : (s.updSeq f).ask = s.ask := rfl
@[simp] theorem State.updSeq_pwr (s : State) (f : SeqSt → SeqSt) : (s.updSeq f).pwr = s.pwr := rfl
@[simp] theorem State.updSeq_seq (s : State) (f : SeqSt → SeqSt) : (s.updSeq f).seq = f s.seq := rfl

/-! ### updCap -/

@[simp] theorem State.updCap_now (s : State) (f : CapSt → CapSt) : (s.updCap f).now = s.now := rfl
@[simp] theorem State.updCap_pending (s : State) (f : CapSt → CapSt) : (s.updCap f).pending = s.pending := rfl
@[simp] theorem State.updCap_freeCount (s : State) (f : CapSt → CapSt) : (s.updCap f).freeCount = s.freeCount := rfl
@[simp] theorem State.updCap_par (s : State) (f : CapSt → CapSt) : (s.updCap f).par = s.par := rfl
@[simp] theorem State.updCap_imgPar (s : State) (f : CapSt → CapSt) : (s.updCap f).imgPar = s.imgPar := rfl
@[simp] theorem State.updCap_imgQueue (s : State) (f : CapSt → CapSt) : (s.updCap f).imgQueue = s.imgQueue := rfl
@[simp] theorem State.updCap_cnt (s : State) (f : CapSt → CapSt) : (s.updCap f).cnt = s.cnt := rfl
@[simp] theorem State.updCap_hostMem (s : State) (f : CapSt → CapSt) : (s.updCap f).hostMem = s.hostMem := rfl
@[simp] theorem State.updCap_dram (s : State) (f : CapSt → CapSt) : (s.updCap f).dram = s.dram := rfl
@[simp] theorem State.updCap_flash (s : State) (f : CapSt → CapSt) : (s.updCap f).flash = s.flash := rfl
@[simp] theorem State.updCap_host (s : State) (f : CapSt → CapSt) : (s.updCap f).host = s.host := rfl
@[simp] theorem State.updCap_seq (s : State) (f : CapSt → CapSt) : (s.updCap f).seq = s.seq := rfl
@[simp] theorem State.updCap_pos (s : State) (f : CapSt → CapSt) : (s.updCap f).pos = s.pos := rfl
@[simp] theorem State.updCap_lamp (s : State) (f : CapSt → CapSt) : (s.updCap f).lamp = s.lamp := rfl
@[simp] theorem State.updCap_sen (s : State) (f : CapSt → CapSt) : (s.updCap f).sen = s.sen := rfl
@[simp] theorem State.updCap_cor (s : State) (f : CapSt → CapSt) : (s.updCap f).cor = s.cor := rfl
@[simp] theorem State.updCap_cmp (s : State) (f : CapSt → CapSt) : (s.updCap f).cmp = s.cmp := rfl
@[simp] theorem State.updCap_hq (s : State) (f : CapSt → CapSt) : (s.updCap f).hq = s.hq := rfl
@[simp] theorem State.updCap_mot (s : State) (f : CapSt → CapSt) : (s.updCap f).mot = s.mot := rfl
@[simp] theorem State.updCap_aux (s : State) (f : CapSt → CapSt) : (s.updCap f).aux = s.aux := rfl
@[simp] theorem State.updCap_sec (s : State) (f : CapSt → CapSt) : (s.updCap f).sec = s.sec := rfl
@[simp] theorem State.updCap_hlt (s : State) (f : CapSt → CapSt) : (s.updCap f).hlt = s.hlt := rfl
@[simp] theorem State.updCap_ask (s : State) (f : CapSt → CapSt) : (s.updCap f).ask = s.ask := rfl
@[simp] theorem State.updCap_pwr (s : State) (f : CapSt → CapSt) : (s.updCap f).pwr = s.pwr := rfl
@[simp] theorem State.updCap_cap (s : State) (f : CapSt → CapSt) : (s.updCap f).cap = f s.cap := rfl

/-! ### updCmp -/

@[simp] theorem State.updCmp_now (s : State) (f : CmpSt → CmpSt) : (s.updCmp f).now = s.now := rfl
@[simp] theorem State.updCmp_pending (s : State) (f : CmpSt → CmpSt) : (s.updCmp f).pending = s.pending := rfl
@[simp] theorem State.updCmp_freeCount (s : State) (f : CmpSt → CmpSt) : (s.updCmp f).freeCount = s.freeCount := rfl
@[simp] theorem State.updCmp_par (s : State) (f : CmpSt → CmpSt) : (s.updCmp f).par = s.par := rfl
@[simp] theorem State.updCmp_imgPar (s : State) (f : CmpSt → CmpSt) : (s.updCmp f).imgPar = s.imgPar := rfl
@[simp] theorem State.updCmp_imgQueue (s : State) (f : CmpSt → CmpSt) : (s.updCmp f).imgQueue = s.imgQueue := rfl
@[simp] theorem State.updCmp_cnt (s : State) (f : CmpSt → CmpSt) : (s.updCmp f).cnt = s.cnt := rfl
@[simp] theorem State.updCmp_hostMem (s : State) (f : CmpSt → CmpSt) : (s.updCmp f).hostMem = s.hostMem := rfl
@[simp] theorem State.updCmp_dram (s : State) (f : CmpSt → CmpSt) : (s.updCmp f).dram = s.dram := rfl
@[simp] theorem State.updCmp_flash (s : State) (f : CmpSt → CmpSt) : (s.updCmp f).flash = s.flash := rfl
@[simp] theorem State.updCmp_host (s : State) (f : CmpSt → CmpSt) : (s.updCmp f).host = s.host := rfl
@[simp] theorem State.updCmp_seq (s : State) (f : CmpSt → CmpSt) : (s.updCmp f).seq = s.seq := rfl
@[simp] theorem State.updCmp_pos (s : State) (f : CmpSt → CmpSt) : (s.updCmp f).pos = s.pos := rfl
@[simp] theorem State.updCmp_lamp (s : State) (f : CmpSt → CmpSt) : (s.updCmp f).lamp = s.lamp := rfl
@[simp] theorem State.updCmp_sen (s : State) (f : CmpSt → CmpSt) : (s.updCmp f).sen = s.sen := rfl
@[simp] theorem State.updCmp_cor (s : State) (f : CmpSt → CmpSt) : (s.updCmp f).cor = s.cor := rfl
@[simp] theorem State.updCmp_cap (s : State) (f : CmpSt → CmpSt) : (s.updCmp f).cap = s.cap := rfl
@[simp] theorem State.updCmp_hq (s : State) (f : CmpSt → CmpSt) : (s.updCmp f).hq = s.hq := rfl
@[simp] theorem State.updCmp_mot (s : State) (f : CmpSt → CmpSt) : (s.updCmp f).mot = s.mot := rfl
@[simp] theorem State.updCmp_aux (s : State) (f : CmpSt → CmpSt) : (s.updCmp f).aux = s.aux := rfl
@[simp] theorem State.updCmp_sec (s : State) (f : CmpSt → CmpSt) : (s.updCmp f).sec = s.sec := rfl
@[simp] theorem State.updCmp_hlt (s : State) (f : CmpSt → CmpSt) : (s.updCmp f).hlt = s.hlt := rfl
@[simp] theorem State.updCmp_ask (s : State) (f : CmpSt → CmpSt) : (s.updCmp f).ask = s.ask := rfl
@[simp] theorem State.updCmp_pwr (s : State) (f : CmpSt → CmpSt) : (s.updCmp f).pwr = s.pwr := rfl
@[simp] theorem State.updCmp_cmp (s : State) (f : CmpSt → CmpSt) : (s.updCmp f).cmp = f s.cmp := rfl

/-! ### updCor -/

@[simp] theorem State.updCor_now (s : State) (f : CorSt → CorSt) : (s.updCor f).now = s.now := rfl
@[simp] theorem State.updCor_pending (s : State) (f : CorSt → CorSt) : (s.updCor f).pending = s.pending := rfl
@[simp] theorem State.updCor_freeCount (s : State) (f : CorSt → CorSt) : (s.updCor f).freeCount = s.freeCount := rfl
@[simp] theorem State.updCor_par (s : State) (f : CorSt → CorSt) : (s.updCor f).par = s.par := rfl
@[simp] theorem State.updCor_imgPar (s : State) (f : CorSt → CorSt) : (s.updCor f).imgPar = s.imgPar := rfl
@[simp] theorem State.updCor_imgQueue (s : State) (f : CorSt → CorSt) : (s.updCor f).imgQueue = s.imgQueue := rfl
@[simp] theorem State.updCor_cnt (s : State) (f : CorSt → CorSt) : (s.updCor f).cnt = s.cnt := rfl
@[simp] theorem State.updCor_hostMem (s : State) (f : CorSt → CorSt) : (s.updCor f).hostMem = s.hostMem := rfl
@[simp] theorem State.updCor_dram (s : State) (f : CorSt → CorSt) : (s.updCor f).dram = s.dram := rfl
@[simp] theorem State.updCor_flash (s : State) (f : CorSt → CorSt) : (s.updCor f).flash = s.flash := rfl
@[simp] theorem State.updCor_host (s : State) (f : CorSt → CorSt) : (s.updCor f).host = s.host := rfl
@[simp] theorem State.updCor_seq (s : State) (f : CorSt → CorSt) : (s.updCor f).seq = s.seq := rfl
@[simp] theorem State.updCor_pos (s : State) (f : CorSt → CorSt) : (s.updCor f).pos = s.pos := rfl
@[simp] theorem State.updCor_lamp (s : State) (f : CorSt → CorSt) : (s.updCor f).lamp = s.lamp := rfl
@[simp] theorem State.updCor_sen (s : State) (f : CorSt → CorSt) : (s.updCor f).sen = s.sen := rfl
@[simp] theorem State.updCor_cap (s : State) (f : CorSt → CorSt) : (s.updCor f).cap = s.cap := rfl
@[simp] theorem State.updCor_cmp (s : State) (f : CorSt → CorSt) : (s.updCor f).cmp = s.cmp := rfl
@[simp] theorem State.updCor_hq (s : State) (f : CorSt → CorSt) : (s.updCor f).hq = s.hq := rfl
@[simp] theorem State.updCor_mot (s : State) (f : CorSt → CorSt) : (s.updCor f).mot = s.mot := rfl
@[simp] theorem State.updCor_aux (s : State) (f : CorSt → CorSt) : (s.updCor f).aux = s.aux := rfl
@[simp] theorem State.updCor_sec (s : State) (f : CorSt → CorSt) : (s.updCor f).sec = s.sec := rfl
@[simp] theorem State.updCor_hlt (s : State) (f : CorSt → CorSt) : (s.updCor f).hlt = s.hlt := rfl
@[simp] theorem State.updCor_ask (s : State) (f : CorSt → CorSt) : (s.updCor f).ask = s.ask := rfl
@[simp] theorem State.updCor_pwr (s : State) (f : CorSt → CorSt) : (s.updCor f).pwr = s.pwr := rfl
@[simp] theorem State.updCor_cor (s : State) (f : CorSt → CorSt) : (s.updCor f).cor = f s.cor := rfl

/-! ### updHq -/

@[simp] theorem State.updHq_now (s : State) (f : HqSt → HqSt) : (s.updHq f).now = s.now := rfl
@[simp] theorem State.updHq_pending (s : State) (f : HqSt → HqSt) : (s.updHq f).pending = s.pending := rfl
@[simp] theorem State.updHq_freeCount (s : State) (f : HqSt → HqSt) : (s.updHq f).freeCount = s.freeCount := rfl
@[simp] theorem State.updHq_par (s : State) (f : HqSt → HqSt) : (s.updHq f).par = s.par := rfl
@[simp] theorem State.updHq_imgPar (s : State) (f : HqSt → HqSt) : (s.updHq f).imgPar = s.imgPar := rfl
@[simp] theorem State.updHq_imgQueue (s : State) (f : HqSt → HqSt) : (s.updHq f).imgQueue = s.imgQueue := rfl
@[simp] theorem State.updHq_cnt (s : State) (f : HqSt → HqSt) : (s.updHq f).cnt = s.cnt := rfl
@[simp] theorem State.updHq_hostMem (s : State) (f : HqSt → HqSt) : (s.updHq f).hostMem = s.hostMem := rfl
@[simp] theorem State.updHq_dram (s : State) (f : HqSt → HqSt) : (s.updHq f).dram = s.dram := rfl
@[simp] theorem State.updHq_flash (s : State) (f : HqSt → HqSt) : (s.updHq f).flash = s.flash := rfl
@[simp] theorem State.updHq_host (s : State) (f : HqSt → HqSt) : (s.updHq f).host = s.host := rfl
@[simp] theorem State.updHq_seq (s : State) (f : HqSt → HqSt) : (s.updHq f).seq = s.seq := rfl
@[simp] theorem State.updHq_pos (s : State) (f : HqSt → HqSt) : (s.updHq f).pos = s.pos := rfl
@[simp] theorem State.updHq_lamp (s : State) (f : HqSt → HqSt) : (s.updHq f).lamp = s.lamp := rfl
@[simp] theorem State.updHq_sen (s : State) (f : HqSt → HqSt) : (s.updHq f).sen = s.sen := rfl
@[simp] theorem State.updHq_cor (s : State) (f : HqSt → HqSt) : (s.updHq f).cor = s.cor := rfl
@[simp] theorem State.updHq_cap (s : State) (f : HqSt → HqSt) : (s.updHq f).cap = s.cap := rfl
@[simp] theorem State.updHq_cmp (s : State) (f : HqSt → HqSt) : (s.updHq f).cmp = s.cmp := rfl
@[simp] theorem State.updHq_mot (s : State) (f : HqSt → HqSt) : (s.updHq f).mot = s.mot := rfl
@[simp] theorem State.updHq_aux (s : State) (f : HqSt → HqSt) : (s.updHq f).aux = s.aux := rfl
@[simp] theorem State.updHq_sec (s : State) (f : HqSt → HqSt) : (s.updHq f).sec = s.sec := rfl
@[simp] theorem State.updHq_hlt (s : State) (f : HqSt → HqSt) : (s.updHq f).hlt = s.hlt := rfl
@[simp] theorem State.updHq_ask (s : State) (f : HqSt → HqSt) : (s.updHq f).ask = s.ask := rfl
@[simp] theorem State.updHq_pwr (s : State) (f : HqSt → HqSt) : (s.updHq f).pwr = s.pwr := rfl
@[simp] theorem State.updHq_hq (s : State) (f : HqSt → HqSt) : (s.updHq f).hq = f s.hq := rfl

/-! ### updAux -/

@[simp] theorem State.updAux_now (s : State) (f : AuxSt → AuxSt) : (s.updAux f).now = s.now := rfl
@[simp] theorem State.updAux_pending (s : State) (f : AuxSt → AuxSt) : (s.updAux f).pending = s.pending := rfl
@[simp] theorem State.updAux_freeCount (s : State) (f : AuxSt → AuxSt) : (s.updAux f).freeCount = s.freeCount := rfl
@[simp] theorem State.updAux_par (s : State) (f : AuxSt → AuxSt) : (s.updAux f).par = s.par := rfl
@[simp] theorem State.updAux_imgPar (s : State) (f : AuxSt → AuxSt) : (s.updAux f).imgPar = s.imgPar := rfl
@[simp] theorem State.updAux_imgQueue (s : State) (f : AuxSt → AuxSt) : (s.updAux f).imgQueue = s.imgQueue := rfl
@[simp] theorem State.updAux_cnt (s : State) (f : AuxSt → AuxSt) : (s.updAux f).cnt = s.cnt := rfl
@[simp] theorem State.updAux_hostMem (s : State) (f : AuxSt → AuxSt) : (s.updAux f).hostMem = s.hostMem := rfl
@[simp] theorem State.updAux_dram (s : State) (f : AuxSt → AuxSt) : (s.updAux f).dram = s.dram := rfl
@[simp] theorem State.updAux_flash (s : State) (f : AuxSt → AuxSt) : (s.updAux f).flash = s.flash := rfl
@[simp] theorem State.updAux_host (s : State) (f : AuxSt → AuxSt) : (s.updAux f).host = s.host := rfl
@[simp] theorem State.updAux_seq (s : State) (f : AuxSt → AuxSt) : (s.updAux f).seq = s.seq := rfl
@[simp] theorem State.updAux_pos (s : State) (f : AuxSt → AuxSt) : (s.updAux f).pos = s.pos := rfl
@[simp] theorem State.updAux_lamp (s : State) (f : AuxSt → AuxSt) : (s.updAux f).lamp = s.lamp := rfl
@[simp] theorem State.updAux_sen (s : State) (f : AuxSt → AuxSt) : (s.updAux f).sen = s.sen := rfl
@[simp] theorem State.updAux_cor (s : State) (f : AuxSt → AuxSt) : (s.updAux f).cor = s.cor := rfl
@[simp] theorem State.updAux_cap (s : State) (f : AuxSt → AuxSt) : (s.updAux f).cap = s.cap := rfl
@[simp] theorem State.updAux_cmp (s : State) (f : AuxSt → AuxSt) : (s.updAux f).cmp = s.cmp := rfl
@[simp] theorem State.updAux_hq (s : State) (f : AuxSt → AuxSt) : (s.updAux f).hq = s.hq := rfl
@[simp] theorem State.updAux_mot (s : State) (f : AuxSt → AuxSt) : (s.updAux f).mot = s.mot := rfl
@[simp] theorem State.updAux_sec (s : State) (f : AuxSt → AuxSt) : (s.updAux f).sec = s.sec := rfl
@[simp] theorem State.updAux_hlt (s : State) (f : AuxSt → AuxSt) : (s.updAux f).hlt = s.hlt := rfl
@[simp] theorem State.updAux_ask (s : State) (f : AuxSt → AuxSt) : (s.updAux f).ask = s.ask := rfl
@[simp] theorem State.updAux_pwr (s : State) (f : AuxSt → AuxSt) : (s.updAux f).pwr = s.pwr := rfl
@[simp] theorem State.updAux_aux (s : State) (f : AuxSt → AuxSt) : (s.updAux f).aux = f s.aux := rfl

/-! ### updSec -/

@[simp] theorem State.updSec_now (s : State) (f : SecSt → SecSt) : (s.updSec f).now = s.now := rfl
@[simp] theorem State.updSec_pending (s : State) (f : SecSt → SecSt) : (s.updSec f).pending = s.pending := rfl
@[simp] theorem State.updSec_freeCount (s : State) (f : SecSt → SecSt) : (s.updSec f).freeCount = s.freeCount := rfl
@[simp] theorem State.updSec_par (s : State) (f : SecSt → SecSt) : (s.updSec f).par = s.par := rfl
@[simp] theorem State.updSec_imgPar (s : State) (f : SecSt → SecSt) : (s.updSec f).imgPar = s.imgPar := rfl
@[simp] theorem State.updSec_imgQueue (s : State) (f : SecSt → SecSt) : (s.updSec f).imgQueue = s.imgQueue := rfl
@[simp] theorem State.updSec_cnt (s : State) (f : SecSt → SecSt) : (s.updSec f).cnt = s.cnt := rfl
@[simp] theorem State.updSec_hostMem (s : State) (f : SecSt → SecSt) : (s.updSec f).hostMem = s.hostMem := rfl
@[simp] theorem State.updSec_dram (s : State) (f : SecSt → SecSt) : (s.updSec f).dram = s.dram := rfl
@[simp] theorem State.updSec_flash (s : State) (f : SecSt → SecSt) : (s.updSec f).flash = s.flash := rfl
@[simp] theorem State.updSec_host (s : State) (f : SecSt → SecSt) : (s.updSec f).host = s.host := rfl
@[simp] theorem State.updSec_seq (s : State) (f : SecSt → SecSt) : (s.updSec f).seq = s.seq := rfl
@[simp] theorem State.updSec_pos (s : State) (f : SecSt → SecSt) : (s.updSec f).pos = s.pos := rfl
@[simp] theorem State.updSec_lamp (s : State) (f : SecSt → SecSt) : (s.updSec f).lamp = s.lamp := rfl
@[simp] theorem State.updSec_sen (s : State) (f : SecSt → SecSt) : (s.updSec f).sen = s.sen := rfl
@[simp] theorem State.updSec_cor (s : State) (f : SecSt → SecSt) : (s.updSec f).cor = s.cor := rfl
@[simp] theorem State.updSec_cap (s : State) (f : SecSt → SecSt) : (s.updSec f).cap = s.cap := rfl
@[simp] theorem State.updSec_cmp (s : State) (f : SecSt → SecSt) : (s.updSec f).cmp = s.cmp := rfl
@[simp] theorem State.updSec_hq (s : State) (f : SecSt → SecSt) : (s.updSec f).hq = s.hq := rfl
@[simp] theorem State.updSec_mot (s : State) (f : SecSt → SecSt) : (s.updSec f).mot = s.mot := rfl
@[simp] theorem State.updSec_aux (s : State) (f : SecSt → SecSt) : (s.updSec f).aux = s.aux := rfl
@[simp] theorem State.updSec_hlt (s : State) (f : SecSt → SecSt) : (s.updSec f).hlt = s.hlt := rfl
@[simp] theorem State.updSec_ask (s : State) (f : SecSt → SecSt) : (s.updSec f).ask = s.ask := rfl
@[simp] theorem State.updSec_pwr (s : State) (f : SecSt → SecSt) : (s.updSec f).pwr = s.pwr := rfl
@[simp] theorem State.updSec_sec (s : State) (f : SecSt → SecSt) : (s.updSec f).sec = f s.sec := rfl

/-! ### updHlt -/

@[simp] theorem State.updHlt_now (s : State) (f : HltSt → HltSt) : (s.updHlt f).now = s.now := rfl
@[simp] theorem State.updHlt_pending (s : State) (f : HltSt → HltSt) : (s.updHlt f).pending = s.pending := rfl
@[simp] theorem State.updHlt_freeCount (s : State) (f : HltSt → HltSt) : (s.updHlt f).freeCount = s.freeCount := rfl
@[simp] theorem State.updHlt_par (s : State) (f : HltSt → HltSt) : (s.updHlt f).par = s.par := rfl
@[simp] theorem State.updHlt_imgPar (s : State) (f : HltSt → HltSt) : (s.updHlt f).imgPar = s.imgPar := rfl
@[simp] theorem State.updHlt_imgQueue (s : State) (f : HltSt → HltSt) : (s.updHlt f).imgQueue = s.imgQueue := rfl
@[simp] theorem State.updHlt_cnt (s : State) (f : HltSt → HltSt) : (s.updHlt f).cnt = s.cnt := rfl
@[simp] theorem State.updHlt_hostMem (s : State) (f : HltSt → HltSt) : (s.updHlt f).hostMem = s.hostMem := rfl
@[simp] theorem State.updHlt_dram (s : State) (f : HltSt → HltSt) : (s.updHlt f).dram = s.dram := rfl
@[simp] theorem State.updHlt_flash (s : State) (f : HltSt → HltSt) : (s.updHlt f).flash = s.flash := rfl
@[simp] theorem State.updHlt_host (s : State) (f : HltSt → HltSt) : (s.updHlt f).host = s.host := rfl
@[simp] theorem State.updHlt_seq (s : State) (f : HltSt → HltSt) : (s.updHlt f).seq = s.seq := rfl
@[simp] theorem State.updHlt_pos (s : State) (f : HltSt → HltSt) : (s.updHlt f).pos = s.pos := rfl
@[simp] theorem State.updHlt_lamp (s : State) (f : HltSt → HltSt) : (s.updHlt f).lamp = s.lamp := rfl
@[simp] theorem State.updHlt_sen (s : State) (f : HltSt → HltSt) : (s.updHlt f).sen = s.sen := rfl
@[simp] theorem State.updHlt_cor (s : State) (f : HltSt → HltSt) : (s.updHlt f).cor = s.cor := rfl
@[simp] theorem State.updHlt_cap (s : State) (f : HltSt → HltSt) : (s.updHlt f).cap = s.cap := rfl
@[simp] theorem State.updHlt_cmp (s : State) (f : HltSt → HltSt) : (s.updHlt f).cmp = s.cmp := rfl
@[simp] theorem State.updHlt_hq (s : State) (f : HltSt → HltSt) : (s.updHlt f).hq = s.hq := rfl
@[simp] theorem State.updHlt_mot (s : State) (f : HltSt → HltSt) : (s.updHlt f).mot = s.mot := rfl
@[simp] theorem State.updHlt_aux (s : State) (f : HltSt → HltSt) : (s.updHlt f).aux = s.aux := rfl
@[simp] theorem State.updHlt_sec (s : State) (f : HltSt → HltSt) : (s.updHlt f).sec = s.sec := rfl
@[simp] theorem State.updHlt_ask (s : State) (f : HltSt → HltSt) : (s.updHlt f).ask = s.ask := rfl
@[simp] theorem State.updHlt_pwr (s : State) (f : HltSt → HltSt) : (s.updHlt f).pwr = s.pwr := rfl
@[simp] theorem State.updHlt_hlt (s : State) (f : HltSt → HltSt) : (s.updHlt f).hlt = f s.hlt := rfl

/-! ### updAsk -/

@[simp] theorem State.updAsk_now (s : State) (f : AskSt → AskSt) : (s.updAsk f).now = s.now := rfl
@[simp] theorem State.updAsk_pending (s : State) (f : AskSt → AskSt) : (s.updAsk f).pending = s.pending := rfl
@[simp] theorem State.updAsk_freeCount (s : State) (f : AskSt → AskSt) : (s.updAsk f).freeCount = s.freeCount := rfl
@[simp] theorem State.updAsk_par (s : State) (f : AskSt → AskSt) : (s.updAsk f).par = s.par := rfl
@[simp] theorem State.updAsk_imgPar (s : State) (f : AskSt → AskSt) : (s.updAsk f).imgPar = s.imgPar := rfl
@[simp] theorem State.updAsk_imgQueue (s : State) (f : AskSt → AskSt) : (s.updAsk f).imgQueue = s.imgQueue := rfl
@[simp] theorem State.updAsk_cnt (s : State) (f : AskSt → AskSt) : (s.updAsk f).cnt = s.cnt := rfl
@[simp] theorem State.updAsk_hostMem (s : State) (f : AskSt → AskSt) : (s.updAsk f).hostMem = s.hostMem := rfl
@[simp] theorem State.updAsk_dram (s : State) (f : AskSt → AskSt) : (s.updAsk f).dram = s.dram := rfl
@[simp] theorem State.updAsk_flash (s : State) (f : AskSt → AskSt) : (s.updAsk f).flash = s.flash := rfl
@[simp] theorem State.updAsk_host (s : State) (f : AskSt → AskSt) : (s.updAsk f).host = s.host := rfl
@[simp] theorem State.updAsk_seq (s : State) (f : AskSt → AskSt) : (s.updAsk f).seq = s.seq := rfl
@[simp] theorem State.updAsk_pos (s : State) (f : AskSt → AskSt) : (s.updAsk f).pos = s.pos := rfl
@[simp] theorem State.updAsk_lamp (s : State) (f : AskSt → AskSt) : (s.updAsk f).lamp = s.lamp := rfl
@[simp] theorem State.updAsk_sen (s : State) (f : AskSt → AskSt) : (s.updAsk f).sen = s.sen := rfl
@[simp] theorem State.updAsk_cor (s : State) (f : AskSt → AskSt) : (s.updAsk f).cor = s.cor := rfl
@[simp] theorem State.updAsk_cap (s : State) (f : AskSt → AskSt) : (s.updAsk f).cap = s.cap := rfl
@[simp] theorem State.updAsk_cmp (s : State) (f : AskSt → AskSt) : (s.updAsk f).cmp = s.cmp := rfl
@[simp] theorem State.updAsk_hq (s : State) (f : AskSt → AskSt) : (s.updAsk f).hq = s.hq := rfl
@[simp] theorem State.updAsk_mot (s : State) (f : AskSt → AskSt) : (s.updAsk f).mot = s.mot := rfl
@[simp] theorem State.updAsk_aux (s : State) (f : AskSt → AskSt) : (s.updAsk f).aux = s.aux := rfl
@[simp] theorem State.updAsk_sec (s : State) (f : AskSt → AskSt) : (s.updAsk f).sec = s.sec := rfl
@[simp] theorem State.updAsk_hlt (s : State) (f : AskSt → AskSt) : (s.updAsk f).hlt = s.hlt := rfl
@[simp] theorem State.updAsk_pwr (s : State) (f : AskSt → AskSt) : (s.updAsk f).pwr = s.pwr := rfl
@[simp] theorem State.updAsk_ask (s : State) (f : AskSt → AskSt) : (s.updAsk f).ask = f s.ask := rfl

/-! ### updPwr -/

@[simp] theorem State.updPwr_now (s : State) (f : PwrSt → PwrSt) : (s.updPwr f).now = s.now := rfl
@[simp] theorem State.updPwr_pending (s : State) (f : PwrSt → PwrSt) : (s.updPwr f).pending = s.pending := rfl
@[simp] theorem State.updPwr_freeCount (s : State) (f : PwrSt → PwrSt) : (s.updPwr f).freeCount = s.freeCount := rfl
@[simp] theorem State.updPwr_par (s : State) (f : PwrSt → PwrSt) : (s.updPwr f).par = s.par := rfl
@[simp] theorem State.updPwr_imgPar (s : State) (f : PwrSt → PwrSt) : (s.updPwr f).imgPar = s.imgPar := rfl
@[simp] theorem State.updPwr_imgQueue (s : State) (f : PwrSt → PwrSt) : (s.updPwr f).imgQueue = s.imgQueue := rfl
@[simp] theorem State.updPwr_cnt (s : State) (f : PwrSt → PwrSt) : (s.updPwr f).cnt = s.cnt := rfl
@[simp] theorem State.updPwr_hostMem (s : State) (f : PwrSt → PwrSt) : (s.updPwr f).hostMem = s.hostMem := rfl
@[simp] theorem State.updPwr_dram (s : State) (f : PwrSt → PwrSt) : (s.updPwr f).dram = s.dram := rfl
@[simp] theorem State.updPwr_flash (s : State) (f : PwrSt → PwrSt) : (s.updPwr f).flash = s.flash := rfl
@[simp] theorem State.updPwr_host (s : State) (f : PwrSt → PwrSt) : (s.updPwr f).host = s.host := rfl
@[simp] theorem State.updPwr_seq (s : State) (f : PwrSt → PwrSt) : (s.updPwr f).seq = s.seq := rfl
@[simp] theorem State.updPwr_pos (s : State) (f : PwrSt → PwrSt) : (s.updPwr f).pos = s.pos := rfl
@[simp] theorem State.updPwr_lamp (s : State) (f : PwrSt → PwrSt) : (s.updPwr f).lamp = s.lamp := rfl
@[simp] theorem State.updPwr_sen (s : State) (f : PwrSt → PwrSt) : (s.updPwr f).sen = s.sen := rfl
@[simp] theorem State.updPwr_cor (s : State) (f : PwrSt → PwrSt) : (s.updPwr f).cor = s.cor := rfl
@[simp] theorem State.updPwr_cap (s : State) (f : PwrSt → PwrSt) : (s.updPwr f).cap = s.cap := rfl
@[simp] theorem State.updPwr_cmp (s : State) (f : PwrSt → PwrSt) : (s.updPwr f).cmp = s.cmp := rfl
@[simp] theorem State.updPwr_hq (s : State) (f : PwrSt → PwrSt) : (s.updPwr f).hq = s.hq := rfl
@[simp] theorem State.updPwr_mot (s : State) (f : PwrSt → PwrSt) : (s.updPwr f).mot = s.mot := rfl
@[simp] theorem State.updPwr_aux (s : State) (f : PwrSt → PwrSt) : (s.updPwr f).aux = s.aux := rfl
@[simp] theorem State.updPwr_sec (s : State) (f : PwrSt → PwrSt) : (s.updPwr f).sec = s.sec := rfl
@[simp] theorem State.updPwr_hlt (s : State) (f : PwrSt → PwrSt) : (s.updPwr f).hlt = s.hlt := rfl
@[simp] theorem State.updPwr_ask (s : State) (f : PwrSt → PwrSt) : (s.updPwr f).ask = s.ask := rfl
@[simp] theorem State.updPwr_pwr (s : State) (f : PwrSt → PwrSt) : (s.updPwr f).pwr = f s.pwr := rfl

/-! ### updBar -/

@[simp] theorem State.updBar_now (s : State) (b : Nat) (f : Bar → Bar) : (s.updBar b f).now = s.now := rfl
@[simp] theorem State.updBar_pending (s : State) (b : Nat) (f : Bar → Bar) : (s.updBar b f).pending = s.pending := rfl
@[simp] theorem State.updBar_freeCount (s : State) (b : Nat) (f : Bar → Bar) : (s.updBar b f).freeCount = s.freeCount := rfl
@[simp] theorem State.updBar_par (s : State) (b : Nat) (f : Bar → Bar) : (s.updBar b f).par = s.par := rfl
@[simp] theorem State.updBar_imgPar (s : State) (b : Nat) (f : Bar → Bar) : (s.updBar b f).imgPar = s.imgPar := rfl
@[simp] theorem State.updBar_imgQueue (s : State) (b : Nat) (f : Bar → Bar) : (s.updBar b f).imgQueue = s.imgQueue := rfl
@[simp] theorem State.updBar_cnt (s : State) (b : Nat) (f : Bar → Bar) : (s.updBar b f).cnt = s.cnt := rfl
@[simp] theorem State.updBar_hostMem (s : State) (b : Nat) (f : Bar → Bar) : (s.updBar b f).hostMem = s.hostMem := rfl
@[simp] theorem State.updBar_dram (s : State) (b : Nat) (f : Bar → Bar) : (s.updBar b f).dram = s.dram := rfl
@[simp] theorem State.updBar_flash (s : State) (b : Nat) (f : Bar → Bar) : (s.updBar b f).flash = s.flash := rfl
@[simp] theorem State.updBar_host (s : State) (b : Nat) (f : Bar → Bar) : (s.updBar b f).host = s.host := rfl
@[simp] theorem State.updBar_seq (s : State) (b : Nat) (f : Bar → Bar) : (s.updBar b f).seq = s.seq := rfl
@[simp] theorem State.updBar_pos (s : State) (b : Nat) (f : Bar → Bar) : (s.updBar b f).pos = s.pos := rfl
@[simp] theorem State.updBar_sen (s : State) (b : Nat) (f : Bar → Bar) : (s.updBar b f).sen = s.sen := rfl
@[simp] theorem State.updBar_cor (s : State) (b : Nat) (f : Bar → Bar) : (s.updBar b f).cor = s.cor := rfl
@[simp] theorem State.updBar_cap (s : State) (b : Nat) (f : Bar → Bar) : (s.updBar b f).cap = s.cap := rfl
@[simp] theorem State.updBar_cmp (s : State) (b : Nat) (f : Bar → Bar) : (s.updBar b f).cmp = s.cmp := rfl
@[simp] theorem State.updBar_hq (s : State) (b : Nat) (f : Bar → Bar) : (s.updBar b f).hq = s.hq := rfl
@[simp] theorem State.updBar_mot (s : State) (b : Nat) (f : Bar → Bar) : (s.updBar b f).mot = s.mot := rfl
@[simp] theorem State.updBar_aux (s : State) (b : Nat) (f : Bar → Bar) : (s.updBar b f).aux = s.aux := rfl
@[simp] theorem State.updBar_sec (s : State) (b : Nat) (f : Bar → Bar) : (s.updBar b f).sec = s.sec := rfl
@[simp] theorem State.updBar_hlt (s : State) (b : Nat) (f : Bar → Bar) : (s.updBar b f).hlt = s.hlt := rfl
@[simp] theorem State.updBar_ask (s : State) (b : Nat) (f : Bar → Bar) : (s.updBar b f).ask = s.ask := rfl
@[simp] theorem State.updBar_pwr (s : State) (b : Nat) (f : Bar → Bar) : (s.updBar b f).pwr = s.pwr := rfl

/-! ### updTile -/

@[simp] theorem State.updTile_now (s : State) (i : Nat) (f : TileCor → TileCor) : (s.updTile i f).now = s.now := rfl
@[simp] theorem State.updTile_pending (s : State) (i : Nat) (f : TileCor → TileCor) : (s.updTile i f).pending = s.pending := rfl
@[simp] theorem State.updTile_freeCount (s : State) (i : Nat) (f : TileCor → TileCor) : (s.updTile i f).freeCount = s.freeCount := rfl
@[simp] theorem State.updTile_par (s : State) (i : Nat) (f : TileCor → TileCor) : (s.updTile i f).par = s.par := rfl
@[simp] theorem State.updTile_imgPar (s : State) (i : Nat) (f : TileCor → TileCor) : (s.updTile i f).imgPar = s.imgPar := rfl
@[simp] theorem State.updTile_imgQueue (s : State) (i : Nat) (f : TileCor → TileCor) : (s.updTile i f).imgQueue = s.imgQueue := rfl
@[simp] theorem State.updTile_cnt (s : State) (i : Nat) (f : TileCor → TileCor) : (s.updTile i f).cnt = s.cnt := rfl
@[simp] theorem State.updTile_hostMem (s : State) (i : Nat) (f : TileCor → TileCor) : (s.updTile i f).hostMem = s.hostMem := rfl
@[simp] theorem State.updTile_dram (s : State) (i : Nat) (f : TileCor → TileCor) : (s.updTile i f).dram = s.dram := rfl
@[simp] theorem State.updTile_flash (s : State) (i : Nat) (f : TileCor → TileCor) : (s.updTile i f).flash = s.flash := rfl
@[simp] theorem State.updTile_host (s : State) (i : Nat) (f : TileCor → TileCor) : (s.updTile i f).host = s.host := rfl
@[simp] theorem State.updTile_seq (s : State) (i : Nat) (f : TileCor → TileCor) : (s.updTile i f).seq = s.seq := rfl
@[simp] theorem State.updTile_pos (s : State) (i : Nat) (f : TileCor → TileCor) : (s.updTile i f).pos = s.pos := rfl
@[simp] theorem State.updTile_lamp (s : State) (i : Nat) (f : TileCor → TileCor) : (s.updTile i f).lamp = s.lamp := rfl
@[simp] theorem State.updTile_sen (s : State) (i : Nat) (f : TileCor → TileCor) : (s.updTile i f).sen = s.sen := rfl
@[simp] theorem State.updTile_cap (s : State) (i : Nat) (f : TileCor → TileCor) : (s.updTile i f).cap = s.cap := rfl
@[simp] theorem State.updTile_cmp (s : State) (i : Nat) (f : TileCor → TileCor) : (s.updTile i f).cmp = s.cmp := rfl
@[simp] theorem State.updTile_hq (s : State) (i : Nat) (f : TileCor → TileCor) : (s.updTile i f).hq = s.hq := rfl
@[simp] theorem State.updTile_mot (s : State) (i : Nat) (f : TileCor → TileCor) : (s.updTile i f).mot = s.mot := rfl
@[simp] theorem State.updTile_aux (s : State) (i : Nat) (f : TileCor → TileCor) : (s.updTile i f).aux = s.aux := rfl
@[simp] theorem State.updTile_sec (s : State) (i : Nat) (f : TileCor → TileCor) : (s.updTile i f).sec = s.sec := rfl
@[simp] theorem State.updTile_hlt (s : State) (i : Nat) (f : TileCor → TileCor) : (s.updTile i f).hlt = s.hlt := rfl
@[simp] theorem State.updTile_ask (s : State) (i : Nat) (f : TileCor → TileCor) : (s.updTile i f).ask = s.ask := rfl
@[simp] theorem State.updTile_pwr (s : State) (i : Nat) (f : TileCor → TileCor) : (s.updTile i f).pwr = s.pwr := rfl

/-! ### updQueue -/

@[simp] theorem State.updQueue_now (s : State) (q : Nat) (f : Queue → Queue) : (s.updQueue q f).now = s.now := rfl
@[simp] theorem State.updQueue_pending (s : State) (q : Nat) (f : Queue → Queue) : (s.updQueue q f).pending = s.pending := rfl
@[simp] theorem State.updQueue_freeCount (s : State) (q : Nat) (f : Queue → Queue) : (s.updQueue q f).freeCount = s.freeCount := rfl
@[simp] theorem State.updQueue_par (s : State) (q : Nat) (f : Queue → Queue) : (s.updQueue q f).par = s.par := rfl
@[simp] theorem State.updQueue_imgPar (s : State) (q : Nat) (f : Queue → Queue) : (s.updQueue q f).imgPar = s.imgPar := rfl
@[simp] theorem State.updQueue_imgQueue (s : State) (q : Nat) (f : Queue → Queue) : (s.updQueue q f).imgQueue = s.imgQueue := rfl
@[simp] theorem State.updQueue_cnt (s : State) (q : Nat) (f : Queue → Queue) : (s.updQueue q f).cnt = s.cnt := rfl
@[simp] theorem State.updQueue_hostMem (s : State) (q : Nat) (f : Queue → Queue) : (s.updQueue q f).hostMem = s.hostMem := rfl
@[simp] theorem State.updQueue_dram (s : State) (q : Nat) (f : Queue → Queue) : (s.updQueue q f).dram = s.dram := rfl
@[simp] theorem State.updQueue_flash (s : State) (q : Nat) (f : Queue → Queue) : (s.updQueue q f).flash = s.flash := rfl
@[simp] theorem State.updQueue_host (s : State) (q : Nat) (f : Queue → Queue) : (s.updQueue q f).host = s.host := rfl
@[simp] theorem State.updQueue_seq (s : State) (q : Nat) (f : Queue → Queue) : (s.updQueue q f).seq = s.seq := rfl
@[simp] theorem State.updQueue_pos (s : State) (q : Nat) (f : Queue → Queue) : (s.updQueue q f).pos = s.pos := rfl
@[simp] theorem State.updQueue_lamp (s : State) (q : Nat) (f : Queue → Queue) : (s.updQueue q f).lamp = s.lamp := rfl
@[simp] theorem State.updQueue_sen (s : State) (q : Nat) (f : Queue → Queue) : (s.updQueue q f).sen = s.sen := rfl
@[simp] theorem State.updQueue_cor (s : State) (q : Nat) (f : Queue → Queue) : (s.updQueue q f).cor = s.cor := rfl
@[simp] theorem State.updQueue_cap (s : State) (q : Nat) (f : Queue → Queue) : (s.updQueue q f).cap = s.cap := rfl
@[simp] theorem State.updQueue_cmp (s : State) (q : Nat) (f : Queue → Queue) : (s.updQueue q f).cmp = s.cmp := rfl
@[simp] theorem State.updQueue_mot (s : State) (q : Nat) (f : Queue → Queue) : (s.updQueue q f).mot = s.mot := rfl
@[simp] theorem State.updQueue_aux (s : State) (q : Nat) (f : Queue → Queue) : (s.updQueue q f).aux = s.aux := rfl
@[simp] theorem State.updQueue_sec (s : State) (q : Nat) (f : Queue → Queue) : (s.updQueue q f).sec = s.sec := rfl
@[simp] theorem State.updQueue_hlt (s : State) (q : Nat) (f : Queue → Queue) : (s.updQueue q f).hlt = s.hlt := rfl
@[simp] theorem State.updQueue_ask (s : State) (q : Nat) (f : Queue → Queue) : (s.updQueue q f).ask = s.ask := rfl
@[simp] theorem State.updQueue_pwr (s : State) (q : Nat) (f : Queue → Queue) : (s.updQueue q f).pwr = s.pwr := rfl

/-! ### setBand -/

@[simp] theorem State.setBand_now (s : State) (q : Nat) (b : Option Band) : (s.setBand q b).now = s.now := rfl
@[simp] theorem State.setBand_pending (s : State) (q : Nat) (b : Option Band) : (s.setBand q b).pending = s.pending := rfl
@[simp] theorem State.setBand_freeCount (s : State) (q : Nat) (b : Option Band) : (s.setBand q b).freeCount = s.freeCount := rfl
@[simp] theorem State.setBand_par (s : State) (q : Nat) (b : Option Band) : (s.setBand q b).par = s.par := rfl
@[simp] theorem State.setBand_imgPar (s : State) (q : Nat) (b : Option Band) : (s.setBand q b).imgPar = s.imgPar := rfl
@[simp] theorem State.setBand_imgQueue (s : State) (q : Nat) (b : Option Band) : (s.setBand q b).imgQueue = s.imgQueue := rfl
@[simp] theorem State.setBand_cnt (s : State) (q : Nat) (b : Option Band) : (s.setBand q b).cnt = s.cnt := rfl
@[simp] theorem State.setBand_hostMem (s : State) (q : Nat) (b : Option Band) : (s.setBand q b).hostMem = s.hostMem := rfl
@[simp] theorem State.setBand_dram (s : State) (q : Nat) (b : Option Band) : (s.setBand q b).dram = s.dram := rfl
@[simp] theorem State.setBand_flash (s : State) (q : Nat) (b : Option Band) : (s.setBand q b).flash = s.flash := rfl
@[simp] theorem State.setBand_host (s : State) (q : Nat) (b : Option Band) : (s.setBand q b).host = s.host := rfl
@[simp] theorem State.setBand_seq (s : State) (q : Nat) (b : Option Band) : (s.setBand q b).seq = s.seq := rfl
@[simp] theorem State.setBand_pos (s : State) (q : Nat) (b : Option Band) : (s.setBand q b).pos = s.pos := rfl
@[simp] theorem State.setBand_lamp (s : State) (q : Nat) (b : Option Band) : (s.setBand q b).lamp = s.lamp := rfl
@[simp] theorem State.setBand_sen (s : State) (q : Nat) (b : Option Band) : (s.setBand q b).sen = s.sen := rfl
@[simp] theorem State.setBand_cor (s : State) (q : Nat) (b : Option Band) : (s.setBand q b).cor = s.cor := rfl
@[simp] theorem State.setBand_cap (s : State) (q : Nat) (b : Option Band) : (s.setBand q b).cap = s.cap := rfl
@[simp] theorem State.setBand_cmp (s : State) (q : Nat) (b : Option Band) : (s.setBand q b).cmp = s.cmp := rfl
@[simp] theorem State.setBand_mot (s : State) (q : Nat) (b : Option Band) : (s.setBand q b).mot = s.mot := rfl
@[simp] theorem State.setBand_aux (s : State) (q : Nat) (b : Option Band) : (s.setBand q b).aux = s.aux := rfl
@[simp] theorem State.setBand_sec (s : State) (q : Nat) (b : Option Band) : (s.setBand q b).sec = s.sec := rfl
@[simp] theorem State.setBand_hlt (s : State) (q : Nat) (b : Option Band) : (s.setBand q b).hlt = s.hlt := rfl
@[simp] theorem State.setBand_ask (s : State) (q : Nat) (b : Option Band) : (s.setBand q b).ask = s.ask := rfl
@[simp] theorem State.setBand_pwr (s : State) (q : Nat) (b : Option Band) : (s.setBand q b).pwr = s.pwr := rfl

/-! ### updAxis -/

@[simp] theorem State.updAxis_now (s : State) (a : Nat) (f : Axis → Axis) : (s.updAxis a f).now = s.now := rfl
@[simp] theorem State.updAxis_pending (s : State) (a : Nat) (f : Axis → Axis) : (s.updAxis a f).pending = s.pending := rfl
@[simp] theorem State.updAxis_freeCount (s : State) (a : Nat) (f : Axis → Axis) : (s.updAxis a f).freeCount = s.freeCount := rfl
@[simp] theorem State.updAxis_par (s : State) (a : Nat) (f : Axis → Axis) : (s.updAxis a f).par = s.par := rfl
@[simp] theorem State.updAxis_imgPar (s : State) (a : Nat) (f : Axis → Axis) : (s.updAxis a f).imgPar = s.imgPar := rfl
@[simp] theorem State.updAxis_imgQueue (s : State) (a : Nat) (f : Axis → Axis) : (s.updAxis a f).imgQueue = s.imgQueue := rfl
@[simp] theorem State.updAxis_cnt (s : State) (a : Nat) (f : Axis → Axis) : (s.updAxis a f).cnt = s.cnt := rfl
@[simp] theorem State.updAxis_hostMem (s : State) (a : Nat) (f : Axis → Axis) : (s.updAxis a f).hostMem = s.hostMem := rfl
@[simp] theorem State.updAxis_dram (s : State) (a : Nat) (f : Axis → Axis) : (s.updAxis a f).dram = s.dram := rfl
@[simp] theorem State.updAxis_flash (s : State) (a : Nat) (f : Axis → Axis) : (s.updAxis a f).flash = s.flash := rfl
@[simp] theorem State.updAxis_host (s : State) (a : Nat) (f : Axis → Axis) : (s.updAxis a f).host = s.host := rfl
@[simp] theorem State.updAxis_seq (s : State) (a : Nat) (f : Axis → Axis) : (s.updAxis a f).seq = s.seq := rfl
@[simp] theorem State.updAxis_pos (s : State) (a : Nat) (f : Axis → Axis) : (s.updAxis a f).pos = s.pos := rfl
@[simp] theorem State.updAxis_lamp (s : State) (a : Nat) (f : Axis → Axis) : (s.updAxis a f).lamp = s.lamp := rfl
@[simp] theorem State.updAxis_sen (s : State) (a : Nat) (f : Axis → Axis) : (s.updAxis a f).sen = s.sen := rfl
@[simp] theorem State.updAxis_cor (s : State) (a : Nat) (f : Axis → Axis) : (s.updAxis a f).cor = s.cor := rfl
@[simp] theorem State.updAxis_cap (s : State) (a : Nat) (f : Axis → Axis) : (s.updAxis a f).cap = s.cap := rfl
@[simp] theorem State.updAxis_cmp (s : State) (a : Nat) (f : Axis → Axis) : (s.updAxis a f).cmp = s.cmp := rfl
@[simp] theorem State.updAxis_hq (s : State) (a : Nat) (f : Axis → Axis) : (s.updAxis a f).hq = s.hq := rfl
@[simp] theorem State.updAxis_aux (s : State) (a : Nat) (f : Axis → Axis) : (s.updAxis a f).aux = s.aux := rfl
@[simp] theorem State.updAxis_sec (s : State) (a : Nat) (f : Axis → Axis) : (s.updAxis a f).sec = s.sec := rfl
@[simp] theorem State.updAxis_hlt (s : State) (a : Nat) (f : Axis → Axis) : (s.updAxis a f).hlt = s.hlt := rfl
@[simp] theorem State.updAxis_ask (s : State) (a : Nat) (f : Axis → Axis) : (s.updAxis a f).ask = s.ask := rfl
@[simp] theorem State.updAxis_pwr (s : State) (a : Nat) (f : Axis → Axis) : (s.updAxis a f).pwr = s.pwr := rfl

/-! ### updEnc -/

@[simp] theorem State.updEnc_now (s : State) (k : Nat) (f : Enc → Enc) : (s.updEnc k f).now = s.now := rfl
@[simp] theorem State.updEnc_pending (s : State) (k : Nat) (f : Enc → Enc) : (s.updEnc k f).pending = s.pending := rfl
@[simp] theorem State.updEnc_freeCount (s : State) (k : Nat) (f : Enc → Enc) : (s.updEnc k f).freeCount = s.freeCount := rfl
@[simp] theorem State.updEnc_par (s : State) (k : Nat) (f : Enc → Enc) : (s.updEnc k f).par = s.par := rfl
@[simp] theorem State.updEnc_imgPar (s : State) (k : Nat) (f : Enc → Enc) : (s.updEnc k f).imgPar = s.imgPar := rfl
@[simp] theorem State.updEnc_imgQueue (s : State) (k : Nat) (f : Enc → Enc) : (s.updEnc k f).imgQueue = s.imgQueue := rfl
@[simp] theorem State.updEnc_cnt (s : State) (k : Nat) (f : Enc → Enc) : (s.updEnc k f).cnt = s.cnt := rfl
@[simp] theorem State.updEnc_hostMem (s : State) (k : Nat) (f : Enc → Enc) : (s.updEnc k f).hostMem = s.hostMem := rfl
@[simp] theorem State.updEnc_dram (s : State) (k : Nat) (f : Enc → Enc) : (s.updEnc k f).dram = s.dram := rfl
@[simp] theorem State.updEnc_flash (s : State) (k : Nat) (f : Enc → Enc) : (s.updEnc k f).flash = s.flash := rfl
@[simp] theorem State.updEnc_host (s : State) (k : Nat) (f : Enc → Enc) : (s.updEnc k f).host = s.host := rfl
@[simp] theorem State.updEnc_seq (s : State) (k : Nat) (f : Enc → Enc) : (s.updEnc k f).seq = s.seq := rfl
@[simp] theorem State.updEnc_lamp (s : State) (k : Nat) (f : Enc → Enc) : (s.updEnc k f).lamp = s.lamp := rfl
@[simp] theorem State.updEnc_sen (s : State) (k : Nat) (f : Enc → Enc) : (s.updEnc k f).sen = s.sen := rfl
@[simp] theorem State.updEnc_cor (s : State) (k : Nat) (f : Enc → Enc) : (s.updEnc k f).cor = s.cor := rfl
@[simp] theorem State.updEnc_cap (s : State) (k : Nat) (f : Enc → Enc) : (s.updEnc k f).cap = s.cap := rfl
@[simp] theorem State.updEnc_cmp (s : State) (k : Nat) (f : Enc → Enc) : (s.updEnc k f).cmp = s.cmp := rfl
@[simp] theorem State.updEnc_hq (s : State) (k : Nat) (f : Enc → Enc) : (s.updEnc k f).hq = s.hq := rfl
@[simp] theorem State.updEnc_mot (s : State) (k : Nat) (f : Enc → Enc) : (s.updEnc k f).mot = s.mot := rfl
@[simp] theorem State.updEnc_aux (s : State) (k : Nat) (f : Enc → Enc) : (s.updEnc k f).aux = s.aux := rfl
@[simp] theorem State.updEnc_sec (s : State) (k : Nat) (f : Enc → Enc) : (s.updEnc k f).sec = s.sec := rfl
@[simp] theorem State.updEnc_hlt (s : State) (k : Nat) (f : Enc → Enc) : (s.updEnc k f).hlt = s.hlt := rfl
@[simp] theorem State.updEnc_ask (s : State) (k : Nat) (f : Enc → Enc) : (s.updEnc k f).ask = s.ask := rfl
@[simp] theorem State.updEnc_pwr (s : State) (k : Nat) (f : Enc → Enc) : (s.updEnc k f).pwr = s.pwr := rfl

/-! ### updChan -/

@[simp] theorem State.updChan_now (s : State) (j : Nat) (f : TdcChan → TdcChan) : (s.updChan j f).now = s.now := rfl
@[simp] theorem State.updChan_pending (s : State) (j : Nat) (f : TdcChan → TdcChan) : (s.updChan j f).pending = s.pending := rfl
@[simp] theorem State.updChan_freeCount (s : State) (j : Nat) (f : TdcChan → TdcChan) : (s.updChan j f).freeCount = s.freeCount := rfl
@[simp] theorem State.updChan_par (s : State) (j : Nat) (f : TdcChan → TdcChan) : (s.updChan j f).par = s.par := rfl
@[simp] theorem State.updChan_imgPar (s : State) (j : Nat) (f : TdcChan → TdcChan) : (s.updChan j f).imgPar = s.imgPar := rfl
@[simp] theorem State.updChan_imgQueue (s : State) (j : Nat) (f : TdcChan → TdcChan) : (s.updChan j f).imgQueue = s.imgQueue := rfl
@[simp] theorem State.updChan_cnt (s : State) (j : Nat) (f : TdcChan → TdcChan) : (s.updChan j f).cnt = s.cnt := rfl
@[simp] theorem State.updChan_hostMem (s : State) (j : Nat) (f : TdcChan → TdcChan) : (s.updChan j f).hostMem = s.hostMem := rfl
@[simp] theorem State.updChan_dram (s : State) (j : Nat) (f : TdcChan → TdcChan) : (s.updChan j f).dram = s.dram := rfl
@[simp] theorem State.updChan_flash (s : State) (j : Nat) (f : TdcChan → TdcChan) : (s.updChan j f).flash = s.flash := rfl
@[simp] theorem State.updChan_host (s : State) (j : Nat) (f : TdcChan → TdcChan) : (s.updChan j f).host = s.host := rfl
@[simp] theorem State.updChan_seq (s : State) (j : Nat) (f : TdcChan → TdcChan) : (s.updChan j f).seq = s.seq := rfl
@[simp] theorem State.updChan_lamp (s : State) (j : Nat) (f : TdcChan → TdcChan) : (s.updChan j f).lamp = s.lamp := rfl
@[simp] theorem State.updChan_sen (s : State) (j : Nat) (f : TdcChan → TdcChan) : (s.updChan j f).sen = s.sen := rfl
@[simp] theorem State.updChan_cor (s : State) (j : Nat) (f : TdcChan → TdcChan) : (s.updChan j f).cor = s.cor := rfl
@[simp] theorem State.updChan_cap (s : State) (j : Nat) (f : TdcChan → TdcChan) : (s.updChan j f).cap = s.cap := rfl
@[simp] theorem State.updChan_cmp (s : State) (j : Nat) (f : TdcChan → TdcChan) : (s.updChan j f).cmp = s.cmp := rfl
@[simp] theorem State.updChan_hq (s : State) (j : Nat) (f : TdcChan → TdcChan) : (s.updChan j f).hq = s.hq := rfl
@[simp] theorem State.updChan_mot (s : State) (j : Nat) (f : TdcChan → TdcChan) : (s.updChan j f).mot = s.mot := rfl
@[simp] theorem State.updChan_aux (s : State) (j : Nat) (f : TdcChan → TdcChan) : (s.updChan j f).aux = s.aux := rfl
@[simp] theorem State.updChan_sec (s : State) (j : Nat) (f : TdcChan → TdcChan) : (s.updChan j f).sec = s.sec := rfl
@[simp] theorem State.updChan_hlt (s : State) (j : Nat) (f : TdcChan → TdcChan) : (s.updChan j f).hlt = s.hlt := rfl
@[simp] theorem State.updChan_ask (s : State) (j : Nat) (f : TdcChan → TdcChan) : (s.updChan j f).ask = s.ask := rfl
@[simp] theorem State.updChan_pwr (s : State) (j : Nat) (f : TdcChan → TdcChan) : (s.updChan j f).pwr = s.pwr := rfl

/-! ### updTb -/

@[simp] theorem State.updTb_now (s : State) (f : TimeBase → TimeBase) : (s.updTb f).now = s.now := rfl
@[simp] theorem State.updTb_pending (s : State) (f : TimeBase → TimeBase) : (s.updTb f).pending = s.pending := rfl
@[simp] theorem State.updTb_freeCount (s : State) (f : TimeBase → TimeBase) : (s.updTb f).freeCount = s.freeCount := rfl
@[simp] theorem State.updTb_par (s : State) (f : TimeBase → TimeBase) : (s.updTb f).par = s.par := rfl
@[simp] theorem State.updTb_imgPar (s : State) (f : TimeBase → TimeBase) : (s.updTb f).imgPar = s.imgPar := rfl
@[simp] theorem State.updTb_imgQueue (s : State) (f : TimeBase → TimeBase) : (s.updTb f).imgQueue = s.imgQueue := rfl
@[simp] theorem State.updTb_cnt (s : State) (f : TimeBase → TimeBase) : (s.updTb f).cnt = s.cnt := rfl
@[simp] theorem State.updTb_hostMem (s : State) (f : TimeBase → TimeBase) : (s.updTb f).hostMem = s.hostMem := rfl
@[simp] theorem State.updTb_dram (s : State) (f : TimeBase → TimeBase) : (s.updTb f).dram = s.dram := rfl
@[simp] theorem State.updTb_flash (s : State) (f : TimeBase → TimeBase) : (s.updTb f).flash = s.flash := rfl
@[simp] theorem State.updTb_host (s : State) (f : TimeBase → TimeBase) : (s.updTb f).host = s.host := rfl
@[simp] theorem State.updTb_seq (s : State) (f : TimeBase → TimeBase) : (s.updTb f).seq = s.seq := rfl
@[simp] theorem State.updTb_lamp (s : State) (f : TimeBase → TimeBase) : (s.updTb f).lamp = s.lamp := rfl
@[simp] theorem State.updTb_sen (s : State) (f : TimeBase → TimeBase) : (s.updTb f).sen = s.sen := rfl
@[simp] theorem State.updTb_cor (s : State) (f : TimeBase → TimeBase) : (s.updTb f).cor = s.cor := rfl
@[simp] theorem State.updTb_cap (s : State) (f : TimeBase → TimeBase) : (s.updTb f).cap = s.cap := rfl
@[simp] theorem State.updTb_cmp (s : State) (f : TimeBase → TimeBase) : (s.updTb f).cmp = s.cmp := rfl
@[simp] theorem State.updTb_hq (s : State) (f : TimeBase → TimeBase) : (s.updTb f).hq = s.hq := rfl
@[simp] theorem State.updTb_mot (s : State) (f : TimeBase → TimeBase) : (s.updTb f).mot = s.mot := rfl
@[simp] theorem State.updTb_aux (s : State) (f : TimeBase → TimeBase) : (s.updTb f).aux = s.aux := rfl
@[simp] theorem State.updTb_sec (s : State) (f : TimeBase → TimeBase) : (s.updTb f).sec = s.sec := rfl
@[simp] theorem State.updTb_hlt (s : State) (f : TimeBase → TimeBase) : (s.updTb f).hlt = s.hlt := rfl
@[simp] theorem State.updTb_ask (s : State) (f : TimeBase → TimeBase) : (s.updTb f).ask = s.ask := rfl
@[simp] theorem State.updTb_pwr (s : State) (f : TimeBase → TimeBase) : (s.updTb f).pwr = s.pwr := rfl

/-! ### updLane -/

@[simp] theorem State.updLane_now (s : State) (i : Nat) (f : Lane → Lane) : (s.updLane i f).now = s.now := rfl
@[simp] theorem State.updLane_pending (s : State) (i : Nat) (f : Lane → Lane) : (s.updLane i f).pending = s.pending := rfl
@[simp] theorem State.updLane_freeCount (s : State) (i : Nat) (f : Lane → Lane) : (s.updLane i f).freeCount = s.freeCount := rfl
@[simp] theorem State.updLane_par (s : State) (i : Nat) (f : Lane → Lane) : (s.updLane i f).par = s.par := rfl
@[simp] theorem State.updLane_imgPar (s : State) (i : Nat) (f : Lane → Lane) : (s.updLane i f).imgPar = s.imgPar := rfl
@[simp] theorem State.updLane_imgQueue (s : State) (i : Nat) (f : Lane → Lane) : (s.updLane i f).imgQueue = s.imgQueue := rfl
@[simp] theorem State.updLane_cnt (s : State) (i : Nat) (f : Lane → Lane) : (s.updLane i f).cnt = s.cnt := rfl
@[simp] theorem State.updLane_hostMem (s : State) (i : Nat) (f : Lane → Lane) : (s.updLane i f).hostMem = s.hostMem := rfl
@[simp] theorem State.updLane_dram (s : State) (i : Nat) (f : Lane → Lane) : (s.updLane i f).dram = s.dram := rfl
@[simp] theorem State.updLane_flash (s : State) (i : Nat) (f : Lane → Lane) : (s.updLane i f).flash = s.flash := rfl
@[simp] theorem State.updLane_host (s : State) (i : Nat) (f : Lane → Lane) : (s.updLane i f).host = s.host := rfl
@[simp] theorem State.updLane_seq (s : State) (i : Nat) (f : Lane → Lane) : (s.updLane i f).seq = s.seq := rfl
@[simp] theorem State.updLane_pos (s : State) (i : Nat) (f : Lane → Lane) : (s.updLane i f).pos = s.pos := rfl
@[simp] theorem State.updLane_lamp (s : State) (i : Nat) (f : Lane → Lane) : (s.updLane i f).lamp = s.lamp := rfl
@[simp] theorem State.updLane_cor (s : State) (i : Nat) (f : Lane → Lane) : (s.updLane i f).cor = s.cor := rfl
@[simp] theorem State.updLane_cap (s : State) (i : Nat) (f : Lane → Lane) : (s.updLane i f).cap = s.cap := rfl
@[simp] theorem State.updLane_cmp (s : State) (i : Nat) (f : Lane → Lane) : (s.updLane i f).cmp = s.cmp := rfl
@[simp] theorem State.updLane_hq (s : State) (i : Nat) (f : Lane → Lane) : (s.updLane i f).hq = s.hq := rfl
@[simp] theorem State.updLane_mot (s : State) (i : Nat) (f : Lane → Lane) : (s.updLane i f).mot = s.mot := rfl
@[simp] theorem State.updLane_aux (s : State) (i : Nat) (f : Lane → Lane) : (s.updLane i f).aux = s.aux := rfl
@[simp] theorem State.updLane_sec (s : State) (i : Nat) (f : Lane → Lane) : (s.updLane i f).sec = s.sec := rfl
@[simp] theorem State.updLane_hlt (s : State) (i : Nat) (f : Lane → Lane) : (s.updLane i f).hlt = s.hlt := rfl
@[simp] theorem State.updLane_ask (s : State) (i : Nat) (f : Lane → Lane) : (s.updLane i f).ask = s.ask := rfl
@[simp] theorem State.updLane_pwr (s : State) (i : Nat) (f : Lane → Lane) : (s.updLane i f).pwr = s.pwr := rfl

/-! ### updSpare -/

@[simp] theorem State.updSpare_now (s : State) (i : Nat) (f : Spare → Spare) : (s.updSpare i f).now = s.now := rfl
@[simp] theorem State.updSpare_pending (s : State) (i : Nat) (f : Spare → Spare) : (s.updSpare i f).pending = s.pending := rfl
@[simp] theorem State.updSpare_freeCount (s : State) (i : Nat) (f : Spare → Spare) : (s.updSpare i f).freeCount = s.freeCount := rfl
@[simp] theorem State.updSpare_par (s : State) (i : Nat) (f : Spare → Spare) : (s.updSpare i f).par = s.par := rfl
@[simp] theorem State.updSpare_imgPar (s : State) (i : Nat) (f : Spare → Spare) : (s.updSpare i f).imgPar = s.imgPar := rfl
@[simp] theorem State.updSpare_imgQueue (s : State) (i : Nat) (f : Spare → Spare) : (s.updSpare i f).imgQueue = s.imgQueue := rfl
@[simp] theorem State.updSpare_cnt (s : State) (i : Nat) (f : Spare → Spare) : (s.updSpare i f).cnt = s.cnt := rfl
@[simp] theorem State.updSpare_hostMem (s : State) (i : Nat) (f : Spare → Spare) : (s.updSpare i f).hostMem = s.hostMem := rfl
@[simp] theorem State.updSpare_dram (s : State) (i : Nat) (f : Spare → Spare) : (s.updSpare i f).dram = s.dram := rfl
@[simp] theorem State.updSpare_flash (s : State) (i : Nat) (f : Spare → Spare) : (s.updSpare i f).flash = s.flash := rfl
@[simp] theorem State.updSpare_host (s : State) (i : Nat) (f : Spare → Spare) : (s.updSpare i f).host = s.host := rfl
@[simp] theorem State.updSpare_seq (s : State) (i : Nat) (f : Spare → Spare) : (s.updSpare i f).seq = s.seq := rfl
@[simp] theorem State.updSpare_pos (s : State) (i : Nat) (f : Spare → Spare) : (s.updSpare i f).pos = s.pos := rfl
@[simp] theorem State.updSpare_lamp (s : State) (i : Nat) (f : Spare → Spare) : (s.updSpare i f).lamp = s.lamp := rfl
@[simp] theorem State.updSpare_cor (s : State) (i : Nat) (f : Spare → Spare) : (s.updSpare i f).cor = s.cor := rfl
@[simp] theorem State.updSpare_cap (s : State) (i : Nat) (f : Spare → Spare) : (s.updSpare i f).cap = s.cap := rfl
@[simp] theorem State.updSpare_cmp (s : State) (i : Nat) (f : Spare → Spare) : (s.updSpare i f).cmp = s.cmp := rfl
@[simp] theorem State.updSpare_hq (s : State) (i : Nat) (f : Spare → Spare) : (s.updSpare i f).hq = s.hq := rfl
@[simp] theorem State.updSpare_mot (s : State) (i : Nat) (f : Spare → Spare) : (s.updSpare i f).mot = s.mot := rfl
@[simp] theorem State.updSpare_aux (s : State) (i : Nat) (f : Spare → Spare) : (s.updSpare i f).aux = s.aux := rfl
@[simp] theorem State.updSpare_sec (s : State) (i : Nat) (f : Spare → Spare) : (s.updSpare i f).sec = s.sec := rfl
@[simp] theorem State.updSpare_hlt (s : State) (i : Nat) (f : Spare → Spare) : (s.updSpare i f).hlt = s.hlt := rfl
@[simp] theorem State.updSpare_ask (s : State) (i : Nat) (f : Spare → Spare) : (s.updSpare i f).ask = s.ask := rfl
@[simp] theorem State.updSpare_pwr (s : State) (i : Nat) (f : Spare → Spare) : (s.updSpare i f).pwr = s.pwr := rfl

/-! ### updTrack -/

@[simp] theorem State.updTrack_now (s : State) (f : RepTrack → RepTrack) : (s.updTrack f).now = s.now := rfl
@[simp] theorem State.updTrack_pending (s : State) (f : RepTrack → RepTrack) : (s.updTrack f).pending = s.pending := rfl
@[simp] theorem State.updTrack_freeCount (s : State) (f : RepTrack → RepTrack) : (s.updTrack f).freeCount = s.freeCount := rfl
@[simp] theorem State.updTrack_par (s : State) (f : RepTrack → RepTrack) : (s.updTrack f).par = s.par := rfl
@[simp] theorem State.updTrack_imgPar (s : State) (f : RepTrack → RepTrack) : (s.updTrack f).imgPar = s.imgPar := rfl
@[simp] theorem State.updTrack_imgQueue (s : State) (f : RepTrack → RepTrack) : (s.updTrack f).imgQueue = s.imgQueue := rfl
@[simp] theorem State.updTrack_cnt (s : State) (f : RepTrack → RepTrack) : (s.updTrack f).cnt = s.cnt := rfl
@[simp] theorem State.updTrack_hostMem (s : State) (f : RepTrack → RepTrack) : (s.updTrack f).hostMem = s.hostMem := rfl
@[simp] theorem State.updTrack_dram (s : State) (f : RepTrack → RepTrack) : (s.updTrack f).dram = s.dram := rfl
@[simp] theorem State.updTrack_flash (s : State) (f : RepTrack → RepTrack) : (s.updTrack f).flash = s.flash := rfl
@[simp] theorem State.updTrack_host (s : State) (f : RepTrack → RepTrack) : (s.updTrack f).host = s.host := rfl
@[simp] theorem State.updTrack_seq (s : State) (f : RepTrack → RepTrack) : (s.updTrack f).seq = s.seq := rfl
@[simp] theorem State.updTrack_pos (s : State) (f : RepTrack → RepTrack) : (s.updTrack f).pos = s.pos := rfl
@[simp] theorem State.updTrack_lamp (s : State) (f : RepTrack → RepTrack) : (s.updTrack f).lamp = s.lamp := rfl
@[simp] theorem State.updTrack_sen (s : State) (f : RepTrack → RepTrack) : (s.updTrack f).sen = s.sen := rfl
@[simp] theorem State.updTrack_cor (s : State) (f : RepTrack → RepTrack) : (s.updTrack f).cor = s.cor := rfl
@[simp] theorem State.updTrack_cap (s : State) (f : RepTrack → RepTrack) : (s.updTrack f).cap = s.cap := rfl
@[simp] theorem State.updTrack_hq (s : State) (f : RepTrack → RepTrack) : (s.updTrack f).hq = s.hq := rfl
@[simp] theorem State.updTrack_mot (s : State) (f : RepTrack → RepTrack) : (s.updTrack f).mot = s.mot := rfl
@[simp] theorem State.updTrack_aux (s : State) (f : RepTrack → RepTrack) : (s.updTrack f).aux = s.aux := rfl
@[simp] theorem State.updTrack_sec (s : State) (f : RepTrack → RepTrack) : (s.updTrack f).sec = s.sec := rfl
@[simp] theorem State.updTrack_hlt (s : State) (f : RepTrack → RepTrack) : (s.updTrack f).hlt = s.hlt := rfl
@[simp] theorem State.updTrack_ask (s : State) (f : RepTrack → RepTrack) : (s.updTrack f).ask = s.ask := rfl
@[simp] theorem State.updTrack_pwr (s : State) (f : RepTrack → RepTrack) : (s.updTrack f).pwr = s.pwr := rfl

/-! ### dramWrite -/

@[simp] theorem State.dramWrite_now (s : State) (a : Nat) (bs : List Byte) : (s.dramWrite a bs).now = s.now := rfl
@[simp] theorem State.dramWrite_pending (s : State) (a : Nat) (bs : List Byte) : (s.dramWrite a bs).pending = s.pending := rfl
@[simp] theorem State.dramWrite_freeCount (s : State) (a : Nat) (bs : List Byte) : (s.dramWrite a bs).freeCount = s.freeCount := rfl
@[simp] theorem State.dramWrite_par (s : State) (a : Nat) (bs : List Byte) : (s.dramWrite a bs).par = s.par := rfl
@[simp] theorem State.dramWrite_imgPar (s : State) (a : Nat) (bs : List Byte) : (s.dramWrite a bs).imgPar = s.imgPar := rfl
@[simp] theorem State.dramWrite_imgQueue (s : State) (a : Nat) (bs : List Byte) : (s.dramWrite a bs).imgQueue = s.imgQueue := rfl
@[simp] theorem State.dramWrite_cnt (s : State) (a : Nat) (bs : List Byte) : (s.dramWrite a bs).cnt = s.cnt := rfl
@[simp] theorem State.dramWrite_hostMem (s : State) (a : Nat) (bs : List Byte) : (s.dramWrite a bs).hostMem = s.hostMem := rfl
@[simp] theorem State.dramWrite_flash (s : State) (a : Nat) (bs : List Byte) : (s.dramWrite a bs).flash = s.flash := rfl
@[simp] theorem State.dramWrite_host (s : State) (a : Nat) (bs : List Byte) : (s.dramWrite a bs).host = s.host := rfl
@[simp] theorem State.dramWrite_seq (s : State) (a : Nat) (bs : List Byte) : (s.dramWrite a bs).seq = s.seq := rfl
@[simp] theorem State.dramWrite_pos (s : State) (a : Nat) (bs : List Byte) : (s.dramWrite a bs).pos = s.pos := rfl
@[simp] theorem State.dramWrite_lamp (s : State) (a : Nat) (bs : List Byte) : (s.dramWrite a bs).lamp = s.lamp := rfl
@[simp] theorem State.dramWrite_sen (s : State) (a : Nat) (bs : List Byte) : (s.dramWrite a bs).sen = s.sen := rfl
@[simp] theorem State.dramWrite_cor (s : State) (a : Nat) (bs : List Byte) : (s.dramWrite a bs).cor = s.cor := rfl
@[simp] theorem State.dramWrite_cap (s : State) (a : Nat) (bs : List Byte) : (s.dramWrite a bs).cap = s.cap := rfl
@[simp] theorem State.dramWrite_cmp (s : State) (a : Nat) (bs : List Byte) : (s.dramWrite a bs).cmp = s.cmp := rfl
@[simp] theorem State.dramWrite_hq (s : State) (a : Nat) (bs : List Byte) : (s.dramWrite a bs).hq = s.hq := rfl
@[simp] theorem State.dramWrite_mot (s : State) (a : Nat) (bs : List Byte) : (s.dramWrite a bs).mot = s.mot := rfl
@[simp] theorem State.dramWrite_aux (s : State) (a : Nat) (bs : List Byte) : (s.dramWrite a bs).aux = s.aux := rfl
@[simp] theorem State.dramWrite_sec (s : State) (a : Nat) (bs : List Byte) : (s.dramWrite a bs).sec = s.sec := rfl
@[simp] theorem State.dramWrite_hlt (s : State) (a : Nat) (bs : List Byte) : (s.dramWrite a bs).hlt = s.hlt := rfl
@[simp] theorem State.dramWrite_ask (s : State) (a : Nat) (bs : List Byte) : (s.dramWrite a bs).ask = s.ask := rfl
@[simp] theorem State.dramWrite_pwr (s : State) (a : Nat) (bs : List Byte) : (s.dramWrite a bs).pwr = s.pwr := rfl
@[simp] theorem State.dramWrite_dram (s : State) (a : Nat) (bs : List Byte) : (s.dramWrite a bs).dram = Sparse.write s.dram a bs := rfl

end Sys2Proof.Machine
end

