-- ==== Sys2Proof/Laws/Ops.lean ====
section
/-! SUPPORT. What each shared operation leaves alone: one lemma per operation and part of the state. -/

namespace Sys2Proof.Machine

set_option Elab.async false
set_option linter.all false

/-! ### sendMsix -/

@[simp] theorem State.sendMsix_now (s : State) (v : Nat) : (s.sendMsix v).now = s.now := by
  unfold State.sendMsix
  dsimp only
  split <;> rfl
@[simp] theorem State.sendMsix_pending (s : State) (v : Nat) : (s.sendMsix v).pending = s.pending := by
  unfold State.sendMsix
  dsimp only
  split <;> rfl
@[simp] theorem State.sendMsix_freeCount (s : State) (v : Nat) : (s.sendMsix v).freeCount = s.freeCount := by
  unfold State.sendMsix
  dsimp only
  split <;> rfl
@[simp] theorem State.sendMsix_par (s : State) (v : Nat) : (s.sendMsix v).par = s.par := by
  unfold State.sendMsix
  dsimp only
  split <;> rfl
@[simp] theorem State.sendMsix_imgPar (s : State) (v : Nat) : (s.sendMsix v).imgPar = s.imgPar := by
  unfold State.sendMsix
  dsimp only
  split <;> rfl
@[simp] theorem State.sendMsix_imgQueue (s : State) (v : Nat) : (s.sendMsix v).imgQueue = s.imgQueue := by
  unfold State.sendMsix
  dsimp only
  split <;> rfl
@[simp] theorem State.sendMsix_cnt (s : State) (v : Nat) : (s.sendMsix v).cnt = s.cnt := by
  unfold State.sendMsix
  dsimp only
  split <;> rfl
@[simp] theorem State.sendMsix_dram (s : State) (v : Nat) : (s.sendMsix v).dram = s.dram := by
  unfold State.sendMsix
  dsimp only
  split <;> rfl
@[simp] theorem State.sendMsix_flash (s : State) (v : Nat) : (s.sendMsix v).flash = s.flash := by
  unfold State.sendMsix
  dsimp only
  split <;> rfl
@[simp] theorem State.sendMsix_seq (s : State) (v : Nat) : (s.sendMsix v).seq = s.seq := by
  unfold State.sendMsix
  dsimp only
  split <;> rfl
@[simp] theorem State.sendMsix_pos (s : State) (v : Nat) : (s.sendMsix v).pos = s.pos := by
  unfold State.sendMsix
  dsimp only
  split <;> rfl
@[simp] theorem State.sendMsix_lamp (s : State) (v : Nat) : (s.sendMsix v).lamp = s.lamp := by
  unfold State.sendMsix
  dsimp only
  split <;> rfl
@[simp] theorem State.sendMsix_sen (s : State) (v : Nat) : (s.sendMsix v).sen = s.sen := by
  unfold State.sendMsix
  dsimp only
  split <;> rfl
@[simp] theorem State.sendMsix_cor (s : State) (v : Nat) : (s.sendMsix v).cor = s.cor := by
  unfold State.sendMsix
  dsimp only
  split <;> rfl
@[simp] theorem State.sendMsix_cap (s : State) (v : Nat) : (s.sendMsix v).cap = s.cap := by
  unfold State.sendMsix
  dsimp only
  split <;> rfl
@[simp] theorem State.sendMsix_cmp (s : State) (v : Nat) : (s.sendMsix v).cmp = s.cmp := by
  unfold State.sendMsix
  dsimp only
  split <;> rfl
@[simp] theorem State.sendMsix_hq (s : State) (v : Nat) : (s.sendMsix v).hq = s.hq := by
  unfold State.sendMsix
  dsimp only
  split <;> rfl
@[simp] theorem State.sendMsix_mot (s : State) (v : Nat) : (s.sendMsix v).mot = s.mot := by
  unfold State.sendMsix
  dsimp only
  split <;> rfl
@[simp] theorem State.sendMsix_aux (s : State) (v : Nat) : (s.sendMsix v).aux = s.aux := by
  unfold State.sendMsix
  dsimp only
  split <;> rfl
@[simp] theorem State.sendMsix_sec (s : State) (v : Nat) : (s.sendMsix v).sec = s.sec := by
  unfold State.sendMsix
  dsimp only
  split <;> rfl
@[simp] theorem State.sendMsix_hlt (s : State) (v : Nat) : (s.sendMsix v).hlt = s.hlt := by
  unfold State.sendMsix
  dsimp only
  split <;> rfl
@[simp] theorem State.sendMsix_ask (s : State) (v : Nat) : (s.sendMsix v).ask = s.ask := by
  unfold State.sendMsix
  dsimp only
  split <;> rfl
@[simp] theorem State.sendMsix_pwr (s : State) (v : Nat) : (s.sendMsix v).pwr = s.pwr := by
  unfold State.sendMsix
  dsimp only
  split <;> rfl

/-! ### signal -/

@[simp] theorem State.signal_now (s : State) (v : Nat) : (s.signal v).now = s.now := by
  unfold State.signal
  dsimp only
  split
  · rfl
  · split
    · rfl
    · simp
@[simp] theorem State.signal_pending (s : State) (v : Nat) : (s.signal v).pending = s.pending := by
  unfold State.signal
  dsimp only
  split
  · rfl
  · split
    · rfl
    · simp
@[simp] theorem State.signal_freeCount (s : State) (v : Nat) : (s.signal v).freeCount = s.freeCount := by
  unfold State.signal
  dsimp only
  split
  · rfl
  · split
    · rfl
    · simp
@[simp] theorem State.signal_par (s : State) (v : Nat) : (s.signal v).par = s.par := by
  unfold State.signal
  dsimp only
  split
  · rfl
  · split
    · rfl
    · simp
@[simp] theorem State.signal_imgPar (s : State) (v : Nat) : (s.signal v).imgPar = s.imgPar := by
  unfold State.signal
  dsimp only
  split
  · rfl
  · split
    · rfl
    · simp
@[simp] theorem State.signal_imgQueue (s : State) (v : Nat) : (s.signal v).imgQueue = s.imgQueue := by
  unfold State.signal
  dsimp only
  split
  · rfl
  · split
    · rfl
    · simp
@[simp] theorem State.signal_cnt (s : State) (v : Nat) : (s.signal v).cnt = s.cnt := by
  unfold State.signal
  dsimp only
  split
  · rfl
  · split
    · rfl
    · simp
@[simp] theorem State.signal_dram (s : State) (v : Nat) : (s.signal v).dram = s.dram := by
  unfold State.signal
  dsimp only
  split
  · rfl
  · split
    · rfl
    · simp
@[simp] theorem State.signal_flash (s : State) (v : Nat) : (s.signal v).flash = s.flash := by
  unfold State.signal
  dsimp only
  split
  · rfl
  · split
    · rfl
    · simp
@[simp] theorem State.signal_seq (s : State) (v : Nat) : (s.signal v).seq = s.seq := by
  unfold State.signal
  dsimp only
  split
  · rfl
  · split
    · rfl
    · simp
@[simp] theorem State.signal_pos (s : State) (v : Nat) : (s.signal v).pos = s.pos := by
  unfold State.signal
  dsimp only
  split
  · rfl
  · split
    · rfl
    · simp
@[simp] theorem State.signal_lamp (s : State) (v : Nat) : (s.signal v).lamp = s.lamp := by
  unfold State.signal
  dsimp only
  split
  · rfl
  · split
    · rfl
    · simp
@[simp] theorem State.signal_sen (s : State) (v : Nat) : (s.signal v).sen = s.sen := by
  unfold State.signal
  dsimp only
  split
  · rfl
  · split
    · rfl
    · simp
@[simp] theorem State.signal_cor (s : State) (v : Nat) : (s.signal v).cor = s.cor := by
  unfold State.signal
  dsimp only
  split
  · rfl
  · split
    · rfl
    · simp
@[simp] theorem State.signal_cap (s : State) (v : Nat) : (s.signal v).cap = s.cap := by
  unfold State.signal
  dsimp only
  split
  · rfl
  · split
    · rfl
    · simp
@[simp] theorem State.signal_cmp (s : State) (v : Nat) : (s.signal v).cmp = s.cmp := by
  unfold State.signal
  dsimp only
  split
  · rfl
  · split
    · rfl
    · simp
@[simp] theorem State.signal_hq (s : State) (v : Nat) : (s.signal v).hq = s.hq := by
  unfold State.signal
  dsimp only
  split
  · rfl
  · split
    · rfl
    · simp
@[simp] theorem State.signal_mot (s : State) (v : Nat) : (s.signal v).mot = s.mot := by
  unfold State.signal
  dsimp only
  split
  · rfl
  · split
    · rfl
    · simp
@[simp] theorem State.signal_aux (s : State) (v : Nat) : (s.signal v).aux = s.aux := by
  unfold State.signal
  dsimp only
  split
  · rfl
  · split
    · rfl
    · simp
@[simp] theorem State.signal_sec (s : State) (v : Nat) : (s.signal v).sec = s.sec := by
  unfold State.signal
  dsimp only
  split
  · rfl
  · split
    · rfl
    · simp
@[simp] theorem State.signal_hlt (s : State) (v : Nat) : (s.signal v).hlt = s.hlt := by
  unfold State.signal
  dsimp only
  split
  · rfl
  · split
    · rfl
    · simp
@[simp] theorem State.signal_ask (s : State) (v : Nat) : (s.signal v).ask = s.ask := by
  unfold State.signal
  dsimp only
  split
  · rfl
  · split
    · rfl
    · simp
@[simp] theorem State.signal_pwr (s : State) (v : Nat) : (s.signal v).pwr = s.pwr := by
  unfold State.signal
  dsimp only
  split
  · rfl
  · split
    · rfl
    · simp

/-! ### entryWrite -/

@[simp] theorem State.entryWrite_now (s : State) (a : Nat) (bs : List Byte) (v : Nat) : (s.entryWrite a bs v).now = s.now := by
  unfold State.entryWrite
  split <;> rfl
@[simp] theorem State.entryWrite_pending (s : State) (a : Nat) (bs : List Byte) (v : Nat) : (s.entryWrite a bs v).pending = s.pending := by
  unfold State.entryWrite
  split <;> rfl
@[simp] theorem State.entryWrite_freeCount (s : State) (a : Nat) (bs : List Byte) (v : Nat) : (s.entryWrite a bs v).freeCount = s.freeCount := by
  unfold State.entryWrite
  split <;> rfl
@[simp] theorem State.entryWrite_par (s : State) (a : Nat) (bs : List Byte) (v : Nat) : (s.entryWrite a bs v).par = s.par := by
  unfold State.entryWrite
  split <;> rfl
@[simp] theorem State.entryWrite_imgPar (s : State) (a : Nat) (bs : List Byte) (v : Nat) : (s.entryWrite a bs v).imgPar = s.imgPar := by
  unfold State.entryWrite
  split <;> rfl
@[simp] theorem State.entryWrite_imgQueue (s : State) (a : Nat) (bs : List Byte) (v : Nat) : (s.entryWrite a bs v).imgQueue = s.imgQueue := by
  unfold State.entryWrite
  split <;> rfl
@[simp] theorem State.entryWrite_cnt (s : State) (a : Nat) (bs : List Byte) (v : Nat) : (s.entryWrite a bs v).cnt = s.cnt := by
  unfold State.entryWrite
  split <;> rfl
@[simp] theorem State.entryWrite_dram (s : State) (a : Nat) (bs : List Byte) (v : Nat) : (s.entryWrite a bs v).dram = s.dram := by
  unfold State.entryWrite
  split <;> rfl
@[simp] theorem State.entryWrite_flash (s : State) (a : Nat) (bs : List Byte) (v : Nat) : (s.entryWrite a bs v).flash = s.flash := by
  unfold State.entryWrite
  split <;> rfl
@[simp] theorem State.entryWrite_seq (s : State) (a : Nat) (bs : List Byte) (v : Nat) : (s.entryWrite a bs v).seq = s.seq := by
  unfold State.entryWrite
  split <;> rfl
@[simp] theorem State.entryWrite_pos (s : State) (a : Nat) (bs : List Byte) (v : Nat) : (s.entryWrite a bs v).pos = s.pos := by
  unfold State.entryWrite
  split <;> rfl
@[simp] theorem State.entryWrite_lamp (s : State) (a : Nat) (bs : List Byte) (v : Nat) : (s.entryWrite a bs v).lamp = s.lamp := by
  unfold State.entryWrite
  split <;> rfl
@[simp] theorem State.entryWrite_sen (s : State) (a : Nat) (bs : List Byte) (v : Nat) : (s.entryWrite a bs v).sen = s.sen := by
  unfold State.entryWrite
  split <;> rfl
@[simp] theorem State.entryWrite_cor (s : State) (a : Nat) (bs : List Byte) (v : Nat) : (s.entryWrite a bs v).cor = s.cor := by
  unfold State.entryWrite
  split <;> rfl
@[simp] theorem State.entryWrite_cap (s : State) (a : Nat) (bs : List Byte) (v : Nat) : (s.entryWrite a bs v).cap = s.cap := by
  unfold State.entryWrite
  split <;> rfl
@[simp] theorem State.entryWrite_cmp (s : State) (a : Nat) (bs : List Byte) (v : Nat) : (s.entryWrite a bs v).cmp = s.cmp := by
  unfold State.entryWrite
  split <;> rfl
@[simp] theorem State.entryWrite_hq (s : State) (a : Nat) (bs : List Byte) (v : Nat) : (s.entryWrite a bs v).hq = s.hq := by
  unfold State.entryWrite
  split <;> rfl
@[simp] theorem State.entryWrite_mot (s : State) (a : Nat) (bs : List Byte) (v : Nat) : (s.entryWrite a bs v).mot = s.mot := by
  unfold State.entryWrite
  split <;> rfl
@[simp] theorem State.entryWrite_aux (s : State) (a : Nat) (bs : List Byte) (v : Nat) : (s.entryWrite a bs v).aux = s.aux := by
  unfold State.entryWrite
  split <;> rfl
@[simp] theorem State.entryWrite_sec (s : State) (a : Nat) (bs : List Byte) (v : Nat) : (s.entryWrite a bs v).sec = s.sec := by
  unfold State.entryWrite
  split <;> rfl
@[simp] theorem State.entryWrite_hlt (s : State) (a : Nat) (bs : List Byte) (v : Nat) : (s.entryWrite a bs v).hlt = s.hlt := by
  unfold State.entryWrite
  split <;> rfl
@[simp] theorem State.entryWrite_ask (s : State) (a : Nat) (bs : List Byte) (v : Nat) : (s.entryWrite a bs v).ask = s.ask := by
  unfold State.entryWrite
  split <;> rfl
@[simp] theorem State.entryWrite_pwr (s : State) (a : Nat) (bs : List Byte) (v : Nat) : (s.entryWrite a bs v).pwr = s.pwr := by
  unfold State.entryWrite
  split <;> rfl

/-! ### slotsWrite -/

@[simp] theorem State.slotsWrite_now (s : State) (r v n : Nat) (bs : List Byte) : (s.slotsWrite r v n bs).now = s.now := by
  induction n generalizing s bs with
  | zero => rfl
  | succ n ih => simp only [State.slotsWrite, ih, State.updRing_now, State.entryWrite_now]
@[simp] theorem State.slotsWrite_pending (s : State) (r v n : Nat) (bs : List Byte) : (s.slotsWrite r v n bs).pending = s.pending := by
  induction n generalizing s bs with
  | zero => rfl
  | succ n ih => simp only [State.slotsWrite, ih, State.updRing_pending, State.entryWrite_pending]
@[simp] theorem State.slotsWrite_freeCount (s : State) (r v n : Nat) (bs : List Byte) : (s.slotsWrite r v n bs).freeCount = s.freeCount := by
  induction n generalizing s bs with
  | zero => rfl
  | succ n ih => simp only [State.slotsWrite, ih, State.updRing_freeCount, State.entryWrite_freeCount]
@[simp] theorem State.slotsWrite_par (s : State) (r v n : Nat) (bs : List Byte) : (s.slotsWrite r v n bs).par = s.par := by
  induction n generalizing s bs with
  | zero => rfl
  | succ n ih => simp only [State.slotsWrite, ih, State.updRing_par, State.entryWrite_par]
@[simp] theorem State.slotsWrite_imgPar (s : State) (r v n : Nat) (bs : List Byte) : (s.slotsWrite r v n bs).imgPar = s.imgPar := by
  induction n generalizing s bs with
  | zero => rfl
  | succ n ih => simp only [State.slotsWrite, ih, State.updRing_imgPar, State.entryWrite_imgPar]
@[simp] theorem State.slotsWrite_imgQueue (s : State) (r v n : Nat) (bs : List Byte) : (s.slotsWrite r v n bs).imgQueue = s.imgQueue := by
  induction n generalizing s bs with
  | zero => rfl
  | succ n ih => simp only [State.slotsWrite, ih, State.updRing_imgQueue, State.entryWrite_imgQueue]
@[simp] theorem State.slotsWrite_cnt (s : State) (r v n : Nat) (bs : List Byte) : (s.slotsWrite r v n bs).cnt = s.cnt := by
  induction n generalizing s bs with
  | zero => rfl
  | succ n ih => simp only [State.slotsWrite, ih, State.updRing_cnt, State.entryWrite_cnt]
@[simp] theorem State.slotsWrite_dram (s : State) (r v n : Nat) (bs : List Byte) : (s.slotsWrite r v n bs).dram = s.dram := by
  induction n generalizing s bs with
  | zero => rfl
  | succ n ih => simp only [State.slotsWrite, ih, State.updRing_dram, State.entryWrite_dram]
@[simp] theorem State.slotsWrite_flash (s : State) (r v n : Nat) (bs : List Byte) : (s.slotsWrite r v n bs).flash = s.flash := by
  induction n generalizing s bs with
  | zero => rfl
  | succ n ih => simp only [State.slotsWrite, ih, State.updRing_flash, State.entryWrite_flash]
@[simp] theorem State.slotsWrite_seq (s : State) (r v n : Nat) (bs : List Byte) : (s.slotsWrite r v n bs).seq = s.seq := by
  induction n generalizing s bs with
  | zero => rfl
  | succ n ih => simp only [State.slotsWrite, ih, State.updRing_seq, State.entryWrite_seq]
@[simp] theorem State.slotsWrite_pos (s : State) (r v n : Nat) (bs : List Byte) : (s.slotsWrite r v n bs).pos = s.pos := by
  induction n generalizing s bs with
  | zero => rfl
  | succ n ih => simp only [State.slotsWrite, ih, State.updRing_pos, State.entryWrite_pos]
@[simp] theorem State.slotsWrite_lamp (s : State) (r v n : Nat) (bs : List Byte) : (s.slotsWrite r v n bs).lamp = s.lamp := by
  induction n generalizing s bs with
  | zero => rfl
  | succ n ih => simp only [State.slotsWrite, ih, State.updRing_lamp, State.entryWrite_lamp]
@[simp] theorem State.slotsWrite_sen (s : State) (r v n : Nat) (bs : List Byte) : (s.slotsWrite r v n bs).sen = s.sen := by
  induction n generalizing s bs with
  | zero => rfl
  | succ n ih => simp only [State.slotsWrite, ih, State.updRing_sen, State.entryWrite_sen]
@[simp] theorem State.slotsWrite_cor (s : State) (r v n : Nat) (bs : List Byte) : (s.slotsWrite r v n bs).cor = s.cor := by
  induction n generalizing s bs with
  | zero => rfl
  | succ n ih => simp only [State.slotsWrite, ih, State.updRing_cor, State.entryWrite_cor]
@[simp] theorem State.slotsWrite_cap (s : State) (r v n : Nat) (bs : List Byte) : (s.slotsWrite r v n bs).cap = s.cap := by
  induction n generalizing s bs with
  | zero => rfl
  | succ n ih => simp only [State.slotsWrite, ih, State.updRing_cap, State.entryWrite_cap]
@[simp] theorem State.slotsWrite_cmp (s : State) (r v n : Nat) (bs : List Byte) : (s.slotsWrite r v n bs).cmp = s.cmp := by
  induction n generalizing s bs with
  | zero => rfl
  | succ n ih => simp only [State.slotsWrite, ih, State.updRing_cmp, State.entryWrite_cmp]
@[simp] theorem State.slotsWrite_hq (s : State) (r v n : Nat) (bs : List Byte) : (s.slotsWrite r v n bs).hq = s.hq := by
  induction n generalizing s bs with
  | zero => rfl
  | succ n ih => simp only [State.slotsWrite, ih, State.updRing_hq, State.entryWrite_hq]
@[simp] theorem State.slotsWrite_mot (s : State) (r v n : Nat) (bs : List Byte) : (s.slotsWrite r v n bs).mot = s.mot := by
  induction n generalizing s bs with
  | zero => rfl
  | succ n ih => simp only [State.slotsWrite, ih, State.updRing_mot, State.entryWrite_mot]
@[simp] theorem State.slotsWrite_aux (s : State) (r v n : Nat) (bs : List Byte) : (s.slotsWrite r v n bs).aux = s.aux := by
  induction n generalizing s bs with
  | zero => rfl
  | succ n ih => simp only [State.slotsWrite, ih, State.updRing_aux, State.entryWrite_aux]
@[simp] theorem State.slotsWrite_sec (s : State) (r v n : Nat) (bs : List Byte) : (s.slotsWrite r v n bs).sec = s.sec := by
  induction n generalizing s bs with
  | zero => rfl
  | succ n ih => simp only [State.slotsWrite, ih, State.updRing_sec, State.entryWrite_sec]
@[simp] theorem State.slotsWrite_hlt (s : State) (r v n : Nat) (bs : List Byte) : (s.slotsWrite r v n bs).hlt = s.hlt := by
  induction n generalizing s bs with
  | zero => rfl
  | succ n ih => simp only [State.slotsWrite, ih, State.updRing_hlt, State.entryWrite_hlt]
@[simp] theorem State.slotsWrite_ask (s : State) (r v n : Nat) (bs : List Byte) : (s.slotsWrite r v n bs).ask = s.ask := by
  induction n generalizing s bs with
  | zero => rfl
  | succ n ih => simp only [State.slotsWrite, ih, State.updRing_ask, State.entryWrite_ask]
@[simp] theorem State.slotsWrite_pwr (s : State) (r v n : Nat) (bs : List Byte) : (s.slotsWrite r v n bs).pwr = s.pwr := by
  induction n generalizing s bs with
  | zero => rfl
  | succ n ih => simp only [State.slotsWrite, ih, State.updRing_pwr, State.entryWrite_pwr]

/-! ### writeEvent -/

@[simp] theorem State.writeEvent_now (s : State) (x : Nat) (d : Bool) : (s.writeEvent x d).now = s.now := by
  simp only [State.writeEvent, State.signal_now, State.updEv_now, State.slotsWrite_now]
@[simp] theorem State.writeEvent_pending (s : State) (x : Nat) (d : Bool) : (s.writeEvent x d).pending = s.pending := by
  simp only [State.writeEvent, State.signal_pending, State.updEv_pending, State.slotsWrite_pending]
@[simp] theorem State.writeEvent_freeCount (s : State) (x : Nat) (d : Bool) : (s.writeEvent x d).freeCount = s.freeCount := by
  simp only [State.writeEvent, State.signal_freeCount, State.updEv_freeCount, State.slotsWrite_freeCount]
@[simp] theorem State.writeEvent_par (s : State) (x : Nat) (d : Bool) : (s.writeEvent x d).par = s.par := by
  simp only [State.writeEvent, State.signal_par, State.updEv_par, State.slotsWrite_par]
@[simp] theorem State.writeEvent_imgPar (s : State) (x : Nat) (d : Bool) : (s.writeEvent x d).imgPar = s.imgPar := by
  simp only [State.writeEvent, State.signal_imgPar, State.updEv_imgPar, State.slotsWrite_imgPar]
@[simp] theorem State.writeEvent_imgQueue (s : State) (x : Nat) (d : Bool) : (s.writeEvent x d).imgQueue = s.imgQueue := by
  simp only [State.writeEvent, State.signal_imgQueue, State.updEv_imgQueue, State.slotsWrite_imgQueue]
@[simp] theorem State.writeEvent_cnt (s : State) (x : Nat) (d : Bool) : (s.writeEvent x d).cnt = s.cnt := by
  simp only [State.writeEvent, State.signal_cnt, State.updEv_cnt, State.slotsWrite_cnt]
@[simp] theorem State.writeEvent_dram (s : State) (x : Nat) (d : Bool) : (s.writeEvent x d).dram = s.dram := by
  simp only [State.writeEvent, State.signal_dram, State.updEv_dram, State.slotsWrite_dram]
@[simp] theorem State.writeEvent_flash (s : State) (x : Nat) (d : Bool) : (s.writeEvent x d).flash = s.flash := by
  simp only [State.writeEvent, State.signal_flash, State.updEv_flash, State.slotsWrite_flash]
@[simp] theorem State.writeEvent_seq (s : State) (x : Nat) (d : Bool) : (s.writeEvent x d).seq = s.seq := by
  simp only [State.writeEvent, State.signal_seq, State.updEv_seq, State.slotsWrite_seq]
@[simp] theorem State.writeEvent_pos (s : State) (x : Nat) (d : Bool) : (s.writeEvent x d).pos = s.pos := by
  simp only [State.writeEvent, State.signal_pos, State.updEv_pos, State.slotsWrite_pos]
@[simp] theorem State.writeEvent_lamp (s : State) (x : Nat) (d : Bool) : (s.writeEvent x d).lamp = s.lamp := by
  simp only [State.writeEvent, State.signal_lamp, State.updEv_lamp, State.slotsWrite_lamp]
@[simp] theorem State.writeEvent_sen (s : State) (x : Nat) (d : Bool) : (s.writeEvent x d).sen = s.sen := by
  simp only [State.writeEvent, State.signal_sen, State.updEv_sen, State.slotsWrite_sen]
@[simp] theorem State.writeEvent_cor (s : State) (x : Nat) (d : Bool) : (s.writeEvent x d).cor = s.cor := by
  simp only [State.writeEvent, State.signal_cor, State.updEv_cor, State.slotsWrite_cor]
@[simp] theorem State.writeEvent_cap (s : State) (x : Nat) (d : Bool) : (s.writeEvent x d).cap = s.cap := by
  simp only [State.writeEvent, State.signal_cap, State.updEv_cap, State.slotsWrite_cap]
@[simp] theorem State.writeEvent_cmp (s : State) (x : Nat) (d : Bool) : (s.writeEvent x d).cmp = s.cmp := by
  simp only [State.writeEvent, State.signal_cmp, State.updEv_cmp, State.slotsWrite_cmp]
@[simp] theorem State.writeEvent_hq (s : State) (x : Nat) (d : Bool) : (s.writeEvent x d).hq = s.hq := by
  simp only [State.writeEvent, State.signal_hq, State.updEv_hq, State.slotsWrite_hq]
@[simp] theorem State.writeEvent_mot (s : State) (x : Nat) (d : Bool) : (s.writeEvent x d).mot = s.mot := by
  simp only [State.writeEvent, State.signal_mot, State.updEv_mot, State.slotsWrite_mot]
@[simp] theorem State.writeEvent_aux (s : State) (x : Nat) (d : Bool) : (s.writeEvent x d).aux = s.aux := by
  simp only [State.writeEvent, State.signal_aux, State.updEv_aux, State.slotsWrite_aux]
@[simp] theorem State.writeEvent_sec (s : State) (x : Nat) (d : Bool) : (s.writeEvent x d).sec = s.sec := by
  simp only [State.writeEvent, State.signal_sec, State.updEv_sec, State.slotsWrite_sec]
@[simp] theorem State.writeEvent_hlt (s : State) (x : Nat) (d : Bool) : (s.writeEvent x d).hlt = s.hlt := by
  simp only [State.writeEvent, State.signal_hlt, State.updEv_hlt, State.slotsWrite_hlt]
@[simp] theorem State.writeEvent_ask (s : State) (x : Nat) (d : Bool) : (s.writeEvent x d).ask = s.ask := by
  simp only [State.writeEvent, State.signal_ask, State.updEv_ask, State.slotsWrite_ask]
@[simp] theorem State.writeEvent_pwr (s : State) (x : Nat) (d : Bool) : (s.writeEvent x d).pwr = s.pwr := by
  simp only [State.writeEvent, State.signal_pwr, State.updEv_pwr, State.slotsWrite_pwr]

/-! ### readyEvent -/

@[simp] theorem State.readyEvent_now (s : State) (x : Nat) : (s.readyEvent x).now = s.now := by
  unfold State.readyEvent
  split
  · simp
  · rfl
@[simp] theorem State.readyEvent_pending (s : State) (x : Nat) : (s.readyEvent x).pending = s.pending := by
  unfold State.readyEvent
  split
  · simp
  · rfl
@[simp] theorem State.readyEvent_freeCount (s : State) (x : Nat) : (s.readyEvent x).freeCount = s.freeCount := by
  unfold State.readyEvent
  split
  · simp
  · rfl
@[simp] theorem State.readyEvent_par (s : State) (x : Nat) : (s.readyEvent x).par = s.par := by
  unfold State.readyEvent
  split
  · simp
  · rfl
@[simp] theorem State.readyEvent_imgPar (s : State) (x : Nat) : (s.readyEvent x).imgPar = s.imgPar := by
  unfold State.readyEvent
  split
  · simp
  · rfl
@[simp] theorem State.readyEvent_imgQueue (s : State) (x : Nat) : (s.readyEvent x).imgQueue = s.imgQueue := by
  unfold State.readyEvent
  split
  · simp
  · rfl
@[simp] theorem State.readyEvent_cnt (s : State) (x : Nat) : (s.readyEvent x).cnt = s.cnt := by
  unfold State.readyEvent
  split
  · simp
  · rfl
@[simp] theorem State.readyEvent_dram (s : State) (x : Nat) : (s.readyEvent x).dram = s.dram := by
  unfold State.readyEvent
  split
  · simp
  · rfl
@[simp] theorem State.readyEvent_flash (s : State) (x : Nat) : (s.readyEvent x).flash = s.flash := by
  unfold State.readyEvent
  split
  · simp
  · rfl
@[simp] theorem State.readyEvent_seq (s : State) (x : Nat) : (s.readyEvent x).seq = s.seq := by
  unfold State.readyEvent
  split
  · simp
  · rfl
@[simp] theorem State.readyEvent_pos (s : State) (x : Nat) : (s.readyEvent x).pos = s.pos := by
  unfold State.readyEvent
  split
  · simp
  · rfl
@[simp] theorem State.readyEvent_lamp (s : State) (x : Nat) : (s.readyEvent x).lamp = s.lamp := by
  unfold State.readyEvent
  split
  · simp
  · rfl
@[simp] theorem State.readyEvent_sen (s : State) (x : Nat) : (s.readyEvent x).sen = s.sen := by
  unfold State.readyEvent
  split
  · simp
  · rfl
@[simp] theorem State.readyEvent_cor (s : State) (x : Nat) : (s.readyEvent x).cor = s.cor := by
  unfold State.readyEvent
  split
  · simp
  · rfl
@[simp] theorem State.readyEvent_cap (s : State) (x : Nat) : (s.readyEvent x).cap = s.cap := by
  unfold State.readyEvent
  split
  · simp
  · rfl
@[simp] theorem State.readyEvent_cmp (s : State) (x : Nat) : (s.readyEvent x).cmp = s.cmp := by
  unfold State.readyEvent
  split
  · simp
  · rfl
@[simp] theorem State.readyEvent_hq (s : State) (x : Nat) : (s.readyEvent x).hq = s.hq := by
  unfold State.readyEvent
  split
  · simp
  · rfl
@[simp] theorem State.readyEvent_mot (s : State) (x : Nat) : (s.readyEvent x).mot = s.mot := by
  unfold State.readyEvent
  split
  · simp
  · rfl
@[simp] theorem State.readyEvent_aux (s : State) (x : Nat) : (s.readyEvent x).aux = s.aux := by
  unfold State.readyEvent
  split
  · simp
  · rfl
@[simp] theorem State.readyEvent_sec (s : State) (x : Nat) : (s.readyEvent x).sec = s.sec := by
  unfold State.readyEvent
  split
  · simp
  · rfl
@[simp] theorem State.readyEvent_hlt (s : State) (x : Nat) : (s.readyEvent x).hlt = s.hlt := by
  unfold State.readyEvent
  split
  · simp
  · rfl
@[simp] theorem State.readyEvent_ask (s : State) (x : Nat) : (s.readyEvent x).ask = s.ask := by
  unfold State.readyEvent
  split
  · simp
  · rfl
@[simp] theorem State.readyEvent_pwr (s : State) (x : Nat) : (s.readyEvent x).pwr = s.pwr := by
  unfold State.readyEvent
  split
  · simp
  · rfl

/-! ### raiseEvent -/

@[simp] theorem State.raiseEvent_now (s : State) (x d : Nat) : (s.raiseEvent x d).now = s.now := by
  unfold State.raiseEvent
  dsimp only
  split
  · rfl
  · split
    · rfl
    · simp
@[simp] theorem State.raiseEvent_pending (s : State) (x d : Nat) : (s.raiseEvent x d).pending = s.pending := by
  unfold State.raiseEvent
  dsimp only
  split
  · rfl
  · split
    · rfl
    · simp
@[simp] theorem State.raiseEvent_freeCount (s : State) (x d : Nat) : (s.raiseEvent x d).freeCount = s.freeCount := by
  unfold State.raiseEvent
  dsimp only
  split
  · rfl
  · split
    · rfl
    · simp
@[simp] theorem State.raiseEvent_par (s : State) (x d : Nat) : (s.raiseEvent x d).par = s.par := by
  unfold State.raiseEvent
  dsimp only
  split
  · rfl
  · split
    · rfl
    · simp
@[simp] theorem State.raiseEvent_imgPar (s : State) (x d : Nat) : (s.raiseEvent x d).imgPar = s.imgPar := by
  unfold State.raiseEvent
  dsimp only
  split
  · rfl
  · split
    · rfl
    · simp
@[simp] theorem State.raiseEvent_imgQueue (s : State) (x d : Nat) : (s.raiseEvent x d).imgQueue = s.imgQueue := by
  unfold State.raiseEvent
  dsimp only
  split
  · rfl
  · split
    · rfl
    · simp
@[simp] theorem State.raiseEvent_cnt (s : State) (x d : Nat) : (s.raiseEvent x d).cnt = s.cnt := by
  unfold State.raiseEvent
  dsimp only
  split
  · rfl
  · split
    · rfl
    · simp
@[simp] theorem State.raiseEvent_dram (s : State) (x d : Nat) : (s.raiseEvent x d).dram = s.dram := by
  unfold State.raiseEvent
  dsimp only
  split
  · rfl
  · split
    · rfl
    · simp
@[simp] theorem State.raiseEvent_flash (s : State) (x d : Nat) : (s.raiseEvent x d).flash = s.flash := by
  unfold State.raiseEvent
  dsimp only
  split
  · rfl
  · split
    · rfl
    · simp
@[simp] theorem State.raiseEvent_seq (s : State) (x d : Nat) : (s.raiseEvent x d).seq = s.seq := by
  unfold State.raiseEvent
  dsimp only
  split
  · rfl
  · split
    · rfl
    · simp
@[simp] theorem State.raiseEvent_pos (s : State) (x d : Nat) : (s.raiseEvent x d).pos = s.pos := by
  unfold State.raiseEvent
  dsimp only
  split
  · rfl
  · split
    · rfl
    · simp
@[simp] theorem State.raiseEvent_lamp (s : State) (x d : Nat) : (s.raiseEvent x d).lamp = s.lamp := by
  unfold State.raiseEvent
  dsimp only
  split
  · rfl
  · split
    · rfl
    · simp
@[simp] theorem State.raiseEvent_sen (s : State) (x d : Nat) : (s.raiseEvent x d).sen = s.sen := by
  unfold State.raiseEvent
  dsimp only
  split
  · rfl
  · split
    · rfl
    · simp
@[simp] theorem State.raiseEvent_cor (s : State) (x d : Nat) : (s.raiseEvent x d).cor = s.cor := by
  unfold State.raiseEvent
  dsimp only
  split
  · rfl
  · split
    · rfl
    · simp
@[simp] theorem State.raiseEvent_cap (s : State) (x d : Nat) : (s.raiseEvent x d).cap = s.cap := by
  unfold State.raiseEvent
  dsimp only
  split
  · rfl
  · split
    · rfl
    · simp
@[simp] theorem State.raiseEvent_cmp (s : State) (x d : Nat) : (s.raiseEvent x d).cmp = s.cmp := by
  unfold State.raiseEvent
  dsimp only
  split
  · rfl
  · split
    · rfl
    · simp
@[simp] theorem State.raiseEvent_hq (s : State) (x d : Nat) : (s.raiseEvent x d).hq = s.hq := by
  unfold State.raiseEvent
  dsimp only
  split
  · rfl
  · split
    · rfl
    · simp
@[simp] theorem State.raiseEvent_mot (s : State) (x d : Nat) : (s.raiseEvent x d).mot = s.mot := by
  unfold State.raiseEvent
  dsimp only
  split
  · rfl
  · split
    · rfl
    · simp
@[simp] theorem State.raiseEvent_aux (s : State) (x d : Nat) : (s.raiseEvent x d).aux = s.aux := by
  unfold State.raiseEvent
  dsimp only
  split
  · rfl
  · split
    · rfl
    · simp
@[simp] theorem State.raiseEvent_sec (s : State) (x d : Nat) : (s.raiseEvent x d).sec = s.sec := by
  unfold State.raiseEvent
  dsimp only
  split
  · rfl
  · split
    · rfl
    · simp
@[simp] theorem State.raiseEvent_hlt (s : State) (x d : Nat) : (s.raiseEvent x d).hlt = s.hlt := by
  unfold State.raiseEvent
  dsimp only
  split
  · rfl
  · split
    · rfl
    · simp
@[simp] theorem State.raiseEvent_ask (s : State) (x d : Nat) : (s.raiseEvent x d).ask = s.ask := by
  unfold State.raiseEvent
  dsimp only
  split
  · rfl
  · split
    · rfl
    · simp
@[simp] theorem State.raiseEvent_pwr (s : State) (x d : Nat) : (s.raiseEvent x d).pwr = s.pwr := by
  unfold State.raiseEvent
  dsimp only
  split
  · rfl
  · split
    · rfl
    · simp

/-! ### raiseFault -/

@[simp] theorem State.raiseFault_now (s : State) (x d : Nat) : (s.raiseFault x d).now = s.now := by
  unfold State.raiseFault
  dsimp only
  split
  · rfl
  · split
    · rfl
    · split <;> rfl
@[simp] theorem State.raiseFault_pending (s : State) (x d : Nat) : (s.raiseFault x d).pending = s.pending := by
  unfold State.raiseFault
  dsimp only
  split
  · rfl
  · split
    · rfl
    · split <;> rfl
@[simp] theorem State.raiseFault_freeCount (s : State) (x d : Nat) : (s.raiseFault x d).freeCount = s.freeCount := by
  unfold State.raiseFault
  dsimp only
  split
  · rfl
  · split
    · rfl
    · split <;> rfl
@[simp] theorem State.raiseFault_par (s : State) (x d : Nat) : (s.raiseFault x d).par = s.par := by
  unfold State.raiseFault
  dsimp only
  split
  · rfl
  · split
    · rfl
    · split <;> rfl
@[simp] theorem State.raiseFault_imgPar (s : State) (x d : Nat) : (s.raiseFault x d).imgPar = s.imgPar := by
  unfold State.raiseFault
  dsimp only
  split
  · rfl
  · split
    · rfl
    · split <;> rfl
@[simp] theorem State.raiseFault_imgQueue (s : State) (x d : Nat) : (s.raiseFault x d).imgQueue = s.imgQueue := by
  unfold State.raiseFault
  dsimp only
  split
  · rfl
  · split
    · rfl
    · split <;> rfl
@[simp] theorem State.raiseFault_hostMem (s : State) (x d : Nat) : (s.raiseFault x d).hostMem = s.hostMem := by
  unfold State.raiseFault
  dsimp only
  split
  · rfl
  · split
    · rfl
    · split <;> rfl
@[simp] theorem State.raiseFault_dram (s : State) (x d : Nat) : (s.raiseFault x d).dram = s.dram := by
  unfold State.raiseFault
  dsimp only
  split
  · rfl
  · split
    · rfl
    · split <;> rfl
@[simp] theorem State.raiseFault_flash (s : State) (x d : Nat) : (s.raiseFault x d).flash = s.flash := by
  unfold State.raiseFault
  dsimp only
  split
  · rfl
  · split
    · rfl
    · split <;> rfl
@[simp] theorem State.raiseFault_host (s : State) (x d : Nat) : (s.raiseFault x d).host = s.host := by
  unfold State.raiseFault
  dsimp only
  split
  · rfl
  · split
    · rfl
    · split <;> rfl
@[simp] theorem State.raiseFault_seq (s : State) (x d : Nat) : (s.raiseFault x d).seq = s.seq := by
  unfold State.raiseFault
  dsimp only
  split
  · rfl
  · split
    · rfl
    · split <;> rfl
@[simp] theorem State.raiseFault_pos (s : State) (x d : Nat) : (s.raiseFault x d).pos = s.pos := by
  unfold State.raiseFault
  dsimp only
  split
  · rfl
  · split
    · rfl
    · split <;> rfl
@[simp] theorem State.raiseFault_lamp (s : State) (x d : Nat) : (s.raiseFault x d).lamp = s.lamp := by
  unfold State.raiseFault
  dsimp only
  split
  · rfl
  · split
    · rfl
    · split <;> rfl
@[simp] theorem State.raiseFault_sen (s : State) (x d : Nat) : (s.raiseFault x d).sen = s.sen := by
  unfold State.raiseFault
  dsimp only
  split
  · rfl
  · split
    · rfl
    · split <;> rfl
@[simp] theorem State.raiseFault_cor (s : State) (x d : Nat) : (s.raiseFault x d).cor = s.cor := by
  unfold State.raiseFault
  dsimp only
  split
  · rfl
  · split
    · rfl
    · split <;> rfl
@[simp] theorem State.raiseFault_cap (s : State) (x d : Nat) : (s.raiseFault x d).cap = s.cap := by
  unfold State.raiseFault
  dsimp only
  split
  · rfl
  · split
    · rfl
    · split <;> rfl
@[simp] theorem State.raiseFault_cmp (s : State) (x d : Nat) : (s.raiseFault x d).cmp = s.cmp := by
  unfold State.raiseFault
  dsimp only
  split
  · rfl
  · split
    · rfl
    · split <;> rfl
@[simp] theorem State.raiseFault_hq (s : State) (x d : Nat) : (s.raiseFault x d).hq = s.hq := by
  unfold State.raiseFault
  dsimp only
  split
  · rfl
  · split
    · rfl
    · split <;> rfl
@[simp] theorem State.raiseFault_mot (s : State) (x d : Nat) : (s.raiseFault x d).mot = s.mot := by
  unfold State.raiseFault
  dsimp only
  split
  · rfl
  · split
    · rfl
    · split <;> rfl
@[simp] theorem State.raiseFault_aux (s : State) (x d : Nat) : (s.raiseFault x d).aux = s.aux := by
  unfold State.raiseFault
  dsimp only
  split
  · rfl
  · split
    · rfl
    · split <;> rfl
@[simp] theorem State.raiseFault_sec (s : State) (x d : Nat) : (s.raiseFault x d).sec = s.sec := by
  unfold State.raiseFault
  dsimp only
  split
  · rfl
  · split
    · rfl
    · split <;> rfl
@[simp] theorem State.raiseFault_ask (s : State) (x d : Nat) : (s.raiseFault x d).ask = s.ask := by
  unfold State.raiseFault
  dsimp only
  split
  · rfl
  · split
    · rfl
    · split <;> rfl
@[simp] theorem State.raiseFault_pwr (s : State) (x d : Nat) : (s.raiseFault x d).pwr = s.pwr := by
  unfold State.raiseFault
  dsimp only
  split
  · rfl
  · split
    · rfl
    · split <;> rfl

/-! ### raise -/

@[simp] theorem State.raise_now (s : State) (e : Ev) (d : Nat) : (s.raise e d).now = s.now := by
  simp only [State.raise, State.raiseFault_now, State.raiseEvent_now]
@[simp] theorem State.raise_pending (s : State) (e : Ev) (d : Nat) : (s.raise e d).pending = s.pending := by
  simp only [State.raise, State.raiseFault_pending, State.raiseEvent_pending]
@[simp] theorem State.raise_freeCount (s : State) (e : Ev) (d : Nat) : (s.raise e d).freeCount = s.freeCount := by
  simp only [State.raise, State.raiseFault_freeCount, State.raiseEvent_freeCount]
@[simp] theorem State.raise_par (s : State) (e : Ev) (d : Nat) : (s.raise e d).par = s.par := by
  simp only [State.raise, State.raiseFault_par, State.raiseEvent_par]
@[simp] theorem State.raise_imgPar (s : State) (e : Ev) (d : Nat) : (s.raise e d).imgPar = s.imgPar := by
  simp only [State.raise, State.raiseFault_imgPar, State.raiseEvent_imgPar]
@[simp] theorem State.raise_imgQueue (s : State) (e : Ev) (d : Nat) : (s.raise e d).imgQueue = s.imgQueue := by
  simp only [State.raise, State.raiseFault_imgQueue, State.raiseEvent_imgQueue]
@[simp] theorem State.raise_dram (s : State) (e : Ev) (d : Nat) : (s.raise e d).dram = s.dram := by
  simp only [State.raise, State.raiseFault_dram, State.raiseEvent_dram]
@[simp] theorem State.raise_flash (s : State) (e : Ev) (d : Nat) : (s.raise e d).flash = s.flash := by
  simp only [State.raise, State.raiseFault_flash, State.raiseEvent_flash]
@[simp] theorem State.raise_seq (s : State) (e : Ev) (d : Nat) : (s.raise e d).seq = s.seq := by
  simp only [State.raise, State.raiseFault_seq, State.raiseEvent_seq]
@[simp] theorem State.raise_pos (s : State) (e : Ev) (d : Nat) : (s.raise e d).pos = s.pos := by
  simp only [State.raise, State.raiseFault_pos, State.raiseEvent_pos]
@[simp] theorem State.raise_lamp (s : State) (e : Ev) (d : Nat) : (s.raise e d).lamp = s.lamp := by
  simp only [State.raise, State.raiseFault_lamp, State.raiseEvent_lamp]
@[simp] theorem State.raise_sen (s : State) (e : Ev) (d : Nat) : (s.raise e d).sen = s.sen := by
  simp only [State.raise, State.raiseFault_sen, State.raiseEvent_sen]
@[simp] theorem State.raise_cor (s : State) (e : Ev) (d : Nat) : (s.raise e d).cor = s.cor := by
  simp only [State.raise, State.raiseFault_cor, State.raiseEvent_cor]
@[simp] theorem State.raise_cap (s : State) (e : Ev) (d : Nat) : (s.raise e d).cap = s.cap := by
  simp only [State.raise, State.raiseFault_cap, State.raiseEvent_cap]
@[simp] theorem State.raise_cmp (s : State) (e : Ev) (d : Nat) : (s.raise e d).cmp = s.cmp := by
  simp only [State.raise, State.raiseFault_cmp, State.raiseEvent_cmp]
@[simp] theorem State.raise_hq (s : State) (e : Ev) (d : Nat) : (s.raise e d).hq = s.hq := by
  simp only [State.raise, State.raiseFault_hq, State.raiseEvent_hq]
@[simp] theorem State.raise_mot (s : State) (e : Ev) (d : Nat) : (s.raise e d).mot = s.mot := by
  simp only [State.raise, State.raiseFault_mot, State.raiseEvent_mot]
@[simp] theorem State.raise_aux (s : State) (e : Ev) (d : Nat) : (s.raise e d).aux = s.aux := by
  simp only [State.raise, State.raiseFault_aux, State.raiseEvent_aux]
@[simp] theorem State.raise_sec (s : State) (e : Ev) (d : Nat) : (s.raise e d).sec = s.sec := by
  simp only [State.raise, State.raiseFault_sec, State.raiseEvent_sec]
@[simp] theorem State.raise_ask (s : State) (e : Ev) (d : Nat) : (s.raise e d).ask = s.ask := by
  simp only [State.raise, State.raiseFault_ask, State.raiseEvent_ask]
@[simp] theorem State.raise_pwr (s : State) (e : Ev) (d : Nat) : (s.raise e d).pwr = s.pwr := by
  simp only [State.raise, State.raiseFault_pwr, State.raiseEvent_pwr]

/-! ### count -/

@[simp] theorem State.count_now (s : State) (c : Ctr) (i n : Nat) : (s.count c i n).now = s.now := by
  unfold State.count
  dsimp only
  split <;> simp
@[simp] theorem State.count_pending (s : State) (c : Ctr) (i n : Nat) : (s.count c i n).pending = s.pending := by
  unfold State.count
  dsimp only
  split <;> simp
@[simp] theorem State.count_freeCount (s : State) (c : Ctr) (i n : Nat) : (s.count c i n).freeCount = s.freeCount := by
  unfold State.count
  dsimp only
  split <;> simp
@[simp] theorem State.count_par (s : State) (c : Ctr) (i n : Nat) : (s.count c i n).par = s.par := by
  unfold State.count
  dsimp only
  split <;> simp
@[simp] theorem State.count_imgPar (s : State) (c : Ctr) (i n : Nat) : (s.count c i n).imgPar = s.imgPar := by
  unfold State.count
  dsimp only
  split <;> simp
@[simp] theorem State.count_imgQueue (s : State) (c : Ctr) (i n : Nat) : (s.count c i n).imgQueue = s.imgQueue := by
  unfold State.count
  dsimp only
  split <;> simp
@[simp] theorem State.count_dram (s : State) (c : Ctr) (i n : Nat) : (s.count c i n).dram = s.dram := by
  unfold State.count
  dsimp only
  split <;> simp
@[simp] theorem State.count_flash (s : State) (c : Ctr) (i n : Nat) : (s.count c i n).flash = s.flash := by
  unfold State.count
  dsimp only
  split <;> simp
@[simp] theorem State.count_seq (s : State) (c : Ctr) (i n : Nat) : (s.count c i n).seq = s.seq := by
  unfold State.count
  dsimp only
  split <;> simp
@[simp] theorem State.count_pos (s : State) (c : Ctr) (i n : Nat) : (s.count c i n).pos = s.pos := by
  unfold State.count
  dsimp only
  split <;> simp
@[simp] theorem State.count_lamp (s : State) (c : Ctr) (i n : Nat) : (s.count c i n).lamp = s.lamp := by
  unfold State.count
  dsimp only
  split <;> simp
@[simp] theorem State.count_sen (s : State) (c : Ctr) (i n : Nat) : (s.count c i n).sen = s.sen := by
  unfold State.count
  dsimp only
  split <;> simp
@[simp] theorem State.count_cor (s : State) (c : Ctr) (i n : Nat) : (s.count c i n).cor = s.cor := by
  unfold State.count
  dsimp only
  split <;> simp
@[simp] theorem State.count_cap (s : State) (c : Ctr) (i n : Nat) : (s.count c i n).cap = s.cap := by
  unfold State.count
  dsimp only
  split <;> simp
@[simp] theorem State.count_cmp (s : State) (c : Ctr) (i n : Nat) : (s.count c i n).cmp = s.cmp := by
  unfold State.count
  dsimp only
  split <;> simp
@[simp] theorem State.count_hq (s : State) (c : Ctr) (i n : Nat) : (s.count c i n).hq = s.hq := by
  unfold State.count
  dsimp only
  split <;> simp
@[simp] theorem State.count_mot (s : State) (c : Ctr) (i n : Nat) : (s.count c i n).mot = s.mot := by
  unfold State.count
  dsimp only
  split <;> simp
@[simp] theorem State.count_aux (s : State) (c : Ctr) (i n : Nat) : (s.count c i n).aux = s.aux := by
  unfold State.count
  dsimp only
  split <;> simp
@[simp] theorem State.count_sec (s : State) (c : Ctr) (i n : Nat) : (s.count c i n).sec = s.sec := by
  unfold State.count
  dsimp only
  split <;> simp
@[simp] theorem State.count_ask (s : State) (c : Ctr) (i n : Nat) : (s.count c i n).ask = s.ask := by
  unfold State.count
  dsimp only
  split <;> simp
@[simp] theorem State.count_pwr (s : State) (c : Ctr) (i n : Nat) : (s.count c i n).pwr = s.pwr := by
  unfold State.count
  dsimp only
  split <;> simp

/-! ### replyAt -/

@[simp] theorem State.replyAt_now (s : State) (cid st d : Nat) (ws : List Word) (l : Nat) : (s.replyAt cid st d ws l).now = s.now := by
  unfold State.replyAt
  cases s.outOf cid with
  | none => rfl
  | some o =>
    dsimp only
    split
    · rfl
    · split <;> rfl
@[simp] theorem State.replyAt_pending (s : State) (cid st d : Nat) (ws : List Word) (l : Nat) : (s.replyAt cid st d ws l).pending = s.pending := by
  unfold State.replyAt
  cases s.outOf cid with
  | none => rfl
  | some o =>
    dsimp only
    split
    · rfl
    · split <;> rfl
@[simp] theorem State.replyAt_freeCount (s : State) (cid st d : Nat) (ws : List Word) (l : Nat) : (s.replyAt cid st d ws l).freeCount = s.freeCount := by
  unfold State.replyAt
  cases s.outOf cid with
  | none => rfl
  | some o =>
    dsimp only
    split
    · rfl
    · split <;> rfl
@[simp] theorem State.replyAt_par (s : State) (cid st d : Nat) (ws : List Word) (l : Nat) : (s.replyAt cid st d ws l).par = s.par := by
  unfold State.replyAt
  cases s.outOf cid with
  | none => rfl
  | some o =>
    dsimp only
    split
    · rfl
    · split <;> rfl
@[simp] theorem State.replyAt_imgPar (s : State) (cid st d : Nat) (ws : List Word) (l : Nat) : (s.replyAt cid st d ws l).imgPar = s.imgPar := by
  unfold State.replyAt
  cases s.outOf cid with
  | none => rfl
  | some o =>
    dsimp only
    split
    · rfl
    · split <;> rfl
@[simp] theorem State.replyAt_imgQueue (s : State) (cid st d : Nat) (ws : List Word) (l : Nat) : (s.replyAt cid st d ws l).imgQueue = s.imgQueue := by
  unfold State.replyAt
  cases s.outOf cid with
  | none => rfl
  | some o =>
    dsimp only
    split
    · rfl
    · split <;> rfl
@[simp] theorem State.replyAt_cnt (s : State) (cid st d : Nat) (ws : List Word) (l : Nat) : (s.replyAt cid st d ws l).cnt = s.cnt := by
  unfold State.replyAt
  cases s.outOf cid with
  | none => rfl
  | some o =>
    dsimp only
    split
    · rfl
    · split <;> rfl
@[simp] theorem State.replyAt_hostMem (s : State) (cid st d : Nat) (ws : List Word) (l : Nat) : (s.replyAt cid st d ws l).hostMem = s.hostMem := by
  unfold State.replyAt
  cases s.outOf cid with
  | none => rfl
  | some o =>
    dsimp only
    split
    · rfl
    · split <;> rfl
@[simp] theorem State.replyAt_dram (s : State) (cid st d : Nat) (ws : List Word) (l : Nat) : (s.replyAt cid st d ws l).dram = s.dram := by
  unfold State.replyAt
  cases s.outOf cid with
  | none => rfl
  | some o =>
    dsimp only
    split
    · rfl
    · split <;> rfl
@[simp] theorem State.replyAt_flash (s : State) (cid st d : Nat) (ws : List Word) (l : Nat) : (s.replyAt cid st d ws l).flash = s.flash := by
  unfold State.replyAt
  cases s.outOf cid with
  | none => rfl
  | some o =>
    dsimp only
    split
    · rfl
    · split <;> rfl
@[simp] theorem State.replyAt_seq (s : State) (cid st d : Nat) (ws : List Word) (l : Nat) : (s.replyAt cid st d ws l).seq = s.seq := by
  unfold State.replyAt
  cases s.outOf cid with
  | none => rfl
  | some o =>
    dsimp only
    split
    · rfl
    · split <;> rfl
@[simp] theorem State.replyAt_pos (s : State) (cid st d : Nat) (ws : List Word) (l : Nat) : (s.replyAt cid st d ws l).pos = s.pos := by
  unfold State.replyAt
  cases s.outOf cid with
  | none => rfl
  | some o =>
    dsimp only
    split
    · rfl
    · split <;> rfl
@[simp] theorem State.replyAt_lamp (s : State) (cid st d : Nat) (ws : List Word) (l : Nat) : (s.replyAt cid st d ws l).lamp = s.lamp := by
  unfold State.replyAt
  cases s.outOf cid with
  | none => rfl
  | some o =>
    dsimp only
    split
    · rfl
    · split <;> rfl
@[simp] theorem State.replyAt_sen (s : State) (cid st d : Nat) (ws : List Word) (l : Nat) : (s.replyAt cid st d ws l).sen = s.sen := by
  unfold State.replyAt
  cases s.outOf cid with
  | none => rfl
  | some o =>
    dsimp only
    split
    · rfl
    · split <;> rfl
@[simp] theorem State.replyAt_cor (s : State) (cid st d : Nat) (ws : List Word) (l : Nat) : (s.replyAt cid st d ws l).cor = s.cor := by
  unfold State.replyAt
  cases s.outOf cid with
  | none => rfl
  | some o =>
    dsimp only
    split
    · rfl
    · split <;> rfl
@[simp] theorem State.replyAt_cap (s : State) (cid st d : Nat) (ws : List Word) (l : Nat) : (s.replyAt cid st d ws l).cap = s.cap := by
  unfold State.replyAt
  cases s.outOf cid with
  | none => rfl
  | some o =>
    dsimp only
    split
    · rfl
    · split <;> rfl
@[simp] theorem State.replyAt_cmp (s : State) (cid st d : Nat) (ws : List Word) (l : Nat) : (s.replyAt cid st d ws l).cmp = s.cmp := by
  unfold State.replyAt
  cases s.outOf cid with
  | none => rfl
  | some o =>
    dsimp only
    split
    · rfl
    · split <;> rfl
@[simp] theorem State.replyAt_hq (s : State) (cid st d : Nat) (ws : List Word) (l : Nat) : (s.replyAt cid st d ws l).hq = s.hq := by
  unfold State.replyAt
  cases s.outOf cid with
  | none => rfl
  | some o =>
    dsimp only
    split
    · rfl
    · split <;> rfl
@[simp] theorem State.replyAt_mot (s : State) (cid st d : Nat) (ws : List Word) (l : Nat) : (s.replyAt cid st d ws l).mot = s.mot := by
  unfold State.replyAt
  cases s.outOf cid with
  | none => rfl
  | some o =>
    dsimp only
    split
    · rfl
    · split <;> rfl
@[simp] theorem State.replyAt_aux (s : State) (cid st d : Nat) (ws : List Word) (l : Nat) : (s.replyAt cid st d ws l).aux = s.aux := by
  unfold State.replyAt
  cases s.outOf cid with
  | none => rfl
  | some o =>
    dsimp only
    split
    · rfl
    · split <;> rfl
@[simp] theorem State.replyAt_hlt (s : State) (cid st d : Nat) (ws : List Word) (l : Nat) : (s.replyAt cid st d ws l).hlt = s.hlt := by
  unfold State.replyAt
  cases s.outOf cid with
  | none => rfl
  | some o =>
    dsimp only
    split
    · rfl
    · split <;> rfl
@[simp] theorem State.replyAt_ask (s : State) (cid st d : Nat) (ws : List Word) (l : Nat) : (s.replyAt cid st d ws l).ask = s.ask := by
  unfold State.replyAt
  cases s.outOf cid with
  | none => rfl
  | some o =>
    dsimp only
    split
    · rfl
    · split <;> rfl
@[simp] theorem State.replyAt_pwr (s : State) (cid st d : Nat) (ws : List Word) (l : Nat) : (s.replyAt cid st d ws l).pwr = s.pwr := by
  unfold State.replyAt
  cases s.outOf cid with
  | none => rfl
  | some o =>
    dsimp only
    split
    · rfl
    · split <;> rfl

/-! ### reply -/

@[simp] theorem State.reply_now (s : State) (cid st d : Nat) (ws : List Word) : (s.reply cid st d ws).now = s.now := by
  simp only [State.reply, State.replyAt_now]
@[simp] theorem State.reply_pending (s : State) (cid st d : Nat) (ws : List Word) : (s.reply cid st d ws).pending = s.pending := by
  simp only [State.reply, State.replyAt_pending]
@[simp] theorem State.reply_freeCount (s : State) (cid st d : Nat) (ws : List Word) : (s.reply cid st d ws).freeCount = s.freeCount := by
  simp only [State.reply, State.replyAt_freeCount]
@[simp] theorem State.reply_par (s : State) (cid st d : Nat) (ws : List Word) : (s.reply cid st d ws).par = s.par := by
  simp only [State.reply, State.replyAt_par]
@[simp] theorem State.reply_imgPar (s : State) (cid st d : Nat) (ws : List Word) : (s.reply cid st d ws).imgPar = s.imgPar := by
  simp only [State.reply, State.replyAt_imgPar]
@[simp] theorem State.reply_imgQueue (s : State) (cid st d : Nat) (ws : List Word) : (s.reply cid st d ws).imgQueue = s.imgQueue := by
  simp only [State.reply, State.replyAt_imgQueue]
@[simp] theorem State.reply_cnt (s : State) (cid st d : Nat) (ws : List Word) : (s.reply cid st d ws).cnt = s.cnt := by
  simp only [State.reply, State.replyAt_cnt]
@[simp] theorem State.reply_hostMem (s : State) (cid st d : Nat) (ws : List Word) : (s.reply cid st d ws).hostMem = s.hostMem := by
  simp only [State.reply, State.replyAt_hostMem]
@[simp] theorem State.reply_dram (s : State) (cid st d : Nat) (ws : List Word) : (s.reply cid st d ws).dram = s.dram := by
  simp only [State.reply, State.replyAt_dram]
@[simp] theorem State.reply_flash (s : State) (cid st d : Nat) (ws : List Word) : (s.reply cid st d ws).flash = s.flash := by
  simp only [State.reply, State.replyAt_flash]
@[simp] theorem State.reply_seq (s : State) (cid st d : Nat) (ws : List Word) : (s.reply cid st d ws).seq = s.seq := by
  simp only [State.reply, State.replyAt_seq]
@[simp] theorem State.reply_pos (s : State) (cid st d : Nat) (ws : List Word) : (s.reply cid st d ws).pos = s.pos := by
  simp only [State.reply, State.replyAt_pos]
@[simp] theorem State.reply_lamp (s : State) (cid st d : Nat) (ws : List Word) : (s.reply cid st d ws).lamp = s.lamp := by
  simp only [State.reply, State.replyAt_lamp]
@[simp] theorem State.reply_sen (s : State) (cid st d : Nat) (ws : List Word) : (s.reply cid st d ws).sen = s.sen := by
  simp only [State.reply, State.replyAt_sen]
@[simp] theorem State.reply_cor (s : State) (cid st d : Nat) (ws : List Word) : (s.reply cid st d ws).cor = s.cor := by
  simp only [State.reply, State.replyAt_cor]
@[simp] theorem State.reply_cap (s : State) (cid st d : Nat) (ws : List Word) : (s.reply cid st d ws).cap = s.cap := by
  simp only [State.reply, State.replyAt_cap]
@[simp] theorem State.reply_cmp (s : State) (cid st d : Nat) (ws : List Word) : (s.reply cid st d ws).cmp = s.cmp := by
  simp only [State.reply, State.replyAt_cmp]
@[simp] theorem State.reply_hq (s : State) (cid st d : Nat) (ws : List Word) : (s.reply cid st d ws).hq = s.hq := by
  simp only [State.reply, State.replyAt_hq]
@[simp] theorem State.reply_mot (s : State) (cid st d : Nat) (ws : List Word) : (s.reply cid st d ws).mot = s.mot := by
  simp only [State.reply, State.replyAt_mot]
@[simp] theorem State.reply_aux (s : State) (cid st d : Nat) (ws : List Word) : (s.reply cid st d ws).aux = s.aux := by
  simp only [State.reply, State.replyAt_aux]
@[simp] theorem State.reply_hlt (s : State) (cid st d : Nat) (ws : List Word) : (s.reply cid st d ws).hlt = s.hlt := by
  simp only [State.reply, State.replyAt_hlt]
@[simp] theorem State.reply_ask (s : State) (cid st d : Nat) (ws : List Word) : (s.reply cid st d ws).ask = s.ask := by
  simp only [State.reply, State.replyAt_ask]
@[simp] theorem State.reply_pwr (s : State) (cid st d : Nat) (ws : List Word) : (s.reply cid st d ws).pwr = s.pwr := by
  simp only [State.reply, State.replyAt_pwr]

/-! ### done -/

@[simp] theorem State.done_now (s : State) (cid : Nat) (ws : List Word) : (s.done cid ws).now = s.now := by
  simp only [State.done, State.reply_now]
@[simp] theorem State.done_pending (s : State) (cid : Nat) (ws : List Word) : (s.done cid ws).pending = s.pending := by
  simp only [State.done, State.reply_pending]
@[simp] theorem State.done_freeCount (s : State) (cid : Nat) (ws : List Word) : (s.done cid ws).freeCount = s.freeCount := by
  simp only [State.done, State.reply_freeCount]
@[simp] theorem State.done_par (s : State) (cid : Nat) (ws : List Word) : (s.done cid ws).par = s.par := by
  simp only [State.done, State.reply_par]
@[simp] theorem State.done_imgPar (s : State) (cid : Nat) (ws : List Word) : (s.done cid ws).imgPar = s.imgPar := by
  simp only [State.done, State.reply_imgPar]
@[simp] theorem State.done_imgQueue (s : State) (cid : Nat) (ws : List Word) : (s.done cid ws).imgQueue = s.imgQueue := by
  simp only [State.done, State.reply_imgQueue]
@[simp] theorem State.done_cnt (s : State) (cid : Nat) (ws : List Word) : (s.done cid ws).cnt = s.cnt := by
  simp only [State.done, State.reply_cnt]
@[simp] theorem State.done_hostMem (s : State) (cid : Nat) (ws : List Word) : (s.done cid ws).hostMem = s.hostMem := by
  simp only [State.done, State.reply_hostMem]
@[simp] theorem State.done_dram (s : State) (cid : Nat) (ws : List Word) : (s.done cid ws).dram = s.dram := by
  simp only [State.done, State.reply_dram]
@[simp] theorem State.done_flash (s : State) (cid : Nat) (ws : List Word) : (s.done cid ws).flash = s.flash := by
  simp only [State.done, State.reply_flash]
@[simp] theorem State.done_seq (s : State) (cid : Nat) (ws : List Word) : (s.done cid ws).seq = s.seq := by
  simp only [State.done, State.reply_seq]
@[simp] theorem State.done_pos (s : State) (cid : Nat) (ws : List Word) : (s.done cid ws).pos = s.pos := by
  simp only [State.done, State.reply_pos]
@[simp] theorem State.done_lamp (s : State) (cid : Nat) (ws : List Word) : (s.done cid ws).lamp = s.lamp := by
  simp only [State.done, State.reply_lamp]
@[simp] theorem State.done_sen (s : State) (cid : Nat) (ws : List Word) : (s.done cid ws).sen = s.sen := by
  simp only [State.done, State.reply_sen]
@[simp] theorem State.done_cor (s : State) (cid : Nat) (ws : List Word) : (s.done cid ws).cor = s.cor := by
  simp only [State.done, State.reply_cor]
@[simp] theorem State.done_cap (s : State) (cid : Nat) (ws : List Word) : (s.done cid ws).cap = s.cap := by
  simp only [State.done, State.reply_cap]
@[simp] theorem State.done_cmp (s : State) (cid : Nat) (ws : List Word) : (s.done cid ws).cmp = s.cmp := by
  simp only [State.done, State.reply_cmp]
@[simp] theorem State.done_hq (s : State) (cid : Nat) (ws : List Word) : (s.done cid ws).hq = s.hq := by
  simp only [State.done, State.reply_hq]
@[simp] theorem State.done_mot (s : State) (cid : Nat) (ws : List Word) : (s.done cid ws).mot = s.mot := by
  simp only [State.done, State.reply_mot]
@[simp] theorem State.done_aux (s : State) (cid : Nat) (ws : List Word) : (s.done cid ws).aux = s.aux := by
  simp only [State.done, State.reply_aux]
@[simp] theorem State.done_hlt (s : State) (cid : Nat) (ws : List Word) : (s.done cid ws).hlt = s.hlt := by
  simp only [State.done, State.reply_hlt]
@[simp] theorem State.done_ask (s : State) (cid : Nat) (ws : List Word) : (s.done cid ws).ask = s.ask := by
  simp only [State.done, State.reply_ask]
@[simp] theorem State.done_pwr (s : State) (cid : Nat) (ws : List Word) : (s.done cid ws).pwr = s.pwr := by
  simp only [State.done, State.reply_pwr]

/-! ### doneNow -/

@[simp] theorem State.doneNow_now (s : State) (cid : Nat) (ws : List Word) : (s.doneNow cid ws).now = s.now := by
  simp only [State.doneNow, State.reply_now]
@[simp] theorem State.doneNow_pending (s : State) (cid : Nat) (ws : List Word) : (s.doneNow cid ws).pending = s.pending := by
  simp only [State.doneNow, State.reply_pending]
@[simp] theorem State.doneNow_freeCount (s : State) (cid : Nat) (ws : List Word) : (s.doneNow cid ws).freeCount = s.freeCount := by
  simp only [State.doneNow, State.reply_freeCount]
@[simp] theorem State.doneNow_par (s : State) (cid : Nat) (ws : List Word) : (s.doneNow cid ws).par = s.par := by
  simp only [State.doneNow, State.reply_par]
@[simp] theorem State.doneNow_imgPar (s : State) (cid : Nat) (ws : List Word) : (s.doneNow cid ws).imgPar = s.imgPar := by
  simp only [State.doneNow, State.reply_imgPar]
@[simp] theorem State.doneNow_imgQueue (s : State) (cid : Nat) (ws : List Word) : (s.doneNow cid ws).imgQueue = s.imgQueue := by
  simp only [State.doneNow, State.reply_imgQueue]
@[simp] theorem State.doneNow_cnt (s : State) (cid : Nat) (ws : List Word) : (s.doneNow cid ws).cnt = s.cnt := by
  simp only [State.doneNow, State.reply_cnt]
@[simp] theorem State.doneNow_hostMem (s : State) (cid : Nat) (ws : List Word) : (s.doneNow cid ws).hostMem = s.hostMem := by
  simp only [State.doneNow, State.reply_hostMem]
@[simp] theorem State.doneNow_dram (s : State) (cid : Nat) (ws : List Word) : (s.doneNow cid ws).dram = s.dram := by
  simp only [State.doneNow, State.reply_dram]
@[simp] theorem State.doneNow_flash (s : State) (cid : Nat) (ws : List Word) : (s.doneNow cid ws).flash = s.flash := by
  simp only [State.doneNow, State.reply_flash]
@[simp] theorem State.doneNow_seq (s : State) (cid : Nat) (ws : List Word) : (s.doneNow cid ws).seq = s.seq := by
  simp only [State.doneNow, State.reply_seq]
@[simp] theorem State.doneNow_pos (s : State) (cid : Nat) (ws : List Word) : (s.doneNow cid ws).pos = s.pos := by
  simp only [State.doneNow, State.reply_pos]
@[simp] theorem State.doneNow_lamp (s : State) (cid : Nat) (ws : List Word) : (s.doneNow cid ws).lamp = s.lamp := by
  simp only [State.doneNow, State.reply_lamp]
@[simp] theorem State.doneNow_sen (s : State) (cid : Nat) (ws : List Word) : (s.doneNow cid ws).sen = s.sen := by
  simp only [State.doneNow, State.reply_sen]
@[simp] theorem State.doneNow_cor (s : State) (cid : Nat) (ws : List Word) : (s.doneNow cid ws).cor = s.cor := by
  simp only [State.doneNow, State.reply_cor]
@[simp] theorem State.doneNow_cap (s : State) (cid : Nat) (ws : List Word) : (s.doneNow cid ws).cap = s.cap := by
  simp only [State.doneNow, State.reply_cap]
@[simp] theorem State.doneNow_cmp (s : State) (cid : Nat) (ws : List Word) : (s.doneNow cid ws).cmp = s.cmp := by
  simp only [State.doneNow, State.reply_cmp]
@[simp] theorem State.doneNow_hq (s : State) (cid : Nat) (ws : List Word) : (s.doneNow cid ws).hq = s.hq := by
  simp only [State.doneNow, State.reply_hq]
@[simp] theorem State.doneNow_mot (s : State) (cid : Nat) (ws : List Word) : (s.doneNow cid ws).mot = s.mot := by
  simp only [State.doneNow, State.reply_mot]
@[simp] theorem State.doneNow_aux (s : State) (cid : Nat) (ws : List Word) : (s.doneNow cid ws).aux = s.aux := by
  simp only [State.doneNow, State.reply_aux]
@[simp] theorem State.doneNow_hlt (s : State) (cid : Nat) (ws : List Word) : (s.doneNow cid ws).hlt = s.hlt := by
  simp only [State.doneNow, State.reply_hlt]
@[simp] theorem State.doneNow_ask (s : State) (cid : Nat) (ws : List Word) : (s.doneNow cid ws).ask = s.ask := by
  simp only [State.doneNow, State.reply_ask]
@[simp] theorem State.doneNow_pwr (s : State) (cid : Nat) (ws : List Word) : (s.doneNow cid ws).pwr = s.pwr := by
  simp only [State.doneNow, State.reply_pwr]

/-! ### accept -/

@[simp] theorem State.accept_now (s : State) (cid : Nat) : (s.accept cid).now = s.now := by
  simp only [State.accept, State.reply_now]
@[simp] theorem State.accept_pending (s : State) (cid : Nat) : (s.accept cid).pending = s.pending := by
  simp only [State.accept, State.reply_pending]
@[simp] theorem State.accept_freeCount (s : State) (cid : Nat) : (s.accept cid).freeCount = s.freeCount := by
  simp only [State.accept, State.reply_freeCount]
@[simp] theorem State.accept_par (s : State) (cid : Nat) : (s.accept cid).par = s.par := by
  simp only [State.accept, State.reply_par]
@[simp] theorem State.accept_imgPar (s : State) (cid : Nat) : (s.accept cid).imgPar = s.imgPar := by
  simp only [State.accept, State.reply_imgPar]
@[simp] theorem State.accept_imgQueue (s : State) (cid : Nat) : (s.accept cid).imgQueue = s.imgQueue := by
  simp only [State.accept, State.reply_imgQueue]
@[simp] theorem State.accept_cnt (s : State) (cid : Nat) : (s.accept cid).cnt = s.cnt := by
  simp only [State.accept, State.reply_cnt]
@[simp] theorem State.accept_hostMem (s : State) (cid : Nat) : (s.accept cid).hostMem = s.hostMem := by
  simp only [State.accept, State.reply_hostMem]
@[simp] theorem State.accept_dram (s : State) (cid : Nat) : (s.accept cid).dram = s.dram := by
  simp only [State.accept, State.reply_dram]
@[simp] theorem State.accept_flash (s : State) (cid : Nat) : (s.accept cid).flash = s.flash := by
  simp only [State.accept, State.reply_flash]
@[simp] theorem State.accept_seq (s : State) (cid : Nat) : (s.accept cid).seq = s.seq := by
  simp only [State.accept, State.reply_seq]
@[simp] theorem State.accept_pos (s : State) (cid : Nat) : (s.accept cid).pos = s.pos := by
  simp only [State.accept, State.reply_pos]
@[simp] theorem State.accept_lamp (s : State) (cid : Nat) : (s.accept cid).lamp = s.lamp := by
  simp only [State.accept, State.reply_lamp]
@[simp] theorem State.accept_sen (s : State) (cid : Nat) : (s.accept cid).sen = s.sen := by
  simp only [State.accept, State.reply_sen]
@[simp] theorem State.accept_cor (s : State) (cid : Nat) : (s.accept cid).cor = s.cor := by
  simp only [State.accept, State.reply_cor]
@[simp] theorem State.accept_cap (s : State) (cid : Nat) : (s.accept cid).cap = s.cap := by
  simp only [State.accept, State.reply_cap]
@[simp] theorem State.accept_cmp (s : State) (cid : Nat) : (s.accept cid).cmp = s.cmp := by
  simp only [State.accept, State.reply_cmp]
@[simp] theorem State.accept_hq (s : State) (cid : Nat) : (s.accept cid).hq = s.hq := by
  simp only [State.accept, State.reply_hq]
@[simp] theorem State.accept_mot (s : State) (cid : Nat) : (s.accept cid).mot = s.mot := by
  simp only [State.accept, State.reply_mot]
@[simp] theorem State.accept_aux (s : State) (cid : Nat) : (s.accept cid).aux = s.aux := by
  simp only [State.accept, State.reply_aux]
@[simp] theorem State.accept_hlt (s : State) (cid : Nat) : (s.accept cid).hlt = s.hlt := by
  simp only [State.accept, State.reply_hlt]
@[simp] theorem State.accept_ask (s : State) (cid : Nat) : (s.accept cid).ask = s.ask := by
  simp only [State.accept, State.reply_ask]
@[simp] theorem State.accept_pwr (s : State) (cid : Nat) : (s.accept cid).pwr = s.pwr := by
  simp only [State.accept, State.reply_pwr]

/-! ### defer -/

@[simp] theorem State.defer_now (s : State) (cid : Nat) : (s.defer cid).now = s.now := by
  simp only [State.defer, State.count_now, State.reply_now]
@[simp] theorem State.defer_pending (s : State) (cid : Nat) : (s.defer cid).pending = s.pending := by
  simp only [State.defer, State.count_pending, State.reply_pending]
@[simp] theorem State.defer_freeCount (s : State) (cid : Nat) : (s.defer cid).freeCount = s.freeCount := by
  simp only [State.defer, State.count_freeCount, State.reply_freeCount]
@[simp] theorem State.defer_par (s : State) (cid : Nat) : (s.defer cid).par = s.par := by
  simp only [State.defer, State.count_par, State.reply_par]
@[simp] theorem State.defer_imgPar (s : State) (cid : Nat) : (s.defer cid).imgPar = s.imgPar := by
  simp only [State.defer, State.count_imgPar, State.reply_imgPar]
@[simp] theorem State.defer_imgQueue (s : State) (cid : Nat) : (s.defer cid).imgQueue = s.imgQueue := by
  simp only [State.defer, State.count_imgQueue, State.reply_imgQueue]
@[simp] theorem State.defer_dram (s : State) (cid : Nat) : (s.defer cid).dram = s.dram := by
  simp only [State.defer, State.count_dram, State.reply_dram]
@[simp] theorem State.defer_flash (s : State) (cid : Nat) : (s.defer cid).flash = s.flash := by
  simp only [State.defer, State.count_flash, State.reply_flash]
@[simp] theorem State.defer_seq (s : State) (cid : Nat) : (s.defer cid).seq = s.seq := by
  simp only [State.defer, State.count_seq, State.reply_seq]
@[simp] theorem State.defer_pos (s : State) (cid : Nat) : (s.defer cid).pos = s.pos := by
  simp only [State.defer, State.count_pos, State.reply_pos]
@[simp] theorem State.defer_lamp (s : State) (cid : Nat) : (s.defer cid).lamp = s.lamp := by
  simp only [State.defer, State.count_lamp, State.reply_lamp]
@[simp] theorem State.defer_sen (s : State) (cid : Nat) : (s.defer cid).sen = s.sen := by
  simp only [State.defer, State.count_sen, State.reply_sen]
@[simp] theorem State.defer_cor (s : State) (cid : Nat) : (s.defer cid).cor = s.cor := by
  simp only [State.defer, State.count_cor, State.reply_cor]
@[simp] theorem State.defer_cap (s : State) (cid : Nat) : (s.defer cid).cap = s.cap := by
  simp only [State.defer, State.count_cap, State.reply_cap]
@[simp] theorem State.defer_cmp (s : State) (cid : Nat) : (s.defer cid).cmp = s.cmp := by
  simp only [State.defer, State.count_cmp, State.reply_cmp]
@[simp] theorem State.defer_hq (s : State) (cid : Nat) : (s.defer cid).hq = s.hq := by
  simp only [State.defer, State.count_hq, State.reply_hq]
@[simp] theorem State.defer_mot (s : State) (cid : Nat) : (s.defer cid).mot = s.mot := by
  simp only [State.defer, State.count_mot, State.reply_mot]
@[simp] theorem State.defer_aux (s : State) (cid : Nat) : (s.defer cid).aux = s.aux := by
  simp only [State.defer, State.count_aux, State.reply_aux]
@[simp] theorem State.defer_ask (s : State) (cid : Nat) : (s.defer cid).ask = s.ask := by
  simp only [State.defer, State.count_ask, State.reply_ask]
@[simp] theorem State.defer_pwr (s : State) (cid : Nat) : (s.defer cid).pwr = s.pwr := by
  simp only [State.defer, State.count_pwr, State.reply_pwr]

/-! ### updRing: the attachment -/

@[simp] theorem State.updRing_host_nextCid (s : State) (r : Nat) (f : Ring → Ring) : (s.updRing r f).host.nextCid = s.host.nextCid := rfl
@[simp] theorem State.updRing_host_outst (s : State) (r : Nat) (f : Ring → Ring) : (s.updRing r f).host.outst = s.host.outst := rfl
@[simp] theorem State.updRing_host_store (s : State) (r : Nat) (f : Ring → Ring) : (s.updRing r f).host.store = s.host.store := rfl
@[simp] theorem State.updRing_host_events (s : State) (r : Nat) (f : Ring → Ring) : (s.updRing r f).host.events = s.host.events := rfl
@[simp] theorem State.updRing_host_evWait (s : State) (r : Nat) (f : Ring → Ring) : (s.updRing r f).host.evWait = s.host.evWait := rfl
@[simp] theorem State.updRing_host_evFull (s : State) (r : Nat) (f : Ring → Ring) : (s.updRing r f).host.evFull = s.host.evFull := rfl
@[simp] theorem State.updRing_host_vecs (s : State) (r : Nat) (f : Ring → Ring) : (s.updRing r f).host.vecs = s.host.vecs := rfl
@[simp] theorem State.updRing_host_link (s : State) (r : Nat) (f : Ring → Ring) : (s.updRing r f).host.link = s.host.link := rfl
@[simp] theorem State.updRing_host_coresDown (s : State) (r : Nat) (f : Ring → Ring) : (s.updRing r f).host.coresDown = s.host.coresDown := rfl
@[simp] theorem State.updRing_host_coreCause (s : State) (r : Nat) (f : Ring → Ring) : (s.updRing r f).host.coreCause = s.host.coreCause := rfl
@[simp] theorem State.updRing_host_coreReset (s : State) (r : Nat) (f : Ring → Ring) : (s.updRing r f).host.coreReset = s.host.coreReset := rfl
@[simp] theorem State.updRing_host_heartbeat (s : State) (r : Nat) (f : Ring → Ring) : (s.updRing r f).host.heartbeat = s.host.heartbeat := rfl
@[simp] theorem State.updRing_host_beatAt (s : State) (r : Nat) (f : Ring → Ring) : (s.updRing r f).host.beatAt = s.host.beatAt := rfl
@[simp] theorem State.updRing_host_bulkTurn (s : State) (r : Nat) (f : Ring → Ring) : (s.updRing r f).host.bulkTurn = s.host.bulkTurn := rfl
@[simp] theorem State.updRing_host_lastRead (s : State) (r : Nat) (f : Ring → Ring) : (s.updRing r f).host.lastRead = s.host.lastRead := rfl
@[simp] theorem State.updRing_host_waits (s : State) (r : Nat) (f : Ring → Ring) : (s.updRing r f).host.waits = s.host.waits := rfl
@[simp] theorem State.updRing_host_spill (s : State) (r : Nat) (f : Ring → Ring) : (s.updRing r f).host.spill = s.host.spill := rfl
@[simp] theorem State.updRing_host_spillUsed (s : State) (r : Nat) (f : Ring → Ring) : (s.updRing r f).host.spillUsed = s.host.spillUsed := rfl
@[simp] theorem State.updRing_host_spillDropping (s : State) (r : Nat) (f : Ring → Ring) : (s.updRing r f).host.spillDropping = s.host.spillDropping := rfl

/-! ### updEv: the attachment -/

@[simp] theorem State.updEv_host_rings (s : State) (x : Nat) (f : EvSrc → EvSrc) : (s.updEv x f).host.rings = s.host.rings := rfl
@[simp] theorem State.updEv_host_nextCid (s : State) (x : Nat) (f : EvSrc → EvSrc) : (s.updEv x f).host.nextCid = s.host.nextCid := rfl
@[simp] theorem State.updEv_host_outst (s : State) (x : Nat) (f : EvSrc → EvSrc) : (s.updEv x f).host.outst = s.host.outst := rfl
@[simp] theorem State.updEv_host_store (s : State) (x : Nat) (f : EvSrc → EvSrc) : (s.updEv x f).host.store = s.host.store := rfl
@[simp] theorem State.updEv_host_evWait (s : State) (x : Nat) (f : EvSrc → EvSrc) : (s.updEv x f).host.evWait = s.host.evWait := rfl
@[simp] theorem State.updEv_host_evFull (s : State) (x : Nat) (f : EvSrc → EvSrc) : (s.updEv x f).host.evFull = s.host.evFull := rfl
@[simp] theorem State.updEv_host_vecs (s : State) (x : Nat) (f : EvSrc → EvSrc) : (s.updEv x f).host.vecs = s.host.vecs := rfl
@[simp] theorem State.updEv_host_link (s : State) (x : Nat) (f : EvSrc → EvSrc) : (s.updEv x f).host.link = s.host.link := rfl
@[simp] theorem State.updEv_host_coresDown (s : State) (x : Nat) (f : EvSrc → EvSrc) : (s.updEv x f).host.coresDown = s.host.coresDown := rfl
@[simp] theorem State.updEv_host_coreCause (s : State) (x : Nat) (f : EvSrc → EvSrc) : (s.updEv x f).host.coreCause = s.host.coreCause := rfl
@[simp] theorem State.updEv_host_coreReset (s : State) (x : Nat) (f : EvSrc → EvSrc) : (s.updEv x f).host.coreReset = s.host.coreReset := rfl
@[simp] theorem State.updEv_host_heartbeat (s : State) (x : Nat) (f : EvSrc → EvSrc) : (s.updEv x f).host.heartbeat = s.host.heartbeat := rfl
@[simp] theorem State.updEv_host_beatAt (s : State) (x : Nat) (f : EvSrc → EvSrc) : (s.updEv x f).host.beatAt = s.host.beatAt := rfl
@[simp] theorem State.updEv_host_bulkTurn (s : State) (x : Nat) (f : EvSrc → EvSrc) : (s.updEv x f).host.bulkTurn = s.host.bulkTurn := rfl
@[simp] theorem State.updEv_host_lastRead (s : State) (x : Nat) (f : EvSrc → EvSrc) : (s.updEv x f).host.lastRead = s.host.lastRead := rfl
@[simp] theorem State.updEv_host_waits (s : State) (x : Nat) (f : EvSrc → EvSrc) : (s.updEv x f).host.waits = s.host.waits := rfl
@[simp] theorem State.updEv_host_spill (s : State) (x : Nat) (f : EvSrc → EvSrc) : (s.updEv x f).host.spill = s.host.spill := rfl
@[simp] theorem State.updEv_host_spillUsed (s : State) (x : Nat) (f : EvSrc → EvSrc) : (s.updEv x f).host.spillUsed = s.host.spillUsed := rfl
@[simp] theorem State.updEv_host_spillDropping (s : State) (x : Nat) (f : EvSrc → EvSrc) : (s.updEv x f).host.spillDropping = s.host.spillDropping := rfl

/-! ### sendMsix: the attachment -/

@[simp] theorem State.sendMsix_host_rings (s : State) (v : Nat) : (s.sendMsix v).host.rings = s.host.rings := by
  unfold State.sendMsix
  dsimp only
  split <;> rfl
@[simp] theorem State.sendMsix_host_nextCid (s : State) (v : Nat) : (s.sendMsix v).host.nextCid = s.host.nextCid := by
  unfold State.sendMsix
  dsimp only
  split <;> rfl
@[simp] theorem State.sendMsix_host_outst (s : State) (v : Nat) : (s.sendMsix v).host.outst = s.host.outst := by
  unfold State.sendMsix
  dsimp only
  split <;> rfl
@[simp] theorem State.sendMsix_host_store (s : State) (v : Nat) : (s.sendMsix v).host.store = s.host.store := by
  unfold State.sendMsix
  dsimp only
  split <;> rfl
@[simp] theorem State.sendMsix_host_events (s : State) (v : Nat) : (s.sendMsix v).host.events = s.host.events := by
  unfold State.sendMsix
  dsimp only
  split <;> rfl
@[simp] theorem State.sendMsix_host_evWait (s : State) (v : Nat) : (s.sendMsix v).host.evWait = s.host.evWait := by
  unfold State.sendMsix
  dsimp only
  split <;> rfl
@[simp] theorem State.sendMsix_host_evFull (s : State) (v : Nat) : (s.sendMsix v).host.evFull = s.host.evFull := by
  unfold State.sendMsix
  dsimp only
  split <;> rfl
@[simp] theorem State.sendMsix_host_link (s : State) (v : Nat) : (s.sendMsix v).host.link = s.host.link := by
  unfold State.sendMsix
  dsimp only
  split <;> rfl
@[simp] theorem State.sendMsix_host_coresDown (s : State) (v : Nat) : (s.sendMsix v).host.coresDown = s.host.coresDown := by
  unfold State.sendMsix
  dsimp only
  split <;> rfl
@[simp] theorem State.sendMsix_host_coreCause (s : State) (v : Nat) : (s.sendMsix v).host.coreCause = s.host.coreCause := by
  unfold State.sendMsix
  dsimp only
  split <;> rfl
@[simp] theorem State.sendMsix_host_coreReset (s : State) (v : Nat) : (s.sendMsix v).host.coreReset = s.host.coreReset := by
  unfold State.sendMsix
  dsimp only
  split <;> rfl
@[simp] theorem State.sendMsix_host_heartbeat (s : State) (v : Nat) : (s.sendMsix v).host.heartbeat = s.host.heartbeat := by
  unfold State.sendMsix
  dsimp only
  split <;> rfl
@[simp] theorem State.sendMsix_host_beatAt (s : State) (v : Nat) : (s.sendMsix v).host.beatAt = s.host.beatAt := by
  unfold State.sendMsix
  dsimp only
  split <;> rfl
@[simp] theorem State.sendMsix_host_bulkTurn (s : State) (v : Nat) : (s.sendMsix v).host.bulkTurn = s.host.bulkTurn := by
  unfold State.sendMsix
  dsimp only
  split <;> rfl
@[simp] theorem State.sendMsix_host_lastRead (s : State) (v : Nat) : (s.sendMsix v).host.lastRead = s.host.lastRead := by
  unfold State.sendMsix
  dsimp only
  split <;> rfl
@[simp] theorem State.sendMsix_host_waits (s : State) (v : Nat) : (s.sendMsix v).host.waits = s.host.waits := by
  unfold State.sendMsix
  dsimp only
  split <;> rfl
@[simp] theorem State.sendMsix_host_spill (s : State) (v : Nat) : (s.sendMsix v).host.spill = s.host.spill := by
  unfold State.sendMsix
  dsimp only
  split <;> rfl
@[simp] theorem State.sendMsix_host_spillUsed (s : State) (v : Nat) : (s.sendMsix v).host.spillUsed = s.host.spillUsed := by
  unfold State.sendMsix
  dsimp only
  split <;> rfl
@[simp] theorem State.sendMsix_host_spillDropping (s : State) (v : Nat) : (s.sendMsix v).host.spillDropping = s.host.spillDropping := by
  unfold State.sendMsix
  dsimp only
  split <;> rfl

/-! ### signal: the attachment -/

@[simp] theorem State.signal_host_rings (s : State) (v : Nat) : (s.signal v).host.rings = s.host.rings := by
  unfold State.signal
  dsimp only
  split
  · rfl
  · split
    · rfl
    · simp
@[simp] theorem State.signal_host_nextCid (s : State) (v : Nat) : (s.signal v).host.nextCid = s.host.nextCid := by
  unfold State.signal
  dsimp only
  split
  · rfl
  · split
    · rfl
    · simp
@[simp] theorem State.signal_host_outst (s : State) (v : Nat) : (s.signal v).host.outst = s.host.outst := by
  unfold State.signal
  dsimp only
  split
  · rfl
  · split
    · rfl
    · simp
@[simp] theorem State.signal_host_store (s : State) (v : Nat) : (s.signal v).host.store = s.host.store := by
  unfold State.signal
  dsimp only
  split
  · rfl
  · split
    · rfl
    · simp
@[simp] theorem State.signal_host_events (s : State) (v : Nat) : (s.signal v).host.events = s.host.events := by
  unfold State.signal
  dsimp only
  split
  · rfl
  · split
    · rfl
    · simp
@[simp] theorem State.signal_host_evWait (s : State) (v : Nat) : (s.signal v).host.evWait = s.host.evWait := by
  unfold State.signal
  dsimp only
  split
  · rfl
  · split
    · rfl
    · simp
@[simp] theorem State.signal_host_evFull (s : State) (v : Nat) : (s.signal v).host.evFull = s.host.evFull := by
  unfold State.signal
  dsimp only
  split
  · rfl
  · split
    · rfl
    · simp
@[simp] theorem State.signal_host_link (s : State) (v : Nat) : (s.signal v).host.link = s.host.link := by
  unfold State.signal
  dsimp only
  split
  · rfl
  · split
    · rfl
    · simp
@[simp] theorem State.signal_host_coresDown (s : State) (v : Nat) : (s.signal v).host.coresDown = s.host.coresDown := by
  unfold State.signal
  dsimp only
  split
  · rfl
  · split
    · rfl
    · simp
@[simp] theorem State.signal_host_coreCause (s : State) (v : Nat) : (s.signal v).host.coreCause = s.host.coreCause := by
  unfold State.signal
  dsimp only
  split
  · rfl
  · split
    · rfl
    · simp
@[simp] theorem State.signal_host_coreReset (s : State) (v : Nat) : (s.signal v).host.coreReset = s.host.coreReset := by
  unfold State.signal
  dsimp only
  split
  · rfl
  · split
    · rfl
    · simp
@[simp] theorem State.signal_host_heartbeat (s : State) (v : Nat) : (s.signal v).host.heartbeat = s.host.heartbeat := by
  unfold State.signal
  dsimp only
  split
  · rfl
  · split
    · rfl
    · simp
@[simp] theorem State.signal_host_beatAt (s : State) (v : Nat) : (s.signal v).host.beatAt = s.host.beatAt := by
  unfold State.signal
  dsimp only
  split
  · rfl
  · split
    · rfl
    · simp
@[simp] theorem State.signal_host_bulkTurn (s : State) (v : Nat) : (s.signal v).host.bulkTurn = s.host.bulkTurn := by
  unfold State.signal
  dsimp only
  split
  · rfl
  · split
    · rfl
    · simp
@[simp] theorem State.signal_host_lastRead (s : State) (v : Nat) : (s.signal v).host.lastRead = s.host.lastRead := by
  unfold State.signal
  dsimp only
  split
  · rfl
  · split
    · rfl
    · simp
@[simp] theorem State.signal_host_waits (s : State) (v : Nat) : (s.signal v).host.waits = s.host.waits := by
  unfold State.signal
  dsimp only
  split
  · rfl
  · split
    · rfl
    · simp
@[simp] theorem State.signal_host_spill (s : State) (v : Nat) : (s.signal v).host.spill = s.host.spill := by
  unfold State.signal
  dsimp only
  split
  · rfl
  · split
    · rfl
    · simp
@[simp] theorem State.signal_host_spillUsed (s : State) (v : Nat) : (s.signal v).host.spillUsed = s.host.spillUsed := by
  unfold State.signal
  dsimp only
  split
  · rfl
  · split
    · rfl
    · simp
@[simp] theorem State.signal_host_spillDropping (s : State) (v : Nat) : (s.signal v).host.spillDropping = s.host.spillDropping := by
  unfold State.signal
  dsimp only
  split
  · rfl
  · split
    · rfl
    · simp

/-! ### entryWrite: the attachment -/

@[simp] theorem State.entryWrite_host_rings (s : State) (a : Nat) (bs : List Byte) (v : Nat) : (s.entryWrite a bs v).host.rings = s.host.rings := by
  unfold State.entryWrite
  split <;> rfl
@[simp] theorem State.entryWrite_host_nextCid (s : State) (a : Nat) (bs : List Byte) (v : Nat) : (s.entryWrite a bs v).host.nextCid = s.host.nextCid := by
  unfold State.entryWrite
  split <;> rfl
@[simp] theorem State.entryWrite_host_outst (s : State) (a : Nat) (bs : List Byte) (v : Nat) : (s.entryWrite a bs v).host.outst = s.host.outst := by
  unfold State.entryWrite
  split <;> rfl
@[simp] theorem State.entryWrite_host_store (s : State) (a : Nat) (bs : List Byte) (v : Nat) : (s.entryWrite a bs v).host.store = s.host.store := by
  unfold State.entryWrite
  split <;> rfl
@[simp] theorem State.entryWrite_host_events (s : State) (a : Nat) (bs : List Byte) (v : Nat) : (s.entryWrite a bs v).host.events = s.host.events := by
  unfold State.entryWrite
  split <;> rfl
@[simp] theorem State.entryWrite_host_evWait (s : State) (a : Nat) (bs : List Byte) (v : Nat) : (s.entryWrite a bs v).host.evWait = s.host.evWait := by
  unfold State.entryWrite
  split <;> rfl
@[simp] theorem State.entryWrite_host_evFull (s : State) (a : Nat) (bs : List Byte) (v : Nat) : (s.entryWrite a bs v).host.evFull = s.host.evFull := by
  unfold State.entryWrite
  split <;> rfl
@[simp] theorem State.entryWrite_host_vecs (s : State) (a : Nat) (bs : List Byte) (v : Nat) : (s.entryWrite a bs v).host.vecs = s.host.vecs := by
  unfold State.entryWrite
  split <;> rfl
@[simp] theorem State.entryWrite_host_link (s : State) (a : Nat) (bs : List Byte) (v : Nat) : (s.entryWrite a bs v).host.link = s.host.link := by
  unfold State.entryWrite
  split <;> rfl
@[simp] theorem State.entryWrite_host_coresDown (s : State) (a : Nat) (bs : List Byte) (v : Nat) : (s.entryWrite a bs v).host.coresDown = s.host.coresDown := by
  unfold State.entryWrite
  split <;> rfl
@[simp] theorem State.entryWrite_host_coreCause (s : State) (a : Nat) (bs : List Byte) (v : Nat) : (s.entryWrite a bs v).host.coreCause = s.host.coreCause := by
  unfold State.entryWrite
  split <;> rfl
@[simp] theorem State.entryWrite_host_coreReset (s : State) (a : Nat) (bs : List Byte) (v : Nat) : (s.entryWrite a bs v).host.coreReset = s.host.coreReset := by
  unfold State.entryWrite
  split <;> rfl
@[simp] theorem State.entryWrite_host_heartbeat (s : State) (a : Nat) (bs : List Byte) (v : Nat) : (s.entryWrite a bs v).host.heartbeat = s.host.heartbeat := by
  unfold State.entryWrite
  split <;> rfl
@[simp] theorem State.entryWrite_host_beatAt (s : State) (a : Nat) (bs : List Byte) (v : Nat) : (s.entryWrite a bs v).host.beatAt = s.host.beatAt := by
  unfold State.entryWrite
  split <;> rfl
@[simp] theorem State.entryWrite_host_bulkTurn (s : State) (a : Nat) (bs : List Byte) (v : Nat) : (s.entryWrite a bs v).host.bulkTurn = s.host.bulkTurn := by
  unfold State.entryWrite
  split <;> rfl
@[simp] theorem State.entryWrite_host_lastRead (s : State) (a : Nat) (bs : List Byte) (v : Nat) : (s.entryWrite a bs v).host.lastRead = s.host.lastRead := by
  unfold State.entryWrite
  split <;> rfl
@[simp] theorem State.entryWrite_host_waits (s : State) (a : Nat) (bs : List Byte) (v : Nat) : (s.entryWrite a bs v).host.waits = s.host.waits := by
  unfold State.entryWrite
  split <;> rfl
@[simp] theorem State.entryWrite_host_spillDropping (s : State) (a : Nat) (bs : List Byte) (v : Nat) : (s.entryWrite a bs v).host.spillDropping = s.host.spillDropping := by
  unfold State.entryWrite
  split <;> rfl

/-! ### slotsWrite: the attachment -/

@[simp] theorem State.slotsWrite_host_nextCid (s : State) (r v n : Nat) (bs : List Byte) : (s.slotsWrite r v n bs).host.nextCid = s.host.nextCid := by
  induction n generalizing s bs with
  | zero => rfl
  | succ n ih => simp only [State.slotsWrite, ih, State.updRing_host_nextCid, State.entryWrite_host_nextCid]
@[simp] theorem State.slotsWrite_host_outst (s : State) (r v n : Nat) (bs : List Byte) : (s.slotsWrite r v n bs).host.outst = s.host.outst := by
  induction n generalizing s bs with
  | zero => rfl
  | succ n ih => simp only [State.slotsWrite, ih, State.updRing_host_outst, State.entryWrite_host_outst]
@[simp] theorem State.slotsWrite_host_store (s : State) (r v n : Nat) (bs : List Byte) : (s.slotsWrite r v n bs).host.store = s.host.store := by
  induction n generalizing s bs with
  | zero => rfl
  | succ n ih => simp only [State.slotsWrite, ih, State.updRing_host_store, State.entryWrite_host_store]
@[simp] theorem State.slotsWrite_host_events (s : State) (r v n : Nat) (bs : List Byte) : (s.slotsWrite r v n bs).host.events = s.host.events := by
  induction n generalizing s bs with
  | zero => rfl
  | succ n ih => simp only [State.slotsWrite, ih, State.updRing_host_events, State.entryWrite_host_events]
@[simp] theorem State.slotsWrite_host_evWait (s : State) (r v n : Nat) (bs : List Byte) : (s.slotsWrite r v n bs).host.evWait = s.host.evWait := by
  induction n generalizing s bs with
  | zero => rfl
  | succ n ih => simp only [State.slotsWrite, ih, State.updRing_host_evWait, State.entryWrite_host_evWait]
@[simp] theorem State.slotsWrite_host_evFull (s : State) (r v n : Nat) (bs : List Byte) : (s.slotsWrite r v n bs).host.evFull = s.host.evFull := by
  induction n generalizing s bs with
  | zero => rfl
  | succ n ih => simp only [State.slotsWrite, ih, State.updRing_host_evFull, State.entryWrite_host_evFull]
@[simp] theorem State.slotsWrite_host_vecs (s : State) (r v n : Nat) (bs : List Byte) : (s.slotsWrite r v n bs).host.vecs = s.host.vecs := by
  induction n generalizing s bs with
  | zero => rfl
  | succ n ih => simp only [State.slotsWrite, ih, State.updRing_host_vecs, State.entryWrite_host_vecs]
@[simp] theorem State.slotsWrite_host_link (s : State) (r v n : Nat) (bs : List Byte) : (s.slotsWrite r v n bs).host.link = s.host.link := by
  induction n generalizing s bs with
  | zero => rfl
  | succ n ih => simp only [State.slotsWrite, ih, State.updRing_host_link, State.entryWrite_host_link]
@[simp] theorem State.slotsWrite_host_coresDown (s : State) (r v n : Nat) (bs : List Byte) : (s.slotsWrite r v n bs).host.coresDown = s.host.coresDown := by
  induction n generalizing s bs with
  | zero => rfl
  | succ n ih => simp only [State.slotsWrite, ih, State.updRing_host_coresDown, State.entryWrite_host_coresDown]
@[simp] theorem State.slotsWrite_host_coreCause (s : State) (r v n : Nat) (bs : List Byte) : (s.slotsWrite r v n bs).host.coreCause = s.host.coreCause := by
  induction n generalizing s bs with
  | zero => rfl
  | succ n ih => simp only [State.slotsWrite, ih, State.updRing_host_coreCause, State.entryWrite_host_coreCause]
@[simp] theorem State.slotsWrite_host_coreReset (s : State) (r v n : Nat) (bs : List Byte) : (s.slotsWrite r v n bs).host.coreReset = s.host.coreReset := by
  induction n generalizing s bs with
  | zero => rfl
  | succ n ih => simp only [State.slotsWrite, ih, State.updRing_host_coreReset, State.entryWrite_host_coreReset]
@[simp] theorem State.slotsWrite_host_heartbeat (s : State) (r v n : Nat) (bs : List Byte) : (s.slotsWrite r v n bs).host.heartbeat = s.host.heartbeat := by
  induction n generalizing s bs with
  | zero => rfl
  | succ n ih => simp only [State.slotsWrite, ih, State.updRing_host_heartbeat, State.entryWrite_host_heartbeat]
@[simp] theorem State.slotsWrite_host_beatAt (s : State) (r v n : Nat) (bs : List Byte) : (s.slotsWrite r v n bs).host.beatAt = s.host.beatAt := by
  induction n generalizing s bs with
  | zero => rfl
  | succ n ih => simp only [State.slotsWrite, ih, State.updRing_host_beatAt, State.entryWrite_host_beatAt]
@[simp] theorem State.slotsWrite_host_bulkTurn (s : State) (r v n : Nat) (bs : List Byte) : (s.slotsWrite r v n bs).host.bulkTurn = s.host.bulkTurn := by
  induction n generalizing s bs with
  | zero => rfl
  | succ n ih => simp only [State.slotsWrite, ih, State.updRing_host_bulkTurn, State.entryWrite_host_bulkTurn]
@[simp] theorem State.slotsWrite_host_lastRead (s : State) (r v n : Nat) (bs : List Byte) : (s.slotsWrite r v n bs).host.lastRead = s.host.lastRead := by
  induction n generalizing s bs with
  | zero => rfl
  | succ n ih => simp only [State.slotsWrite, ih, State.updRing_host_lastRead, State.entryWrite_host_lastRead]
@[simp] theorem State.slotsWrite_host_waits (s : State) (r v n : Nat) (bs : List Byte) : (s.slotsWrite r v n bs).host.waits = s.host.waits := by
  induction n generalizing s bs with
  | zero => rfl
  | succ n ih => simp only [State.slotsWrite, ih, State.updRing_host_waits, State.entryWrite_host_waits]
@[simp] theorem State.slotsWrite_host_spillDropping (s : State) (r v n : Nat) (bs : List Byte) : (s.slotsWrite r v n bs).host.spillDropping = s.host.spillDropping := by
  induction n generalizing s bs with
  | zero => rfl
  | succ n ih => simp only [State.slotsWrite, ih, State.updRing_host_spillDropping, State.entryWrite_host_spillDropping]

/-! ### writeEvent: the attachment -/

@[simp] theorem State.writeEvent_host_nextCid (s : State) (x : Nat) (d : Bool) : (s.writeEvent x d).host.nextCid = s.host.nextCid := by
  simp only [State.writeEvent, State.signal_host_nextCid, State.updEv_host_nextCid, State.slotsWrite_host_nextCid]
@[simp] theorem State.writeEvent_host_outst (s : State) (x : Nat) (d : Bool) : (s.writeEvent x d).host.outst = s.host.outst := by
  simp only [State.writeEvent, State.signal_host_outst, State.updEv_host_outst, State.slotsWrite_host_outst]
@[simp] theorem State.writeEvent_host_store (s : State) (x : Nat) (d : Bool) : (s.writeEvent x d).host.store = s.host.store := by
  simp only [State.writeEvent, State.signal_host_store, State.updEv_host_store, State.slotsWrite_host_store]
@[simp] theorem State.writeEvent_host_evWait (s : State) (x : Nat) (d : Bool) : (s.writeEvent x d).host.evWait = s.host.evWait := by
  simp only [State.writeEvent, State.signal_host_evWait, State.updEv_host_evWait, State.slotsWrite_host_evWait]
@[simp] theorem State.writeEvent_host_evFull (s : State) (x : Nat) (d : Bool) : (s.writeEvent x d).host.evFull = s.host.evFull := by
  simp only [State.writeEvent, State.signal_host_evFull, State.updEv_host_evFull, State.slotsWrite_host_evFull]
@[simp] theorem State.writeEvent_host_link (s : State) (x : Nat) (d : Bool) : (s.writeEvent x d).host.link = s.host.link := by
  simp only [State.writeEvent, State.signal_host_link, State.updEv_host_link, State.slotsWrite_host_link]
@[simp] theorem State.writeEvent_host_coresDown (s : State) (x : Nat) (d : Bool) : (s.writeEvent x d).host.coresDown = s.host.coresDown := by
  simp only [State.writeEvent, State.signal_host_coresDown, State.updEv_host_coresDown, State.slotsWrite_host_coresDown]
@[simp] theorem State.writeEvent_host_coreCause (s : State) (x : Nat) (d : Bool) : (s.writeEvent x d).host.coreCause = s.host.coreCause := by
  simp only [State.writeEvent, State.signal_host_coreCause, State.updEv_host_coreCause, State.slotsWrite_host_coreCause]
@[simp] theorem State.writeEvent_host_coreReset (s : State) (x : Nat) (d : Bool) : (s.writeEvent x d).host.coreReset = s.host.coreReset := by
  simp only [State.writeEvent, State.signal_host_coreReset, State.updEv_host_coreReset, State.slotsWrite_host_coreReset]
@[simp] theorem State.writeEvent_host_heartbeat (s : State) (x : Nat) (d : Bool) : (s.writeEvent x d).host.heartbeat = s.host.heartbeat := by
  simp only [State.writeEvent, State.signal_host_heartbeat, State.updEv_host_heartbeat, State.slotsWrite_host_heartbeat]
@[simp] theorem State.writeEvent_host_beatAt (s : State) (x : Nat) (d : Bool) : (s.writeEvent x d).host.beatAt = s.host.beatAt := by
  simp only [State.writeEvent, State.signal_host_beatAt, State.updEv_host_beatAt, State.slotsWrite_host_beatAt]
@[simp] theorem State.writeEvent_host_bulkTurn (s : State) (x : Nat) (d : Bool) : (s.writeEvent x d).host.bulkTurn = s.host.bulkTurn := by
  simp only [State.writeEvent, State.signal_host_bulkTurn, State.updEv_host_bulkTurn, State.slotsWrite_host_bulkTurn]
@[simp] theorem State.writeEvent_host_lastRead (s : State) (x : Nat) (d : Bool) : (s.writeEvent x d).host.lastRead = s.host.lastRead := by
  simp only [State.writeEvent, State.signal_host_lastRead, State.updEv_host_lastRead, State.slotsWrite_host_lastRead]
@[simp] theorem State.writeEvent_host_waits (s : State) (x : Nat) (d : Bool) : (s.writeEvent x d).host.waits = s.host.waits := by
  simp only [State.writeEvent, State.signal_host_waits, State.updEv_host_waits, State.slotsWrite_host_waits]
@[simp] theorem State.writeEvent_host_spillDropping (s : State) (x : Nat) (d : Bool) : (s.writeEvent x d).host.spillDropping = s.host.spillDropping := by
  simp only [State.writeEvent, State.signal_host_spillDropping, State.updEv_host_spillDropping, State.slotsWrite_host_spillDropping]

/-! ### readyEvent: the attachment -/

@[simp] theorem State.readyEvent_host_nextCid (s : State) (x : Nat) : (s.readyEvent x).host.nextCid = s.host.nextCid := by
  unfold State.readyEvent
  split
  · simp
  · rfl
@[simp] theorem State.readyEvent_host_outst (s : State) (x : Nat) : (s.readyEvent x).host.outst = s.host.outst := by
  unfold State.readyEvent
  split
  · simp
  · rfl
@[simp] theorem State.readyEvent_host_store (s : State) (x : Nat) : (s.readyEvent x).host.store = s.host.store := by
  unfold State.readyEvent
  split
  · simp
  · rfl
@[simp] theorem State.readyEvent_host_link (s : State) (x : Nat) : (s.readyEvent x).host.link = s.host.link := by
  unfold State.readyEvent
  split
  · simp
  · rfl
@[simp] theorem State.readyEvent_host_coresDown (s : State) (x : Nat) : (s.readyEvent x).host.coresDown = s.host.coresDown := by
  unfold State.readyEvent
  split
  · simp
  · rfl
@[simp] theorem State.readyEvent_host_coreCause (s : State) (x : Nat) : (s.readyEvent x).host.coreCause = s.host.coreCause := by
  unfold State.readyEvent
  split
  · simp
  · rfl
@[simp] theorem State.readyEvent_host_coreReset (s : State) (x : Nat) : (s.readyEvent x).host.coreReset = s.host.coreReset := by
  unfold State.readyEvent
  split
  · simp
  · rfl
@[simp] theorem State.readyEvent_host_heartbeat (s : State) (x : Nat) : (s.readyEvent x).host.heartbeat = s.host.heartbeat := by
  unfold State.readyEvent
  split
  · simp
  · rfl
@[simp] theorem State.readyEvent_host_beatAt (s : State) (x : Nat) : (s.readyEvent x).host.beatAt = s.host.beatAt := by
  unfold State.readyEvent
  split
  · simp
  · rfl
@[simp] theorem State.readyEvent_host_bulkTurn (s : State) (x : Nat) : (s.readyEvent x).host.bulkTurn = s.host.bulkTurn := by
  unfold State.readyEvent
  split
  · simp
  · rfl
@[simp] theorem State.readyEvent_host_lastRead (s : State) (x : Nat) : (s.readyEvent x).host.lastRead = s.host.lastRead := by
  unfold State.readyEvent
  split
  · simp
  · rfl
@[simp] theorem State.readyEvent_host_waits (s : State) (x : Nat) : (s.readyEvent x).host.waits = s.host.waits := by
  unfold State.readyEvent
  split
  · simp
  · rfl
@[simp] theorem State.readyEvent_host_spillDropping (s : State) (x : Nat) : (s.readyEvent x).host.spillDropping = s.host.spillDropping := by
  unfold State.readyEvent
  split
  · simp
  · rfl

/-! ### raiseEvent: the attachment -/

@[simp] theorem State.raiseEvent_host_nextCid (s : State) (x d : Nat) : (s.raiseEvent x d).host.nextCid = s.host.nextCid := by
  unfold State.raiseEvent
  dsimp only
  split
  · rfl
  · split
    · rfl
    · simp
@[simp] theorem State.raiseEvent_host_outst (s : State) (x d : Nat) : (s.raiseEvent x d).host.outst = s.host.outst := by
  unfold State.raiseEvent
  dsimp only
  split
  · rfl
  · split
    · rfl
    · simp
@[simp] theorem State.raiseEvent_host_store (s : State) (x d : Nat) : (s.raiseEvent x d).host.store = s.host.store := by
  unfold State.raiseEvent
  dsimp only
  split
  · rfl
  · split
    · rfl
    · simp
@[simp] theorem State.raiseEvent_host_link (s : State) (x d : Nat) : (s.raiseEvent x d).host.link = s.host.link := by
  unfold State.raiseEvent
  dsimp only
  split
  · rfl
  · split
    · rfl
    · simp
@[simp] theorem State.raiseEvent_host_coresDown (s : State) (x d : Nat) : (s.raiseEvent x d).host.coresDown = s.host.coresDown := by
  unfold State.raiseEvent
  dsimp only
  split
  · rfl
  · split
    · rfl
    · simp
@[simp] theorem State.raiseEvent_host_coreCause (s : State) (x d : Nat) : (s.raiseEvent x d).host.coreCause = s.host.coreCause := by
  unfold State.raiseEvent
  dsimp only
  split
  · rfl
  · split
    · rfl
    · simp
@[simp] theorem State.raiseEvent_host_coreReset (s : State) (x d : Nat) : (s.raiseEvent x d).host.coreReset = s.host.coreReset := by
  unfold State.raiseEvent
  dsimp only
  split
  · rfl
  · split
    · rfl
    · simp
@[simp] theorem State.raiseEvent_host_heartbeat (s : State) (x d : Nat) : (s.raiseEvent x d).host.heartbeat = s.host.heartbeat := by
  unfold State.raiseEvent
  dsimp only
  split
  · rfl
  · split
    · rfl
    · simp
@[simp] theorem State.raiseEvent_host_beatAt (s : State) (x d : Nat) : (s.raiseEvent x d).host.beatAt = s.host.beatAt := by
  unfold State.raiseEvent
  dsimp only
  split
  · rfl
  · split
    · rfl
    · simp
@[simp] theorem State.raiseEvent_host_bulkTurn (s : State) (x d : Nat) : (s.raiseEvent x d).host.bulkTurn = s.host.bulkTurn := by
  unfold State.raiseEvent
  dsimp only
  split
  · rfl
  · split
    · rfl
    · simp
@[simp] theorem State.raiseEvent_host_lastRead (s : State) (x d : Nat) : (s.raiseEvent x d).host.lastRead = s.host.lastRead := by
  unfold State.raiseEvent
  dsimp only
  split
  · rfl
  · split
    · rfl
    · simp
@[simp] theorem State.raiseEvent_host_waits (s : State) (x d : Nat) : (s.raiseEvent x d).host.waits = s.host.waits := by
  unfold State.raiseEvent
  dsimp only
  split
  · rfl
  · split
    · rfl
    · simp
@[simp] theorem State.raiseEvent_host_spillDropping (s : State) (x d : Nat) : (s.raiseEvent x d).host.spillDropping = s.host.spillDropping := by
  unfold State.raiseEvent
  dsimp only
  split
  · rfl
  · split
    · rfl
    · simp

/-! ### raise: the attachment -/

@[simp] theorem State.raise_host_nextCid (s : State) (e : Ev) (d : Nat) : (s.raise e d).host.nextCid = s.host.nextCid := by
  simp only [State.raise, State.raiseFault_host, State.raiseEvent_host_nextCid]
@[simp] theorem State.raise_host_outst (s : State) (e : Ev) (d : Nat) : (s.raise e d).host.outst = s.host.outst := by
  simp only [State.raise, State.raiseFault_host, State.raiseEvent_host_outst]
@[simp] theorem State.raise_host_store (s : State) (e : Ev) (d : Nat) : (s.raise e d).host.store = s.host.store := by
  simp only [State.raise, State.raiseFault_host, State.raiseEvent_host_store]
@[simp] theorem State.raise_host_link (s : State) (e : Ev) (d : Nat) : (s.raise e d).host.link = s.host.link := by
  simp only [State.raise, State.raiseFault_host, State.raiseEvent_host_link]
@[simp] theorem State.raise_host_coresDown (s : State) (e : Ev) (d : Nat) : (s.raise e d).host.coresDown = s.host.coresDown := by
  simp only [State.raise, State.raiseFault_host, State.raiseEvent_host_coresDown]
@[simp] theorem State.raise_host_coreCause (s : State) (e : Ev) (d : Nat) : (s.raise e d).host.coreCause = s.host.coreCause := by
  simp only [State.raise, State.raiseFault_host, State.raiseEvent_host_coreCause]
@[simp] theorem State.raise_host_coreReset (s : State) (e : Ev) (d : Nat) : (s.raise e d).host.coreReset = s.host.coreReset := by
  simp only [State.raise, State.raiseFault_host, State.raiseEvent_host_coreReset]
@[simp] theorem State.raise_host_heartbeat (s : State) (e : Ev) (d : Nat) : (s.raise e d).host.heartbeat = s.host.heartbeat := by
  simp only [State.raise, State.raiseFault_host, State.raiseEvent_host_heartbeat]
@[simp] theorem State.raise_host_beatAt (s : State) (e : Ev) (d : Nat) : (s.raise e d).host.beatAt = s.host.beatAt := by
  simp only [State.raise, State.raiseFault_host, State.raiseEvent_host_beatAt]
@[simp] theorem State.raise_host_bulkTurn (s : State) (e : Ev) (d : Nat) : (s.raise e d).host.bulkTurn = s.host.bulkTurn := by
  simp only [State.raise, State.raiseFault_host, State.raiseEvent_host_bulkTurn]
@[simp] theorem State.raise_host_lastRead (s : State) (e : Ev) (d : Nat) : (s.raise e d).host.lastRead = s.host.lastRead := by
  simp only [State.raise, State.raiseFault_host, State.raiseEvent_host_lastRead]
@[simp] theorem State.raise_host_waits (s : State) (e : Ev) (d : Nat) : (s.raise e d).host.waits = s.host.waits := by
  simp only [State.raise, State.raiseFault_host, State.raiseEvent_host_waits]
@[simp] theorem State.raise_host_spillDropping (s : State) (e : Ev) (d : Nat) : (s.raise e d).host.spillDropping = s.host.spillDropping := by
  simp only [State.raise, State.raiseFault_host, State.raiseEvent_host_spillDropping]

/-! ### count: the attachment -/

@[simp] theorem State.count_host_nextCid (s : State) (c : Ctr) (i n : Nat) : (s.count c i n).host.nextCid = s.host.nextCid := by
  unfold State.count
  dsimp only
  split <;> simp
@[simp] theorem State.count_host_outst (s : State) (c : Ctr) (i n : Nat) : (s.count c i n).host.outst = s.host.outst := by
  unfold State.count
  dsimp only
  split <;> simp
@[simp] theorem State.count_host_store (s : State) (c : Ctr) (i n : Nat) : (s.count c i n).host.store = s.host.store := by
  unfold State.count
  dsimp only
  split <;> simp
@[simp] theorem State.count_host_link (s : State) (c : Ctr) (i n : Nat) : (s.count c i n).host.link = s.host.link := by
  unfold State.count
  dsimp only
  split <;> simp
@[simp] theorem State.count_host_coresDown (s : State) (c : Ctr) (i n : Nat) : (s.count c i n).host.coresDown = s.host.coresDown := by
  unfold State.count
  dsimp only
  split <;> simp
@[simp] theorem State.count_host_coreCause (s : State) (c : Ctr) (i n : Nat) : (s.count c i n).host.coreCause = s.host.coreCause := by
  unfold State.count
  dsimp only
  split <;> simp
@[simp] theorem State.count_host_coreReset (s : State) (c : Ctr) (i n : Nat) : (s.count c i n).host.coreReset = s.host.coreReset := by
  unfold State.count
  dsimp only
  split <;> simp
@[simp] theorem State.count_host_heartbeat (s : State) (c : Ctr) (i n : Nat) : (s.count c i n).host.heartbeat = s.host.heartbeat := by
  unfold State.count
  dsimp only
  split <;> simp
@[simp] theorem State.count_host_beatAt (s : State) (c : Ctr) (i n : Nat) : (s.count c i n).host.beatAt = s.host.beatAt := by
  unfold State.count
  dsimp only
  split <;> simp
@[simp] theorem State.count_host_bulkTurn (s : State) (c : Ctr) (i n : Nat) : (s.count c i n).host.bulkTurn = s.host.bulkTurn := by
  unfold State.count
  dsimp only
  split <;> simp
@[simp] theorem State.count_host_lastRead (s : State) (c : Ctr) (i n : Nat) : (s.count c i n).host.lastRead = s.host.lastRead := by
  unfold State.count
  dsimp only
  split <;> simp
@[simp] theorem State.count_host_waits (s : State) (c : Ctr) (i n : Nat) : (s.count c i n).host.waits = s.host.waits := by
  unfold State.count
  dsimp only
  split <;> simp
@[simp] theorem State.count_host_spillDropping (s : State) (c : Ctr) (i n : Nat) : (s.count c i n).host.spillDropping = s.host.spillDropping := by
  unfold State.count
  dsimp only
  split <;> simp

/-! ### fetch: the attachment -/

@[simp] theorem State.fetch_host_store (s : State) (op : Nat) (c : Cmd) : (s.fetch op c).host.store = s.host.store := rfl
@[simp] theorem State.fetch_host_events (s : State) (op : Nat) (c : Cmd) : (s.fetch op c).host.events = s.host.events := rfl
@[simp] theorem State.fetch_host_evWait (s : State) (op : Nat) (c : Cmd) : (s.fetch op c).host.evWait = s.host.evWait := rfl
@[simp] theorem State.fetch_host_evFull (s : State) (op : Nat) (c : Cmd) : (s.fetch op c).host.evFull = s.host.evFull := rfl
@[simp] theorem State.fetch_host_vecs (s : State) (op : Nat) (c : Cmd) : (s.fetch op c).host.vecs = s.host.vecs := rfl
@[simp] theorem State.fetch_host_link (s : State) (op : Nat) (c : Cmd) : (s.fetch op c).host.link = s.host.link := rfl
@[simp] theorem State.fetch_host_coresDown (s : State) (op : Nat) (c : Cmd) : (s.fetch op c).host.coresDown = s.host.coresDown := rfl
@[simp] theorem State.fetch_host_coreCause (s : State) (op : Nat) (c : Cmd) : (s.fetch op c).host.coreCause = s.host.coreCause := rfl
@[simp] theorem State.fetch_host_coreReset (s : State) (op : Nat) (c : Cmd) : (s.fetch op c).host.coreReset = s.host.coreReset := rfl
@[simp] theorem State.fetch_host_heartbeat (s : State) (op : Nat) (c : Cmd) : (s.fetch op c).host.heartbeat = s.host.heartbeat := rfl
@[simp] theorem State.fetch_host_beatAt (s : State) (op : Nat) (c : Cmd) : (s.fetch op c).host.beatAt = s.host.beatAt := rfl
@[simp] theorem State.fetch_host_lastRead (s : State) (op : Nat) (c : Cmd) : (s.fetch op c).host.lastRead = s.host.lastRead := rfl
@[simp] theorem State.fetch_host_waits (s : State) (op : Nat) (c : Cmd) : (s.fetch op c).host.waits = s.host.waits := rfl
@[simp] theorem State.fetch_host_spill (s : State) (op : Nat) (c : Cmd) : (s.fetch op c).host.spill = s.host.spill := rfl
@[simp] theorem State.fetch_host_spillUsed (s : State) (op : Nat) (c : Cmd) : (s.fetch op c).host.spillUsed = s.host.spillUsed := rfl
@[simp] theorem State.fetch_host_spillDropping (s : State) (op : Nat) (c : Cmd) : (s.fetch op c).host.spillDropping = s.host.spillDropping := rfl

/-! ### replyAt: the attachment -/

@[simp] theorem State.replyAt_host_rings (s : State) (cid st d : Nat) (ws : List Word) (l : Nat) : (s.replyAt cid st d ws l).host.rings = s.host.rings := by
  unfold State.replyAt
  cases s.outOf cid with
  | none => rfl
  | some o =>
    dsimp only
    split
    · rfl
    · split <;> rfl
@[simp] theorem State.replyAt_host_nextCid (s : State) (cid st d : Nat) (ws : List Word) (l : Nat) : (s.replyAt cid st d ws l).host.nextCid = s.host.nextCid := by
  unfold State.replyAt
  cases s.outOf cid with
  | none => rfl
  | some o =>
    dsimp only
    split
    · rfl
    · split <;> rfl
@[simp] theorem State.replyAt_host_events (s : State) (cid st d : Nat) (ws : List Word) (l : Nat) : (s.replyAt cid st d ws l).host.events = s.host.events := by
  unfold State.replyAt
  cases s.outOf cid with
  | none => rfl
  | some o =>
    dsimp only
    split
    · rfl
    · split <;> rfl
@[simp] theorem State.replyAt_host_evWait (s : State) (cid st d : Nat) (ws : List Word) (l : Nat) : (s.replyAt cid st d ws l).host.evWait = s.host.evWait := by
  unfold State.replyAt
  cases s.outOf cid with
  | none => rfl
  | some o =>
    dsimp only
    split
    · rfl
    · split <;> rfl
@[simp] theorem State.replyAt_host_evFull (s : State) (cid st d : Nat) (ws : List Word) (l : Nat) : (s.replyAt cid st d ws l).host.evFull = s.host.evFull := by
  unfold State.replyAt
  cases s.outOf cid with
  | none => rfl
  | some o =>
    dsimp only
    split
    · rfl
    · split <;> rfl
@[simp] theorem State.replyAt_host_vecs (s : State) (cid st d : Nat) (ws : List Word) (l : Nat) : (s.replyAt cid st d ws l).host.vecs = s.host.vecs := by
  unfold State.replyAt
  cases s.outOf cid with
  | none => rfl
  | some o =>
    dsimp only
    split
    · rfl
    · split <;> rfl
@[simp] theorem State.replyAt_host_link (s : State) (cid st d : Nat) (ws : List Word) (l : Nat) : (s.replyAt cid st d ws l).host.link = s.host.link := by
  unfold State.replyAt
  cases s.outOf cid with
  | none => rfl
  | some o =>
    dsimp only
    split
    · rfl
    · split <;> rfl
@[simp] theorem State.replyAt_host_coresDown (s : State) (cid st d : Nat) (ws : List Word) (l : Nat) : (s.replyAt cid st d ws l).host.coresDown = s.host.coresDown := by
  unfold State.replyAt
  cases s.outOf cid with
  | none => rfl
  | some o =>
    dsimp only
    split
    · rfl
    · split <;> rfl
@[simp] theorem State.replyAt_host_coreCause (s : State) (cid st d : Nat) (ws : List Word) (l : Nat) : (s.replyAt cid st d ws l).host.coreCause = s.host.coreCause := by
  unfold State.replyAt
  cases s.outOf cid with
  | none => rfl
  | some o =>
    dsimp only
    split
    · rfl
    · split <;> rfl
@[simp] theorem State.replyAt_host_coreReset (s : State) (cid st d : Nat) (ws : List Word) (l : Nat) : (s.replyAt cid st d ws l).host.coreReset = s.host.coreReset := by
  unfold State.replyAt
  cases s.outOf cid with
  | none => rfl
  | some o =>
    dsimp only
    split
    · rfl
    · split <;> rfl
@[simp] theorem State.replyAt_host_heartbeat (s : State) (cid st d : Nat) (ws : List Word) (l : Nat) : (s.replyAt cid st d ws l).host.heartbeat = s.host.heartbeat := by
  unfold State.replyAt
  cases s.outOf cid with
  | none => rfl
  | some o =>
    dsimp only
    split
    · rfl
    · split <;> rfl
@[simp] theorem State.replyAt_host_beatAt (s : State) (cid st d : Nat) (ws : List Word) (l : Nat) : (s.replyAt cid st d ws l).host.beatAt = s.host.beatAt := by
  unfold State.replyAt
  cases s.outOf cid with
  | none => rfl
  | some o =>
    dsimp only
    split
    · rfl
    · split <;> rfl
@[simp] theorem State.replyAt_host_bulkTurn (s : State) (cid st d : Nat) (ws : List Word) (l : Nat) : (s.replyAt cid st d ws l).host.bulkTurn = s.host.bulkTurn := by
  unfold State.replyAt
  cases s.outOf cid with
  | none => rfl
  | some o =>
    dsimp only
    split
    · rfl
    · split <;> rfl
@[simp] theorem State.replyAt_host_lastRead (s : State) (cid st d : Nat) (ws : List Word) (l : Nat) : (s.replyAt cid st d ws l).host.lastRead = s.host.lastRead := by
  unfold State.replyAt
  cases s.outOf cid with
  | none => rfl
  | some o =>
    dsimp only
    split
    · rfl
    · split <;> rfl
@[simp] theorem State.replyAt_host_waits (s : State) (cid st d : Nat) (ws : List Word) (l : Nat) : (s.replyAt cid st d ws l).host.waits = s.host.waits := by
  unfold State.replyAt
  cases s.outOf cid with
  | none => rfl
  | some o =>
    dsimp only
    split
    · rfl
    · split <;> rfl
@[simp] theorem State.replyAt_host_spill (s : State) (cid st d : Nat) (ws : List Word) (l : Nat) : (s.replyAt cid st d ws l).host.spill = s.host.spill := by
  unfold State.replyAt
  cases s.outOf cid with
  | none => rfl
  | some o =>
    dsimp only
    split
    · rfl
    · split <;> rfl
@[simp] theorem State.replyAt_host_spillUsed (s : State) (cid st d : Nat) (ws : List Word) (l : Nat) : (s.replyAt cid st d ws l).host.spillUsed = s.host.spillUsed := by
  unfold State.replyAt
  cases s.outOf cid with
  | none => rfl
  | some o =>
    dsimp only
    split
    · rfl
    · split <;> rfl
@[simp] theorem State.replyAt_host_spillDropping (s : State) (cid st d : Nat) (ws : List Word) (l : Nat) : (s.replyAt cid st d ws l).host.spillDropping = s.host.spillDropping := by
  unfold State.replyAt
  cases s.outOf cid with
  | none => rfl
  | some o =>
    dsimp only
    split
    · rfl
    · split <;> rfl

/-! ### reply: the attachment -/

@[simp] theorem State.reply_host_rings (s : State) (cid st d : Nat) (ws : List Word) : (s.reply cid st d ws).host.rings = s.host.rings := by
  simp only [State.reply, State.replyAt_host_rings]
@[simp] theorem State.reply_host_nextCid (s : State) (cid st d : Nat) (ws : List Word) : (s.reply cid st d ws).host.nextCid = s.host.nextCid := by
  simp only [State.reply, State.replyAt_host_nextCid]
@[simp] theorem State.reply_host_events (s : State) (cid st d : Nat) (ws : List Word) : (s.reply cid st d ws).host.events = s.host.events := by
  simp only [State.reply, State.replyAt_host_events]
@[simp] theorem State.reply_host_evWait (s : State) (cid st d : Nat) (ws : List Word) : (s.reply cid st d ws).host.evWait = s.host.evWait := by
  simp only [State.reply, State.replyAt_host_evWait]
@[simp] theorem State.reply_host_evFull (s : State) (cid st d : Nat) (ws : List Word) : (s.reply cid st d ws).host.evFull = s.host.evFull := by
  simp only [State.reply, State.replyAt_host_evFull]
@[simp] theorem State.reply_host_vecs (s : State) (cid st d : Nat) (ws : List Word) : (s.reply cid st d ws).host.vecs = s.host.vecs := by
  simp only [State.reply, State.replyAt_host_vecs]
@[simp] theorem State.reply_host_link (s : State) (cid st d : Nat) (ws : List Word) : (s.reply cid st d ws).host.link = s.host.link := by
  simp only [State.reply, State.replyAt_host_link]
@[simp] theorem State.reply_host_coresDown (s : State) (cid st d : Nat) (ws : List Word) : (s.reply cid st d ws).host.coresDown = s.host.coresDown := by
  simp only [State.reply, State.replyAt_host_coresDown]
@[simp] theorem State.reply_host_coreCause (s : State) (cid st d : Nat) (ws : List Word) : (s.reply cid st d ws).host.coreCause = s.host.coreCause := by
  simp only [State.reply, State.replyAt_host_coreCause]
@[simp] theorem State.reply_host_coreReset (s : State) (cid st d : Nat) (ws : List Word) : (s.reply cid st d ws).host.coreReset = s.host.coreReset := by
  simp only [State.reply, State.replyAt_host_coreReset]
@[simp] theorem State.reply_host_heartbeat (s : State) (cid st d : Nat) (ws : List Word) : (s.reply cid st d ws).host.heartbeat = s.host.heartbeat := by
  simp only [State.reply, State.replyAt_host_heartbeat]
@[simp] theorem State.reply_host_beatAt (s : State) (cid st d : Nat) (ws : List Word) : (s.reply cid st d ws).host.beatAt = s.host.beatAt := by
  simp only [State.reply, State.replyAt_host_beatAt]
@[simp] theorem State.reply_host_bulkTurn (s : State) (cid st d : Nat) (ws : List Word) : (s.reply cid st d ws).host.bulkTurn = s.host.bulkTurn := by
  simp only [State.reply, State.replyAt_host_bulkTurn]
@[simp] theorem State.reply_host_lastRead (s : State) (cid st d : Nat) (ws : List Word) : (s.reply cid st d ws).host.lastRead = s.host.lastRead := by
  simp only [State.reply, State.replyAt_host_lastRead]
@[simp] theorem State.reply_host_waits (s : State) (cid st d : Nat) (ws : List Word) : (s.reply cid st d ws).host.waits = s.host.waits := by
  simp only [State.reply, State.replyAt_host_waits]
@[simp] theorem State.reply_host_spill (s : State) (cid st d : Nat) (ws : List Word) : (s.reply cid st d ws).host.spill = s.host.spill := by
  simp only [State.reply, State.replyAt_host_spill]
@[simp] theorem State.reply_host_spillUsed (s : State) (cid st d : Nat) (ws : List Word) : (s.reply cid st d ws).host.spillUsed = s.host.spillUsed := by
  simp only [State.reply, State.replyAt_host_spillUsed]
@[simp] theorem State.reply_host_spillDropping (s : State) (cid st d : Nat) (ws : List Word) : (s.reply cid st d ws).host.spillDropping = s.host.spillDropping := by
  simp only [State.reply, State.replyAt_host_spillDropping]

/-! ### done: the attachment -/

@[simp] theorem State.done_host_rings (s : State) (cid : Nat) (ws : List Word) : (s.done cid ws).host.rings = s.host.rings := by
  simp only [State.done, State.reply_host_rings]
@[simp] theorem State.done_host_nextCid (s : State) (cid : Nat) (ws : List Word) : (s.done cid ws).host.nextCid = s.host.nextCid := by
  simp only [State.done, State.reply_host_nextCid]
@[simp] theorem State.done_host_events (s : State) (cid : Nat) (ws : List Word) : (s.done cid ws).host.events = s.host.events := by
  simp only [State.done, State.reply_host_events]
@[simp] theorem State.done_host_evWait (s : State) (cid : Nat) (ws : List Word) : (s.done cid ws).host.evWait = s.host.evWait := by
  simp only [State.done, State.reply_host_evWait]
@[simp] theorem State.done_host_evFull (s : State) (cid : Nat) (ws : List Word) : (s.done cid ws).host.evFull = s.host.evFull := by
  simp only [State.done, State.reply_host_evFull]
@[simp] theorem State.done_host_vecs (s : State) (cid : Nat) (ws : List Word) : (s.done cid ws).host.vecs = s.host.vecs := by
  simp only [State.done, State.reply_host_vecs]
@[simp] theorem State.done_host_link (s : State) (cid : Nat) (ws : List Word) : (s.done cid ws).host.link = s.host.link := by
  simp only [State.done, State.reply_host_link]
@[simp] theorem State.done_host_coresDown (s : State) (cid : Nat) (ws : List Word) : (s.done cid ws).host.coresDown = s.host.coresDown := by
  simp only [State.done, State.reply_host_coresDown]
@[simp] theorem State.done_host_coreCause (s : State) (cid : Nat) (ws : List Word) : (s.done cid ws).host.coreCause = s.host.coreCause := by
  simp only [State.done, State.reply_host_coreCause]
@[simp] theorem State.done_host_coreReset (s : State) (cid : Nat) (ws : List Word) : (s.done cid ws).host.coreReset = s.host.coreReset := by
  simp only [State.done, State.reply_host_coreReset]
@[simp] theorem State.done_host_heartbeat (s : State) (cid : Nat) (ws : List Word) : (s.done cid ws).host.heartbeat = s.host.heartbeat := by
  simp only [State.done, State.reply_host_heartbeat]
@[simp] theorem State.done_host_beatAt (s : State) (cid : Nat) (ws : List Word) : (s.done cid ws).host.beatAt = s.host.beatAt := by
  simp only [State.done, State.reply_host_beatAt]
@[simp] theorem State.done_host_bulkTurn (s : State) (cid : Nat) (ws : List Word) : (s.done cid ws).host.bulkTurn = s.host.bulkTurn := by
  simp only [State.done, State.reply_host_bulkTurn]
@[simp] theorem State.done_host_lastRead (s : State) (cid : Nat) (ws : List Word) : (s.done cid ws).host.lastRead = s.host.lastRead := by
  simp only [State.done, State.reply_host_lastRead]
@[simp] theorem State.done_host_waits (s : State) (cid : Nat) (ws : List Word) : (s.done cid ws).host.waits = s.host.waits := by
  simp only [State.done, State.reply_host_waits]
@[simp] theorem State.done_host_spill (s : State) (cid : Nat) (ws : List Word) : (s.done cid ws).host.spill = s.host.spill := by
  simp only [State.done, State.reply_host_spill]
@[simp] theorem State.done_host_spillUsed (s : State) (cid : Nat) (ws : List Word) : (s.done cid ws).host.spillUsed = s.host.spillUsed := by
  simp only [State.done, State.reply_host_spillUsed]
@[simp] theorem State.done_host_spillDropping (s : State) (cid : Nat) (ws : List Word) : (s.done cid ws).host.spillDropping = s.host.spillDropping := by
  simp only [State.done, State.reply_host_spillDropping]

/-! ### doneNow: the attachment -/

@[simp] theorem State.doneNow_host_rings (s : State) (cid : Nat) (ws : List Word) : (s.doneNow cid ws).host.rings = s.host.rings := by
  simp only [State.doneNow, State.reply_host_rings]
@[simp] theorem State.doneNow_host_nextCid (s : State) (cid : Nat) (ws : List Word) : (s.doneNow cid ws).host.nextCid = s.host.nextCid := by
  simp only [State.doneNow, State.reply_host_nextCid]
@[simp] theorem State.doneNow_host_events (s : State) (cid : Nat) (ws : List Word) : (s.doneNow cid ws).host.events = s.host.events := by
  simp only [State.doneNow, State.reply_host_events]
@[simp] theorem State.doneNow_host_evWait (s : State) (cid : Nat) (ws : List Word) : (s.doneNow cid ws).host.evWait = s.host.evWait := by
  simp only [State.doneNow, State.reply_host_evWait]
@[simp] theorem State.doneNow_host_evFull (s : State) (cid : Nat) (ws : List Word) : (s.doneNow cid ws).host.evFull = s.host.evFull := by
  simp only [State.doneNow, State.reply_host_evFull]
@[simp] theorem State.doneNow_host_vecs (s : State) (cid : Nat) (ws : List Word) : (s.doneNow cid ws).host.vecs = s.host.vecs := by
  simp only [State.doneNow, State.reply_host_vecs]
@[simp] theorem State.doneNow_host_link (s : State) (cid : Nat) (ws : List Word) : (s.doneNow cid ws).host.link = s.host.link := by
  simp only [State.doneNow, State.reply_host_link]
@[simp] theorem State.doneNow_host_coresDown (s : State) (cid : Nat) (ws : List Word) : (s.doneNow cid ws).host.coresDown = s.host.coresDown := by
  simp only [State.doneNow, State.reply_host_coresDown]
@[simp] theorem State.doneNow_host_coreCause (s : State) (cid : Nat) (ws : List Word) : (s.doneNow cid ws).host.coreCause = s.host.coreCause := by
  simp only [State.doneNow, State.reply_host_coreCause]
@[simp] theorem State.doneNow_host_coreReset (s : State) (cid : Nat) (ws : List Word) : (s.doneNow cid ws).host.coreReset = s.host.coreReset := by
  simp only [State.doneNow, State.reply_host_coreReset]
@[simp] theorem State.doneNow_host_heartbeat (s : State) (cid : Nat) (ws : List Word) : (s.doneNow cid ws).host.heartbeat = s.host.heartbeat := by
  simp only [State.doneNow, State.reply_host_heartbeat]
@[simp] theorem State.doneNow_host_beatAt (s : State) (cid : Nat) (ws : List Word) : (s.doneNow cid ws).host.beatAt = s.host.beatAt := by
  simp only [State.doneNow, State.reply_host_beatAt]
@[simp] theorem State.doneNow_host_bulkTurn (s : State) (cid : Nat) (ws : List Word) : (s.doneNow cid ws).host.bulkTurn = s.host.bulkTurn := by
  simp only [State.doneNow, State.reply_host_bulkTurn]
@[simp] theorem State.doneNow_host_lastRead (s : State) (cid : Nat) (ws : List Word) : (s.doneNow cid ws).host.lastRead = s.host.lastRead := by
  simp only [State.doneNow, State.reply_host_lastRead]
@[simp] theorem State.doneNow_host_waits (s : State) (cid : Nat) (ws : List Word) : (s.doneNow cid ws).host.waits = s.host.waits := by
  simp only [State.doneNow, State.reply_host_waits]
@[simp] theorem State.doneNow_host_spill (s : State) (cid : Nat) (ws : List Word) : (s.doneNow cid ws).host.spill = s.host.spill := by
  simp only [State.doneNow, State.reply_host_spill]
@[simp] theorem State.doneNow_host_spillUsed (s : State) (cid : Nat) (ws : List Word) : (s.doneNow cid ws).host.spillUsed = s.host.spillUsed := by
  simp only [State.doneNow, State.reply_host_spillUsed]
@[simp] theorem State.doneNow_host_spillDropping (s : State) (cid : Nat) (ws : List Word) : (s.doneNow cid ws).host.spillDropping = s.host.spillDropping := by
  simp only [State.doneNow, State.reply_host_spillDropping]

/-! ### accept: the attachment -/

@[simp] theorem State.accept_host_rings (s : State) (cid : Nat) : (s.accept cid).host.rings = s.host.rings := by
  simp only [State.accept, State.reply_host_rings]
@[simp] theorem State.accept_host_nextCid (s : State) (cid : Nat) : (s.accept cid).host.nextCid = s.host.nextCid := by
  simp only [State.accept, State.reply_host_nextCid]
@[simp] theorem State.accept_host_events (s : State) (cid : Nat) : (s.accept cid).host.events = s.host.events := by
  simp only [State.accept, State.reply_host_events]
@[simp] theorem State.accept_host_evWait (s : State) (cid : Nat) : (s.accept cid).host.evWait = s.host.evWait := by
  simp only [State.accept, State.reply_host_evWait]
@[simp] theorem State.accept_host_evFull (s : State) (cid : Nat) : (s.accept cid).host.evFull = s.host.evFull := by
  simp only [State.accept, State.reply_host_evFull]
@[simp] theorem State.accept_host_vecs (s : State) (cid : Nat) : (s.accept cid).host.vecs = s.host.vecs := by
  simp only [State.accept, State.reply_host_vecs]
@[simp] theorem State.accept_host_link (s : State) (cid : Nat) : (s.accept cid).host.link = s.host.link := by
  simp only [State.accept, State.reply_host_link]
@[simp] theorem State.accept_host_coresDown (s : State) (cid : Nat) : (s.accept cid).host.coresDown = s.host.coresDown := by
  simp only [State.accept, State.reply_host_coresDown]
@[simp] theorem State.accept_host_coreCause (s : State) (cid : Nat) : (s.accept cid).host.coreCause = s.host.coreCause := by
  simp only [State.accept, State.reply_host_coreCause]
@[simp] theorem State.accept_host_coreReset (s : State) (cid : Nat) : (s.accept cid).host.coreReset = s.host.coreReset := by
  simp only [State.accept, State.reply_host_coreReset]
@[simp] theorem State.accept_host_heartbeat (s : State) (cid : Nat) : (s.accept cid).host.heartbeat = s.host.heartbeat := by
  simp only [State.accept, State.reply_host_heartbeat]
@[simp] theorem State.accept_host_beatAt (s : State) (cid : Nat) : (s.accept cid).host.beatAt = s.host.beatAt := by
  simp only [State.accept, State.reply_host_beatAt]
@[simp] theorem State.accept_host_bulkTurn (s : State) (cid : Nat) : (s.accept cid).host.bulkTurn = s.host.bulkTurn := by
  simp only [State.accept, State.reply_host_bulkTurn]
@[simp] theorem State.accept_host_lastRead (s : State) (cid : Nat) : (s.accept cid).host.lastRead = s.host.lastRead := by
  simp only [State.accept, State.reply_host_lastRead]
@[simp] theorem State.accept_host_waits (s : State) (cid : Nat) : (s.accept cid).host.waits = s.host.waits := by
  simp only [State.accept, State.reply_host_waits]
@[simp] theorem State.accept_host_spill (s : State) (cid : Nat) : (s.accept cid).host.spill = s.host.spill := by
  simp only [State.accept, State.reply_host_spill]
@[simp] theorem State.accept_host_spillUsed (s : State) (cid : Nat) : (s.accept cid).host.spillUsed = s.host.spillUsed := by
  simp only [State.accept, State.reply_host_spillUsed]
@[simp] theorem State.accept_host_spillDropping (s : State) (cid : Nat) : (s.accept cid).host.spillDropping = s.host.spillDropping := by
  simp only [State.accept, State.reply_host_spillDropping]

/-! ### defer: the attachment -/

@[simp] theorem State.defer_host_nextCid (s : State) (cid : Nat) : (s.defer cid).host.nextCid = s.host.nextCid := by
  simp only [State.defer, State.count_host_nextCid, State.reply_host_nextCid]
@[simp] theorem State.defer_host_link (s : State) (cid : Nat) : (s.defer cid).host.link = s.host.link := by
  simp only [State.defer, State.count_host_link, State.reply_host_link]
@[simp] theorem State.defer_host_coresDown (s : State) (cid : Nat) : (s.defer cid).host.coresDown = s.host.coresDown := by
  simp only [State.defer, State.count_host_coresDown, State.reply_host_coresDown]
@[simp] theorem State.defer_host_coreCause (s : State) (cid : Nat) : (s.defer cid).host.coreCause = s.host.coreCause := by
  simp only [State.defer, State.count_host_coreCause, State.reply_host_coreCause]
@[simp] theorem State.defer_host_coreReset (s : State) (cid : Nat) : (s.defer cid).host.coreReset = s.host.coreReset := by
  simp only [State.defer, State.count_host_coreReset, State.reply_host_coreReset]
@[simp] theorem State.defer_host_heartbeat (s : State) (cid : Nat) : (s.defer cid).host.heartbeat = s.host.heartbeat := by
  simp only [State.defer, State.count_host_heartbeat, State.reply_host_heartbeat]
@[simp] theorem State.defer_host_beatAt (s : State) (cid : Nat) : (s.defer cid).host.beatAt = s.host.beatAt := by
  simp only [State.defer, State.count_host_beatAt, State.reply_host_beatAt]
@[simp] theorem State.defer_host_bulkTurn (s : State) (cid : Nat) : (s.defer cid).host.bulkTurn = s.host.bulkTurn := by
  simp only [State.defer, State.count_host_bulkTurn, State.reply_host_bulkTurn]
@[simp] theorem State.defer_host_lastRead (s : State) (cid : Nat) : (s.defer cid).host.lastRead = s.host.lastRead := by
  simp only [State.defer, State.count_host_lastRead, State.reply_host_lastRead]
@[simp] theorem State.defer_host_waits (s : State) (cid : Nat) : (s.defer cid).host.waits = s.host.waits := by
  simp only [State.defer, State.count_host_waits, State.reply_host_waits]
@[simp] theorem State.defer_host_spillDropping (s : State) (cid : Nat) : (s.defer cid).host.spillDropping = s.host.spillDropping := by
  simp only [State.defer, State.count_host_spillDropping, State.reply_host_spillDropping]

/-! ### raiseFault: the monitors -/

@[simp] theorem State.raiseFault_hlt_temps (s : State) (x d : Nat) : (s.raiseFault x d).hlt.temps = s.hlt.temps := by
  unfold State.raiseFault
  dsimp only
  split
  · rfl
  · split
    · rfl
    · split <;> rfl
@[simp] theorem State.raiseFault_hlt_tempMax (s : State) (x d : Nat) : (s.raiseFault x d).hlt.tempMax = s.hlt.tempMax := by
  unfold State.raiseFault
  dsimp only
  split
  · rfl
  · split
    · rfl
    · split <;> rfl
@[simp] theorem State.raiseFault_hlt_therm (s : State) (x d : Nat) : (s.raiseFault x d).hlt.therm = s.hlt.therm := by
  unfold State.raiseFault
  dsimp only
  split
  · rfl
  · split
    · rfl
    · split <;> rfl
@[simp] theorem State.raiseFault_hlt_belowSince (s : State) (x d : Nat) : (s.raiseFault x d).hlt.belowSince = s.hlt.belowSince := by
  unfold State.raiseFault
  dsimp only
  split
  · rfl
  · split
    · rfl
    · split <;> rfl
@[simp] theorem State.raiseFault_hlt_safeRequest (s : State) (x d : Nat) : (s.raiseFault x d).hlt.safeRequest = s.hlt.safeRequest := by
  unfold State.raiseFault
  dsimp only
  split
  · rfl
  · split
    · rfl
    · split <;> rfl
@[simp] theorem State.raiseFault_hlt_volts (s : State) (x d : Nat) : (s.raiseFault x d).hlt.volts = s.hlt.volts := by
  unfold State.raiseFault
  dsimp only
  split
  · rfl
  · split
    · rfl
    · split <;> rfl
@[simp] theorem State.raiseFault_hlt_proc (s : State) (x d : Nat) : (s.raiseFault x d).hlt.proc = s.hlt.proc := by
  unfold State.raiseFault
  dsimp only
  split
  · rfl
  · split
    · rfl
    · split <;> rfl
@[simp] theorem State.raiseFault_hlt_procRaised (s : State) (x d : Nat) : (s.raiseFault x d).hlt.procRaised = s.hlt.procRaised := by
  unfold State.raiseFault
  dsimp only
  split
  · rfl
  · split
    · rfl
    · split <;> rfl
@[simp] theorem State.raiseFault_hlt_clocks (s : State) (x d : Nat) : (s.raiseFault x d).hlt.clocks = s.hlt.clocks := by
  unfold State.raiseFault
  dsimp only
  split
  · rfl
  · split
    · rfl
    · split <;> rfl
@[simp] theorem State.raiseFault_hlt_ce (s : State) (x d : Nat) : (s.raiseFault x d).hlt.ce = s.hlt.ce := by
  unfold State.raiseFault
  dsimp only
  split
  · rfl
  · split
    · rfl
    · split <;> rfl
@[simp] theorem State.raiseFault_hlt_trims (s : State) (x d : Nat) : (s.raiseFault x d).hlt.trims = s.hlt.trims := by
  unfold State.raiseFault
  dsimp only
  split
  · rfl
  · split
    · rfl
    · split <;> rfl
@[simp] theorem State.raiseFault_hlt_trimRun (s : State) (x d : Nat) : (s.raiseFault x d).hlt.trimRun = s.hlt.trimRun := by
  unfold State.raiseFault
  dsimp only
  split
  · rfl
  · split
    · rfl
    · split <;> rfl
@[simp] theorem State.raiseFault_hlt_trimRuns (s : State) (x d : Nat) : (s.raiseFault x d).hlt.trimRuns = s.hlt.trimRuns := by
  unfold State.raiseFault
  dsimp only
  split
  · rfl
  · split
    · rfl
    · split <;> rfl
@[simp] theorem State.raiseFault_hlt_trimTime (s : State) (x d : Nat) : (s.raiseFault x d).hlt.trimTime = s.hlt.trimTime := by
  unfold State.raiseFault
  dsimp only
  split
  · rfl
  · split
    · rfl
    · split <;> rfl
@[simp] theorem State.raiseFault_hlt_scrubDue (s : State) (x d : Nat) : (s.raiseFault x d).hlt.scrubDue = s.hlt.scrubDue := by
  unfold State.raiseFault
  dsimp only
  split
  · rfl
  · split
    · rfl
    · split <;> rfl

/-! ### raise: the monitors -/

@[simp] theorem State.raise_hlt_temps (s : State) (e : Ev) (d : Nat) : (s.raise e d).hlt.temps = s.hlt.temps := by
  simp only [State.raise, State.raiseFault_hlt_temps, State.raiseEvent_hlt]
@[simp] theorem State.raise_hlt_tempMax (s : State) (e : Ev) (d : Nat) : (s.raise e d).hlt.tempMax = s.hlt.tempMax := by
  simp only [State.raise, State.raiseFault_hlt_tempMax, State.raiseEvent_hlt]
@[simp] theorem State.raise_hlt_therm (s : State) (e : Ev) (d : Nat) : (s.raise e d).hlt.therm = s.hlt.therm := by
  simp only [State.raise, State.raiseFault_hlt_therm, State.raiseEvent_hlt]
@[simp] theorem State.raise_hlt_belowSince (s : State) (e : Ev) (d : Nat) : (s.raise e d).hlt.belowSince = s.hlt.belowSince := by
  simp only [State.raise, State.raiseFault_hlt_belowSince, State.raiseEvent_hlt]
@[simp] theorem State.raise_hlt_safeRequest (s : State) (e : Ev) (d : Nat) : (s.raise e d).hlt.safeRequest = s.hlt.safeRequest := by
  simp only [State.raise, State.raiseFault_hlt_safeRequest, State.raiseEvent_hlt]
@[simp] theorem State.raise_hlt_volts (s : State) (e : Ev) (d : Nat) : (s.raise e d).hlt.volts = s.hlt.volts := by
  simp only [State.raise, State.raiseFault_hlt_volts, State.raiseEvent_hlt]
@[simp] theorem State.raise_hlt_proc (s : State) (e : Ev) (d : Nat) : (s.raise e d).hlt.proc = s.hlt.proc := by
  simp only [State.raise, State.raiseFault_hlt_proc, State.raiseEvent_hlt]
@[simp] theorem State.raise_hlt_procRaised (s : State) (e : Ev) (d : Nat) : (s.raise e d).hlt.procRaised = s.hlt.procRaised := by
  simp only [State.raise, State.raiseFault_hlt_procRaised, State.raiseEvent_hlt]
@[simp] theorem State.raise_hlt_clocks (s : State) (e : Ev) (d : Nat) : (s.raise e d).hlt.clocks = s.hlt.clocks := by
  simp only [State.raise, State.raiseFault_hlt_clocks, State.raiseEvent_hlt]
@[simp] theorem State.raise_hlt_ce (s : State) (e : Ev) (d : Nat) : (s.raise e d).hlt.ce = s.hlt.ce := by
  simp only [State.raise, State.raiseFault_hlt_ce, State.raiseEvent_hlt]
@[simp] theorem State.raise_hlt_trims (s : State) (e : Ev) (d : Nat) : (s.raise e d).hlt.trims = s.hlt.trims := by
  simp only [State.raise, State.raiseFault_hlt_trims, State.raiseEvent_hlt]
@[simp] theorem State.raise_hlt_trimRun (s : State) (e : Ev) (d : Nat) : (s.raise e d).hlt.trimRun = s.hlt.trimRun := by
  simp only [State.raise, State.raiseFault_hlt_trimRun, State.raiseEvent_hlt]
@[simp] theorem State.raise_hlt_trimRuns (s : State) (e : Ev) (d : Nat) : (s.raise e d).hlt.trimRuns = s.hlt.trimRuns := by
  simp only [State.raise, State.raiseFault_hlt_trimRuns, State.raiseEvent_hlt]
@[simp] theorem State.raise_hlt_trimTime (s : State) (e : Ev) (d : Nat) : (s.raise e d).hlt.trimTime = s.hlt.trimTime := by
  simp only [State.raise, State.raiseFault_hlt_trimTime, State.raiseEvent_hlt]
@[simp] theorem State.raise_hlt_scrubDue (s : State) (e : Ev) (d : Nat) : (s.raise e d).hlt.scrubDue = s.hlt.scrubDue := by
  simp only [State.raise, State.raiseFault_hlt_scrubDue, State.raiseEvent_hlt]

/-! ### count: the monitors -/

@[simp] theorem State.count_hlt_temps (s : State) (c : Ctr) (i n : Nat) : (s.count c i n).hlt.temps = s.hlt.temps := by
  unfold State.count
  dsimp only
  split <;> simp
@[simp] theorem State.count_hlt_tempMax (s : State) (c : Ctr) (i n : Nat) : (s.count c i n).hlt.tempMax = s.hlt.tempMax := by
  unfold State.count
  dsimp only
  split <;> simp
@[simp] theorem State.count_hlt_therm (s : State) (c : Ctr) (i n : Nat) : (s.count c i n).hlt.therm = s.hlt.therm := by
  unfold State.count
  dsimp only
  split <;> simp
@[simp] theorem State.count_hlt_belowSince (s : State) (c : Ctr) (i n : Nat) : (s.count c i n).hlt.belowSince = s.hlt.belowSince := by
  unfold State.count
  dsimp only
  split <;> simp
@[simp] theorem State.count_hlt_safeRequest (s : State) (c : Ctr) (i n : Nat) : (s.count c i n).hlt.safeRequest = s.hlt.safeRequest := by
  unfold State.count
  dsimp only
  split <;> simp
@[simp] theorem State.count_hlt_volts (s : State) (c : Ctr) (i n : Nat) : (s.count c i n).hlt.volts = s.hlt.volts := by
  unfold State.count
  dsimp only
  split <;> simp
@[simp] theorem State.count_hlt_proc (s : State) (c : Ctr) (i n : Nat) : (s.count c i n).hlt.proc = s.hlt.proc := by
  unfold State.count
  dsimp only
  split <;> simp
@[simp] theorem State.count_hlt_procRaised (s : State) (c : Ctr) (i n : Nat) : (s.count c i n).hlt.procRaised = s.hlt.procRaised := by
  unfold State.count
  dsimp only
  split <;> simp
@[simp] theorem State.count_hlt_clocks (s : State) (c : Ctr) (i n : Nat) : (s.count c i n).hlt.clocks = s.hlt.clocks := by
  unfold State.count
  dsimp only
  split <;> simp
@[simp] theorem State.count_hlt_ce (s : State) (c : Ctr) (i n : Nat) : (s.count c i n).hlt.ce = s.hlt.ce := by
  unfold State.count
  dsimp only
  split <;> simp
@[simp] theorem State.count_hlt_trims (s : State) (c : Ctr) (i n : Nat) : (s.count c i n).hlt.trims = s.hlt.trims := by
  unfold State.count
  dsimp only
  split <;> simp
@[simp] theorem State.count_hlt_trimRun (s : State) (c : Ctr) (i n : Nat) : (s.count c i n).hlt.trimRun = s.hlt.trimRun := by
  unfold State.count
  dsimp only
  split <;> simp
@[simp] theorem State.count_hlt_trimRuns (s : State) (c : Ctr) (i n : Nat) : (s.count c i n).hlt.trimRuns = s.hlt.trimRuns := by
  unfold State.count
  dsimp only
  split <;> simp
@[simp] theorem State.count_hlt_trimTime (s : State) (c : Ctr) (i n : Nat) : (s.count c i n).hlt.trimTime = s.hlt.trimTime := by
  unfold State.count
  dsimp only
  split <;> simp
@[simp] theorem State.count_hlt_scrubDue (s : State) (c : Ctr) (i n : Nat) : (s.count c i n).hlt.scrubDue = s.hlt.scrubDue := by
  unfold State.count
  dsimp only
  split <;> simp

/-! ### defer: the monitors -/

@[simp] theorem State.defer_hlt_temps (s : State) (cid : Nat) : (s.defer cid).hlt.temps = s.hlt.temps := by
  simp only [State.defer, State.count_hlt_temps, State.reply_hlt]
@[simp] theorem State.defer_hlt_tempMax (s : State) (cid : Nat) : (s.defer cid).hlt.tempMax = s.hlt.tempMax := by
  simp only [State.defer, State.count_hlt_tempMax, State.reply_hlt]
@[simp] theorem State.defer_hlt_therm (s : State) (cid : Nat) : (s.defer cid).hlt.therm = s.hlt.therm := by
  simp only [State.defer, State.count_hlt_therm, State.reply_hlt]
@[simp] theorem State.defer_hlt_belowSince (s : State) (cid : Nat) : (s.defer cid).hlt.belowSince = s.hlt.belowSince := by
  simp only [State.defer, State.count_hlt_belowSince, State.reply_hlt]
@[simp] theorem State.defer_hlt_safeRequest (s : State) (cid : Nat) : (s.defer cid).hlt.safeRequest = s.hlt.safeRequest := by
  simp only [State.defer, State.count_hlt_safeRequest, State.reply_hlt]
@[simp] theorem State.defer_hlt_volts (s : State) (cid : Nat) : (s.defer cid).hlt.volts = s.hlt.volts := by
  simp only [State.defer, State.count_hlt_volts, State.reply_hlt]
@[simp] theorem State.defer_hlt_proc (s : State) (cid : Nat) : (s.defer cid).hlt.proc = s.hlt.proc := by
  simp only [State.defer, State.count_hlt_proc, State.reply_hlt]
@[simp] theorem State.defer_hlt_procRaised (s : State) (cid : Nat) : (s.defer cid).hlt.procRaised = s.hlt.procRaised := by
  simp only [State.defer, State.count_hlt_procRaised, State.reply_hlt]
@[simp] theorem State.defer_hlt_clocks (s : State) (cid : Nat) : (s.defer cid).hlt.clocks = s.hlt.clocks := by
  simp only [State.defer, State.count_hlt_clocks, State.reply_hlt]
@[simp] theorem State.defer_hlt_ce (s : State) (cid : Nat) : (s.defer cid).hlt.ce = s.hlt.ce := by
  simp only [State.defer, State.count_hlt_ce, State.reply_hlt]
@[simp] theorem State.defer_hlt_trims (s : State) (cid : Nat) : (s.defer cid).hlt.trims = s.hlt.trims := by
  simp only [State.defer, State.count_hlt_trims, State.reply_hlt]
@[simp] theorem State.defer_hlt_trimRun (s : State) (cid : Nat) : (s.defer cid).hlt.trimRun = s.hlt.trimRun := by
  simp only [State.defer, State.count_hlt_trimRun, State.reply_hlt]
@[simp] theorem State.defer_hlt_trimRuns (s : State) (cid : Nat) : (s.defer cid).hlt.trimRuns = s.hlt.trimRuns := by
  simp only [State.defer, State.count_hlt_trimRuns, State.reply_hlt]
@[simp] theorem State.defer_hlt_trimTime (s : State) (cid : Nat) : (s.defer cid).hlt.trimTime = s.hlt.trimTime := by
  simp only [State.defer, State.count_hlt_trimTime, State.reply_hlt]
@[simp] theorem State.defer_hlt_scrubDue (s : State) (cid : Nat) : (s.defer cid).hlt.scrubDue = s.hlt.scrubDue := by
  simp only [State.defer, State.count_hlt_scrubDue, State.reply_hlt]

/-! ### auditAppend: the security module -/

@[simp] theorem State.auditAppend_sec_mode (s : State) (d : Bool) (o w st c l : Nat) (h : List Byte) (ws : List Word) : (s.auditAppend d o w st c l h ws).sec.mode = s.sec.mode := rfl
@[simp] theorem State.auditAppend_sec_cause (s : State) (d : Bool) (o w st c l : Nat) (h : List Byte) (ws : List Word) : (s.auditAppend d o w st c l h ws).sec.cause = s.sec.cause := rfl
@[simp] theorem State.auditAppend_sec_permanent (s : State) (d : Bool) (o w st c l : Nat) (h : List Byte) (ws : List Word) : (s.auditAppend d o w st c l h ws).sec.permanent = s.sec.permanent := rfl
@[simp] theorem State.auditAppend_sec_svnOtp (s : State) (d : Bool) (o w st c l : Nat) (h : List Byte) (ws : List Word) : (s.auditAppend d o w st c l h ws).sec.svnOtp = s.sec.svnOtp := rfl
@[simp] theorem State.auditAppend_sec_svnRun (s : State) (d : Bool) (o w st c l : Nat) (h : List Byte) (ws : List Word) : (s.auditAppend d o w st c l h ws).sec.svnRun = s.sec.svnRun := rfl
@[simp] theorem State.auditAppend_sec_bootSlot (s : State) (d : Bool) (o w st c l : Nat) (h : List Byte) (ws : List Word) : (s.auditAppend d o w st c l h ws).sec.bootSlot = s.sec.bootSlot := rfl
@[simp] theorem State.auditAppend_sec_nextSlot (s : State) (d : Bool) (o w st c l : Nat) (h : List Byte) (ws : List Word) : (s.auditAppend d o w st c l h ws).sec.nextSlot = s.sec.nextSlot := rfl
@[simp] theorem State.auditAppend_sec_fallback (s : State) (d : Bool) (o w st c l : Nat) (h : List Byte) (ws : List Word) : (s.auditAppend d o w st c l h ws).sec.fallback = s.sec.fallback := rfl
@[simp] theorem State.auditAppend_sec_debug (s : State) (d : Bool) (o w st c l : Nat) (h : List Byte) (ws : List Word) : (s.auditAppend d o w st c l h ws).sec.debug = s.sec.debug := rfl
@[simp] theorem State.auditAppend_sec_draws (s : State) (d : Bool) (o w st c l : Nat) (h : List Byte) (ws : List Word) : (s.auditAppend d o w st c l h ws).sec.draws = s.sec.draws := rfl
@[simp] theorem State.auditAppend_sec_dkk (s : State) (d : Bool) (o w st c l : Nat) (h : List Byte) (ws : List Word) : (s.auditAppend d o w st c l h ws).sec.dkk = s.sec.dkk := rfl
@[simp] theorem State.auditAppend_sec_rmk (s : State) (d : Bool) (o w st c l : Nat) (h : List Byte) (ws : List Word) : (s.auditAppend d o w st c l h ws).sec.rmk = s.sec.rmk := rfl
@[simp] theorem State.auditAppend_sec_recKey (s : State) (d : Bool) (o w st c l : Nat) (h : List Byte) (ws : List Word) : (s.auditAppend d o w st c l h ws).sec.recKey = s.sec.recKey := rfl
@[simp] theorem State.auditAppend_sec_gmacKey (s : State) (d : Bool) (o w st c l : Nat) (h : List Byte) (ws : List Word) : (s.auditAppend d o w st c l h ws).sec.gmacKey = s.sec.gmacKey := rfl
@[simp] theorem State.auditAppend_sec_salt (s : State) (d : Bool) (o w st c l : Nat) (h : List Byte) (ws : List Word) : (s.auditAppend d o w st c l h ws).sec.salt = s.sec.salt := rfl
@[simp] theorem State.auditAppend_sec_roleKeys (s : State) (d : Bool) (o w st c l : Nat) (h : List Byte) (ws : List Word) : (s.auditAppend d o w st c l h ws).sec.roleKeys = s.sec.roleKeys := rfl
@[simp] theorem State.auditAppend_sec_envCounters (s : State) (d : Bool) (o w st c l : Nat) (h : List Byte) (ws : List Word) : (s.auditAppend d o w st c l h ws).sec.envCounters = s.sec.envCounters := rfl
@[simp] theorem State.auditAppend_sec_policy (s : State) (d : Bool) (o w st c l : Nat) (h : List Byte) (ws : List Word) : (s.auditAppend d o w st c l h ws).sec.policy = s.sec.policy := rfl
@[simp] theorem State.auditAppend_sec_coInstall (s : State) (d : Bool) (o w st c l : Nat) (h : List Byte) (ws : List Word) : (s.auditAppend d o w st c l h ws).sec.coInstall = s.sec.coInstall := rfl
@[simp] theorem State.auditAppend_sec_customer (s : State) (d : Bool) (o w st c l : Nat) (h : List Byte) (ws : List Word) : (s.auditAppend d o w st c l h ws).sec.customer = s.sec.customer := rfl
@[simp] theorem State.auditAppend_sec_verified (s : State) (d : Bool) (o w st c l : Nat) (h : List Byte) (ws : List Word) : (s.auditAppend d o w st c l h ws).sec.verified = s.sec.verified := rfl
@[simp] theorem State.auditAppend_sec_auditOldest (s : State) (d : Bool) (o w st c l : Nat) (h : List Byte) (ws : List Word) : (s.auditAppend d o w st c l h ws).sec.auditOldest = s.sec.auditOldest := rfl
@[simp] theorem State.auditAppend_sec_auditFail (s : State) (d : Bool) (o w st c l : Nat) (h : List Byte) (ws : List Word) : (s.auditAppend d o w st c l h ws).sec.auditFail = s.sec.auditFail := rfl
@[simp] theorem State.auditAppend_sec_test (s : State) (d : Bool) (o w st c l : Nat) (h : List Byte) (ws : List Word) : (s.auditAppend d o w st c l h ws).sec.test = s.sec.test := rfl
@[simp] theorem State.auditAppend_sec_testDue (s : State) (d : Bool) (o w st c l : Nat) (h : List Byte) (ws : List Word) : (s.auditAppend d o w st c l h ws).sec.testDue = s.sec.testDue := rfl
@[simp] theorem State.auditAppend_sec_testWaits (s : State) (d : Bool) (o w st c l : Nat) (h : List Byte) (ws : List Word) : (s.auditAppend d o w st c l h ws).sec.testWaits = s.sec.testWaits := rfl
@[simp] theorem State.auditAppend_sec_written (s : State) (d : Bool) (o w st c l : Nat) (h : List Byte) (ws : List Word) : (s.auditAppend d o w st c l h ws).sec.written = s.sec.written := rfl
@[simp] theorem State.auditAppend_sec_recoveries (s : State) (d : Bool) (o w st c l : Nat) (h : List Byte) (ws : List Word) : (s.auditAppend d o w st c l h ws).sec.recoveries = s.sec.recoveries := rfl
@[simp] theorem State.auditAppend_sec_episode (s : State) (d : Bool) (o w st c l : Nat) (h : List Byte) (ws : List Word) : (s.auditAppend d o w st c l h ws).sec.episode = s.sec.episode := rfl

/-! ### auditDevice: the security module -/

@[simp] theorem State.auditDevice_sec_mode (s : State) (e d : Nat) : (s.auditDevice e d).sec.mode = s.sec.mode := rfl
@[simp] theorem State.auditDevice_sec_cause (s : State) (e d : Nat) : (s.auditDevice e d).sec.cause = s.sec.cause := rfl
@[simp] theorem State.auditDevice_sec_permanent (s : State) (e d : Nat) : (s.auditDevice e d).sec.permanent = s.sec.permanent := rfl
@[simp] theorem State.auditDevice_sec_svnOtp (s : State) (e d : Nat) : (s.auditDevice e d).sec.svnOtp = s.sec.svnOtp := rfl
@[simp] theorem State.auditDevice_sec_svnRun (s : State) (e d : Nat) : (s.auditDevice e d).sec.svnRun = s.sec.svnRun := rfl
@[simp] theorem State.auditDevice_sec_bootSlot (s : State) (e d : Nat) : (s.auditDevice e d).sec.bootSlot = s.sec.bootSlot := rfl
@[simp] theorem State.auditDevice_sec_nextSlot (s : State) (e d : Nat) : (s.auditDevice e d).sec.nextSlot = s.sec.nextSlot := rfl
@[simp] theorem State.auditDevice_sec_fallback (s : State) (e d : Nat) : (s.auditDevice e d).sec.fallback = s.sec.fallback := rfl
@[simp] theorem State.auditDevice_sec_debug (s : State) (e d : Nat) : (s.auditDevice e d).sec.debug = s.sec.debug := rfl
@[simp] theorem State.auditDevice_sec_draws (s : State) (e d : Nat) : (s.auditDevice e d).sec.draws = s.sec.draws := rfl
@[simp] theorem State.auditDevice_sec_dkk (s : State) (e d : Nat) : (s.auditDevice e d).sec.dkk = s.sec.dkk := rfl
@[simp] theorem State.auditDevice_sec_rmk (s : State) (e d : Nat) : (s.auditDevice e d).sec.rmk = s.sec.rmk := rfl
@[simp] theorem State.auditDevice_sec_recKey (s : State) (e d : Nat) : (s.auditDevice e d).sec.recKey = s.sec.recKey := rfl
@[simp] theorem State.auditDevice_sec_gmacKey (s : State) (e d : Nat) : (s.auditDevice e d).sec.gmacKey = s.sec.gmacKey := rfl
@[simp] theorem State.auditDevice_sec_salt (s : State) (e d : Nat) : (s.auditDevice e d).sec.salt = s.sec.salt := rfl
@[simp] theorem State.auditDevice_sec_roleKeys (s : State) (e d : Nat) : (s.auditDevice e d).sec.roleKeys = s.sec.roleKeys := rfl
@[simp] theorem State.auditDevice_sec_envCounters (s : State) (e d : Nat) : (s.auditDevice e d).sec.envCounters = s.sec.envCounters := rfl
@[simp] theorem State.auditDevice_sec_policy (s : State) (e d : Nat) : (s.auditDevice e d).sec.policy = s.sec.policy := rfl
@[simp] theorem State.auditDevice_sec_coInstall (s : State) (e d : Nat) : (s.auditDevice e d).sec.coInstall = s.sec.coInstall := rfl
@[simp] theorem State.auditDevice_sec_customer (s : State) (e d : Nat) : (s.auditDevice e d).sec.customer = s.sec.customer := rfl
@[simp] theorem State.auditDevice_sec_verified (s : State) (e d : Nat) : (s.auditDevice e d).sec.verified = s.sec.verified := rfl
@[simp] theorem State.auditDevice_sec_auditOldest (s : State) (e d : Nat) : (s.auditDevice e d).sec.auditOldest = s.sec.auditOldest := rfl
@[simp] theorem State.auditDevice_sec_auditFail (s : State) (e d : Nat) : (s.auditDevice e d).sec.auditFail = s.sec.auditFail := rfl
@[simp] theorem State.auditDevice_sec_test (s : State) (e d : Nat) : (s.auditDevice e d).sec.test = s.sec.test := rfl
@[simp] theorem State.auditDevice_sec_testDue (s : State) (e d : Nat) : (s.auditDevice e d).sec.testDue = s.sec.testDue := rfl
@[simp] theorem State.auditDevice_sec_testWaits (s : State) (e d : Nat) : (s.auditDevice e d).sec.testWaits = s.sec.testWaits := rfl
@[simp] theorem State.auditDevice_sec_written (s : State) (e d : Nat) : (s.auditDevice e d).sec.written = s.sec.written := rfl
@[simp] theorem State.auditDevice_sec_recoveries (s : State) (e d : Nat) : (s.auditDevice e d).sec.recoveries = s.sec.recoveries := rfl
@[simp] theorem State.auditDevice_sec_episode (s : State) (e d : Nat) : (s.auditDevice e d).sec.episode = s.sec.episode := rfl

/-! ### replyAt: the security module -/

@[simp] theorem State.replyAt_sec_mode (s : State) (cid st d : Nat) (ws : List Word) (l : Nat) : (s.replyAt cid st d ws l).sec.mode = s.sec.mode := by
  unfold State.replyAt
  cases s.outOf cid with
  | none => rfl
  | some o =>
    dsimp only
    split
    · rfl
    · split <;> rfl
@[simp] theorem State.replyAt_sec_cause (s : State) (cid st d : Nat) (ws : List Word) (l : Nat) : (s.replyAt cid st d ws l).sec.cause = s.sec.cause := by
  unfold State.replyAt
  cases s.outOf cid with
  | none => rfl
  | some o =>
    dsimp only
    split
    · rfl
    · split <;> rfl
@[simp] theorem State.replyAt_sec_permanent (s : State) (cid st d : Nat) (ws : List Word) (l : Nat) : (s.replyAt cid st d ws l).sec.permanent = s.sec.permanent := by
  unfold State.replyAt
  cases s.outOf cid with
  | none => rfl
  | some o =>
    dsimp only
    split
    · rfl
    · split <;> rfl
@[simp] theorem State.replyAt_sec_svnOtp (s : State) (cid st d : Nat) (ws : List Word) (l : Nat) : (s.replyAt cid st d ws l).sec.svnOtp = s.sec.svnOtp := by
  unfold State.replyAt
  cases s.outOf cid with
  | none => rfl
  | some o =>
    dsimp only
    split
    · rfl
    · split <;> rfl
@[simp] theorem State.replyAt_sec_svnRun (s : State) (cid st d : Nat) (ws : List Word) (l : Nat) : (s.replyAt cid st d ws l).sec.svnRun = s.sec.svnRun := by
  unfold State.replyAt
  cases s.outOf cid with
  | none => rfl
  | some o =>
    dsimp only
    split
    · rfl
    · split <;> rfl
@[simp] theorem State.replyAt_sec_bootSlot (s : State) (cid st d : Nat) (ws : List Word) (l : Nat) : (s.replyAt cid st d ws l).sec.bootSlot = s.sec.bootSlot := by
  unfold State.replyAt
  cases s.outOf cid with
  | none => rfl
  | some o =>
    dsimp only
    split
    · rfl
    · split <;> rfl
@[simp] theorem State.replyAt_sec_nextSlot (s : State) (cid st d : Nat) (ws : List Word) (l : Nat) : (s.replyAt cid st d ws l).sec.nextSlot = s.sec.nextSlot := by
  unfold State.replyAt
  cases s.outOf cid with
  | none => rfl
  | some o =>
    dsimp only
    split
    · rfl
    · split <;> rfl
@[simp] theorem State.replyAt_sec_fallback (s : State) (cid st d : Nat) (ws : List Word) (l : Nat) : (s.replyAt cid st d ws l).sec.fallback = s.sec.fallback := by
  unfold State.replyAt
  cases s.outOf cid with
  | none => rfl
  | some o =>
    dsimp only
    split
    · rfl
    · split <;> rfl
@[simp] theorem State.replyAt_sec_debug (s : State) (cid st d : Nat) (ws : List Word) (l : Nat) : (s.replyAt cid st d ws l).sec.debug = s.sec.debug := by
  unfold State.replyAt
  cases s.outOf cid with
  | none => rfl
  | some o =>
    dsimp only
    split
    · rfl
    · split <;> rfl
@[simp] theorem State.replyAt_sec_draws (s : State) (cid st d : Nat) (ws : List Word) (l : Nat) : (s.replyAt cid st d ws l).sec.draws = s.sec.draws := by
  unfold State.replyAt
  cases s.outOf cid with
  | none => rfl
  | some o =>
    dsimp only
    split
    · rfl
    · split <;> rfl
@[simp] theorem State.replyAt_sec_dkk (s : State) (cid st d : Nat) (ws : List Word) (l : Nat) : (s.replyAt cid st d ws l).sec.dkk = s.sec.dkk := by
  unfold State.replyAt
  cases s.outOf cid with
  | none => rfl
  | some o =>
    dsimp only
    split
    · rfl
    · split <;> rfl
@[simp] theorem State.replyAt_sec_rmk (s : State) (cid st d : Nat) (ws : List Word) (l : Nat) : (s.replyAt cid st d ws l).sec.rmk = s.sec.rmk := by
  unfold State.replyAt
  cases s.outOf cid with
  | none => rfl
  | some o =>
    dsimp only
    split
    · rfl
    · split <;> rfl
@[simp] theorem State.replyAt_sec_recKey (s : State) (cid st d : Nat) (ws : List Word) (l : Nat) : (s.replyAt cid st d ws l).sec.recKey = s.sec.recKey := by
  unfold State.replyAt
  cases s.outOf cid with
  | none => rfl
  | some o =>
    dsimp only
    split
    · rfl
    · split <;> rfl
@[simp] theorem State.replyAt_sec_gmacKey (s : State) (cid st d : Nat) (ws : List Word) (l : Nat) : (s.replyAt cid st d ws l).sec.gmacKey = s.sec.gmacKey := by
  unfold State.replyAt
  cases s.outOf cid with
  | none => rfl
  | some o =>
    dsimp only
    split
    · rfl
    · split <;> rfl
@[simp] theorem State.replyAt_sec_salt (s : State) (cid st d : Nat) (ws : List Word) (l : Nat) : (s.replyAt cid st d ws l).sec.salt = s.sec.salt := by
  unfold State.replyAt
  cases s.outOf cid with
  | none => rfl
  | some o =>
    dsimp only
    split
    · rfl
    · split <;> rfl
@[simp] theorem State.replyAt_sec_roleKeys (s : State) (cid st d : Nat) (ws : List Word) (l : Nat) : (s.replyAt cid st d ws l).sec.roleKeys = s.sec.roleKeys := by
  unfold State.replyAt
  cases s.outOf cid with
  | none => rfl
  | some o =>
    dsimp only
    split
    · rfl
    · split <;> rfl
@[simp] theorem State.replyAt_sec_envCounters (s : State) (cid st d : Nat) (ws : List Word) (l : Nat) : (s.replyAt cid st d ws l).sec.envCounters = s.sec.envCounters := by
  unfold State.replyAt
  cases s.outOf cid with
  | none => rfl
  | some o =>
    dsimp only
    split
    · rfl
    · split <;> rfl
@[simp] theorem State.replyAt_sec_policy (s : State) (cid st d : Nat) (ws : List Word) (l : Nat) : (s.replyAt cid st d ws l).sec.policy = s.sec.policy := by
  unfold State.replyAt
  cases s.outOf cid with
  | none => rfl
  | some o =>
    dsimp only
    split
    · rfl
    · split <;> rfl
@[simp] theorem State.replyAt_sec_coInstall (s : State) (cid st d : Nat) (ws : List Word) (l : Nat) : (s.replyAt cid st d ws l).sec.coInstall = s.sec.coInstall := by
  unfold State.replyAt
  cases s.outOf cid with
  | none => rfl
  | some o =>
    dsimp only
    split
    · rfl
    · split <;> rfl
@[simp] theorem State.replyAt_sec_customer (s : State) (cid st d : Nat) (ws : List Word) (l : Nat) : (s.replyAt cid st d ws l).sec.customer = s.sec.customer := by
  unfold State.replyAt
  cases s.outOf cid with
  | none => rfl
  | some o =>
    dsimp only
    split
    · rfl
    · split <;> rfl
@[simp] theorem State.replyAt_sec_verified (s : State) (cid st d : Nat) (ws : List Word) (l : Nat) : (s.replyAt cid st d ws l).sec.verified = s.sec.verified := by
  unfold State.replyAt
  cases s.outOf cid with
  | none => rfl
  | some o =>
    dsimp only
    split
    · rfl
    · split <;> rfl
@[simp] theorem State.replyAt_sec_auditOldest (s : State) (cid st d : Nat) (ws : List Word) (l : Nat) : (s.replyAt cid st d ws l).sec.auditOldest = s.sec.auditOldest := by
  unfold State.replyAt
  cases s.outOf cid with
  | none => rfl
  | some o =>
    dsimp only
    split
    · rfl
    · split <;> rfl
@[simp] theorem State.replyAt_sec_auditFail (s : State) (cid st d : Nat) (ws : List Word) (l : Nat) : (s.replyAt cid st d ws l).sec.auditFail = s.sec.auditFail := by
  unfold State.replyAt
  cases s.outOf cid with
  | none => rfl
  | some o =>
    dsimp only
    split
    · rfl
    · split <;> rfl
@[simp] theorem State.replyAt_sec_test (s : State) (cid st d : Nat) (ws : List Word) (l : Nat) : (s.replyAt cid st d ws l).sec.test = s.sec.test := by
  unfold State.replyAt
  cases s.outOf cid with
  | none => rfl
  | some o =>
    dsimp only
    split
    · rfl
    · split <;> rfl
@[simp] theorem State.replyAt_sec_testDue (s : State) (cid st d : Nat) (ws : List Word) (l : Nat) : (s.replyAt cid st d ws l).sec.testDue = s.sec.testDue := by
  unfold State.replyAt
  cases s.outOf cid with
  | none => rfl
  | some o =>
    dsimp only
    split
    · rfl
    · split <;> rfl
@[simp] theorem State.replyAt_sec_testWaits (s : State) (cid st d : Nat) (ws : List Word) (l : Nat) : (s.replyAt cid st d ws l).sec.testWaits = s.sec.testWaits := by
  unfold State.replyAt
  cases s.outOf cid with
  | none => rfl
  | some o =>
    dsimp only
    split
    · rfl
    · split <;> rfl
@[simp] theorem State.replyAt_sec_written (s : State) (cid st d : Nat) (ws : List Word) (l : Nat) : (s.replyAt cid st d ws l).sec.written = s.sec.written := by
  unfold State.replyAt
  cases s.outOf cid with
  | none => rfl
  | some o =>
    dsimp only
    split
    · rfl
    · split <;> rfl
@[simp] theorem State.replyAt_sec_recoveries (s : State) (cid st d : Nat) (ws : List Word) (l : Nat) : (s.replyAt cid st d ws l).sec.recoveries = s.sec.recoveries := by
  unfold State.replyAt
  cases s.outOf cid with
  | none => rfl
  | some o =>
    dsimp only
    split
    · rfl
    · split <;> rfl
@[simp] theorem State.replyAt_sec_episode (s : State) (cid st d : Nat) (ws : List Word) (l : Nat) : (s.replyAt cid st d ws l).sec.episode = s.sec.episode := by
  unfold State.replyAt
  cases s.outOf cid with
  | none => rfl
  | some o =>
    dsimp only
    split
    · rfl
    · split <;> rfl

/-! ### reply: the security module -/

@[simp] theorem State.reply_sec_mode (s : State) (cid st d : Nat) (ws : List Word) : (s.reply cid st d ws).sec.mode = s.sec.mode := by
  simp only [State.reply, State.replyAt_sec_mode]
@[simp] theorem State.reply_sec_cause (s : State) (cid st d : Nat) (ws : List Word) : (s.reply cid st d ws).sec.cause = s.sec.cause := by
  simp only [State.reply, State.replyAt_sec_cause]
@[simp] theorem State.reply_sec_permanent (s : State) (cid st d : Nat) (ws : List Word) : (s.reply cid st d ws).sec.permanent = s.sec.permanent := by
  simp only [State.reply, State.replyAt_sec_permanent]
@[simp] theorem State.reply_sec_svnOtp (s : State) (cid st d : Nat) (ws : List Word) : (s.reply cid st d ws).sec.svnOtp = s.sec.svnOtp := by
  simp only [State.reply, State.replyAt_sec_svnOtp]
@[simp] theorem State.reply_sec_svnRun (s : State) (cid st d : Nat) (ws : List Word) : (s.reply cid st d ws).sec.svnRun = s.sec.svnRun := by
  simp only [State.reply, State.replyAt_sec_svnRun]
@[simp] theorem State.reply_sec_bootSlot (s : State) (cid st d : Nat) (ws : List Word) : (s.reply cid st d ws).sec.bootSlot = s.sec.bootSlot := by
  simp only [State.reply, State.replyAt_sec_bootSlot]
@[simp] theorem State.reply_sec_nextSlot (s : State) (cid st d : Nat) (ws : List Word) : (s.reply cid st d ws).sec.nextSlot = s.sec.nextSlot := by
  simp only [State.reply, State.replyAt_sec_nextSlot]
@[simp] theorem State.reply_sec_fallback (s : State) (cid st d : Nat) (ws : List Word) : (s.reply cid st d ws).sec.fallback = s.sec.fallback := by
  simp only [State.reply, State.replyAt_sec_fallback]
@[simp] theorem State.reply_sec_debug (s : State) (cid st d : Nat) (ws : List Word) : (s.reply cid st d ws).sec.debug = s.sec.debug := by
  simp only [State.reply, State.replyAt_sec_debug]
@[simp] theorem State.reply_sec_draws (s : State) (cid st d : Nat) (ws : List Word) : (s.reply cid st d ws).sec.draws = s.sec.draws := by
  simp only [State.reply, State.replyAt_sec_draws]
@[simp] theorem State.reply_sec_dkk (s : State) (cid st d : Nat) (ws : List Word) : (s.reply cid st d ws).sec.dkk = s.sec.dkk := by
  simp only [State.reply, State.replyAt_sec_dkk]
@[simp] theorem State.reply_sec_rmk (s : State) (cid st d : Nat) (ws : List Word) : (s.reply cid st d ws).sec.rmk = s.sec.rmk := by
  simp only [State.reply, State.replyAt_sec_rmk]
@[simp] theorem State.reply_sec_recKey (s : State) (cid st d : Nat) (ws : List Word) : (s.reply cid st d ws).sec.recKey = s.sec.recKey := by
  simp only [State.reply, State.replyAt_sec_recKey]
@[simp] theorem State.reply_sec_gmacKey (s : State) (cid st d : Nat) (ws : List Word) : (s.reply cid st d ws).sec.gmacKey = s.sec.gmacKey := by
  simp only [State.reply, State.replyAt_sec_gmacKey]
@[simp] theorem State.reply_sec_salt (s : State) (cid st d : Nat) (ws : List Word) : (s.reply cid st d ws).sec.salt = s.sec.salt := by
  simp only [State.reply, State.replyAt_sec_salt]
@[simp] theorem State.reply_sec_roleKeys (s : State) (cid st d : Nat) (ws : List Word) : (s.reply cid st d ws).sec.roleKeys = s.sec.roleKeys := by
  simp only [State.reply, State.replyAt_sec_roleKeys]
@[simp] theorem State.reply_sec_envCounters (s : State) (cid st d : Nat) (ws : List Word) : (s.reply cid st d ws).sec.envCounters = s.sec.envCounters := by
  simp only [State.reply, State.replyAt_sec_envCounters]
@[simp] theorem State.reply_sec_policy (s : State) (cid st d : Nat) (ws : List Word) : (s.reply cid st d ws).sec.policy = s.sec.policy := by
  simp only [State.reply, State.replyAt_sec_policy]
@[simp] theorem State.reply_sec_coInstall (s : State) (cid st d : Nat) (ws : List Word) : (s.reply cid st d ws).sec.coInstall = s.sec.coInstall := by
  simp only [State.reply, State.replyAt_sec_coInstall]
@[simp] theorem State.reply_sec_customer (s : State) (cid st d : Nat) (ws : List Word) : (s.reply cid st d ws).sec.customer = s.sec.customer := by
  simp only [State.reply, State.replyAt_sec_customer]
@[simp] theorem State.reply_sec_verified (s : State) (cid st d : Nat) (ws : List Word) : (s.reply cid st d ws).sec.verified = s.sec.verified := by
  simp only [State.reply, State.replyAt_sec_verified]
@[simp] theorem State.reply_sec_auditOldest (s : State) (cid st d : Nat) (ws : List Word) : (s.reply cid st d ws).sec.auditOldest = s.sec.auditOldest := by
  simp only [State.reply, State.replyAt_sec_auditOldest]
@[simp] theorem State.reply_sec_auditFail (s : State) (cid st d : Nat) (ws : List Word) : (s.reply cid st d ws).sec.auditFail = s.sec.auditFail := by
  simp only [State.reply, State.replyAt_sec_auditFail]
@[simp] theorem State.reply_sec_test (s : State) (cid st d : Nat) (ws : List Word) : (s.reply cid st d ws).sec.test = s.sec.test := by
  simp only [State.reply, State.replyAt_sec_test]
@[simp] theorem State.reply_sec_testDue (s : State) (cid st d : Nat) (ws : List Word) : (s.reply cid st d ws).sec.testDue = s.sec.testDue := by
  simp only [State.reply, State.replyAt_sec_testDue]
@[simp] theorem State.reply_sec_testWaits (s : State) (cid st d : Nat) (ws : List Word) : (s.reply cid st d ws).sec.testWaits = s.sec.testWaits := by
  simp only [State.reply, State.replyAt_sec_testWaits]
@[simp] theorem State.reply_sec_written (s : State) (cid st d : Nat) (ws : List Word) : (s.reply cid st d ws).sec.written = s.sec.written := by
  simp only [State.reply, State.replyAt_sec_written]
@[simp] theorem State.reply_sec_recoveries (s : State) (cid st d : Nat) (ws : List Word) : (s.reply cid st d ws).sec.recoveries = s.sec.recoveries := by
  simp only [State.reply, State.replyAt_sec_recoveries]
@[simp] theorem State.reply_sec_episode (s : State) (cid st d : Nat) (ws : List Word) : (s.reply cid st d ws).sec.episode = s.sec.episode := by
  simp only [State.reply, State.replyAt_sec_episode]

/-! ### done: the security module -/

@[simp] theorem State.done_sec_mode (s : State) (cid : Nat) (ws : List Word) : (s.done cid ws).sec.mode = s.sec.mode := by
  simp only [State.done, State.reply_sec_mode]
@[simp] theorem State.done_sec_cause (s : State) (cid : Nat) (ws : List Word) : (s.done cid ws).sec.cause = s.sec.cause := by
  simp only [State.done, State.reply_sec_cause]
@[simp] theorem State.done_sec_permanent (s : State) (cid : Nat) (ws : List Word) : (s.done cid ws).sec.permanent = s.sec.permanent := by
  simp only [State.done, State.reply_sec_permanent]
@[simp] theorem State.done_sec_svnOtp (s : State) (cid : Nat) (ws : List Word) : (s.done cid ws).sec.svnOtp = s.sec.svnOtp := by
  simp only [State.done, State.reply_sec_svnOtp]
@[simp] theorem State.done_sec_svnRun (s : State) (cid : Nat) (ws : List Word) : (s.done cid ws).sec.svnRun = s.sec.svnRun := by
  simp only [State.done, State.reply_sec_svnRun]
@[simp] theorem State.done_sec_bootSlot (s : State) (cid : Nat) (ws : List Word) : (s.done cid ws).sec.bootSlot = s.sec.bootSlot := by
  simp only [State.done, State.reply_sec_bootSlot]
@[simp] theorem State.done_sec_nextSlot (s : State) (cid : Nat) (ws : List Word) : (s.done cid ws).sec.nextSlot = s.sec.nextSlot := by
  simp only [State.done, State.reply_sec_nextSlot]
@[simp] theorem State.done_sec_fallback (s : State) (cid : Nat) (ws : List Word) : (s.done cid ws).sec.fallback = s.sec.fallback := by
  simp only [State.done, State.reply_sec_fallback]
@[simp] theorem State.done_sec_debug (s : State) (cid : Nat) (ws : List Word) : (s.done cid ws).sec.debug = s.sec.debug := by
  simp only [State.done, State.reply_sec_debug]
@[simp] theorem State.done_sec_draws (s : State) (cid : Nat) (ws : List Word) : (s.done cid ws).sec.draws = s.sec.draws := by
  simp only [State.done, State.reply_sec_draws]
@[simp] theorem State.done_sec_dkk (s : State) (cid : Nat) (ws : List Word) : (s.done cid ws).sec.dkk = s.sec.dkk := by
  simp only [State.done, State.reply_sec_dkk]
@[simp] theorem State.done_sec_rmk (s : State) (cid : Nat) (ws : List Word) : (s.done cid ws).sec.rmk = s.sec.rmk := by
  simp only [State.done, State.reply_sec_rmk]
@[simp] theorem State.done_sec_recKey (s : State) (cid : Nat) (ws : List Word) : (s.done cid ws).sec.recKey = s.sec.recKey := by
  simp only [State.done, State.reply_sec_recKey]
@[simp] theorem State.done_sec_gmacKey (s : State) (cid : Nat) (ws : List Word) : (s.done cid ws).sec.gmacKey = s.sec.gmacKey := by
  simp only [State.done, State.reply_sec_gmacKey]
@[simp] theorem State.done_sec_salt (s : State) (cid : Nat) (ws : List Word) : (s.done cid ws).sec.salt = s.sec.salt := by
  simp only [State.done, State.reply_sec_salt]
@[simp] theorem State.done_sec_roleKeys (s : State) (cid : Nat) (ws : List Word) : (s.done cid ws).sec.roleKeys = s.sec.roleKeys := by
  simp only [State.done, State.reply_sec_roleKeys]
@[simp] theorem State.done_sec_envCounters (s : State) (cid : Nat) (ws : List Word) : (s.done cid ws).sec.envCounters = s.sec.envCounters := by
  simp only [State.done, State.reply_sec_envCounters]
@[simp] theorem State.done_sec_policy (s : State) (cid : Nat) (ws : List Word) : (s.done cid ws).sec.policy = s.sec.policy := by
  simp only [State.done, State.reply_sec_policy]
@[simp] theorem State.done_sec_coInstall (s : State) (cid : Nat) (ws : List Word) : (s.done cid ws).sec.coInstall = s.sec.coInstall := by
  simp only [State.done, State.reply_sec_coInstall]
@[simp] theorem State.done_sec_customer (s : State) (cid : Nat) (ws : List Word) : (s.done cid ws).sec.customer = s.sec.customer := by
  simp only [State.done, State.reply_sec_customer]
@[simp] theorem State.done_sec_verified (s : State) (cid : Nat) (ws : List Word) : (s.done cid ws).sec.verified = s.sec.verified := by
  simp only [State.done, State.reply_sec_verified]
@[simp] theorem State.done_sec_auditOldest (s : State) (cid : Nat) (ws : List Word) : (s.done cid ws).sec.auditOldest = s.sec.auditOldest := by
  simp only [State.done, State.reply_sec_auditOldest]
@[simp] theorem State.done_sec_auditFail (s : State) (cid : Nat) (ws : List Word) : (s.done cid ws).sec.auditFail = s.sec.auditFail := by
  simp only [State.done, State.reply_sec_auditFail]
@[simp] theorem State.done_sec_test (s : State) (cid : Nat) (ws : List Word) : (s.done cid ws).sec.test = s.sec.test := by
  simp only [State.done, State.reply_sec_test]
@[simp] theorem State.done_sec_testDue (s : State) (cid : Nat) (ws : List Word) : (s.done cid ws).sec.testDue = s.sec.testDue := by
  simp only [State.done, State.reply_sec_testDue]
@[simp] theorem State.done_sec_testWaits (s : State) (cid : Nat) (ws : List Word) : (s.done cid ws).sec.testWaits = s.sec.testWaits := by
  simp only [State.done, State.reply_sec_testWaits]
@[simp] theorem State.done_sec_written (s : State) (cid : Nat) (ws : List Word) : (s.done cid ws).sec.written = s.sec.written := by
  simp only [State.done, State.reply_sec_written]
@[simp] theorem State.done_sec_recoveries (s : State) (cid : Nat) (ws : List Word) : (s.done cid ws).sec.recoveries = s.sec.recoveries := by
  simp only [State.done, State.reply_sec_recoveries]
@[simp] theorem State.done_sec_episode (s : State) (cid : Nat) (ws : List Word) : (s.done cid ws).sec.episode = s.sec.episode := by
  simp only [State.done, State.reply_sec_episode]

/-! ### doneNow: the security module -/

@[simp] theorem State.doneNow_sec_mode (s : State) (cid : Nat) (ws : List Word) : (s.doneNow cid ws).sec.mode = s.sec.mode := by
  simp only [State.doneNow, State.reply_sec_mode]
@[simp] theorem State.doneNow_sec_cause (s : State) (cid : Nat) (ws : List Word) : (s.doneNow cid ws).sec.cause = s.sec.cause := by
  simp only [State.doneNow, State.reply_sec_cause]
@[simp] theorem State.doneNow_sec_permanent (s : State) (cid : Nat) (ws : List Word) : (s.doneNow cid ws).sec.permanent = s.sec.permanent := by
  simp only [State.doneNow, State.reply_sec_permanent]
@[simp] theorem State.doneNow_sec_svnOtp (s : State) (cid : Nat) (ws : List Word) : (s.doneNow cid ws).sec.svnOtp = s.sec.svnOtp := by
  simp only [State.doneNow, State.reply_sec_svnOtp]
@[simp] theorem State.doneNow_sec_svnRun (s : State) (cid : Nat) (ws : List Word) : (s.doneNow cid ws).sec.svnRun = s.sec.svnRun := by
  simp only [State.doneNow, State.reply_sec_svnRun]
@[simp] theorem State.doneNow_sec_bootSlot (s : State) (cid : Nat) (ws : List Word) : (s.doneNow cid ws).sec.bootSlot = s.sec.bootSlot := by
  simp only [State.doneNow, State.reply_sec_bootSlot]
@[simp] theorem State.doneNow_sec_nextSlot (s : State) (cid : Nat) (ws : List Word) : (s.doneNow cid ws).sec.nextSlot = s.sec.nextSlot := by
  simp only [State.doneNow, State.reply_sec_nextSlot]
@[simp] theorem State.doneNow_sec_fallback (s : State) (cid : Nat) (ws : List Word) : (s.doneNow cid ws).sec.fallback = s.sec.fallback := by
  simp only [State.doneNow, State.reply_sec_fallback]
@[simp] theorem State.doneNow_sec_debug (s : State) (cid : Nat) (ws : List Word) : (s.doneNow cid ws).sec.debug = s.sec.debug := by
  simp only [State.doneNow, State.reply_sec_debug]
@[simp] theorem State.doneNow_sec_draws (s : State) (cid : Nat) (ws : List Word) : (s.doneNow cid ws).sec.draws = s.sec.draws := by
  simp only [State.doneNow, State.reply_sec_draws]
@[simp] theorem State.doneNow_sec_dkk (s : State) (cid : Nat) (ws : List Word) : (s.doneNow cid ws).sec.dkk = s.sec.dkk := by
  simp only [State.doneNow, State.reply_sec_dkk]
@[simp] theorem State.doneNow_sec_rmk (s : State) (cid : Nat) (ws : List Word) : (s.doneNow cid ws).sec.rmk = s.sec.rmk := by
  simp only [State.doneNow, State.reply_sec_rmk]
@[simp] theorem State.doneNow_sec_recKey (s : State) (cid : Nat) (ws : List Word) : (s.doneNow cid ws).sec.recKey = s.sec.recKey := by
  simp only [State.doneNow, State.reply_sec_recKey]
@[simp] theorem State.doneNow_sec_gmacKey (s : State) (cid : Nat) (ws : List Word) : (s.doneNow cid ws).sec.gmacKey = s.sec.gmacKey := by
  simp only [State.doneNow, State.reply_sec_gmacKey]
@[simp] theorem State.doneNow_sec_salt (s : State) (cid : Nat) (ws : List Word) : (s.doneNow cid ws).sec.salt = s.sec.salt := by
  simp only [State.doneNow, State.reply_sec_salt]
@[simp] theorem State.doneNow_sec_roleKeys (s : State) (cid : Nat) (ws : List Word) : (s.doneNow cid ws).sec.roleKeys = s.sec.roleKeys := by
  simp only [State.doneNow, State.reply_sec_roleKeys]
@[simp] theorem State.doneNow_sec_envCounters (s : State) (cid : Nat) (ws : List Word) : (s.doneNow cid ws).sec.envCounters = s.sec.envCounters := by
  simp only [State.doneNow, State.reply_sec_envCounters]
@[simp] theorem State.doneNow_sec_policy (s : State) (cid : Nat) (ws : List Word) : (s.doneNow cid ws).sec.policy = s.sec.policy := by
  simp only [State.doneNow, State.reply_sec_policy]
@[simp] theorem State.doneNow_sec_coInstall (s : State) (cid : Nat) (ws : List Word) : (s.doneNow cid ws).sec.coInstall = s.sec.coInstall := by
  simp only [State.doneNow, State.reply_sec_coInstall]
@[simp] theorem State.doneNow_sec_customer (s : State) (cid : Nat) (ws : List Word) : (s.doneNow cid ws).sec.customer = s.sec.customer := by
  simp only [State.doneNow, State.reply_sec_customer]
@[simp] theorem State.doneNow_sec_verified (s : State) (cid : Nat) (ws : List Word) : (s.doneNow cid ws).sec.verified = s.sec.verified := by
  simp only [State.doneNow, State.reply_sec_verified]
@[simp] theorem State.doneNow_sec_auditOldest (s : State) (cid : Nat) (ws : List Word) : (s.doneNow cid ws).sec.auditOldest = s.sec.auditOldest := by
  simp only [State.doneNow, State.reply_sec_auditOldest]
@[simp] theorem State.doneNow_sec_auditFail (s : State) (cid : Nat) (ws : List Word) : (s.doneNow cid ws).sec.auditFail = s.sec.auditFail := by
  simp only [State.doneNow, State.reply_sec_auditFail]
@[simp] theorem State.doneNow_sec_test (s : State) (cid : Nat) (ws : List Word) : (s.doneNow cid ws).sec.test = s.sec.test := by
  simp only [State.doneNow, State.reply_sec_test]
@[simp] theorem State.doneNow_sec_testDue (s : State) (cid : Nat) (ws : List Word) : (s.doneNow cid ws).sec.testDue = s.sec.testDue := by
  simp only [State.doneNow, State.reply_sec_testDue]
@[simp] theorem State.doneNow_sec_testWaits (s : State) (cid : Nat) (ws : List Word) : (s.doneNow cid ws).sec.testWaits = s.sec.testWaits := by
  simp only [State.doneNow, State.reply_sec_testWaits]
@[simp] theorem State.doneNow_sec_written (s : State) (cid : Nat) (ws : List Word) : (s.doneNow cid ws).sec.written = s.sec.written := by
  simp only [State.doneNow, State.reply_sec_written]
@[simp] theorem State.doneNow_sec_recoveries (s : State) (cid : Nat) (ws : List Word) : (s.doneNow cid ws).sec.recoveries = s.sec.recoveries := by
  simp only [State.doneNow, State.reply_sec_recoveries]
@[simp] theorem State.doneNow_sec_episode (s : State) (cid : Nat) (ws : List Word) : (s.doneNow cid ws).sec.episode = s.sec.episode := by
  simp only [State.doneNow, State.reply_sec_episode]

/-! ### accept: the security module -/

@[simp] theorem State.accept_sec_mode (s : State) (cid : Nat) : (s.accept cid).sec.mode = s.sec.mode := by
  simp only [State.accept, State.reply_sec_mode]
@[simp] theorem State.accept_sec_cause (s : State) (cid : Nat) : (s.accept cid).sec.cause = s.sec.cause := by
  simp only [State.accept, State.reply_sec_cause]
@[simp] theorem State.accept_sec_permanent (s : State) (cid : Nat) : (s.accept cid).sec.permanent = s.sec.permanent := by
  simp only [State.accept, State.reply_sec_permanent]
@[simp] theorem State.accept_sec_svnOtp (s : State) (cid : Nat) : (s.accept cid).sec.svnOtp = s.sec.svnOtp := by
  simp only [State.accept, State.reply_sec_svnOtp]
@[simp] theorem State.accept_sec_svnRun (s : State) (cid : Nat) : (s.accept cid).sec.svnRun = s.sec.svnRun := by
  simp only [State.accept, State.reply_sec_svnRun]
@[simp] theorem State.accept_sec_bootSlot (s : State) (cid : Nat) : (s.accept cid).sec.bootSlot = s.sec.bootSlot := by
  simp only [State.accept, State.reply_sec_bootSlot]
@[simp] theorem State.accept_sec_nextSlot (s : State) (cid : Nat) : (s.accept cid).sec.nextSlot = s.sec.nextSlot := by
  simp only [State.accept, State.reply_sec_nextSlot]
@[simp] theorem State.accept_sec_fallback (s : State) (cid : Nat) : (s.accept cid).sec.fallback = s.sec.fallback := by
  simp only [State.accept, State.reply_sec_fallback]
@[simp] theorem State.accept_sec_debug (s : State) (cid : Nat) : (s.accept cid).sec.debug = s.sec.debug := by
  simp only [State.accept, State.reply_sec_debug]
@[simp] theorem State.accept_sec_draws (s : State) (cid : Nat) : (s.accept cid).sec.draws = s.sec.draws := by
  simp only [State.accept, State.reply_sec_draws]
@[simp] theorem State.accept_sec_dkk (s : State) (cid : Nat) : (s.accept cid).sec.dkk = s.sec.dkk := by
  simp only [State.accept, State.reply_sec_dkk]
@[simp] theorem State.accept_sec_rmk (s : State) (cid : Nat) : (s.accept cid).sec.rmk = s.sec.rmk := by
  simp only [State.accept, State.reply_sec_rmk]
@[simp] theorem State.accept_sec_recKey (s : State) (cid : Nat) : (s.accept cid).sec.recKey = s.sec.recKey := by
  simp only [State.accept, State.reply_sec_recKey]
@[simp] theorem State.accept_sec_gmacKey (s : State) (cid : Nat) : (s.accept cid).sec.gmacKey = s.sec.gmacKey := by
  simp only [State.accept, State.reply_sec_gmacKey]
@[simp] theorem State.accept_sec_salt (s : State) (cid : Nat) : (s.accept cid).sec.salt = s.sec.salt := by
  simp only [State.accept, State.reply_sec_salt]
@[simp] theorem State.accept_sec_roleKeys (s : State) (cid : Nat) : (s.accept cid).sec.roleKeys = s.sec.roleKeys := by
  simp only [State.accept, State.reply_sec_roleKeys]
@[simp] theorem State.accept_sec_envCounters (s : State) (cid : Nat) : (s.accept cid).sec.envCounters = s.sec.envCounters := by
  simp only [State.accept, State.reply_sec_envCounters]
@[simp] theorem State.accept_sec_policy (s : State) (cid : Nat) : (s.accept cid).sec.policy = s.sec.policy := by
  simp only [State.accept, State.reply_sec_policy]
@[simp] theorem State.accept_sec_coInstall (s : State) (cid : Nat) : (s.accept cid).sec.coInstall = s.sec.coInstall := by
  simp only [State.accept, State.reply_sec_coInstall]
@[simp] theorem State.accept_sec_customer (s : State) (cid : Nat) : (s.accept cid).sec.customer = s.sec.customer := by
  simp only [State.accept, State.reply_sec_customer]
@[simp] theorem State.accept_sec_verified (s : State) (cid : Nat) : (s.accept cid).sec.verified = s.sec.verified := by
  simp only [State.accept, State.reply_sec_verified]
@[simp] theorem State.accept_sec_auditOldest (s : State) (cid : Nat) : (s.accept cid).sec.auditOldest = s.sec.auditOldest := by
  simp only [State.accept, State.reply_sec_auditOldest]
@[simp] theorem State.accept_sec_auditFail (s : State) (cid : Nat) : (s.accept cid).sec.auditFail = s.sec.auditFail := by
  simp only [State.accept, State.reply_sec_auditFail]
@[simp] theorem State.accept_sec_test (s : State) (cid : Nat) : (s.accept cid).sec.test = s.sec.test := by
  simp only [State.accept, State.reply_sec_test]
@[simp] theorem State.accept_sec_testDue (s : State) (cid : Nat) : (s.accept cid).sec.testDue = s.sec.testDue := by
  simp only [State.accept, State.reply_sec_testDue]
@[simp] theorem State.accept_sec_testWaits (s : State) (cid : Nat) : (s.accept cid).sec.testWaits = s.sec.testWaits := by
  simp only [State.accept, State.reply_sec_testWaits]
@[simp] theorem State.accept_sec_written (s : State) (cid : Nat) : (s.accept cid).sec.written = s.sec.written := by
  simp only [State.accept, State.reply_sec_written]
@[simp] theorem State.accept_sec_recoveries (s : State) (cid : Nat) : (s.accept cid).sec.recoveries = s.sec.recoveries := by
  simp only [State.accept, State.reply_sec_recoveries]
@[simp] theorem State.accept_sec_episode (s : State) (cid : Nat) : (s.accept cid).sec.episode = s.sec.episode := by
  simp only [State.accept, State.reply_sec_episode]

/-! ### defer: the security module -/

@[simp] theorem State.defer_sec_mode (s : State) (cid : Nat) : (s.defer cid).sec.mode = s.sec.mode := by
  simp only [State.defer, State.count_sec, State.reply_sec_mode]
@[simp] theorem State.defer_sec_cause (s : State) (cid : Nat) : (s.defer cid).sec.cause = s.sec.cause := by
  simp only [State.defer, State.count_sec, State.reply_sec_cause]
@[simp] theorem State.defer_sec_permanent (s : State) (cid : Nat) : (s.defer cid).sec.permanent = s.sec.permanent := by
  simp only [State.defer, State.count_sec, State.reply_sec_permanent]
@[simp] theorem State.defer_sec_svnOtp (s : State) (cid : Nat) : (s.defer cid).sec.svnOtp = s.sec.svnOtp := by
  simp only [State.defer, State.count_sec, State.reply_sec_svnOtp]
@[simp] theorem State.defer_sec_svnRun (s : State) (cid : Nat) : (s.defer cid).sec.svnRun = s.sec.svnRun := by
  simp only [State.defer, State.count_sec, State.reply_sec_svnRun]
@[simp] theorem State.defer_sec_bootSlot (s : State) (cid : Nat) : (s.defer cid).sec.bootSlot = s.sec.bootSlot := by
  simp only [State.defer, State.count_sec, State.reply_sec_bootSlot]
@[simp] theorem State.defer_sec_nextSlot (s : State) (cid : Nat) : (s.defer cid).sec.nextSlot = s.sec.nextSlot := by
  simp only [State.defer, State.count_sec, State.reply_sec_nextSlot]
@[simp] theorem State.defer_sec_fallback (s : State) (cid : Nat) : (s.defer cid).sec.fallback = s.sec.fallback := by
  simp only [State.defer, State.count_sec, State.reply_sec_fallback]
@[simp] theorem State.defer_sec_debug (s : State) (cid : Nat) : (s.defer cid).sec.debug = s.sec.debug := by
  simp only [State.defer, State.count_sec, State.reply_sec_debug]
@[simp] theorem State.defer_sec_draws (s : State) (cid : Nat) : (s.defer cid).sec.draws = s.sec.draws := by
  simp only [State.defer, State.count_sec, State.reply_sec_draws]
@[simp] theorem State.defer_sec_dkk (s : State) (cid : Nat) : (s.defer cid).sec.dkk = s.sec.dkk := by
  simp only [State.defer, State.count_sec, State.reply_sec_dkk]
@[simp] theorem State.defer_sec_rmk (s : State) (cid : Nat) : (s.defer cid).sec.rmk = s.sec.rmk := by
  simp only [State.defer, State.count_sec, State.reply_sec_rmk]
@[simp] theorem State.defer_sec_recKey (s : State) (cid : Nat) : (s.defer cid).sec.recKey = s.sec.recKey := by
  simp only [State.defer, State.count_sec, State.reply_sec_recKey]
@[simp] theorem State.defer_sec_gmacKey (s : State) (cid : Nat) : (s.defer cid).sec.gmacKey = s.sec.gmacKey := by
  simp only [State.defer, State.count_sec, State.reply_sec_gmacKey]
@[simp] theorem State.defer_sec_salt (s : State) (cid : Nat) : (s.defer cid).sec.salt = s.sec.salt := by
  simp only [State.defer, State.count_sec, State.reply_sec_salt]
@[simp] theorem State.defer_sec_roleKeys (s : State) (cid : Nat) : (s.defer cid).sec.roleKeys = s.sec.roleKeys := by
  simp only [State.defer, State.count_sec, State.reply_sec_roleKeys]
@[simp] theorem State.defer_sec_envCounters (s : State) (cid : Nat) : (s.defer cid).sec.envCounters = s.sec.envCounters := by
  simp only [State.defer, State.count_sec, State.reply_sec_envCounters]
@[simp] theorem State.defer_sec_policy (s : State) (cid : Nat) : (s.defer cid).sec.policy = s.sec.policy := by
  simp only [State.defer, State.count_sec, State.reply_sec_policy]
@[simp] theorem State.defer_sec_coInstall (s : State) (cid : Nat) : (s.defer cid).sec.coInstall = s.sec.coInstall := by
  simp only [State.defer, State.count_sec, State.reply_sec_coInstall]
@[simp] theorem State.defer_sec_customer (s : State) (cid : Nat) : (s.defer cid).sec.customer = s.sec.customer := by
  simp only [State.defer, State.count_sec, State.reply_sec_customer]
@[simp] theorem State.defer_sec_verified (s : State) (cid : Nat) : (s.defer cid).sec.verified = s.sec.verified := by
  simp only [State.defer, State.count_sec, State.reply_sec_verified]
@[simp] theorem State.defer_sec_auditOldest (s : State) (cid : Nat) : (s.defer cid).sec.auditOldest = s.sec.auditOldest := by
  simp only [State.defer, State.count_sec, State.reply_sec_auditOldest]
@[simp] theorem State.defer_sec_auditFail (s : State) (cid : Nat) : (s.defer cid).sec.auditFail = s.sec.auditFail := by
  simp only [State.defer, State.count_sec, State.reply_sec_auditFail]
@[simp] theorem State.defer_sec_test (s : State) (cid : Nat) : (s.defer cid).sec.test = s.sec.test := by
  simp only [State.defer, State.count_sec, State.reply_sec_test]
@[simp] theorem State.defer_sec_testDue (s : State) (cid : Nat) : (s.defer cid).sec.testDue = s.sec.testDue := by
  simp only [State.defer, State.count_sec, State.reply_sec_testDue]
@[simp] theorem State.defer_sec_testWaits (s : State) (cid : Nat) : (s.defer cid).sec.testWaits = s.sec.testWaits := by
  simp only [State.defer, State.count_sec, State.reply_sec_testWaits]
@[simp] theorem State.defer_sec_written (s : State) (cid : Nat) : (s.defer cid).sec.written = s.sec.written := by
  simp only [State.defer, State.count_sec, State.reply_sec_written]
@[simp] theorem State.defer_sec_recoveries (s : State) (cid : Nat) : (s.defer cid).sec.recoveries = s.sec.recoveries := by
  simp only [State.defer, State.count_sec, State.reply_sec_recoveries]
@[simp] theorem State.defer_sec_episode (s : State) (cid : Nat) : (s.defer cid).sec.episode = s.sec.episode := by
  simp only [State.defer, State.count_sec, State.reply_sec_episode]

end Sys2Proof.Machine
end

