-- ==== Sys2Proof/Laws/Parts.lean ====
section
/-! SUPPORT. What an update of one part writes there, and that it leaves the other parts alone. -/

set_option Elab.async false

namespace Sys2Proof.Machine

theorem getD_upd_self {α : Type} (f : α → α) (d : α) : ∀ (l : List α) (i : Nat), i < l.length → (upd l i f).getD i d = f (l.getD i d)
  | [], i, h => absurd h (Nat.not_lt_zero i)
  | _ :: _, 0, _ => rfl
  | a :: as, i + 1, h => by
    have := getD_upd_self f d as i (Nat.lt_of_succ_lt_succ h)
    simpa [upd, List.getD_cons_succ] using this

theorem getD_upd_ne {α : Type} (f : α → α) (d : α) : ∀ (l : List α) (i j : Nat), j ≠ i → (upd l i f).getD j d = l.getD j d
  | [], i, _, _ => by cases i <;> rfl
  | _ :: _, 0, j, h => by
    cases j with
    | zero => exact absurd rfl h
    | succ j => rfl
  | a :: as, i + 1, j, h => by
    cases j with
    | zero => rfl
    | succ j =>
      have := getD_upd_ne f d as i j (fun e => h (congrArg _ e))
      simpa [upd, List.getD_cons_succ] using this

theorem upd_upd {α : Type} (f g : α → α) : ∀ (l : List α) (i : Nat), upd (upd l i f) i g = upd l i (fun x => g (f x))
  | [], i => by cases i <;> rfl
  | _ :: _, 0 => rfl
  | a :: as, i + 1 => by simp [upd, upd_upd f g as i]
theorem updRing_updRing (w : State) (r : Nat) (f g : Ring → Ring) : (w.updRing r f).updRing r g = w.updRing r (fun y => g (f y)) := by
  simp only [State.updRing, upd_upd]

@[simp] theorem State.queue_updQueue (s : State) (q : Nat) (f : Queue → Queue) : (s.updQueue q f).queue q = f (s.queue q) := by
  simp [State.queue, State.updQueue]

theorem State.queue_updQueue_ne (s : State) {q r : Nat} (f : Queue → Queue) (h : r ≠ q) : (s.updQueue q f).queue r = s.queue r := by
  simp [State.queue, State.updQueue, Sparse.get_set_ne _ _ _ _ h]

@[simp] theorem State.evSrc_updEv (s : State) (x : Nat) (f : EvSrc → EvSrc) : (s.updEv x f).evSrc x = f (s.evSrc x) := by
  simp [State.evSrc, State.updEv]

theorem State.evSrc_updEv_ne (s : State) {x y : Nat} (f : EvSrc → EvSrc) (h : y ≠ x) : (s.updEv x f).evSrc y = s.evSrc y := by
  simp [State.evSrc, State.updEv, Sparse.get_set_ne _ _ _ _ h]

/-! ### Reports leave the work alone -/

theorem SameWork.refl (s : State) : SameWork s s := ⟨rfl, rfl, rfl, rfl, rfl, rfl, rfl, rfl, rfl, rfl, rfl, rfl, rfl, rfl, rfl, rfl, rfl, rfl, rfl, rfl⟩

theorem SameWork.trans {s t u : State} (h : SameWork s t) (k : SameWork t u) : SameWork s u :=
  ⟨k.1.trans h.1, k.2.trans h.2, k.3.trans h.3, k.4.trans h.4, k.5.trans h.5, k.6.trans h.6, k.7.trans h.7, k.8.trans h.8,
   k.9.trans h.9, k.10.trans h.10, k.11.trans h.11, k.12.trans h.12, k.13.trans h.13, k.14.trans h.14, k.15.trans h.15,
   k.16.trans h.16, k.17.trans h.17, k.18.trans h.18, k.19.trans h.19, k.20.trans h.20⟩

theorem State.raise_same (s : State) (e : Ev) (d : Nat) : SameWork s (s.raise e d) := by constructor <;> simp

theorem State.count_same (s : State) (c : Ctr) (i n : Nat) : SameWork s (s.count c i n) := by constructor <;> simp

theorem State.updHost_same (s : State) (f : HostSt → HostSt) : SameWork s (s.updHost f) := by constructor <;> rfl

theorem State.updRing_same (s : State) (r : Nat) (f : Machine.Ring → Machine.Ring) : SameWork s (s.updRing r f) := by constructor <;> rfl

theorem State.sendMsix_same (s : State) (v : Nat) : SameWork s (s.sendMsix v) := by constructor <;> simp

theorem SameWork.foldl {α : Type} {f : State → α → State} (hf : ∀ s a, SameWork s (f s a)) :
    ∀ (l : List α) (s : State), SameWork s (l.foldl f s)
  | [], s => SameWork.refl s
  | a :: l, s => (hf s a).trans (SameWork.foldl hf l _)

/-! ### A flush leaves the configuration, the run and the rings alone -/

theorem State.ring_st_updRing (s : State) (r k : Nat) (f : Machine.Ring → Machine.Ring) (h : ∀ x, (f x).st = x.st) :
    ((s.updRing r f).ring k).st = (s.ring k).st := by
  by_cases e : k = r
  · subst e
    by_cases l : k < s.host.rings.length
    · rw [State.ring, State.updRing, getD_upd_self _ _ _ _ l, h]; rfl
    · simp [State.ring, State.updRing, List.getD_eq_getElem?_getD, List.getElem?_eq_none (Nat.le_of_not_lt l),
        List.getElem?_eq_none (l := upd s.host.rings k f) (by simpa using l)]
  · rw [State.ring, State.updRing, getD_upd_ne _ _ _ _ _ e]; rfl

/-- From s to t the parameters in effect, the run's state, the sequencer, the completion store and the states of the rings are as
    before. -/
structure Mild (s t : State) : Prop where
  par : t.par = s.par
  run : t.cap.run = s.cap.run
  seq : t.seq = s.seq
  store : t.host.store = s.host.store
  rings : ∀ k, (t.ring k).st = (s.ring k).st

theorem Mild.refl (s : State) : Mild s s := ⟨rfl, rfl, rfl, rfl, fun _ => rfl⟩

theorem Mild.trans {s t u : State} (h : Mild s t) (k : Mild t u) : Mild s u :=
  ⟨k.1.trans h.1, k.2.trans h.2, k.3.trans h.3, k.4.trans h.4, fun r => (k.5 r).trans (h.5 r)⟩

theorem Mild.of {s t : State} (a : t.par = s.par) (b : t.cap.run = s.cap.run) (c : t.seq = s.seq) (d : t.host.store = s.host.store)
    (e : t.host.rings = s.host.rings) : Mild s t := ⟨a, b, c, d, fun k => by rw [State.ring, State.ring, e]⟩

theorem Mild.ite {s a b : State} {c : Prop} [Decidable c] (ha : Mild s a) (hb : Mild s b) : Mild s (if c then a else b) := by
  split <;> assumption

theorem Mild.foldl {α : Type} {f : State → α → State} (hf : ∀ s a, Mild s (f s a)) : ∀ (l : List α) (s : State), Mild s (l.foldl f s)
  | [], s => Mild.refl s
  | a :: l, s => (hf s a).trans (Mild.foldl hf l _)

theorem State.slotsWrite_rings (r v k : Nat) : ∀ (n : Nat) (s : State) (bs : List Byte), ((s.slotsWrite r v n bs).ring k).st = (s.ring k).st
  | 0, _, _ => rfl
  | n + 1, s, bs => by
    rw [State.slotsWrite, State.slotsWrite_rings r v k n, State.ring_st_updRing _ _ _ _ (fun x => by rfl)]
    simp [State.ring]

theorem State.writeEvent_rings (s : State) (x k : Nat) (d : Bool) : ((s.writeEvent x d).ring k).st = (s.ring k).st := by
  rw [State.ring]
  simp only [State.writeEvent, State.signal_host_rings, State.updEv_host_rings]
  exact State.slotsWrite_rings 5 _ k 1 s _

theorem State.readyEvent_rings (s : State) (x k : Nat) : ((s.readyEvent x).ring k).st = (s.ring k).st := by
  unfold State.readyEvent
  split
  · exact s.writeEvent_rings x k false
  · rfl

theorem State.raise_rings (s : State) (e : Ev) (d k : Nat) : ((s.raise e d).ring k).st = (s.ring k).st := by
  rw [State.ring, State.raise, State.raiseFault_host]
  show ((State.raiseEvent s _ _).ring k).st = _
  unfold State.raiseEvent
  dsimp only
  split
  · rfl
  · split
    · rfl
    · rw [State.readyEvent_rings]; rfl

theorem State.raise_mild (s : State) (e : Ev) (d : Nat) : Mild s (s.raise e d) :=
  ⟨by simp, by simp, by simp, by simp, s.raise_rings e d⟩

theorem State.count_mild (s : State) (c : Ctr) (i n : Nat) : Mild s (s.count c i n) := by
  unfold State.count
  dsimp only
  split
  · exact (Mild.of rfl rfl rfl rfl rfl : Mild s (s.bump c i n)).trans (State.raise_mild _ _ _)
  · exact Mild.of rfl rfl rfl rfl rfl

theorem Mild.raise {s t : State} (h : Mild s t) (e : Ev) (d : Nat) : Mild s (t.raise e d) := h.trans (t.raise_mild e d)

theorem Mild.count {s t : State} (h : Mild s t) (c : Ctr) (i n : Nat) : Mild s (t.count c i n) := h.trans (t.count_mild c i n)

theorem Mild.updQueue {s t : State} (h : Mild s t) (q : Nat) (f : Queue → Queue) : Mild s (t.updQueue q f) :=
  h.trans (Mild.of rfl rfl rfl rfl rfl)

theorem Mild.setHq {s t : State} (h : Mild s t) (q : HqSt) : Mild s { t with hq := q } := h.trans (Mild.of rfl rfl rfl rfl rfl)

theorem Mild.setSec {s t : State} (h : Mild s t) (x : SecSt) : Mild s { t with sec := x } := h.trans (Mild.of rfl rfl rfl rfl rfl)

theorem Mild.pktWrite {s t : State} (h : Mild s t) (q blk off : Nat) (bs : List Byte) : Mild s (t.pktWrite q blk off bs) := by
  unfold State.pktWrite
  exact Mild.ite (h.trans (Mild.of rfl rfl rfl rfl rfl)) (h.trans (Mild.of rfl rfl rfl rfl rfl))

theorem Mild.publish {s t : State} (h : Mild s t) (q : Nat) : Mild s (t.publish q) := (h.updQueue q _).count _ _ _

theorem Mild.takeSpill {s t : State} (h : Mild s t) (q blk n : Nat) : Mild s (t.takeSpill q blk n) := by
  unfold State.takeSpill
  dsimp only
  refine Mild.ite h ?_
  have a : Mild s (State.count { t with host := { t.host with
      spill := t.host.spill ++ [SpillItem.packet q blk n [] false], spillUsed := t.host.spillUsed + n } } .HQ_SPILLED) := by
    refine Mild.count ?_ _ _ _
    exact h.trans (Mild.of rfl rfl rfl rfl rfl)
  exact Mild.ite a ((a.raise _ _).setHq _)

theorem Mild.writePad {s t : State} (h : Mild s t) (q pad : Nat) : Mild s (t.writePad q pad) := by
  unfold State.writePad
  exact Mild.ite h ((((h.takeSpill _ _ _).pktWrite _ _ _ _).updQueue _ _).count _ _ _)

theorem Mild.countDrop {s t : State} (h : Mild s t) (q n : Nat) : Mild s (t.countDrop q n) := by
  unfold State.countDrop
  dsimp only
  have a := (h.updQueue q (fun x => { x with drops := satAdd32 x.drops n, dropsBefore := satAdd32 x.dropsBefore n, dropRaised := true })).count
    .HQ_DROPS 0 n
  exact Mild.ite (a.raise _ _) a

theorem Mild.countSpillDrop {s t : State} (h : Mild s t) (q : Nat) : Mild s (t.countSpillDrop q) := by
  unfold State.countSpillDrop
  dsimp only
  have a := (h.countDrop q 1).count .HQ_SPILL_DROPS 0 1
  exact Mild.ite a ((a.raise _ _).setHq _)

theorem Mild.countUnsigned {s t : State} (h : Mild s t) (line : Nat) : Mild s (t.countUnsigned line) := by
  unfold State.countUnsigned
  dsimp only
  have a := h.count .SEC_UNSIGNED_PACKETS 0 1
  split
  · exact a
  · exact Mild.ite a (a.setSec _)

theorem Mild.place {s t : State} (h : Mild s t) (q : Nat) (typ : PktType) (source line line1 col0 col1 items lost : Nat) (body : List Byte) :
    Mild s (t.place q typ source line line1 col0 col1 items lost body) := by
  unfold State.place
  dsimp only
  refine Mild.publish ?_ q
  refine Mild.ite (Mild.countUnsigned ?_ _) ?_ <;> refine Mild.updQueue (Mild.pktWrite ?_ _ _ _ _) _ _ <;>
    refine Mild.ite (Mild.pktWrite ?_ _ _ _ _) ?_ <;> exact (((h.writePad _ _).takeSpill _ _ _).pktWrite _ _ _ _)

theorem Mild.resetQueue {s t : State} (h : Mild s t) (q : Nat) : Mild s (t.resetQueue q) := by
  unfold State.resetQueue
  dsimp only
  refine (Mild.count ?_ _ _ _).raise _ _
  have a := (h.trans (Mild.of rfl rfl rfl rfl rfl : Mild t ((t.dropSpilled q).waitsDue q))).trans
    (Mild.foldl (f := fun (s : State) (p : Pkt) => if (p.published && (p.typ == .tile || p.typ == .band)) = true then
      s.hostWrite ((t.queue q).base + 256 * (p.blk % (t.queue q).ring) + 15)
        [Sparse.get s.hostMem 0 ((t.queue q).base + 256 * (p.blk % (t.queue q).ring) + 15) ||| 16] else s)
      (fun s p => Mild.ite (Mild.of rfl rfl rfl rfl rfl) (Mild.refl s)) (t.queue q).open_ ((t.dropSpilled q).waitsDue q))
  exact Mild.ite (a.updQueue q _) ((a.updQueue q _).countDrop q _)

theorem Mild.serviceRecord {s t : State} (h : Mild s t) (q : Nat) (body : List Byte) : Mild s (t.serviceRecord q body) := by
  unfold State.serviceRecord
  dsimp only
  have a := Mild.ite (c := (t.queue q).split = true) (h.resetQueue q) h
  split
  · exact a.place _ _ _ _ _ _ _ _ _ _
  · exact a.countDrop _ _
  · exact a.countSpillDrop _

theorem Mild.covClose {s t : State} (h : Mild s t) (e : CovEnt) : Mild s (t.covClose e) := by
  unfold State.covClose State.covWrite
  dsimp only
  refine Mild.ite (Mild.serviceRecord (Mild.count ?_ _ _ _) _ _) (Mild.count ?_ _ _ _) <;>
    exact h.trans (Mild.of rfl rfl rfl rfl rfl)

theorem Mild.covReport {s t : State} (h : Mild s t) (r : CovEnt) : Mild s (t.covReport r) := by
  unfold State.covReport
  dsimp only
  refine Mild.ite h ?_
  split
  · exact h.trans (Mild.of rfl rfl rfl rfl rfl)
  · refine Mild.ite (h.trans (Mild.of rfl rfl rfl rfl rfl)) ?_
    split
    · exact h.trans (Mild.of rfl rfl rfl rfl rfl)
    · cases t.cap.cov.opens with
      | nil => exact h.trans (Mild.of rfl rfl rfl rfl rfl)
      | cons e l => exact ((h.covClose e).count _ _ _).trans (Mild.of rfl rfl rfl rfl rfl)

theorem Mild.unreported {s t : State} (h : Mild s t) (b : Branch) (q line n : Nat) (cols : Nat × Nat) (cause : Ev) (items : Nat) :
    Mild s (t.unreported b q line n cols cause items) := by
  unfold State.unreported
  exact Mild.ite h (h.covReport _)

theorem Mild.footprints (q : Nat) (cause : Ev) : ∀ (ps : List PktSpan) {s t : State}, Mild s t → Mild s (t.footprints q cause ps)
  | [], _, _, h => h
  | p :: ps, _, t, h => by
    unfold State.footprints
    refine Mild.footprints q cause ps ?_
    split
    · exact h.trans (Mild.foldl (fun s _ => (Mild.refl s).unreported _ _ _ _ _ _ _) _ _)
    · exact Mild.ite h (h.unreported _ _ _ _ _ _ _)
    · exact h

theorem Mild.loseBand {s t : State} (h : Mild s t) (q : Nat) (cause : Ev) : Mild s (t.loseBand q cause) := by
  unfold State.loseBand
  split
  · exact Mild.ite (h.trans (Mild.of rfl rfl rfl rfl rfl)) h
  · exact h

theorem Mild.checkQueue {s t : State} (h : Mild s t) (q : Nat) : Mild s (t.checkQueue q) := by
  unfold State.checkQueue
  exact Mild.ite h ((Mild.footprints _ _ _ (h.resetQueue q)).loseBand _ _)

theorem Mild.flushQueue {s t : State} (h : Mild s t) (q : Nat) : Mild s (t.flushQueue q).2 := by
  unfold State.flushQueue
  dsimp only
  refine Mild.raise (Mild.footprints _ _ _ ?_) _ _
  have b : Mild s (((t.checkQueue q).dropSpilled q).waitsDue q) := by
    refine (h.checkQueue q).trans ?_
    exact Mild.of rfl rfl rfl rfl rfl
  exact Mild.ite ((b.loseBand _ _).updQueue _ _) (((b.loseBand _ _).updQueue _ _).count _ _ _)

end Sys2Proof.Machine
end

