-- ==== Sys2Proof/Machine/Pins.lean ====
section
/-! DEFINITION. Output pins whose levels follow from the state at an instant: the tick output (R35), and each lamp bar's strobe and phase
code (R112, R113, R123, R572). The sensor signals are in SenOps, coil codes and AX_a_EN in MotOps, loop outputs in AuxOps. -/

namespace Sys2Proof.Machine

/-- TICK_OUT: high for 40 ns from the start of a captured line's waveforms (R35). -/
def State.tickOutHigh (s : State) : Bool := decide (s.now < s.seq.tickOutUntil) && decide (s.seq.tickOutUntil ≤ s.now + ns 40)

/-- Whether a bar is off, or its outputs are held (R113, R566, R572): mode off, lamp domain off, SAFE. -/
def State.barDown (s : State) (b : Nat) : Bool := s.p .LMP_MODE b == 0 || !natBit s.pwr.domains 48 || s.pwr.st == .safe

/-- How long ago the SYNC of R123 began, on a native bar, up to its end at 24 ns; in units of 0.5 ns. -/
def State.syncAge (s : State) (b : Nat) : Option Nat :=
  match s.lamp.syncAt with
  | some t => if s.native b ∧ t ≤ s.now ∧ s.now < t + ns 24 then some ((s.now - t) / 384) else none
  | none => none

/-- LMP_b_STB (R113, R123). -/
def State.lampStb (s : State) (b : Nat) : Bool :=
  !s.barDown b &&
    (s.lamp.strobes.any (fun x => x.bar == b && decide (x.rise ≤ s.now) && decide (s.now < x.fall)) ||
     (match s.syncAge b with | some h => decide (15 ≤ h) && decide (h < 40) | none => false))

/-- The phase whose code the bars carry in a slot: 0 from 24 ns after its start, each later one from its window's opening (R113). -/
def State.codePhase (s : State) : Option Nat :=
  match s.seq.slot with
  | none => none
  | some x =>
    ((x.plans.zipIdx).filter (fun (y : PhasePlan × Nat) => decide ((if y.2 = 0 then x.start + ns 24 else y.1.openAt) ≤ s.now))).getLast?.map (·.2)

/-- LMP_b_PH (R112, R113): 7 on a bar that is off, in SAFE, in HOLD or IDLE outside diagnostics, and around a SYNC; 6 in diagnostics. -/
def State.lampPh (s : State) (b : Nat) : Nat :=
  if s.barDown b then 7
  else match s.syncAge b with
    | some h => if h < 5 then s.codePhase.getD 7 else 7
    | none =>
      if (match (s.bar b).diag with | some d => d.running | none => false) then 6
      else if s.seq.hold || s.seq.idle || s.cap.run == RunSt.closed then 7
      else s.codePhase.getD 7

end Sys2Proof.Machine
end

