-- ==== Sys2Proof/Tests/Slice0.lean ====
section
/-! SUPPORT. The model's own tests: ill-formed commands that the check refuses, single steps on small states against the manual's words, and
for each statement with hypotheses a state and operands that meet them. -/

set_option Elab.async false

open Sys2Proof Sys2Proof.Machine

namespace Sys2Proof.Tests

/-! ### Helpers -/

/-- READY, link active, rings running at 64 KiB each, and ring r with 64 slots waiting. -/
def base (r : Nat) : State :=
  { State.reset with
    pwr := { State.reset.pwr with st := .ready, domains := 2 ^ 56 - 1, channels := 8, gib := 32 }
    host := { State.reset.host with
      rings := (List.range 6).map (fun i => ⟨65536 * (i + 1), 8, .running, 0, if i = r then 64 else 0, 0, true⟩)
      link := ⟨0, true, true, true, 32, 64, none, 0, false, none⟩ } }

/-- A bare command on ring r for the whole device. -/
def cmdOn (r : Nat) (commit : Nat) (ws : List Nat) : Cmd := ⟨r, false, false, 7, 0, 0, 0, 0, commit, 0, ws.map (fun w => BitVec.ofNat 32 w)⟩

/-- A bare command to a tile. -/
def cmdTile (tile commit : Nat) (ws : List Nat) : Cmd := { cmdOn 1 commit ws with level := 1, tile := tile }

/-- A bare command to a lane. -/
def cmdLane (tile lane commit : Nat) (ws : List Nat) : Cmd := { cmdOn 1 commit ws with level := 2, tile := tile, lane := lane }

/-- The conditions of Fit in one Boolean. -/
def fitB (op : Nat) (levels : List Nat) (s : State) (t : Nat) (c : Cmd) : Bool :=
  (s.advance t).fetchable c && !c.envelope && decide (c.words.length ≤ 248) && decide (c.level ∈ levels) &&
  decide (c.dev = natField s.pwr.straps 3 1) && (c.level != 2 || decide (c.lane ≤ 8)) && !s.needsEnvelope op c.words &&
  (op / 256 != 0x0C || c.ring == 3) && (!audited op c.words || !(s.taken t op c).auditFull)

theorem fit_of {op : Nat} {ls : List Nat} {s : State} {t : Nat} {c : Cmd} (h : fitB op ls s t c = true) : Fit op ls s t c := by
  simp only [fitB, Bool.and_eq_true, Bool.or_eq_true, Bool.not_eq_true', decide_eq_true_eq, bne_iff_ne, beq_iff_eq] at h
  obtain ⟨⟨⟨⟨⟨⟨⟨⟨a, b⟩, c⟩, d⟩, e⟩, f⟩, g⟩, i⟩, j⟩ := h
  exact ⟨a, b, c, d, e, fun x => f.resolve_left (fun y => y x), g, fun x => i.resolve_left (fun y => y x),
    fun x => j.resolve_left (fun y => by simp [x] at y)⟩

theorem sent_of {op : Nat} {ls : List Nat} {s : State} {t : Nat} {c : Cmd}
    (h : (fitB op ls s t c && (s.groupOn c.ring).isNone) = true) : Sent op ls s t c := by
  rw [Bool.and_eq_true, Option.isNone_iff_eq_none] at h
  exact ⟨fit_of h.1, h.2⟩

/-- The conditions of Pointed in one Boolean. -/
def pointedB (s : State) (c : Cmd) (ps : List Pt) (p : Pt) : Bool :=
  ptOf c.commit == some p && ps.contains p && (p != .rept || s.p .CMP_REPEAT_MODE != 0) && (p != .position || s.cap.run == .open_)

theorem pointed_of {s : State} {c : Cmd} {ps : List Pt} {p : Pt} (h : pointedB s c ps p = true) : Pointed s c ps p := by
  simp only [pointedB, Bool.and_eq_true, Bool.or_eq_true, bne_iff_ne, beq_iff_eq, List.contains_iff_mem] at h
  exact ⟨h.1.1.1, h.1.1.2, fun x => h.1.2.resolve_left (fun y => y x), fun x => h.2.resolve_left (fun y => y x)⟩

/-- The conditions of Writable in one Boolean. -/
def writableB (s : State) (p : Pt) (arg : Nat) (ws : List (Nat × ParWrite)) : Bool :=
  ws.all (fun w => w.2.par.row.range.ok w.2.par.row.bits w.2.val) && ws.all (fun w => takesPoint p w.2) &&
  (s.relFails ws).isEmpty && (s.calFails ⟨p, arg, ws.map (fun w => w.2)⟩).isEmpty && (s.gridFails ⟨p, arg, ws.map (fun w => w.2)⟩).isEmpty

theorem writable_of {s : State} {p : Pt} {arg : Nat} {ws : List (Nat × ParWrite)} (h : writableB s p arg ws = true) :
    Writable s p arg ws := by
  simp only [writableB, Bool.and_eq_true, List.all_eq_true, List.isEmpty_iff] at h
  obtain ⟨⟨⟨⟨a, b⟩, c⟩, d⟩, e⟩ := h
  exact ⟨by intro w hw; obtain ⟨x, hx, rfl⟩ := List.mem_map.mp hw; exact a x hx, b, c, d, e⟩

/-! ### Witnesses: for each statement with hypotheses, a state and operands that meet them -/

theorem witness_StepRunsFrontCommand :
    ({ State.reset with pending := [.gridTick 5, .idleEnter 9] } : State).pending = .gridTick 5 :: [.idleEnter 9] ∧ State.reset.pending = [] :=
  ⟨rfl, rfl⟩

theorem witness_EveryStepKeepsSoundness : sound (base 1) ∧ step (base 1) = .next (base 1) := by
  refine ⟨⟨by decide, ⟨by decide, by decide⟩, ⟨by decide, by decide, by decide⟩, rfl⟩, rfl⟩

theorem witness_UnfetchedCommandsWait : let c := cmdOn 1 0 [5]
    (Instr.sysNop 768 c).packet = some (768, c) ∧ (State.reset.advance 768).fetchable c = false := ⟨rfl, by decide⟩

theorem witness_RefusedCommandsOnlyReply_count : let c := { cmdOn 1 0 [] with words := List.replicate 249 0 }
    (Instr.sysNop 768 c).packet = some (768, c) ∧ ((base 1).advance 768).fetchable c = true ∧ c.envelope = false ∧
    (base 1).groupOn c.ring = none ∧ 248 < c.words.length := ⟨rfl, by decide +kernel⟩

theorem witness_RefusedCommandsOnlyReply_device : let c := { cmdOn 1 0 [] with dev := 1 }
    (Instr.sysNop 768 c).packet = some (768, c) ∧ ((base 1).advance 768).fetchable c = true ∧ c.envelope = false ∧
    (base 1).groupOn c.ring = none ∧ c.dev ≠ natField (base 1).pwr.straps 3 1 := ⟨rfl, by decide⟩

theorem witness_RefusedCommandsOnlyReply_ring : let c := cmdOn 1 0 []
    (Instr.secIdentity 768 c).packet = some (768, c) ∧ ((base 1).advance 768).fetchable c = true ∧ c.envelope = false ∧
    (base 1).groupOn c.ring = none ∧ (Instr.secIdentity 768 c).opcode / 256 = 0x0C ∧ c.ring ≠ 3 := ⟨rfl, by decide⟩

theorem witness_RefusedCommandsOnlyReply_envelope : let c := cmdOn 3 0 []
    (Instr.secZeroise 768 c).packet = some (768, c) ∧ ((base 3).advance 768).fetchable c = true ∧ c.envelope = false ∧
    (base 3).groupOn c.ring = none ∧ (base 3).needsEnvelope (Instr.secZeroise 768 c).opcode c.words = true := ⟨rfl, by decide⟩

theorem witness_SystemAndTimeReads_plain : Sent 0x0101 [0] (base 1) 768 (cmdOn 1 0 [5]) ∧ Sent 0x0102 [0] (base 0) 0 (cmdOn 0 0 []) ∧
    Sent 0x0106 [0] (base 2) 0 (cmdOn 2 0 []) ∧ Sent 0x0202 [0] (base 3) 0 (cmdOn 3 0 []) ∧ Sent 0x0203 [0] (base 1) 0 (cmdOn 1 4 []) ∧
    Sent 0x0A02 [0] (base 1) 0 (cmdOn 1 0 []) ∧ Sent 0x0A07 [0] (base 1) 0 (cmdOn 1 0 []) :=
  ⟨sent_of (by decide), sent_of (by decide), sent_of (by decide), sent_of (by decide), sent_of (by decide), sent_of (by decide),
    sent_of (by decide)⟩

/-- 248 sources from 352 on: the largest count, up to source 599. -/
theorem witness_SystemAndTimeReads_events : let c := cmdOn 1 0 [0x80F80160]
    Sent 0x0105 [0] (base 1) 768 c ∧ c.f 0 25 16 ≠ 0 ∧ c.f 0 25 16 ≤ 248 ∧ c.f 0 9 0 + c.f 0 25 16 ≤ 600 :=
  ⟨sent_of (by decide), by decide⟩

theorem witness_LampLaneAndCorrectionReads_plain : Sent 0x0809 [0] (base 1) 0 (cmdOn 1 0 []) ∧ Sent 0x0308 [1] (base 1) 0 (cmdTile 15 0 []) ∧
    Sent 0x0409 [0] (base 1) 0 (cmdOn 1 0 []) ∧ Sent 0x040A [1] (base 1) 0 (cmdTile 0 0 []) :=
  ⟨sent_of (by decide), sent_of (by decide), sent_of (by decide), sent_of (by decide)⟩

/-- Chips 3 to 63: the largest count. -/
theorem witness_LampLaneAndCorrectionReads_faults : let c := cmdOn 1 0 [0x003D0300]
    Sent 0x0807 [0] (base 1) 0 c ∧ c.f 0 21 16 ≠ 0 ∧ c.f 0 21 16 ≤ 61 ∧ c.f 0 13 8 + c.f 0 21 16 ≤ 64 := ⟨sent_of (by decide), by decide⟩

theorem witness_CaptureQueueAndArenaReads : Sent 0x0506 [0] (base 1) 0 (cmdOn 1 0 []) ∧ Sent 0x0604 [0] (base 1) 0 (cmdOn 1 0 []) ∧
    Sent 0x0704 [0] (base 1) 0 (cmdOn 1 0 [0xFFFF]) ∧ Sent 0x0708 [0] (base 1) 0 (cmdOn 1 0 []) :=
  ⟨sent_of (by decide), sent_of (by decide), sent_of (by decide), sent_of (by decide)⟩

theorem witness_MotionHealthAndPowerReads_plain : Sent 0x090B [0] (base 1) 0 (cmdOn 1 0 [7]) ∧ Sent 0x0B07 [0] (base 1) 0 (cmdOn 1 0 []) ∧
    Sent 0x0D01 [0] (base 1) 0 (cmdOn 1 0 []) ∧ Sent 0x0D06 [0] (base 1) 0 (cmdOn 1 0 []) ∧ Sent 0x0E03 [0] (base 1) 0 (cmdOn 1 0 []) ∧
    Sent 0x0F01 [0] (base 1) 0 (cmdOn 1 0 []) :=
  ⟨sent_of (by decide), sent_of (by decide), sent_of (by decide), sent_of (by decide), sent_of (by decide), sent_of (by decide)⟩

/-- Slots 33 to 63 of the fault queue. -/
theorem witness_MotionHealthAndPowerReads_faults : let c := cmdOn 1 0 [0x1F21]
    Sent 0x0D02 [0] (base 1) 0 c ∧ c.f 0 12 8 ≠ 0 ∧ c.f 0 5 0 + c.f 0 12 8 ≤ 64 := ⟨sent_of (by decide), by decide⟩

/-- The last lane converters' trims. -/
theorem witness_MotionHealthAndPowerReads_trims : let c := cmdOn 1 0 [0x00008F01, 1]
    Sent 0x0D09 [0] (base 1) 0 c ∧ kindCount (c.f 0 7 0) ≠ 0 ∧ c.f 0 23 8 < kindCount (c.f 0 7 0) ∧ c.f 1 5 0 ≠ 0 ∧ c.f 1 5 0 ≠ 63 ∧
    c.f 0 23 8 + c.f 1 5 0 ≤ kindCount (c.f 0 7 0) := ⟨sent_of (by decide), by decide⟩

theorem witness_MotionHealthAndPowerReads_counters : let c := cmdOn 1 0 [0x00200002]
    Sent 0x0D0A [0] (base 1) 0 c ∧ c.f 0 27 20 ≠ 0 ∧ c.f 0 27 20 ≤ 248 ∧ c.f 0 19 8 + c.f 0 27 20 ≤ (groupIndex (c.f 0 7 0)).length :=
  ⟨sent_of (by decide), by decide⟩

theorem witness_CounterClears : ∀ x ∈ [(0x0108, 0), (0x0206, 1), (0x030B, 1), (0x040B, 1), (0x0508, 1), (0x0605, 1), (0x080A, 1), (0x090C, 1),
      (0x0A08, 1), (0x0B08, 1), (0x0C11, 3), (0x0D0B, 1), (0x0E04, 1), (0x0F06, 1), (0x070C, 1)],
    Sent x.1 [0] (base x.2) 0 (cmdOn x.2 0 [0x80000001]) := by
  intro x hx
  have h : ∀ x ∈ [(0x0108, 0), (0x0206, 1), (0x030B, 1), (0x040B, 1), (0x0508, 1), (0x0605, 1), (0x080A, 1), (0x090C, 1),
      (0x0A08, 1), (0x0B08, 1), (0x0C11, 3), (0x0D0B, 1), (0x0E04, 1), (0x0F06, 1), (0x070C, 1)],
      (fitB x.1 [0] (base x.2) 0 (cmdOn x.2 0 [0x80000001]) && ((base x.2).groupOn (cmdOn x.2 0 [0x80000001]).ring).isNone) = true := by decide
  exact sent_of (h x hx)

theorem witness_ImmediateSets_system : let c := cmdOn 1 0 [0x02, 100]
    let ws := setWrites c (sysSetFields c) (maskAt c)
    Sent 0x0103 [0] (base 1) 0 c ∧ Writable ((base 1).taken 0 0x0103 c) .immediate c.arg ws ∧ ws ≠ [] :=
  ⟨sent_of (by decide), writable_of (by decide), by decide⟩

theorem witness_ImmediateSets_queues : let c := cmdOn 1 0 [100]
    let ws := setWrites c [⟨0, 0, .HQ_WAIT_LIMIT, 0⟩] (fun n => n == 0)
    Sent 0x0706 [0] (base 1) 0 c ∧ Writable ((base 1).taken 0 0x0706 c) .immediate c.arg ws :=
  ⟨sent_of (by decide), writable_of (by decide)⟩

/-- The last GiB of 256. -/
theorem witness_ImmediateSets_bar2 : let c := cmdOn 1 0 [255]
    let ws := setWrites c [⟨0, 0, .HIS_BAR2_BASE, 0⟩] (fun n => n == 0)
    Sent 0x070B [0] (base 1) 0 c ∧ Writable ((base 1).taken 0 0x070B c) .immediate c.arg ws ∧
    c.f 0 7 0 < (base 1).pwr.channels * (base 1).pwr.gib :=
  ⟨sent_of (by decide), writable_of (by decide), by decide⟩

theorem witness_ImmediateSets_health : let c := cmdOn 1 0 [0x02, 7]
    let ws := setWrites c [⟨1, 0, .HLT_CE_LIMIT, 0⟩, ⟨2, 0, .HLT_SCRUB_PERIOD, 0⟩, ⟨3, 0, .HLT_PM_LIMIT, 0⟩] (maskAt c)
    Sent 0x0D04 [0] (base 1) 0 c ∧ Writable ((base 1).taken 0 0x0D04 c) .immediate c.arg ws ∧ ws ≠ [] :=
  ⟨sent_of (by decide), writable_of (by decide), by decide⟩

/-- Source 599, the last. -/
theorem witness_ImmediateSets_route : let c := cmdOn 1 0 [0x00010257, 0x13F]
    let ws := (List.range (c.f 0 25 16)).flatMap (fun i =>
     [(1 + i, (⟨.EVT_VEC, c.f 0 9 0 + i, c.f (1 + i) 5 0⟩ : ParWrite)), (1 + i, ⟨.EVT_EN, c.f 0 9 0 + i, c.f (1 + i) 8 8⟩)])
    Sent 0x0104 [0] (base 1) 0 c ∧ InRange (ws.map (fun w => w.2)) ∧ c.f 0 25 16 ≠ 0 ∧ c.f 0 25 16 ≤ 247 ∧
    c.f 0 9 0 + c.f 0 25 16 ≤ 600 ∧ c.words.length = 1 + c.f 0 25 16 :=
  ⟨sent_of (by decide), by unfold InRange; decide, by decide⟩

theorem witness_ImmediateSets_classes : let c := cmdOn 1 0 [0x00010257, 3]
    let ws := (List.range (c.f 0 25 16)).map (fun i => (1 + i, (⟨.HLT_CLASS, c.f 0 9 0 + i, c.f (1 + i) 2 0⟩ : ParWrite)))
    Sent 0x0D05 [0] (base 1) 0 c ∧ InRange (ws.map (fun w => w.2)) ∧ c.f 0 25 16 ≠ 0 ∧ c.f 0 25 16 ≤ 247 ∧
    c.f 0 9 0 + c.f 0 25 16 ≤ 600 ∧ c.words.length = 1 + c.f 0 25 16 :=
  ⟨sent_of (by decide), by unfold InRange; decide, by decide⟩

theorem witness_SequencerAndTimeSets_sequencer : let c := cmdOn 1 4 [0x02, 0x2300]
    let ws := setWrites c (seqSetFields c) (maskAt c)
    Sent 0x0201 [0] (base 1) 0 c ∧ Pointed (base 1) c allPoints .idle ∧ Writable ((base 1).taken 0 0x0201 c) .idle c.arg ws ∧ ws ≠ [] :=
  ⟨sent_of (by decide), pointed_of (by decide), writable_of (by decide), by decide⟩

/-- A tick commit of what ticks may carry. -/
theorem witness_SequencerAndTimeSets_guard : let c := cmdOn 1 1 [0x20, 0, 0, 0, 0, 0x03E800C8]
    let ws := setWrites c (seqSetFields c) (maskAt c)
    Sent 0x0201 [0] (base 1) 0 c ∧ Pointed (base 1) c allPoints .tick ∧ Writable ((base 1).taken 0 0x0201 c) .tick c.arg ws ∧ ws ≠ [] :=
  ⟨sent_of (by decide), pointed_of (by decide), writable_of (by decide), by decide⟩

theorem witness_SequencerAndTimeSets_encoder : let c := cmdOn 1 4 [0x103, 0x412]
    let ws := setWrites c (posSetFields c) (maskFrom7 c)
    Sent 0x0A01 [0] (base 1) 0 c ∧ Pointed (base 1) c allPoints .idle ∧ Writable ((base 1).taken 0 0x0A01 c) .idle c.arg ws ∧
    ((base 1).taken 0 0x0A01 c).rearmFails (c.f 0 1 0) (ws.map (fun w => w.2)) = false ∧ ws ≠ [] :=
  ⟨sent_of (by decide), pointed_of (by decide), writable_of (by decide), by decide⟩

theorem witness_SequencerAndTimeSets_input : let c := cmdOn 1 1 [9, 0x00010478]
    let ws := setWrites c (tdcInputFields c) (fun n => n == 1)
    Sent 0x0A03 [0] (base 1) 0 c ∧ Pointed (base 1) c allPoints .tick ∧ Writable ((base 1).taken 0 0x0A03 c) .tick c.arg ws ∧
    c.f 0 3 0 ≤ 9 :=
  ⟨sent_of (by decide), pointed_of (by decide), writable_of (by decide), by decide⟩

theorem witness_SequencerAndTimeSets_channel : let c := cmdOn 1 1 [7, 0x00100911, 50, 0x10064]
    let ws := setWrites c (tdcChannelFields c) (fun n => n == 1 || n == 2 || (n == 3 && c.b 3 16))
    Sent 0x0A04 [0] (base 1) 0 c ∧ Pointed (base 1) c allPoints .tick ∧ Writable ((base 1).taken 0 0x0A04 c) .tick c.arg ws :=
  ⟨sent_of (by decide), pointed_of (by decide), writable_of (by decide)⟩

theorem witness_SequencerAndTimeSets_time : let c := cmdOn 1 1 [0x03, 1000, 0x00040005]
    let ws := setWrites c (timeFields c) (timeMask c)
    Sent 0x0A06 [0] (base 1) 0 c ∧ Pointed (base 1) c [.tick, .idle] .tick ∧ Writable ((base 1).taken 0 0x0A06 c) .tick c.arg ws ∧
    c.b 0 5 = false ∧ (c.b 0 0 = true → (base 1).p .TDC_PPS_MODE = 0) ∧ (c.b 0 1 = true → c.f 2 19 18 ≠ 0 → (base 1).member = false) ∧
    ws ≠ [] :=
  ⟨sent_of (by decide), pointed_of (by decide), writable_of (by decide), by decide⟩

/-- The largest second. -/
theorem witness_SequencerAndTimeSets_load : let c := cmdOn 1 4 [0x20, 0, 0, 0, 0, 0, 360287970]
    let ws := setWrites c (timeFields c) (timeMask c)
    Sent 0x0A06 [0] (base 1) 0 c ∧ Pointed (base 1) c [.tick, .idle] .idle ∧ Writable ((base 1).taken 0 0x0A06 c) .idle c.arg ws ∧
    c.b 0 5 = true ∧ c.w 6 ≤ 360287970 ∧ (base 1).cap.run = .closed ∧ (base 1).pos.tb.load = none ∧ (base 1).openWaits = false ∧
    (c.b 0 0 = true → (base 1).p .TDC_PPS_MODE = 0) ∧ (c.b 0 1 = true → c.f 2 19 18 ≠ 0 → (base 1).member = false) :=
  ⟨sent_of (by decide), pointed_of (by decide), writable_of (by decide), by decide⟩

theorem witness_LaneCorrectionAndLampSets_generator : let c := cmdTile 15 4 [0x101, 0x20040008]
    let ws := setWrites c (senGenSetFields c) (maskFrom7 c)
    Sent 0x0301 [1] (base 1) 0 c ∧ Pointed (base 1) c allPoints .idle ∧ Writable ((base 1).taken 0 0x0301 c) .idle c.arg ws ∧ ws ≠ [] :=
  ⟨sent_of (by decide), pointed_of (by decide), writable_of (by decide), by decide⟩

theorem witness_LaneCorrectionAndLampSets_lane : let c := cmdLane 15 7 4 [0x20, 0, 0, 0, 0, 0x3FFF0400]
    let ws := setWrites c (senLaneSetFields c) (maskAt c)
    Sent 0x0303 [2] (base 1) 0 c ∧ Pointed (base 1) c allPoints .idle ∧ Writable ((base 1).taken 0 0x0303 c) .idle c.arg ws ∧ c.lane ≠ 8 ∧
    ws ≠ [] :=
  ⟨sent_of (by decide), pointed_of (by decide), writable_of (by decide), by decide⟩

theorem witness_LaneCorrectionAndLampSets_gain : let c := cmdTile 3 1 [0x20, 0, 0, 0, 0, 0, 0x103]
    let ws := setWrites c (senGainSetFields c) (fun n => c.b 0 (n - 1))
    Sent 0x0304 [1, 2] (base 1) 0 c ∧ Pointed (base 1) c allPoints .tick ∧ Writable ((base 1).taken 0 0x0304 c) .tick c.arg ws ∧
    (c.level = 2 → c.lane ≠ 8) ∧ ws ≠ [] :=
  ⟨sent_of (by decide), pointed_of (by decide), writable_of (by decide), by decide⟩

theorem witness_LaneCorrectionAndLampSets_correction : let c := cmdOn 1 4 [0x02, 0xFFFF]
    let ws := setWrites c (corSetFields c) (maskAt c)
    Sent 0x0401 [0] (base 1) 0 c ∧ Pointed (base 1) c allPoints .idle ∧ Writable ((base 1).taken 0 0x0401 c) .idle c.arg ws ∧ ws ≠ [] :=
  ⟨sent_of (by decide), pointed_of (by decide), writable_of (by decide), by decide⟩

theorem witness_LaneCorrectionAndLampSets_phase : let c := cmdOn 1 1 [0x103, 0, 0x000A0032]
    let ws := setWrites c (lmpPhaseSetFields c) (phaseWritten c)
    Sent 0x0802 [0] (base 1) 0 c ∧ Pointed (base 1) c allPoints .tick ∧ Writable ((base 1).taken 0 0x0802 c) .tick c.arg ws ∧ ws ≠ [] :=
  ⟨sent_of (by decide), pointed_of (by decide), writable_of (by decide), by decide⟩

theorem witness_LaneCorrectionAndLampSets_bar : let c := cmdOn 1 4 [0x103, 0x00184001]
    let ws := setWrites c (lmpBarSetFields c) (maskFrom7 c)
    Sent 0x0801 [0] (base 1) 0 c ∧ Writable ((base 1).taken 0 0x0801 c) .idle c.arg ws ∧ ws ≠ [] :=
  ⟨sent_of (by decide), writable_of (by decide), by decide⟩

theorem witness_CaptureCompareAndQueueSets_capture : let c := cmdOn 1 4 [0x02, 25600]
    let ws := setWrites c (capSetFields c) (maskAt c)
    Sent 0x0505 [0] (base 1) 0 c ∧ Pointed (base 1) c allPoints .idle ∧ Writable ((base 1).taken 0 0x0505 c) .idle c.arg ws ∧ ws ≠ [] :=
  ⟨sent_of (by decide), pointed_of (by decide), writable_of (by decide), by decide⟩

theorem witness_CaptureCompareAndQueueSets_staged : let c := cmdOn 1 4 [0x80000006, 0x0F05, 1000]
    let qs := (setWrites c (cmpSetFields c) (maskAt c)).map (fun w => w.2)
    Sent 0x0601 [0] (base 1) 0 c ∧ InRange qs ∧ c.b 0 31 = true ∧
    repeatFits (parSets (parSets (base 1).shadow (base 1).cmp.staged) qs) (base 1).member = true ∧ qs ≠ [] :=
  ⟨sent_of (by decide), by unfold InRange; decide, by decide⟩

theorem witness_CaptureCompareAndQueueSets_compare : let c := cmdOn 1 4 [0x00000006, 0x0F05, 1000]
    let ws := setWrites c (cmpSetFields c) (maskAt c)
    Sent 0x0601 [0] (base 1) 0 c ∧ InRange (ws.map (fun w => w.2)) ∧ c.b 0 31 = false ∧ Pointed (base 1) c [.rept, .position, .idle] .idle ∧
    repeatFits (parSets (base 1).shadow (ws.map (fun w => w.2))) (base 1).member = true :=
  ⟨sent_of (by decide), by unfold InRange; decide, by decide, pointed_of (by decide), by decide⟩

theorem witness_CaptureCompareAndQueueSets_stream : let c := cmdOn 1 4 [0x13F, 0x101, 0x0, 0x04000010]
    let ws := setWrites c (streamSetFields c) (maskFrom7 c)
    Sent 0x0705 [0] (base 1) 0 c ∧ Pointed (base 1) c [.tick, .rept, .position, .idle] .idle ∧
    Writable ((base 1).taken 0 0x0705 c) .idle c.arg ws ∧ ((base 1).taken 0 0x0705 c).colFails c = [] ∧ ws ≠ [] :=
  ⟨sent_of (by decide), pointed_of (by decide), writable_of (by decide), by decide⟩

theorem witness_CaptureCompareAndQueueSets_arena : let c := cmdOn 1 4 [0x02, 2]
    let ws := setWrites c (arenaSetFields c) (maskAt c)
    Sent 0x0707 [0] (base 1) 0 c ∧ Writable ((base 1).taken 0 0x0707 c) .idle c.arg ws ∧
    ((base 1).taken 0 0x0707 c).arenaFails ⟨.idle, c.arg, ws.map (fun w => w.2)⟩ = [] ∧ ws ≠ [] :=
  ⟨sent_of (by decide), writable_of (by decide), by decide⟩

theorem witness_MotionAuxAndCascadeSets_axis : let c := cmdOn 1 4 [0x107, 0x00204041]
    let ws := setWrites c (motAxisFields c) (maskFrom7 c)
    Sent 0x0901 [0] (base 1) 0 c ∧ Pointed (base 1) c allPoints .idle ∧ Writable ((base 1).taken 0 0x0901 c) .idle c.arg ws ∧
    (base 1).axisHeld (c.f 0 2 0) = false ∧
    (c.b 0 8 = true → c.f 1 7 4 ≠ (base 1).p .MOT_USTEP (c.f 0 2 0) → ((base 1).axis (c.f 0 2 0)).moves = false) ∧ ws ≠ [] :=
  ⟨sent_of (by decide), pointed_of (by decide), writable_of (by decide), by decide⟩

theorem witness_MotionAuxAndCascadeSets_profile : let c := cmdOn 1 1 [0x107, 1]
    let ws := setWrites c (motProfileFields c) (maskFrom7 c)
    Sent 0x0902 [0] (base 1) 0 c ∧ Pointed (base 1) c allPoints .tick ∧ Writable ((base 1).taken 0 0x0902 c) .tick c.arg ws ∧
    (base 1).axisHeld (c.f 0 2 0) = false ∧ ws ≠ [] :=
  ⟨sent_of (by decide), pointed_of (by decide), writable_of (by decide), by decide⟩

theorem witness_MotionAuxAndCascadeSets_pace : let c := cmdOn 1 4 [0x02, 0x0701]
    let ws := setWrites c (motPaceFields c) (maskAt c)
    Sent 0x090A [0] (base 1) 0 c ∧ Pointed (base 1) c allPoints .idle ∧ Writable ((base 1).taken 0 0x090A c) .idle c.arg ws ∧ ws ≠ [] :=
  ⟨sent_of (by decide), pointed_of (by decide), writable_of (by decide), by decide⟩

theorem witness_MotionAuxAndCascadeSets_aux : let c := cmdOn 1 4 [0x02, 0x00020300]
    let ws := setWrites c (auxSetFields c) (maskAt c)
    Sent 0x0B01 [0] (base 1) 0 c ∧ Pointed (base 1) c allPoints .idle ∧ Writable ((base 1).taken 0 0x0B01 c) .idle c.arg ws ∧ ws ≠ [] :=
  ⟨sent_of (by decide), pointed_of (by decide), writable_of (by decide), by decide⟩

theorem witness_MotionAuxAndCascadeSets_channel : let c := cmdOn 1 4 [0x20F, 0, 0x40000001]
    let ws := setWrites c (auxChSetFields c) (maskFrom7 c)
    Sent 0x0B02 [0] (base 1) 0 c ∧ Pointed (base 1) c allPoints .idle ∧ Writable ((base 1).taken 0 0x0B02 c) .idle c.arg ws ∧
    auxChSetFails ((base 1).taken 0 0x0B02 c) c ⟨.idle, c.arg, ws.map (fun w => w.2)⟩ = [] ∧ ws ≠ [] :=
  ⟨sent_of (by decide), pointed_of (by decide), writable_of (by decide), by decide⟩

theorem witness_MotionAuxAndCascadeSets_loop : let c := cmdOn 1 4 [0x203, 0, 0x28002800]
    let ws := setWrites c (auxLoopFields c) (maskFrom7 c)
    Sent 0x0B06 [0] (base 1) 0 c ∧ Pointed (base 1) c allPoints .idle ∧ Writable ((base 1).taken 0 0x0B06 c) .idle c.arg ws ∧
    (c.b 0 9 = true → (base 1).p .MOT_PACE_LOOP ≠ c.f 0 1 0) ∧ ws ≠ [] :=
  ⟨sent_of (by decide), pointed_of (by decide), writable_of (by decide), by decide⟩

theorem witness_MotionAuxAndCascadeSets_role : let c := cmdOn 1 4 [0x200, 0x10101010, 0x10101010]
    let ws := setWrites c (askSetFields c) (fun _ => true)
    Sent 0x0E01 [0] (base 1) 0 c ∧ Writable ((base 1).taken 0 0x0E01 c) .idle c.arg ws ∧ (base 1).devId < c.f 0 11 8 ∧
    (base 1).roleOk (c.f 0 1 0) = true ∧ (base 1).cap.run = .closed :=
  ⟨sent_of (by decide), writable_of (by decide), by decide⟩

/-- A state with parameters written. -/
def withPars (s : State) (ws : List ParWrite) : State := { s with par := parSets s.par ws }

/-- A state whose converter i is in state st. -/
def withLane (s : State) (i : Nat) (st : LaneSt) : State := { s with sen := { s.sen with lanes := upd s.sen.lanes i (fun x => { x with st := st }) } }

/-- A state with an open run. -/
def running (s : State) : State := { s with cap := { s.cap with run := .open_, runCount := 1 } }

/-- A library slot 0 whose set header of one phase and no record is good (R199). -/
def withSet (s : State) : State :=
  let h : List Byte := leBytes 4 0x53484431 ++ leBytes 2 1 ++ leBytes 2 1 ++ List.replicate 116 0
  { withPars s [⟨.HIS_SHD_SLOTS, 0, 1⟩] with dram := Sparse.write s.dram ((withPars s [⟨.HIS_SHD_SLOTS, 0, 1⟩]).arenaByte 1) (h ++ leBytes 4 (crc32 h)) }

theorem witness_SensorCorrectionAndTimingActs_wave : let c := cmdTile 15 1 (0x0501 :: 0x0080FFFF :: List.replicate 15 0x00000010)
    Sent 0x0302 [1] (base 1) 0 c ∧ Pointed (base 1) c [.tick, .rept, .position, .idle] .tick ∧ (Pt.tick = .idle → (base 1).calRuns = false) ∧
    (∀ i < 16, edgeWordOk (c.w (i + 1)) = true) ∧ c.f 0 10 8 < 6 :=
  ⟨sent_of (by decide), pointed_of (by decide), by decide⟩

theorem witness_SensorCorrectionAndTimingActs_subst : let s := withPars (base 1) [⟨.SEN_ACTIVE, 127, 1024⟩]
    let c := cmdLane 15 7 4 [2, 0x03FF0000]
    Sent 0x0305 [2] s 0 c ∧ Pointed s c [.tick, .rept, .position, .idle] .idle ∧ c.lane ≠ 8 ∧ (Pt.idle = .idle → s.calRuns = false) ∧
    c.f 0 6 0 ≤ 64 ∧ substFails (parGet s.shadow .SEN_ACTIVE (8 * c.tile + c.lane)) (substEntries c) = [] :=
  ⟨sent_of (by decide), pointed_of (by decide), by decide⟩

theorem witness_SensorCorrectionAndTimingActs_restore : let s := withLane (base 1) 143 .spareFailed
    let c := cmdLane 15 8 4 []
    Sent 0x0306 [2] s 0 c ∧ (s.lane (9 * c.tile + c.lane)).st.restorable = true := ⟨sent_of (by decide), by decide⟩

theorem witness_SensorCorrectionAndTimingActs_force : let s := withLane (withLane (base 1) 7 .inService) 8 .spareReady
    let c := cmdLane 0 7 1 [1]
    Sent 0x0307 [2] s 0 c ∧ Pointed s c [.tick, .idle] .tick ∧ c.lane ≠ 8 ∧ s.forceOk (8 * c.tile + c.lane) (c.b 0 0) = true :=
  ⟨sent_of (by decide), pointed_of (by decide), by decide⟩

theorem witness_SensorCorrectionAndTimingActs_swap :
    let s := { base 1 with cor := { (base 1).cor with tiles := upd (base 1).cor.tiles 15 (fun x => { x with pend := { x.pend with loaded := true } }) } }
    let c := cmdOn 1 1 [0x8000]
    Sent 0x0403 [0] s 0 c ∧ Pointed s c [.tick, .rept, .position, .idle] .tick ∧ c.f 0 15 0 ≠ 0 ∧
    (∀ x ∈ maskList 16 (c.f 0 15 0), s.halfReady x = true ∨ s.loadRuns (2 ^ x) = true) ∧ s.calRuns = false ∧ s.loadRuns (c.f 0 15 0) = false :=
  ⟨sent_of (by decide), pointed_of (by decide), by decide⟩

theorem witness_SensorCorrectionAndTimingActs_swapLoading :
    let s := { base 1 with cor := { (base 1).cor with loads := [⟨5, 0, 0x8000, 0⟩] } }
    let c := cmdOn 1 1 [0x8000]
    Sent 0x0403 [0] s 0 c ∧ Pointed s c [.tick, .rept, .position, .idle] .tick ∧ c.f 0 15 0 ≠ 0 ∧
    (∀ x ∈ maskList 16 (c.f 0 15 0), s.halfReady x = true ∨ s.loadRuns (2 ^ x) = true) ∧ s.calRuns = false ∧ s.loadRuns (c.f 0 15 0) = true :=
  ⟨sent_of (by decide), pointed_of (by decide), by decide⟩

theorem witness_SensorCorrectionAndTimingActs_arm : let c := cmdOn 1 1 [0x0180]
    Sent 0x0A05 [0] (base 1) 0 c ∧ Pointed (base 1) c [.tick, .idle] .tick ∧ c.f 0 15 0 ≠ 0 ∧ c.f 0 7 0 &&& c.f 0 15 8 = 0 :=
  ⟨sent_of (by decide), pointed_of (by decide), by decide⟩

theorem witness_RunLampAndPowerActs_open : let s := withPars (base 1) [⟨.CAP_GRID_PITCH, 0, 25600⟩, ⟨.HIS_SCRATCH, 0, 64⟩]
    let c := cmdOn 1 4 [77]
    Sent 0x0501 [0] s 0 c ∧ (parGet s.shadow .SEQ_TICK_SRC 0 = 0 → parGet s.shadow .CAP_GRID_PITCH 0 ≠ 0) ∧ s.cap.run = .closed ∧
    s.pwr.st = .ready ∧ ¬(s.member = true ∧ (s.taken 0 0x0501 c).masterOpen = true) ∧ s.pos.tb.load = none ∧ s.calRuns = false ∧
    (s.taken 0 0x0501 c).covFits = true := ⟨sent_of (by decide), by decide⟩

theorem witness_RunLampAndPowerActs_close : let s := running (base 1)
    let c := cmdOn 1 1 []
    Sent 0x0502 [0] s 0 c ∧ Pointed s c [.tick, .idle] .tick ∧ s.cap.run = .open_ := ⟨sent_of (by decide), pointed_of (by decide), by decide⟩

theorem witness_RunLampAndPowerActs_apply : let s := withPars (base 1) [⟨.LMP_MODE, 3, 1⟩, ⟨.CMP_REPEAT_MODE, 0, 2⟩]
    let c := cmdOn 1 2 [8]
    let bs := maskList 4 (c.f 0 3 0)
    Sent 0x0804 [0] s 0 c ∧ Pointed s c [.idle, .rept, .position] .rept ∧ bs ≠ [] ∧ (Pt.rept ≠ .idle → ∀ b ∈ bs, s.p64 b = false) ∧
    (∀ b ∈ bs, s.p .LMP_MODE b ≠ 0) ∧ (∀ b ∈ bs, s.applyPending b = false) := ⟨sent_of (by decide), pointed_of (by decide), by decide⟩

theorem witness_RunLampAndPowerActs_diag : let c := cmdOn 1 4 [3]
    Sent 0x0806 [0] (base 1) 0 c ∧ (base 1).p64 (c.f 0 1 0) = false ∧ ((base 1).bar (c.f 0 1 0)).diag = none :=
  ⟨sent_of (by decide), by decide⟩

/-- The fault of the last chip. -/
theorem witness_RunLampAndPowerActs_clear : let c := cmdOn 1 1 [3, 0, 0x80000000]
    Sent 0x0808 [0] (base 1) 0 c ∧ Pointed (base 1) c [.tick, .idle] .tick ∧ c.w64 1 ≠ 0 :=
  ⟨sent_of (by decide), pointed_of (by decide), by decide⟩

theorem witness_RunLampAndPowerActs_domains : let c := cmdOn 1 4 [0x00800000, 0]
    Sent 0x0F02 [0] (base 1) 0 c ∧ Pointed (base 1) c [.rept, .idle] .idle ∧ c.w 0 % 2 ^ 24 ≠ 0 ∧
    (Pt.idle = .rept → c.f 0 15 0 = 0 ∧ c.f 0 23 20 = 0) ∧
    (∀ i ∈ maskList 24 (c.w 0 % 2 ^ 24), natBit (c.w 1) i = true ∨ domainWork (base 1).par i = false) :=
  ⟨sent_of (by decide), pointed_of (by decide), by decide⟩

/-- A compare slice at a repeat. -/
theorem witness_RunLampAndPowerActs_slice : let s := withPars (base 1) [⟨.CMP_REPEAT_MODE, 0, 2⟩]
    let c := cmdOn 1 2 [0x00080000, 0x00080000]
    Sent 0x0F02 [0] s 0 c ∧ Pointed s c [.rept, .idle] .rept ∧ c.w 0 % 2 ^ 24 ≠ 0 ∧ (Pt.rept = .rept → c.f 0 15 0 = 0 ∧ c.f 0 23 20 = 0) ∧
    (∀ i ∈ maskList 24 (c.w 0 % 2 ^ 24), natBit (c.w 1) i = true ∨ domainWork s.par i = false) :=
  ⟨sent_of (by decide), pointed_of (by decide), by decide⟩

theorem witness_RunLampAndPowerActs_linearise : let c := cmdOn 1 1 (15 :: List.replicate 18 0x3F800000)
    Sent 0x0B03 [0] (base 1) 0 c ∧ Pointed (base 1) c [.tick, .idle] .tick ∧ (16 ≤ c.f 0 5 0 → parGet (base 1).shadow .AUX_CONFIG 0 ≠ 0) ∧
    (∀ i < 18, c.f (1 + i) 30 23 ≠ 255) := ⟨sent_of (by decide), pointed_of (by decide), by decide⟩

theorem witness_RunLampAndPowerActs_calibrate : let c := cmdOn 1 4 [0x10F]
    Sent 0x0B05 [0] (base 1) 0 c ∧ Pointed (base 1) c [.rept, .idle] .idle ∧ (16 ≤ c.f 0 5 0 → parGet (base 1).shadow .AUX_CONFIG 0 ≠ 0) ∧
    (base 1).aux.cal = none := ⟨sent_of (by decide), pointed_of (by decide), by decide⟩

/-- A state with axis a enabled and at rest. -/
def withAxis (s : State) (a : Nat) : State :=
  { withPars s [⟨.MOT_EN, a, 1⟩] with mot := { s.mot with axes := upd s.mot.axes a (fun x => { x with st := .rest }) } }

theorem witness_MotionActs_move : let s := withAxis (withAxis (base 1) 0) 7
    let c := cmdOn 1 1 [0x181, 256, 0, 0, 0, 0, 0, 0, 0xFFFFFF00]
    Sent 0x0903 [0] s 0 c ∧ Pointed s c [.tick, .position, .idle] .tick ∧ maskList 8 (c.f 0 7 0) ≠ [] ∧
    (∀ a ∈ maskList 8 (c.f 0 7 0), s.wholeGrain a (c.w (1 + a)) = true) ∧
    (s.taken 0 0x0903 c).moveFails (maskList 8 (c.f 0 7 0)) ((List.range 8).map (fun a => c.w (1 + a))) (c.b 0 8) = 0 :=
  ⟨sent_of (by decide), pointed_of (by decide), by decide⟩

theorem witness_MotionActs_jog : let s := withAxis (base 1) 7
    let v := s.p .MOT_VSTART 7
    let c := cmdOn 1 1 [7, 2 ^ 32 - v]
    Sent 0x0904 [0] s 0 c ∧ Pointed s c [.tick, .position, .idle] .tick ∧ (toSigned 32 (c.w 1)).natAbs ≤ s.p .MOT_VMAX (c.f 0 2 0) ∧
    (toSigned 32 (c.w 1) ≠ 0 → s.p .MOT_VSTART (c.f 0 2 0) ≤ (toSigned 32 (c.w 1)).natAbs) ∧
    s.jogFails (c.f 0 2 0) (toSigned 32 (c.w 1)) = false ∧ s.axisHeld (c.f 0 2 0) = false :=
  ⟨sent_of (by decide), pointed_of (by decide), by decide⟩

theorem witness_MotionActs_stop : let c := cmdOn 1 1 [0x180]
    Sent 0x0905 [0] (base 1) 0 c ∧ Pointed (base 1) c [.tick, .idle] .tick ∧ c.f 0 7 0 ≠ 0 :=
  ⟨sent_of (by decide), pointed_of (by decide), by decide⟩

theorem witness_MotionActs_gear : let s := withAxis (base 1) 7
    let c := cmdOn 1 1 [0x37, 0, 65536, 0]
    Sent 0x0906 [0] s 0 c ∧ Pointed s c [.tick, .idle] .tick ∧ c.f 0 9 8 ≠ 3 ∧
    s.gearFails (c.f 0 2 0) (c.f 0 9 8) = false ∧ s.axisHeld (c.f 0 2 0) = false :=
  ⟨sent_of (by decide), pointed_of (by decide), by decide⟩

theorem witness_MotionActs_home : let s := withAxis (base 1) 7
    let c := cmdOn 1 1 [0x107, s.p .MOT_VMAX 7, 0, 256, 1000000]
    Sent 0x0907 [0] s 0 c ∧ Pointed s c [.tick, .idle] .tick ∧ s.p .MOT_VSTART (c.f 0 2 0) ≤ c.w 1 ∧ c.w 1 ≤ s.p .MOT_VMAX (c.f 0 2 0) ∧
    s.wholeGrain (c.f 0 2 0) (c.w 2) = true ∧ s.homeFails (c.f 0 2 0) (c.b 0 8) = false ∧ s.axisHeld (c.f 0 2 0) = false :=
  ⟨sent_of (by decide), pointed_of (by decide), by decide⟩

theorem witness_MotionActs_acknowledge : let c := cmdOn 1 1 [0x80]
    Sent 0x0908 [0] (base 1) 0 c ∧ Pointed (base 1) c [.tick, .idle] .tick ∧ c.f 0 7 0 ≠ 0 :=
  ⟨sent_of (by decide), pointed_of (by decide), by decide⟩

theorem witness_MotionActs_position : let s := withAxis (base 1) 7
    let c := cmdOn 1 1 [7, 0x80000000]
    Sent 0x0909 [0] s 0 c ∧ Pointed s c [.tick, .idle] .tick ∧ s.wholeGrain (c.f 0 2 0) (c.w 1) = true ∧
    s.posSetFails (c.f 0 2 0) = false := ⟨sent_of (by decide), pointed_of (by decide), by decide⟩

theorem witness_GroupsAndJobs_begin : let c := cmdOn 1 4 []
    Sent 0x0204 [0] (base 1) 0 c ∧ ptOf c.commit = some .idle := ⟨sent_of (by decide), by decide⟩

/-- A group of ring 1 with a number of failed members. -/
def groupOf (failed : Nat) : Group := ⟨0, 1, .idle, 0, 0, [], failed, false, [], none⟩

/-- A state with that group open. -/
def inGroup (failed : Nat) : State := { base 1 with seq := { (base 1).seq with groups := [groupOf failed], nextGid := 1 } }

theorem witness_GroupsAndJobs_end : let c := cmdOn 1 0 []
    Fit 0x0205 [0] (inGroup 0) 0 c ∧ (inGroup 0).groupOn c.ring = some (groupOf 0) ∧ (groupOf 0).failed = 0 ∧ (groupOf 0).immediate = false ∧
    (groupOf 0).members.length ≤ 256 ∧ (groupOf 0).point ≠ .position ∧
    Fit 0x0205 [0] (inGroup 1) 0 c ∧ (inGroup 1).groupOn c.ring = some (groupOf 1) ∧ (groupOf 1).failed ≠ 0 :=
  ⟨fit_of (by decide), by decide, rfl, rfl, by decide, by decide, fit_of (by decide), by decide, by decide⟩

theorem witness_GroupsAndJobs_arm : let s := withPars (running (base 1)) [⟨.CMP_REPEAT_MODE, 0, 2⟩, ⟨.LMP_MODE, 3, 1⟩]
    let c := cmdOn 1 2 [42, 0x08, 0, 8]
    Sent 0x0503 [0] s 0 c ∧ s.member = false ∧ ptOf c.commit = some .rept ∧ (s.taken 0 0x0503 c).armFails c = [] :=
  ⟨sent_of (by decide), by decide⟩

theorem witness_GroupsAndJobs_disarm :
    let s := { base 1 with cap := { (base 1).cap with arm := some ⟨3, 42, 0, 0, false, 1, 0, 0, .rept, 0, 0, 0, none, none, false⟩ } }
    Sent 0x0504 [0] s 0 (cmdOn 1 0 []) ∧ s.cap.arm.isSome = true := ⟨sent_of (by decide), by decide⟩

theorem witness_CorrectionAndSensorWork_load : let s := withSet (base 1)
    let c := cmdOn 1 0 [0, 0x8000]
    Sent 0x0402 [0] s 0 c ∧ s.slotFails (c.f 0 7 0) = [] ∧ (c.f 1 15 0 ≠ 0 ∨ s.p .HIS_SHD_SLOTS = 0) ∧ s.headerFails (c.f 0 7 0) = [] ∧
    s.swapWaits (c.f 1 15 0) = false ∧ s.loadRuns (c.f 1 15 0) = false ∧ s.calRuns = false :=
  ⟨sent_of (by decide), by decide +kernel⟩

theorem witness_LampLaneAndCorrectionReads_check : let s := withSet (base 1)
    let c := cmdOn 1 0 [0]
    Sent 0x0404 [0] s 0 c ∧ (s.taken 0 0x0404 c).slotFails (c.f 0 7 0) = [] ∧ headerOk (s.librarySlot (c.f 0 7 0)) = true :=
  ⟨sent_of (by decide), by decide +kernel⟩

theorem witness_CorrectionAndSensorWork_store : let s := withSet (base 1)
    let c := cmdOn 1 0 [0x500]
    Sent 0x0405 [0] s 0 c ∧ s.slotFails (c.f 0 7 0) = [] ∧ c.f 0 11 8 ≤ 5 ∧ s.headerFails (c.f 0 7 0) = [] ∧ s.setFlashBusy = false :=
  ⟨sent_of (by decide), by decide +kernel⟩

/-- A state whose flash directory (R212) holds a set in every slot. -/
def withDir (s : State) : State :=
  let d : List Byte := leBytes 4 0x53484444 ++ leBytes 4 1 ++ (List.range 6).flatMap (fun _ => leBytes 12 0 ++ leBytes 4 1) ++ List.replicate 36 0
  { withPars s [⟨.HIS_SHD_SLOTS, 0, 1⟩] with flash := Sparse.write s.flash (dirAddr 0) (d ++ leBytes 4 (crc32 d)) }

theorem witness_CorrectionAndSensorWork_restore : let s := withDir (base 1)
    let c := cmdOn 1 0 [0x500]
    Sent 0x0406 [0] s 0 c ∧ s.slotFails (c.f 0 7 0) = [] ∧ c.f 0 11 8 ≤ 5 ∧ (s.dirEntry (c.f 0 11 8)).getD 3 0 = 1 ∧ s.setFlashBusy = false :=
  ⟨sent_of (by decide), by decide +kernel⟩

theorem witness_CorrectionAndSensorWork_capture : let s := withPars (base 1) [⟨.HIS_SHD_SLOTS, 0, 1⟩]
    let c := cmdOn 1 0 [0x000F0000, 0x8000, 0, 0]
    Sent 0x0407 [0] s 0 c ∧ (c.f 0 1 0 = 3 → c.w 2 % 64 = 0) ∧ (c.f 0 1 0 ≠ 3 → s.slotFails (c.f 0 15 8) = []) ∧
    (c.f 0 19 16 ≤ 5 ∨ c.f 0 19 16 = 15) ∧ c.f 1 15 0 ≠ 0 ∧ s.seq.slotMin ≤ s.p .COR_CAL_PERIOD ∧
    s.calReady (c.f 0 1 0) (c.f 0 15 8) (c.f 1 15 0) = true ∧ s.calRuns = false := ⟨sent_of (by decide), by decide +kernel⟩

/-- A state in which a capture runs. -/
def capturing (s : State) : State :=
  { s with cor := { s.cor with cal := some ⟨9, 0, 0, 15, false, 1, 0, 0, .capturing, none, 0, 0, 0, 0, [], [], [], [], [], 0, [], []⟩ } }

theorem witness_CorrectionAndSensorWork_abort : Sent 0x0408 [0] (capturing (base 1)) 0 (cmdOn 1 0 []) ∧ (capturing (base 1)).calRuns = true :=
  ⟨sent_of (by decide), by decide⟩

theorem witness_CorrectionAndSensorWork_reference : let s := withPars (base 1) [⟨.HIS_REF_SLOTS, 0, 64⟩]
    let c := cmdOn 1 0 [63]
    Sent 0x0602 [0] s 0 c ∧ c.f 0 5 0 < s.p .HIS_REF_SLOTS ∧ s.slotHeld (c.f 0 5 0) = false := ⟨sent_of (by decide), by decide⟩

theorem witness_CorrectionAndSensorWork_hatch : let c := cmdOn 1 0 [0xFFFFFFC0, 1]
    Sent 0x0603 [0] (base 1) 0 c ∧ c.w64 0 % 64 = 0 ∧ (base 1).hatchHeld = false ∧ (base 1).cmp.hatchLoad = none :=
  ⟨sent_of (by decide), by decide⟩

theorem witness_CorrectionAndSensorWork_snapshot : let s := withLane (base 1) 142 .inService
    let c := cmdLane 15 7 0 [64, 0, 0]
    Sent 0x0309 [2] s 0 c ∧ c.lane ≠ 8 ∧ c.w64 0 % 64 = 0 ∧ c.f 2 2 0 < s.p .SEQ_NUM_PHASES ∧ (s.lane (9 * c.tile + c.lane)).st ≠ .off ∧
    (s.lane (9 * c.tile + c.lane)).st ≠ .blind := ⟨sent_of (by decide), by decide⟩

theorem witness_CorrectionAndSensorWork_trims : let s := withPars (base 1) [⟨.CMP_REPEAT_MODE, 0, 2⟩]
    let c := cmdTile 15 0 [1]
    Sent 0x030A [0, 1] s 0 c ∧ s.hlt.trimRun = none ∧ (c.b 0 0 = true → s.p .CMP_REPEAT_MODE ≠ 0) := ⟨sent_of (by decide), by decide⟩

theorem witness_CorrectionAndSensorWork_healthTrims : let c := cmdOn 1 4 [0x130]
    Sent 0x0D07 [0] (base 1) 0 c ∧ Pointed (base 1) c [.rept, .idle] .idle ∧ (∀ n ∈ maskList 32 (c.w 0), n = 4 ∨ n = 5 ∨ n = 8) ∧
    (base 1).hlt.trimRun = none := ⟨sent_of (by decide), pointed_of (by decide), by decide⟩

theorem witness_CorrectionAndSensorWork_coverage :
    let s := { base 1 with cap := { (base 1).cap with cov := { (base 1).cap.cov with present := true } } }
    let c := cmdOn 1 0 [0, 0x40, 1, 0]
    Sent 0x0507 [0] s 0 c ∧ c.w64 1 % 64 = 0 ∧ (c.b 0 0 = true → s.cap.cov.sealedMap.isSome = true) ∧ (c.b 0 0 = false → s.cap.cov.present = true) :=
  ⟨sent_of (by decide), by decide⟩

/-- The last of 4,096 half-words, of an off bar. -/
theorem witness_LampHealthAndPowerWork_pattern : let c := cmdOn 1 0 [0x17, 0x00010FFF, 0x0FFF]
    Sent 0x0803 [0] (base 1) 0 c ∧ c.f 0 4 2 ≤ 5 ∧ c.f 1 24 16 ≠ 0 ∧ c.f 1 24 16 ≤ 492 ∧
    c.f 1 11 0 + c.f 1 24 16 ≤ (base 1).stringLimit (c.f 0 1 0) ∧
    (∀ i < c.f 1 24 16, natField (c.f (2 + i / 2) (16 * (i % 2) + 15) (16 * (i % 2))) 14 12 = 0) ∧ (base 1).applyPending (c.f 0 1 0) = false :=
  ⟨sent_of (by decide), by decide⟩

/-- A state whose bar b is a known chain of n chips. -/
def withChain (s : State) (b n : Nat) : State :=
  { withPars s [⟨.LMP_MODE, b, 1⟩] with lamp := { s.lamp with bars := upd s.lamp.bars b (fun x => { x with known := true, chips := n }) } }

theorem witness_LampHealthAndPowerWork_read : let s := withChain (base 1) 3 64
    let c := cmdOn 1 0 [0x1B, 0x000103FF]
    Sent 0x0805 [0] s 0 c ∧ c.f 0 4 2 ≠ 7 ∧ c.f 1 24 16 ≠ 0 ∧ c.f 1 24 16 ≤ 490 ∧ c.f 1 11 0 + c.f 1 24 16 ≤ s.stringLimit (c.f 0 1 0) ∧
    s.native (c.f 0 1 0) = true ∧ (s.bar (c.f 0 1 0)).lost = false ∧ (s.bar (c.f 0 1 0)).known = true := ⟨sent_of (by decide), by decide⟩

theorem witness_LampHealthAndPowerWork_inject : let c := cmdOn 1 0 [0x0F7F7F7F]
    let xs := ((List.range 4).map (fun n => (n, c.f 0 (8 * n + 6) (8 * n)))).filter (fun x => x.2 != 127)
    Sent 0x0B04 [0] (base 1) 0 c ∧ xs ≠ [] ∧ (∀ x ∈ xs, x.2 < 16 ∧ (base 1).auxConv x.2 = x.1) ∧ (base 1).auxMux = false ∧
    (base 1).aux.inject = [] ∧ ((base 1).taken 0 0x0B04 c).auxLocked = false ∧ (base 1).aux.cal = none := ⟨sent_of (by decide), by decide⟩

/-- Injections that wait: with three, one more may wait while the first stands; with four, none may. -/
theorem witness_LampHealthAndPowerWork_injectWaits : let c := cmdOn 1 0 [0x0F7F7F7F]
    let s := fun (n : Nat) => { base 1 with aux := { (base 1).aux with inject := List.replicate n ⟨3, [(3, 15)], false⟩ } }
    let xs := ((List.range 4).map (fun n => (n, c.f 0 (8 * n + 6) (8 * n)))).filter (fun x => x.2 != 127)
    Sent 0x0B04 [0] (s 3) 0 c ∧ (s 3).aux.inject.length < 4 ∧ (s 3).aux.inject ≠ [] ∧ Sent 0x0B04 [0] (s 4) 0 c ∧ 4 ≤ (s 4).aux.inject.length ∧
    xs ≠ [] ∧ (∀ x ∈ xs, x.2 < 16 ∧ (s 3).auxConv x.2 = x.1 ∧ (s 4).auxConv x.2 = x.1) ∧ (s 3).auxMux = false ∧ (s 4).auxMux = false :=
  ⟨sent_of (by decide), by decide, by decide, sent_of (by decide), by decide⟩

theorem witness_LampHealthAndPowerWork_trimStore : Sent 0x0D08 [0] (base 1) 0 (cmdOn 1 0 []) ∧
    ((base 1).taken 0 0x0D08 (cmdOn 1 0 [])).flashBusy = false := ⟨sent_of (by decide), by decide⟩

theorem witness_LampHealthAndPowerWork_cascade :
    let s := { withPars (base 1) [⟨.ASK_ROLE, 0, 1⟩] with ask := { (base 1).ask with up := true } }
    Sent 0x0E02 [0] s 0 (cmdOn 1 4 []) ∧ s.isMaster = true ∧ s.ask.up = true := ⟨sent_of (by decide), by decide⟩

theorem witness_LampHealthAndPowerWork_power : Sent 0x0F04 [0] (base 1) 0 (cmdOn 1 0 []) ∧ Sent 0x0107 [0] (base 0) 0 (cmdOn 0 0 []) ∧
    Sent 0x0D03 [0] (base 1) 0 (cmdOn 1 0 [1, 0]) ∧ Sent 0x0F05 [0] (base 1) 0 (cmdOn 1 0 []) ∧ (base 1).cap.run = .closed :=
  ⟨sent_of (by decide), sent_of (by decide), sent_of (by decide), sent_of (by decide), rfl⟩

theorem witness_LampHealthAndPowerWork_safeExit :
    let s := { base 1 with pwr := { (base 1).pwr with st := .safe, safeCause := 1, cleared := true } }
    Sent 0x0F03 [0] s 0 (cmdOn 1 0 []) ∧ s.pwr.st = .safe ∧ s.pwr.cleared = true := ⟨sent_of (by decide), by decide⟩

/-- The last queue, with the shortest stale time. -/
theorem witness_QueuesAndHistory_setup : let c := cmdOn 1 0 [0xFFFF, 0x1000, 1, 0x04, 10]
    Sent 0x0701 [0] (base 1) 0 c ∧ c.w64 1 % 4096 = 0 ∧ 4 ≤ c.f 3 3 0 ∧ (c.f 4 19 0 = 0 ∨ 10 ≤ c.f 4 19 0 ∧ c.f 4 19 0 ≤ 1000000) ∧
    ((base 1).queue (c.f 0 15 0)).st = .disabled := ⟨sent_of (by decide), by decide⟩

/-- A state whose queue q is enabled with a ring of 16 blocks. -/
def withQueue (s : State) (q : Nat) : State := { s with hq := { s.hq with queues := Sparse.set s.hq.queues Queue.reset q { Queue.reset with st := .enabled } } }

theorem witness_QueuesAndHistory_flush : let s := withQueue (base 1) 65535
    let c := cmdOn 1 0 [0xFFFF]
    Sent 0x0702 [0] s 0 c ∧ Sent 0x0703 [0] s 0 c ∧ (s.queue (c.f 0 15 0)).st ≠ .disabled ∧ (s.queue (c.f 0 15 0)).st ≠ .faulted :=
  ⟨sent_of (by decide), sent_of (by decide), by decide⟩

/-- A state with a run behind it, a history partition, and a lane at columns 0 to 1,023. -/
def withHistory (s : State) : State :=
  let s := withPars s [⟨.HIS_HIST, 0, 64⟩, ⟨.SEN_LANE_EN, 0, 1⟩, ⟨.SEN_ACTIVE, 0, 1024⟩]
  { s with cap := { s.cap with runCount := 1 } }

theorem witness_QueuesAndHistory_replay : let s := withHistory (base 1)
    let c := cmdOn 1 0 [0, 0, 0, 10, 0, 0, 1023, 0x40, 0, 4096]
    let e := cmdOn 1 0 [1, 0, 0, 10, 0]
    Sent 0x0709 [0] s 0 c ∧ (s.taken 0 0x0709 c).replayFails c = [] ∧ c.b 0 0 = false ∧
    Sent 0x0709 [0] s 0 e ∧ (s.taken 0 0x0709 e).replayFails e = [] ∧ e.b 0 0 = true :=
  ⟨sent_of (by decide), by decide, by decide, sent_of (by decide), by decide⟩

theorem witness_QueuesAndHistory_release : let r : Replay := ⟨3, 7, true, 0, [], 1, 0, 0, 0, 0, 0, 0⟩
    let s := { base 1 with hq := { (base 1).hq with replays := [r] } }
    let c := cmdOn 1 0 [7]
    Sent 0x070A [0] s 0 c ∧ s.exposed (c.w 0) = some r := ⟨sent_of (by decide), by decide⟩

theorem witness_OtherSecurityCommands_plain : Sent 0x0C01 [0] (base 3) 0 (cmdOn 3 0 []) ∧ Sent 0x0C02 [0] (base 3) 0 (cmdOn 3 0 [0x40, 1]) ∧
    Sent 0x0C06 [0] (base 3) 0 (cmdOn 3 0 [0, 0, 0x40, 1]) ∧ Sent 0x0C07 [0] (base 3) 0 (cmdOn 3 0 []) ∧ Sent 0x0C0A [0] (base 3) 0 (cmdOn 3 0 [1]) ∧
    Sent 0x0C0F [0] (base 3) 0 (cmdOn 3 0 [0]) ∧ (base 3).secFailed = false ∧ (cmdOn 3 0 [0x40, 1]).w64 0 % 64 = 0 ∧
    (cmdOn 3 0 [0, 0, 0x40, 1]).w64 2 % 64 = 0 ∧ (cmdOn 3 0 [0]).b 0 0 = false :=
  ⟨sent_of (by decide), sent_of (by decide), sent_of (by decide), sent_of (by decide), sent_of (by decide), sent_of (by decide), by decide⟩

theorem witness_OtherSecurityCommands_map :
    let s := { base 3 with cap := { (base 3).cap with cov := { (base 3).cap.cov with sealedMap := some ⟨0, 240, 0, 0⟩ } } }
    Sent 0x0C08 [0] s 0 (cmdOn 3 0 []) ∧ s.secFailed = false ∧ s.canSignMap = true := ⟨sent_of (by decide), by decide⟩

/-- The last word of slot 1. -/
theorem witness_OtherSecurityCommands_firmware : let c := cmdOn 3 0 [1, fwSize - 4, 0x12345678]
    Sent 0x0C09 [0] (base 3) 0 c ∧ (c.padded 3).w 1 % 4 = 0 ∧ (c.padded 3).w 1 + 4 * ((c.padded 3).words.length - 2) ≤ fwSize ∧
    (base 3).secFailed = false ∧ (c.padded 3).f 0 0 0 ≠ (base 3).sec.bootSlot ∧ ((base 3).taken 0 0x0C09 c).flashBusy = false :=
  ⟨sent_of (by decide), by decide⟩

/-- Operational, and in the error state with two failed recoveries. -/
theorem witness_OtherSecurityCommands_selftest :
    let s := fun (m : SecMode) => { base 3 with sec := { (base 3).sec with mode := m, recoveries := 2 } }
    Sent 0x0C0D [0] (s .operational) 0 (cmdOn 3 0 []) ∧ (s .operational).secFailed = false ∧ (s .operational).cap.run = .closed ∧
    Sent 0x0C0D [0] (s .error) 0 (cmdOn 3 0 []) ∧ (s .error).secFailed = true ∧ (s .error).sec.permanent = false ∧ (s .error).sec.recoveries < 3 :=
  ⟨sent_of (by decide), by decide, by decide, sent_of (by decide), by decide⟩

/-- The words of the fingerprint (R478). -/
def fpWords : List Word := bytesWords 4 fingerprint

/-- A command of n inner words in an envelope of a role's slot 0 with counter 1 and a signature of zeros. -/
def sealedOn (role : Nat) (inner : List Nat) : Cmd :=
  let ws : List Word := [BitVec.ofNat 32 (role + 65536 * inner.length), 1, 0] ++ fpWords ++ inner.map (fun w => BitVec.ofNat 32 w) ++ List.replicate 24 0
  { cmdOn 3 0 [] with envelope := true, words := ws }

/-- READY, ring 3 waiting, the module operational, both slots verified, and a key of one byte in slot 0 of every role. -/
def secBase : State := { base 3 with sec := { (base 3).sec with mode := .operational, verified := [true, true], roleKeys := [(4, [1]), (8, [1]), (12, [1])] } }

theorem wordBytes_of_bytes (a b c d : Byte) :
    wordBytes (BitVec.ofNat 32 (ofLe [a, b, c, d])) = [a, b, c, d] := by
  have ha := a.isLt; have hb := b.isLt; have hc := c.isLt; have hd := d.isLt
  simp only [wordBytes, leBytes, ofLe, BitVec.toNat_ofNat, List.cons.injEq, and_true]
  refine ⟨?_, ?_, ?_, ?_⟩ <;> (apply BitVec.eq_of_toNat_eq; simp only [BitVec.toNat_ofNat]; omega)

theorem fpWords_bytes : wordsBytes fpWords = fingerprint := by
  have h : ∀ (b : Nat → Byte), wordsBytes (bytesWords 4 ((List.range 16).map b)) = (List.range 16).map b := by
    intro b
    simp [wordsBytes, bytesWords, List.range, List.range.loop, wordBytes_of_bytes]
  exact h (fun i => fingerprint.getD i 0)

/-- What a witness of Signed needs besides the signature. -/
def signedB (op role : Nat) (inner : List Nat) : Bool :=
  let c := sealedOn role inner
  (secBase.advance 0).fetchable c && c.words.length == 31 + c.f 0 23 16 && c.f 0 1 0 != 0 &&
  secBase.roleKey (c.f 0 1 0) (c.f 0 5 4) == [1] && c.w64 1 == 1 && secBase.permits op (c.f 0 1 0) c.inner &&
  decide (c.inner.length ≤ 248) && (!audited op c.inner || !(secBase.unsealed 0 op c).auditFull)

/-- An envelope of role and inner words whose signature the standard's check accepts. -/
def Accepted (op role : Nat) (inner : List Nat) : Prop :=
  let c := sealedOn role inner
  Config.ecdsaVerifies [1] (sha384 (c.header op ++ wordsBytes (c.words.take (7 + c.f 0 23 16)))) (wordsBytes (c.words.drop (7 + c.f 0 23 16))) = true

theorem signed_of {op role : Nat} {inner : List Nat} (h : signedB op role inner = true) (hv : Accepted op role inner) :
    Signed op [0] secBase 0 (sealedOn role inner) := by
  simp only [signedB, Bool.and_eq_true, Bool.or_eq_true, Bool.not_eq_true', decide_eq_true_eq, bne_iff_ne, beq_iff_eq] at h
  obtain ⟨⟨⟨⟨⟨⟨⟨h1, h2⟩, h3⟩, h4⟩, h5⟩, h6⟩, h7⟩, h8⟩ := h
  refine ⟨h1, rfl, ?_, rfl, h7, List.mem_singleton.mpr rfl, rfl, ?_, rfl, ?_⟩
  · have hk : (secBase.taken 0 op (sealedOn role inner)).roleKey ((sealedOn role inner).f 0 1 0) ((sealedOn role inner).f 0 5 4) = [1] := h4
    have hp : (secBase.taken 0 op (sealedOn role inner)).permits op ((sealedOn role inner).f 0 1 0) (sealedOn role inner).inner = true := h6
    have hf : wordsBytes (((sealedOn role inner).words.drop 3).take 4) = fingerprint := by
      rw [← fpWords_bytes]; rfl
    have hv' : Config.ecdsaVerifies [1] (sha384 ((sealedOn role inner).header op ++ wordsBytes ((sealedOn role inner).words.take
      (7 + (sealedOn role inner).f 0 23 16)))) (wordsBytes ((sealedOn role inner).words.drop (7 + (sealedOn role inner).f 0 23 16))) = true := hv
    have hm : ¬ (secBase.taken 0 op (sealedOn role inner)).sec.mode = .error := by intro x; cases x
    have hc : ¬ (sealedOn role inner).w64 1 ≤ (secBase.taken 0 op (sealedOn role inner)).sec.envCounters.getD ((sealedOn role inner).f 0 1 0 - 1) 0 := by
      have : ∀ k, [0, 0, 0].getD k 0 = 0 := by intro k; match k with | 0 => rfl | 1 => rfl | 2 => rfl | n + 3 => rfl
      have e : (secBase.taken 0 op (sealedOn role inner)).sec.envCounters = [0, 0, 0] := rfl
      rw [h5, e, this]; decide
    simp only [State.envelopeFail, h2, h3, hk, hf, hm, hp, hv', ne_eq, not_true_eq_false, or_self, if_false, if_neg hc, Bool.not_true]
    simp [sealedOn, cmdOn]
  · intro x; cases x
  · intro x; exact h8.resolve_left (fun y => by simp [x] at y)

/-! Each witness of an enveloped command holds where the standard's check accepts its signature (an opaque constant, log entry 6). -/

theorem witness_SignedSecurityCommands_roleKey (hv : Accepted 0x0C03 2 (0x103 :: [])) :
    let c := sealedOn 2 (0x103 :: [])
    let k := c.opened.padded (if c.opened.b 0 8 then 1 else 25)
    Signed 0x0C03 [0] secBase 0 c ∧ k.f 0 1 0 ≠ 0 ∧ (k.b 0 8 = false → Config.onCurve (wordsAt k.words 1 24) = true) ∧ secBase.secFailed = false :=
  ⟨signed_of (by decide) hv, by decide, fun h => absurd h (by decide), rfl⟩

theorem witness_SignedSecurityCommands_install (hv : Accepted 0x0C03 2 (1 :: List.replicate 24 7))
    (hc : Config.onCurve (wordsAt (List.replicate 25 7) 1 24) = true) :
    let c := sealedOn 2 (1 :: List.replicate 24 7)
    let k := c.opened.padded (if c.opened.b 0 8 then 1 else 25)
    Signed 0x0C03 [0] secBase 0 c ∧ k.f 0 1 0 ≠ 0 ∧ (k.b 0 8 = false → Config.onCurve (wordsAt k.words 1 24) = true) ∧ secBase.secFailed = false :=
  ⟨signed_of (by decide) hv, by decide, fun _ => hc, rfl⟩

theorem witness_SignedSecurityCommands_firstOfficer (hc : Config.onCurve (wordsAt (List.replicate 25 7) 1 24) = true) :
    let c := cmdOn 3 0 (2 :: List.replicate 24 7)
    let k := c.padded 25
    Sent 0x0C03 [0] (base 3) 0 c ∧ k.f 0 1 0 = 2 ∧ k.b 0 8 = false ∧ Config.onCurve (wordsAt k.words 1 24) = true ∧ (base 3).secFailed = false :=
  ⟨sent_of (by decide), by decide, by decide, hc, rfl⟩

theorem witness_SignedSecurityCommands_rmk (h0 : Accepted 0x0C04 2 [0]) (h1 : Accepted 0x0C04 2 (1 :: List.replicate 39 0))
    (h2 : Accepted 0x0C04 2 (2 :: List.replicate 24 0)) :
    Signed 0x0C04 [0] secBase 0 (sealedOn 2 [0]) ∧ ((sealedOn 2 [0]).opened.padded 1).f 0 1 0 = 0 ∧
    Signed 0x0C04 [0] secBase 0 (sealedOn 2 (1 :: List.replicate 39 0)) ∧
    ((sealedOn 2 (1 :: List.replicate 39 0)).opened.padded 40).f 0 1 0 = 1 ∧
    Signed 0x0C04 [0] secBase 0 (sealedOn 2 (2 :: List.replicate 24 0)) ∧
    ((sealedOn 2 (2 :: List.replicate 24 0)).opened.padded 25).f 0 1 0 = 2 ∧ secBase.secFailed = false ∧ secBase.cap.run = .closed :=
  ⟨signed_of (by decide) h0, by decide, signed_of (by decide) h1, by decide, signed_of (by decide) h2, by decide, rfl, rfl⟩

theorem witness_SignedSecurityCommands_policy (hv : Accepted 0x0C05 2 [1, 0x00020F01]) :
    let c := sealedOn 2 [1, 0x00020F01]
    let k := c.opened.padded (1 + c.opened.f 0 6 0)
    Signed 0x0C05 [0] secBase 0 c ∧ secBase.secFailed = false ∧ k.f 0 6 0 ≤ 64 ∧
    (∀ x ∈ (policyEntries k).zipIdx, 1 ≤ x.1.1 / 256 ∧ x.1.1 / 256 ≤ 0x0F ∧ x.1.1 / 256 ≠ 0x0C ∧ x.1.2 ≠ 0 ∧
      ∀ e ∈ (policyEntries k).take x.2, e.1 ≠ x.1.1) := ⟨signed_of (by decide) hv, rfl, by decide⟩

theorem witness_SignedSecurityCommands_activate (hv : Accepted 0x0C0B 2 [0]) :
    Signed 0x0C0B [0] secBase 0 (sealedOn 2 [0]) ∧ secBase.secFailed = false ∧ secBase.sec.verified.getD ((sealedOn 2 [0]).opened.f 0 0 0) false = true :=
  ⟨signed_of (by decide) hv, rfl, by decide⟩

theorem witness_SignedSecurityCommands_svn (hv : Accepted 0x0C0C 2 []) :
    Signed 0x0C0C [0] secBase 0 (sealedOn 2 []) ∧ secBase.secFailed = false ∧ secBase.sec.fallback = false ∧ secBase.sec.svnRun ≤ 64 :=
  ⟨signed_of (by decide) hv, by decide⟩

theorem witness_SignedSecurityCommands_zeroise (hv : Accepted 0x0C0E 2 [1]) :
    Signed 0x0C0E [0] secBase 0 (sealedOn 2 [1]) ∧ secBase.secFailed = false ∧ secBase.cap.run = .closed :=
  ⟨signed_of (by decide) hv, by decide⟩

theorem witness_SignedSecurityCommands_debug (hv : Accepted 0x0C0F 3 [1]) :
    Signed 0x0C0F [0] secBase 0 (sealedOn 3 [1]) ∧ (sealedOn 3 [1]).opened.b 0 0 = true ∧ secBase.secFailed = false ∧
    secBase.cap.run = .closed ∧ secBase.pwr.st = .ready := ⟨signed_of (by decide) hv, by decide⟩

theorem witness_SignedSecurityCommands_cosign (hv : Accepted 0x0C10 2 (List.replicate 24 7))
    (hk : secBase.fwCosigned secBase.sec.bootSlot (wordsAt (List.replicate 24 7) 0 24) = true) :
    let c := sealedOn 2 (List.replicate 24 7)
    Signed 0x0C10 [0] secBase 0 c ∧ secBase.secFailed = false ∧ secBase.sec.customer = none ∧
    secBase.fwCosigned secBase.sec.bootSlot (wordsAt (c.opened.padded 24).words 0 24) = true := ⟨signed_of (by decide) hv, rfl, rfl, hk⟩

/-- A state with its host attachment changed. -/
def onHost (s : State) (f : HostSt → HostSt) : State := { s with host := f s.host }

theorem witness_HostIndexWrites : (base 1).barOk = true ∧ ((base 1).advance 0).ring 1 = ⟨131072, 8, .running, 0, 64, 0, true⟩ ∧
    (256 + 65536 - 0) % 65536 ≤ 2 ^ 8 ∧ ¬ (257 + 65536 - 0) % 65536 ≤ 2 ^ 8 ∧ State.reset.ring 4 = Ring.reset ∧
    (onHost State.reset (fun h => { h with link := (base 1).host.link })).pwr.st = .boot ∧
    (onHost (base 1) (fun h => { h with rings := upd h.rings 0 (fun x => { x with st := .disabled }) })).barOk = true ∧
    ((onHost (base 1) (fun h => { h with rings := upd h.rings 0 (fun x => { x with st := .disabled }) })).ring 0).st = .disabled := by decide

/-- A consumer index: ring 4 with entries 10 to 12 written, and the index moved up to 13 and no further. -/
theorem witness_HostIndexWrites_consumer :
    let s := onHost (base 1) (fun h => { h with rings := upd h.rings 4 (fun x => { x with host := 10, dev := 13 }) })
    s.barOk = true ∧ (s.ring 4).st ≠ .disabled ∧ (13 + 65536 - (s.ring 4).host) % 65536 ≤ ((s.ring 4).dev + 65536 - (s.ring 4).host) % 65536 ∧
    ¬ (14 + 65536 - (s.ring 4).host) % 65536 ≤ ((s.ring 4).dev + 65536 - (s.ring 4).host) % 65536 := by decide

theorem witness_RingRegisters :
    let s := onHost (base 1) (fun h => { h with rings := upd h.rings 5 (fun x => { x with st := .disabled }) })
    s.barOk = true ∧ 5 < 6 ∧ ((s.advance 0).ring 5).st = .disabled ∧ ((s.advance 0).ring 0).st ≠ .disabled ∧ 4 ≤ 14 ∧ 2 ^ 63 < 2 ^ 64 ∧
    ((2 ≠ 4 ∧ 2 ≠ 8) ∨ 0 % 2 ≠ 0) ∧ ((4 ≠ 4 ∧ 4 ≠ 8) ∨ 2 % 4 ≠ 0) := by decide

/-- Queue 65535 with blocks 65534 to 3 published and not consumed. -/
def withData (s : State) : State :=
  let q : Queue := { Queue.reset with st := .enabled, size := 8, prod := 4, pub := 4, cons := 65534, credit := 3 }
  { s with hq := { s.hq with queues := Sparse.set s.hq.queues Queue.reset 65535 q } }

theorem witness_ConsumerIndexRule : let s := withData (base 1)
    s.barOk = true ∧ 65535 < 65536 ∧ (s.queue 65535).split = false ∧ ((s.advance 0).queue 65535).cons < 65536 ∧
    (4 + 65536 - (s.queue 65535).cons) % 65536 ≤ ((s.queue 65535).pub + 65536 - (s.queue 65535).cons) % 65536 ∧
    ¬ (5 + 65536 - (s.queue 65535).cons) % 65536 ≤ ((s.queue 65535).pub + 65536 - (s.queue 65535).cons) % 65536 := by decide

theorem witness_CreditsAndWaitWindows_credit : let s := withData (base 1)
    let x := (s.advance 0).queue 65535
    s.barOk = true ∧ 65535 < 65536 ∧ x.split = false ∧ x.credit + 247 ≤ x.free ∧ x.free < x.credit + 248 ∧ x.pub ≠ x.cons := by decide

/-- A queue without data, with fewer than 256 reads waiting and with 256, and one whose time is up. -/
theorem witness_CreditsAndWaitWindows_wait :
    let s := fun (n : Nat) => onHost (withQueue (base 1) 0) (fun h => { h with waits := List.replicate n ⟨0, 0, false⟩ })
    let late := us ((s 1).p .HQ_WAIT_LIMIT)
    (s 255).barOk = true ∧ ((s 255).queue 0).split = false ∧ (((s 255).advance 0).queue 0).pub = (((s 255).advance 0).queue 0).cons ∧
    ((s 255).advance 0).host.waits.length < 256 ∧ 256 ≤ ((s 256).advance 0).host.waits.length ∧
    (((s 256).advance 0).queue 0).pub = (((s 256).advance 0).queue 0).cons ∧
    ((s 1).advance late).host.waits.find? (fun (y : WaitRead) => y.q == 0 && decide (y.at_ + us (((s 1).advance late).p .HQ_WAIT_LIMIT) ≤
      ((s 1).advance late).now)) = some ⟨0, 0, false⟩ := by decide +kernel

/-- DRAM of 256 GiB with 2 reference slots of 1 MiB: a read of the last bytes, a write past the end, into the spill area, into a free slot, and
    into a slot in use. -/
def withArena (s : State) : State :=
  withPars s [⟨.HIS_REF_SLOTS, 0, 2⟩, ⟨.HIS_REF_SLOT_SIZE, 0, 1⟩, ⟨.HIS_SPILL, 0, 1⟩]

theorem witness_Bar2Window_read : let w := (withArena (base 1)).advance 0
    (withArena (base 1)).barOk = true ∧ w.clockOk 4 = true ∧
    (∀ u ∈ w.cmp.refUe, ¬ (w.p .HIS_BAR2_BASE * 2 ^ 30 < u + 64 ∧ u < w.p .HIS_BAR2_BASE * 2 ^ 30 + 8)) := by decide

theorem witness_Bar2Window_write : let w := (withArena (base 1)).advance 0
    let v := { w with cap := { w.cap with run := .open_ }, cmp := { w.cmp with resident := [0], refNow := 0 } }
    let a := fun (o : Nat) => w.p .HIS_BAR2_BASE * 2 ^ 30 + o
    w.installed < a (2 ^ 38 - 7) + 8 ∧ a (2 ^ 38 - 8) + 8 ≤ w.installed ∧ w.arenaByte 2 < a (2 ^ 38 - 8) + 8 ∧
    a 0 + 8 ≤ w.installed ∧ a 0 + 8 ≤ w.arenaByte 2 ∧ w.slotsAt (a 0) 8 = [0] ∧ (∀ i ∈ w.slotsAt (a 0) 8, w.slotHeld i = false) ∧
    (∃ i ∈ v.slotsAt (a 0) 8, v.slotHeld i = true) ∧ a 0 + 8 ≤ v.installed ∧ a 0 + 8 ≤ v.arenaByte 2 := by decide +kernel

theorem witness_LinkLossAndReturn :
    let d := onHost (base 1) (fun h => { h with link := { h.link with adapterUp := false, lostAt := some 0 } })
    ((base 1).advance 0).linkUp = true ∧ 2 < 3 ∧ ((base 1).advance 0).cap.run = .closed ∧ ((base 1).advance 0).unpublished = false ∧
    (d.advance 0).linkUp = false ∧ (d.advance 0).pwr.st = .ready ∧ (d.advance 0).host.spill = [] ∧
    ((running (base 1)).advance 0).linkUp = true ∧ ((running (base 1)).advance 0).cap.run ≠ .closed := by decide

/-- A fetched command without a reply, and the same with its final reply made. -/
def withWork (s : State) (final : Bool) : State :=
  onHost s (fun h => { h with outst := [⟨3, 1, 7, 0x0401, 0, false, final, final, false, 0, 0, 0, 0, 0, []⟩] })

theorem witness_RepliesReachTheRing_replies :
    (withWork (base 1) false).outOf 3 = some ⟨3, 1, 7, 0x0401, 0, false, false, false, false, 0, 0, 0, 0, 0, []⟩ ∧
    (withWork (base 1) true).outOf 3 = some ⟨3, 1, 7, 0x0401, 0, false, true, true, false, 0, 0, 0, 0, 0, []⟩ ∧
    ((withWork (base 1) false).advance 5).outOf 3 = some ⟨3, 1, 7, 0x0401, 0, false, false, false, false, 0, 0, 0, 0, 0, []⟩ := by decide

/-- A reply of 12 words in the store, with room in the ring, without, and on a ring that does not run. -/
theorem witness_RepliesReachTheRing_ring :
    let c : Cpl := ⟨3, 1, 7, 0x0401, 0, 0, 0, List.replicate 12 0, true, false⟩
    let s := fun (n : Nat) => onHost (base 1) (fun h => { h with store := [c], rings := upd h.rings 4 (fun x => { x with dev := n }) })
    ((s 255).advance 0).host.store = [c] ∧ (((s 255).advance 0).ring 4).st = .running ∧ ((s 255).advance 0).linkUp = true ∧
    ((s 255).advance 0).host.spill = [] ∧ c.words.length ≤ 12 ∧ 1 ≤ (((s 255).advance 0).ring 4).room ∧
    ((s 256).advance 0).host.store = [c] ∧ (((s 256).advance 0).ring 4).st = .running ∧
    (((s 256).advance 0).ring 4).room < cmdSlots c.words.length ∧ (State.reset.ring 4).st ≠ .running := by decide

/-- A source in its hold-off, with or without a batch; its end is instant 768. -/
def heldSrc (batch : Nat) (x : Nat) : State :=
  (base 1).updEv x (fun e => { e with holding := true, until_ := 768, batch := batch })

theorem witness_HoldoffsAndDelayedEvents_sources :
    ((base 1).evSrc 599).holding = false ∧ ((heldSrc 0 599).advance 767).now < ((heldSrc 0 599).evSrc 599).until_ ∧
    (((heldSrc 0 599).advance 768).evSrc 599).holding = true ∧ (((heldSrc 0 599).advance 768).evSrc 599).until_ ≤ ((heldSrc 0 599).advance 768).now ∧
    (((heldSrc 0 599).advance 768).evSrc 599).batch = 0 ∧ (((heldSrc 2 599).advance 768).evSrc 599).batch ≠ 0 ∧
    ((heldSrc 2 599).advance 768).p .EVT_EN 599 ≠ 0 ∧ ((heldSrc 2 599).advance 768).eventRoom = true ∧ ((heldSrc 2 599).advance 768).host.evWait = [] ∧
    (withPars (heldSrc 2 599) [⟨.EVT_EN, 599, 0⟩]).p .EVT_EN 599 = 0 := by decide

theorem witness_HoldoffsAndDelayedEvents_vectors :
    let s := fun (d : Bool) => onHost (base 1) (fun h => { h with
      vecs := upd h.vecs 63 (fun m => { m with holding := true, until_ := 768, dirty := d }), link := { h.link with msixEnable := true } })
    let m := fun (d : Bool) => ((s d).advance 768).host.vecs.getD 63 MsixVec.reset
    ((base 1).host.vecs.getD 63 MsixVec.reset).holding = false ∧ (m false).holding = true ∧ (m false).until_ ≤ ((s false).advance 768).now ∧
    (m false).dirty = false ∧ (m true).holding = true ∧ (m true).dirty = true ∧ ((s true).advance 768).linkUp = true ∧
    ((s true).advance 768).host.spill = [] ∧ ((s true).advance 768).host.link.msixEnable = true := by decide

theorem witness_HoldoffsAndDelayedEvents_delayed :
    let s := onHost (heldSrc 1 5) (fun h => { h with evWait := [5] })
    let f := onHost (heldSrc 1 5) (fun h => { h with evWait := [5], evFull := true })
    (s.advance 0).host.evWait = [5] ∧ (s.advance 0).eventRoom = true ∧ (f.advance 0).host.evWait = [5] ∧ (f.advance 0).eventRoom = true ∧
    (base 1).host.evWait = [] := by decide

theorem witness_CoresAndReads : let s := withWork (base 1) false
    let d := onHost (base 1) (fun h => { h with coresDown := some 0 })
    (s.advance 0).coresUp = true ∧ 1 ≤ 3 ∧ (s.advance 0).aux.scan = none ∧ (d.advance 0).coresUp = false ∧
    (s.advance 0).outOf 3 = some ⟨3, 1, 7, 0x0401, 0, false, false, false, false, 0, 0, 0, 0, 0, []⟩ ∧ (State.reset.advance 0).linkUp = false ∧
    (s.advance 0).linkUp = true ∧ ((s.advance 0).ring 3).st = .running := by decide

theorem witness_FunctionLevelReset : (base 1).barOk = true := by decide

/-! ### Ill-formed commands, one for each check of WellFormed -/

theorem test_wf_good : wellFormed (.sysNop 0 (cmdOn 3 7 (List.replicate 255 0))) = true := by decide +kernel
theorem test_wf_ring : wellFormed (.sysNop 0 (cmdOn 4 0 [])) = false := by decide
theorem test_wf_tag : wellFormed (.sysNop 0 { cmdOn 1 0 [] with tag := 65536 }) = false := by decide
theorem test_wf_level : wellFormed (.seqSet 0 { cmdOn 1 0 [] with level := 4 }) = false := by decide
theorem test_wf_device : wellFormed (.seqSet 0 { cmdOn 1 0 [] with dev := 8 }) = false := by decide
theorem test_wf_tile : wellFormed (.senStatus 0 (cmdTile 16 0 [])) = false := by decide
theorem test_wf_lane : wellFormed (.senLaneSet 0 (cmdLane 0 16 0 [])) = false := by decide
theorem test_wf_commit : wellFormed (.runClose 0 (cmdOn 1 8 [])) = false := by decide
theorem test_wf_arg : wellFormed (.runClose 0 { cmdOn 1 0 [] with arg := 2 ^ 32 }) = false := by decide
theorem test_wf_count : wellFormed (.sysNop 0 (cmdOn 1 0 (List.replicate 256 0))) = false := by decide +kernel
theorem test_wf_doorbell : wellFormed (.submissionDoorbell 0 6 0 []) = false := by decide
theorem test_wf_queue : wellFormed (.hqGrantWrite 0 65536 1) = false := by decide
theorem test_wf_source : wellFormed (.eventHoldoffExpiry 0 600) = false := by decide
theorem test_wf_vector : wellFormed (.irqHoldoffExpiry 0 64) = false := by decide
theorem test_wf_cores : wellFormed (.watchdogExpiry 0 4) = false := by decide
theorem test_wf_phase : wellFormed (.readoutEnd 0 6 []) = false := by decide
theorem test_wf_bar : wellFormed (.lampStrobe 0 4 0) = false := by decide
theorem test_wf_channel : wellFormed (.tdcTimeout 0 8) = false := by decide
theorem test_wf_encoder : wellFormed (.standstill 0 4) = false := by decide
theorem test_wf_excitation : wellFormed (.excRestore 0 32) = false := by decide
theorem test_wf_loop : wellFormed (.loopFollowTimeout 0 4) = false := by decide
theorem test_wf_axis : wellFormed (.burinEvent 0 8) = false := by decide
theorem test_wf_coil : wellFormed (.chopperOffEnd 0 0 2) = false := by decide
theorem test_wf_monitor : wellFormed (.voltageFaultPersist 0 40) = false := by decide
theorem test_wf_clock : wellFormed (.clockFault 0 8) = false := by decide
theorem test_wf_domain : wellFormed (.domainPowerGood 0 56) = false := by decide
theorem test_wf_straps : wellFormed (.rstNRise 0 256) = false := by decide
theorem test_wf_aux : wellFormed (.auxWireRestored 0 64) = false := by decide

/-! ### The manual's worked examples -/

/-- 02, after R43: three phases with 320 clocks at 125 MHz, exposures of 160, 2,760 and 2,760 ns, guards of 200 ns. -/
def designPoint : Sparse Nat :=
  parSets [] [⟨.SEQ_NUM_PHASES, 0, 3⟩, ⟨.SEQ_EXP, 0, 160⟩, ⟨.SEQ_EXP, 1, 2760⟩, ⟨.SEQ_EXP, 2, 2760⟩, ⟨.SEN_LANE_EN, 0, 1⟩, ⟨.SEN_GEN_EN, 0, 1⟩,
    ⟨.SEN_RO_CLK, 0, 320⟩, ⟨.SEN_RO_CLK, 1, 320⟩, ⟨.SEN_RO_CLK, 2, 320⟩]

theorem test_slot_min : slotMinNs designPoint = 8304 := by decide +kernel

/-- 06, after R192: the code 9,000 at column 5,000. -/
theorem test_segment_factor : segFactor (16384 + 2 ^ 16 * 2936 + 2 ^ 32 * 1342) (35 * 16) (22 * 16) (44 * 16) (41 * 16 + 8) = 16696 := by
  decide +kernel

theorem test_correction : correctPixel 9000 (2113 + 2 ^ 16 * 8899 + 2 ^ 32 * 250 + 2 ^ 40 * 3) 16696 = (0x9230, false, false) := by decide +kernel

/-- 09, after R343: 2,560 columns of three phases in bands of 32 lines. -/
theorem test_band : bandStride 2560 0 7 false = 15424 ∧ bandLen 2560 0 7 false 32 = 493632 ∧ pktBlocks 493632 = 1930 := by decide +kernel

/-- 09: the ninth band finds 944 blocks before the ring's end. -/
theorem test_pad : ({ Queue.reset with size := 14, prod := 15440 } : Queue).padFor 1930 = 944 := by decide +kernel

/-- 12, after R473: the packet of a COR_SET_SWAP and its ACCEPTED entry. -/
theorem test_packet : ({ cmdOn 1 3 [0xFFFF] with tag := 0x2A, arg := 0x8A3C1D00 } : Cmd).header 0x0403 =
    [0x03, 0x04, 0x00, 0x01, 0x2A, 0x00, 0x00, 0x00, 0x03, 0x00, 0x00, 0x00, 0x00, 0x1D, 0x3C, 0x8A] := by decide +kernel

theorem test_completion : (⟨5, 1, 0x2A, 0x0403, 0x0137, 1, 0, [], false, false⟩ : Cpl).bytes true =
    [0x2A, 0x00, 0x03, 0x04, 0x01, 0x00, 0x00, 0x00, 0x00, 0x81, 0x01, 0x00, 0x37, 0x01, 0x00, 0x00] := by decide +kernel

/-- 12: 244 result words take 16 slots. -/
theorem test_slots : cmdSlots 244 = 16 := by decide

/-- 05, after R167: ×8 to ×1, ×1 to ×2, ×2 to ×8, and a fine change alone. -/
theorem test_settling : settleNs 3 0 = 340 ∧ settleNs 0 1 = 180 ∧ settleNs 1 3 = 260 ∧ settleNs 1 5 = 40 := by decide

/-- 04: the upload of a set takes 97 frames of which 96 carry patterns of a chain of 16 chips. -/
theorem test_upload : (uploadFrames [] 16 1).length = 96 := by decide +kernel

/-! ### Single steps on small states -/

/-- R447 to R453: SYS_NOP is fetched from its slot and answered DONE. -/
theorem test_nop : ∃ u, exec (.sysNop 768 (cmdOn 1 0 [5])) (base 1) = .next u ∧ (u.ring 1).dev = 1 ∧
    u.host.store.map (fun c => (c.status, c.words)) = [(0, [5])] := ⟨_, rfl, by decide, by decide⟩

/-- R445: an index more than the ring's size ahead is refused and counted. -/
theorem test_doorbell_bad : ∃ u, exec (.submissionDoorbell 0 1 257 []) (base 1) = .next u ∧ (u.ring 1).host = 64 ∧ u.cntOf .SYS_DOORBELL_BAD = 1 :=
  ⟨_, rfl, by decide +kernel, by decide +kernel⟩

/-- R336: a grant beyond the free blocks is cut to them. -/
theorem test_grant_clamped : ∃ u, exec (.hqGrantWrite 0 65535 300) (withData (base 1)) = .next u ∧ (u.queue 65535).credit = 250 :=
  ⟨_, rfl, by decide +kernel⟩

/-- A step takes the front command and leaves the rest. -/
theorem test_step : ∃ u, step { base 1 with pending := [.sysNop 768 (cmdOn 1 0 []), .gridTick 900] } = .next u ∧ u.pending = [.gridTick 900] :=
  ⟨_, rfl, by decide⟩

/-- The table gives no row any bits. -/
theorem test_decode : decodeTableWord 16 0x0101 = none := rfl

end Sys2Proof.Tests
end

section
/-! PROOFS. The watchdog's reset of the management cores, their restart, and failed DMA reads (R30, R456, R465): what a reset cuts and
what it leaves running, and what the restart's replies can change. -/

namespace Sys2Proof.Machine

/-! ### What a reset of the cores leaves as it was -/

/-- Dropping the uploads of some of the bars writes to the lamps only. -/
theorem foldl_dropUpload_eq (p : State → Nat → Bool) : ∀ (l : List Nat) (s : State),
    ∃ x, l.foldl (fun s b => if p s b then s.dropUpload b else s) s = { s with lamp := x }
  | [], s => ⟨s.lamp, rfl⟩
  | b :: l, s => by
    rw [List.foldl_cons]
    split
    · obtain ⟨x, hx⟩ := foldl_dropUpload_eq p l (s.dropUpload b)
      exact ⟨x, hx⟩
    · exact foldl_dropUpload_eq p l s

/-- A cut JOB_ARM waits no more; beyond that only the lamps' uploads may change. -/
theorem State.cutArm_eq (s : State) : ∃ x, s.cutArm = { s with cap := { s.cap with arm := none }, lamp := x } := by
  unfold State.cutArm
  split
  case h_1 h => exact ⟨s.lamp, by rw [← h]⟩
  case h_2 a h =>
    exact foldl_dropUpload_eq (fun s b => natBit a.parts 3 && s.native b) _ { s with cap := { s.cap with arm := none } }

/-- From s to t every waiting commit, group and JOB_ARM is gone, and what R30 keeps is as before. -/
structure WorkCut (s t : State) : Prop where
  pends : t.seq.pends = []
  groups : t.seq.groups = []
  arm : t.cap.arm = none
  now : t.now = s.now
  host : t.host = s.host
  scan : t.aux.scan = s.aux.scan
  run : t.cap.run = s.cap.run
  par : t.par = s.par
  mot : t.mot = s.mot
  sec : t.sec = s.sec
  queues : t.hq.queues = s.hq.queues

theorem State.endWork_workCut (s : State) : WorkCut s s.dropShadows.cutArm.endWork := by
  obtain ⟨x, h⟩ := s.dropShadows.cutArm_eq
  rw [h]
  constructor <;> rfl

theorem State.scanCores_of_no_scan {s : State} (h : s.aux.scan = none) : s.scanCores = s := by
  simp [State.scanCores, h]

/-- Which fetched commands a reset by the watchdog cuts short (R465): those without a final reply. -/
theorem State.coresReset_cuts (s : State) (cause : Nat) :
    ∀ o ∈ (s.coresReset cause none).host.outst, o.final = false → o.aborted = true := by
  intro o ho hf
  obtain ⟨x, -, rfl⟩ := List.mem_map.1 ho
  by_cases hx : x.final = true <;> simp [hx] at hf ⊢

/-- The cores stopped at the present instant, every command without a final reply cut short: the host block's part of a reset. -/
def State.coresStop (s : State) (cause : Nat) (own : Option Nat) : State :=
  s.updHost (fun h => { h with
    outst := h.outst.map (fun (o : Outst) => if o.final || some o.cid == own then o else { o with aborted := true }),
    heartbeat := s.beat, coresDown := some s.now, coreCause := cause, coreReset := own })

/-- A reset with no auxiliary scan in progress is the cut of the work, and then the host block's part. -/
theorem State.coresReset_of_no_scan {s : State} (h : s.aux.scan = none) (cause : Nat) (own : Option Nat) :
    ∃ v, WorkCut s v ∧ s.coresReset cause own = v.coresStop cause own := by
  have hw := s.endWork_workCut
  refine ⟨_, hw, ?_⟩
  rw [State.coresReset, State.scanCores_of_no_scan (hw.scan.trans h)]
  rfl

/-! ### What replies can change -/

theorem State.replyAt_aborted (s : State) (cid st d : Nat) (ws : List Word) (l : Nat) :
    (s.replyAt cid st d ws l).host.outst.map Outst.aborted = s.host.outst.map Outst.aborted := by
  have hmap (final : Bool) : (s.host.outst.map (fun x => if x.cid = cid then { x with first := true, final := final } else x)).map
      Outst.aborted = s.host.outst.map Outst.aborted := by
    rw [List.map_map]
    refine List.map_congr_left (fun x _ => ?_)
    rw [Function.comp_apply]
    split <;> rfl
  unfold State.replyAt
  cases s.outOf cid with
  | none => rfl
  | some o =>
    dsimp only
    split
    · rfl
    · split <;> exact hmap _

/-- From s to t no command was cut short or taken up again, and the cores, the committed configuration, the sequencer and the axes are
    as before. -/
structure OnlyReplies (s t : State) : Prop where
  aborted : t.host.outst.map Outst.aborted = s.host.outst.map Outst.aborted
  coresDown : t.host.coresDown = s.host.coresDown
  beatAt : t.host.beatAt = s.host.beatAt
  par : t.par = s.par
  seq : t.seq = s.seq
  mot : t.mot = s.mot

theorem OnlyReplies.refl (s : State) : OnlyReplies s s := ⟨rfl, rfl, rfl, rfl, rfl, rfl⟩

theorem OnlyReplies.trans {s t u : State} (h : OnlyReplies s t) (k : OnlyReplies t u) : OnlyReplies s u :=
  ⟨k.aborted.trans h.aborted, k.coresDown.trans h.coresDown, k.beatAt.trans h.beatAt, k.par.trans h.par, k.seq.trans h.seq,
    k.mot.trans h.mot⟩

theorem State.reply_onlyReplies (s : State) (cid st d : Nat) (ws : List Word) : OnlyReplies s (s.reply cid st d ws) :=
  ⟨s.replyAt_aborted .., by simp, by simp, by simp, by simp, by simp⟩

theorem OnlyReplies.foldl {α : Type} {f : State → α → State} (hf : ∀ s a, OnlyReplies s (f s a)) :
    ∀ (l : List α) (s : State), OnlyReplies s (l.foldl f s)
  | [], s => OnlyReplies.refl s
  | a :: l, s => (hf s a).trans (OnlyReplies.foldl hf l _)

/-! ### The restart -/

/-- The cores up again at the present instant, with no command cut short: the restart before its replies. -/
def State.coresUpNow (s : State) : State :=
  s.updHost (fun h => { h with
    coresDown := none, coreReset := none, beatAt := s.now, outst := h.outst.map (fun (o : Outst) => { o with aborted := false }) })

theorem State.coresRun_of_up {s : State} (h : s.coresUp = true) : s.coresRun = s := by
  rw [State.coresRun, if_pos h]

/-- The restart of cores that are down: replies from the state with the cores up, then the count and the event (R465). -/
theorem State.coresRun_of_down {s : State} (h : s.coresUp = false) :
    ∃ z, OnlyReplies s.coresUpNow z ∧ s.coresRun = (z.count .SYS_WDT_RESETS).raise .SYS_WATCHDOG s.host.coreCause := by
  have hcut : OnlyReplies s.coresUpNow ((s.host.outst.filter (fun (o : Outst) => o.aborted && !o.final)).foldl
      (fun (s : State) o => s.reply o.cid 0x40 1) s.coresUpNow) :=
    OnlyReplies.foldl (fun s (o : Outst) => s.reply_onlyReplies o.cid 0x40 1 []) _ _
  rw [State.coresRun, if_neg (by simp [h])]
  cases s.host.coreReset with
  | none => exact ⟨_, hcut, rfl⟩
  | some cid => exact ⟨_, hcut.trans (State.reply_onlyReplies _ cid 0 0 []), rfl⟩

theorem OnlyReplies.not_aborted {s z : State} (h : OnlyReplies s.coresUpNow z) : ∀ o ∈ z.host.outst, o.aborted = false := by
  intro o ho
  have hm : o.aborted ∈ s.coresUpNow.host.outst.map Outst.aborted := h.aborted ▸ List.mem_map_of_mem ho
  obtain ⟨y, hy, hyo⟩ := List.mem_map.1 hm
  obtain ⟨x, -, rfl⟩ := List.mem_map.1 hy
  exact hyo.symm

/-! ### Failed DMA reads -/

theorem State.dmaFail_command {s : State} {cid : Nat} {o : Outst} (r : Nat) (ho : s.outOf cid = some o) (hf : o.final = false)
    (ha : o.aborted = false) : s.dmaFail r (some cid) = ((s.count .SYS_DMA_READ_FAILS).dropWork cid).reply cid 0x40 2 := by
  simp [State.dmaFail, ho, hf, ha]

theorem State.dmaFail_fetch_of_link_down {s : State} (r : Nat) (h : s.linkUp = false) : s.dmaFail r none = s := by
  simp [State.dmaFail, h]

theorem State.dmaFail_fetch {s : State} {r : Nat} (hl : s.linkUp = true) (hr : r < 4) (hs : (s.ring r).st = .running) :
    s.dmaFail r none = (((s.count .SYS_DMA_READ_FAILS).updRing r (fun x => { x with st := .error, err := 1 })).count
      .SYS_RING_ERRORS).raise .SYS_RING_ERROR r := by
  simp [State.dmaFail, hl, hs, hr]

/-! ### The rows -/

theorem exec_watchdogExpiry_of_up {s : State} {t c : Nat} (hu : (s.advance t).coresUp = true) (h1 : 1 ≤ c) (h3 : c ≤ 3) :
    exec (.watchdogExpiry t c) s = .next ((s.advance t).coresReset c none) := by
  show Host.Outcome.next (if _ then _ else _) = _
  rw [if_pos (by simp [hu, h1, h3])]

theorem exec_sysWatchdog (s : State) (t : Nat) : exec (.sysWatchdog t) s = .next (s.advance t).coresRun := rfl

theorem exec_dmaReadFail (s : State) (t r : Nat) (cmd : Option Nat) :
    exec (.dmaReadFail t r cmd) s = .next ((s.advance t).dmaFail r cmd) := rfl

/-- Settles O34: a watchdog reset is the cut of the work and then the stop of the cores, the restart is replies from the state with the
    cores up, and each failed read is one branch of State.dmaFail. -/
theorem coresAndReads : Obligations.CoresAndReads := by
  unfold Obligations.CoresAndReads
  intro s t c r
  refine ⟨fun hu h1 h3 => ?_, fun hu => ?_, fun hd => ?_, fun cid o ho hf ha => ?_, fun hl => ?_, fun hl hr hs => ?_⟩
  · refine ⟨_, exec_watchdogExpiry_of_up hu h1 h3, rfl, rfl, State.coresReset_cuts _ c, fun hscan => ?_⟩
    obtain ⟨v, hw, he⟩ := State.coresReset_of_no_scan hscan c none
    have hstore : v.host.store = (s.advance t).host.store := by rw [hw.host]
    have hrings : v.host.rings = (s.advance t).host.rings := by rw [hw.host]
    rw [he]
    exact ⟨congrArg some hw.now, hw.pends, hw.groups, hw.arm, hw.run, hw.par, hw.mot, hw.sec, hw.queues, hstore, hrings⟩
  · rw [exec_sysWatchdog, State.coresRun_of_up hu]
  · obtain ⟨z, hz, he⟩ := State.coresRun_of_down hd
    have hup : z.coresUp = true := congrArg Option.isNone hz.coresDown
    exact ⟨z, by rw [exec_sysWatchdog, he], hup, hz.not_aborted, hz.beatAt, hz.par, hz.seq, hz.mot⟩
  · rw [exec_dmaReadFail, State.dmaFail_command r ho hf ha]
  · rw [exec_dmaReadFail, State.dmaFail_fetch_of_link_down r hl]
  · rw [exec_dmaReadFail, State.dmaFail_fetch hl hr hs]

end Sys2Proof.Machine
end

section
/-! PROOFS. Commands that pass their checks, by the shapes of their definitions: what the fetch leaves as it was, what absent words do not
change, and one rule for each shape (a command that names no commit point, a set command, an act). -/

namespace Sys2Proof.Machine

/-- A check lists nothing where its condition fails. -/
@[simp] theorem failIf_eq_nil {b : Bool} {st d : Nat} : failIf b st d = [] ↔ b = false := by
  cases b <;> simp [failIf]

/-! ### What the judged state shows of the state before the fetch -/

section
variable (s : State) (t op : Nat) (c : Cmd)

@[simp] theorem taken_p (x : Par) (i : Nat) : (s.taken t op c).p x i = s.p x i := rfl
@[simp] theorem taken_shadow : (s.taken t op c).shadow = s.shadow := rfl
@[simp] theorem taken_groupOn (r : Nat) : (s.taken t op c).groupOn r = s.groupOn r := rfl
@[simp] theorem taken_member : (s.taken t op c).member = s.member := rfl
@[simp] theorem taken_devId : (s.taken t op c).devId = s.devId := rfl
@[simp] theorem taken_roleOk (r : Nat) : (s.taken t op c).roleOk r = s.roleOk r := rfl
@[simp] theorem taken_lane (i : Nat) : (s.taken t op c).lane i = s.lane i := rfl
@[simp] theorem taken_forceOk (l : Nat) (on : Bool) : (s.taken t op c).forceOk l on = s.forceOk l on := rfl
@[simp] theorem taken_calRuns : (s.taken t op c).calRuns = s.calRuns := rfl
@[simp] theorem taken_halfReady (i : Nat) : (s.taken t op c).halfReady i = s.halfReady i := rfl
@[simp] theorem taken_loadRuns (tiles : Nat) : (s.taken t op c).loadRuns tiles = s.loadRuns tiles := rfl
@[simp] theorem taken_p64 (b : Nat) : (s.taken t op c).p64 b = s.p64 b := rfl
@[simp] theorem taken_native (b : Nat) : (s.taken t op c).native b = s.native b := rfl
@[simp] theorem taken_bar (b : Nat) : (s.taken t op c).bar b = s.bar b := rfl
@[simp] theorem taken_applyPending (b : Nat) : (s.taken t op c).applyPending b = s.applyPending b := rfl
@[simp] theorem taken_axis (a : Nat) : (s.taken t op c).axis a = s.axis a := rfl
@[simp] theorem taken_axisHeld (a : Nat) : (s.taken t op c).axisHeld a = s.axisHeld a := rfl
@[simp] theorem taken_wholeGrain (a w : Nat) : (s.taken t op c).wholeGrain a w = s.wholeGrain a w := rfl
@[simp] theorem taken_jogFails (a : Nat) (v : Int) : (s.taken t op c).jogFails a v = s.jogFails a v := rfl
@[simp] theorem taken_gearFails (a o : Nat) : (s.taken t op c).gearFails a o = s.gearFails a o := rfl
@[simp] theorem taken_homeFails (a : Nat) (n : Bool) : (s.taken t op c).homeFails a n = s.homeFails a n := rfl
@[simp] theorem taken_posSetFails (a : Nat) : (s.taken t op c).posSetFails a = s.posSetFails a := rfl

/-! ### What absent words do not change -/

@[simp] theorem cmdPlace_padded (n : Nat) : cmdPlace (c.padded n) = cmdPlace c := rfl
@[simp] theorem cmdConv_padded (n : Nat) : cmdConv (c.padded n) = cmdConv c := rfl
@[simp] theorem cmdBar_padded (n : Nat) : cmdBar (c.padded n) = cmdBar c := Cmd.padded_f ..
@[simp] theorem cmdAxis_padded (n : Nat) : cmdAxis (c.padded n) = cmdAxis c := Cmd.padded_f ..
@[simp] theorem cmdEnc_padded (n : Nat) : cmdEnc (c.padded n) = cmdEnc c := Cmd.padded_f ..
@[simp] theorem cmdAuxCh_padded (n : Nat) : cmdAuxCh (c.padded n) = cmdAuxCh c := Cmd.padded_f ..
@[simp] theorem cmdLoop_padded (n : Nat) : cmdLoop (c.padded n) = cmdLoop c := Cmd.padded_f ..

end

/-! ### Shapes -/

section
variable {s : State} {t : Nat} {c : Cmd} {p : Pt} {ws : List (Nat × ParWrite)}

/-- A command that names no commit point. -/
theorem runHost_ignored {d : CmdDef} (h : Fit d.op d.levels s t c)
    (alone : (if groupOp d.op then none else s.groupOn c.ring) = none) (hp : d.points = .ignored) (hn : d.need c ≤ 248)
    (e : d.writes (s.taken t d.op c) (c.padded (d.need c)) = ws) (hw : InRange (ws.map (fun w => w.2)))
    (hf : d.fails (s.taken t d.op c) (c.padded (d.need c)) ⟨.immediate, c.arg, ws.map (fun w => w.2)⟩ = []) :
    runHost d t c s = d.run (s.taken t d.op c) (s.takenCid t) (c.padded (d.need c)) ⟨.immediate, c.arg, ws.map (fun w => w.2)⟩ := by
  have ec : ctxOf d (s.taken t d.op c) (c.padded (d.need c)) = ⟨.immediate, c.arg, ws.map (fun w => w.2)⟩ := by
    simp [ctxOf, State.pointOf, hp, e]
  have hc := commonFails_ignored h hp hn hw
  rw [runHost_fit h alone (by rw [e]; exact hc) (by rw [ec]; exact hf), ec]

/-- A set command with a run of its own that passes every check. -/
theorem runHost_setRun {op hi : Nat} {levels : List Nat} {points : Points} {written : Cmd → Nat → Bool} {fields : Cmd → List SetField}
    {fails : State → Cmd → Ctx → List (Nat × Nat)} {acts : State → Cmd → Ctx → List Act} {run : State → Nat → Cmd → Ctx → State}
    (e : setWrites c (fields c) (written c) = ws) (h : Sent op levels s t c) (hp : PointsTo s c points p) (hn : hi < 248)
    (ef : ∀ n, fields (c.padded n) = fields c) (em : ∀ n, written (c.padded n) = written c) (w : Writable (s.taken t op c) p c.arg ws)
    (hf : ∀ n, fails (s.taken t op c) (c.padded n) ⟨p, c.arg, ws.map (fun w => w.2)⟩ = []) :
    ∃ n, runHost { setDef op hi levels points written fields fails acts with run := run } t c s =
      run (s.taken t op c) (s.takenCid t) (c.padded n) ⟨p, c.arg, ws.map (fun w => w.2)⟩ := by
  have en (n : Nat) : setWrites (c.padded n) (fields (c.padded n)) (written (c.padded n)) = ws := by rw [ef, em, setWrites_padded, e]
  have hneed : topWord (written c) hi + 1 ≤ 248 := Nat.lt_of_le_of_lt (topWord_le (written c) hi) hn
  refine ⟨topWord (written c) hi + 1, runHost_point (d := { setDef op hi levels points written fields fails acts with run := run }) h hp
    hneed (en _) w.range w.points ?_⟩
  simp only [setDef, en, w.relations, w.capture, w.grid, hf, List.append_nil]

/-- A set command that passes every check: its writes and acts go to its commit point. -/
theorem next_set {op hi : Nat} {levels : List Nat} {points : Points} {written : Cmd → Nat → Bool} {fields : Cmd → List SetField}
    {fails : State → Cmd → Ctx → List (Nat × Nat)} {acts : State → Cmd → Ctx → List Act} {as : List Act}
    (e : setWrites c (fields c) (written c) = ws) (h : Sent op levels s t c) (hp : PointsTo s c points p) (hn : hi < 248)
    (ef : ∀ n, fields (c.padded n) = fields c) (em : ∀ n, written (c.padded n) = written c) (w : Writable (s.taken t op c) p c.arg ws)
    (hf : ∀ n, fails (s.taken t op c) (c.padded n) ⟨p, c.arg, ws.map (fun w => w.2)⟩ = [])
    (ha : ∀ n ctx, acts (s.taken t op c) (c.padded n) ctx = as) :
    Host.Outcome.next (runHost (setDef op hi levels points written fields fails acts) t c s) = s.submitted t op c p c.arg ws as := by
  obtain ⟨n, hr⟩ := runHost_setRun (acts := acts) (run := fun v cid c ctx => v.submit cid ctx (acts v c ctx)) e h hp hn ef em w hf
  exact congrArg Host.Outcome.next (hr.trans (by rw [ha]))

/-- A set command without checks or acts of its own. -/
theorem next_set_plain {op hi : Nat} {levels : List Nat} {points : Points} {written : Cmd → Nat → Bool} {fields : Cmd → List SetField}
    (e : setWrites c (fields c) (written c) = ws) (h : Sent op levels s t c) (hp : PointsTo s c points p) (hn : hi < 248)
    (ef : ∀ n, fields (c.padded n) = fields c) (em : ∀ n, written (c.padded n) = written c) (w : Writable (s.taken t op c) p c.arg ws) :
    Host.Outcome.next (runHost (setDef op hi levels points written fields noFails noActs) t c s) = s.submitted t op c p c.arg ws [] :=
  next_set e h hp hn ef em w (fun _ => rfl) (fun _ _ => rfl)

/-- An act that passes every check goes to its commit point. -/
theorem next_act {op need : Nat} {levels : List Nat} {points : Points} {fails : State → Cmd → Ctx → List (Nat × Nat)}
    {acts : State → Cmd → Ctx → List Act} {as : List Act} (h : Sent op levels s t c) (hp : PointsTo s c points p) (hn : need ≤ 248)
    (hf : fails (s.taken t op c) (c.padded need) ⟨p, c.arg, []⟩ = [])
    (ha : acts (s.taken t op c) (c.padded need) ⟨p, c.arg, []⟩ = as) :
    Host.Outcome.next (runHost (actDef op need levels points fails acts) t c s) = s.submitted t op c p c.arg [] as := by
  subst ha
  exact congrArg Host.Outcome.next (runHost_plain (d := actDef op need levels points fails acts) h hp hn rfl hf)

end

end Sys2Proof.Machine
end

section
/-! PROOFS. Groups are opened and ended, jobs armed and disarmed (R60 to R63, R251 to R258): each command passes its checks, and its
definition's effect takes the branch that the state's group, its run and its ring decide. -/

namespace Sys2Proof.Machine

section
variable {s : State} {t : Nat} {c : Cmd} {p : Pt} {g : Group}

/-- GROUP_BEGIN on a ring with no open group. -/
theorem exec_groupBegin (h : Sent 0x0204 [0] s t c) (hp : ptOf c.commit = some p) :
    exec (.groupBegin t c) s = .next (({ s.taken t 0x0204 c with seq := { s.seq with
      nextGid := s.seq.nextGid + 1,
      groups := s.seq.groups ++ [⟨s.seq.nextGid, c.ring, p, c.arg, (s.taken t 0x0204 c).now, [], 0, false, [], none⟩] } } : State).done
        (s.takenCid t)) := by
  refine congrArg Host.Outcome.next ((runHost_ignored (d := groupBeginDef) h.toFit rfl rfl (Nat.zero_le _) rfl inRange_nil ?_).trans ?_)
  · simp [groupBeginDef, hp, h.alone]
  · simp [groupBeginDef, hp, State.updSeq]

/-- GROUP_END on a ring with an open group passes its checks. -/
theorem exec_groupEnd (h : Fit 0x0205 [0] s t c) (hg : s.groupOn c.ring = some g) :
    exec (.groupEnd t c) s = .next (groupEndDef.run (s.taken t 0x0205 c) (s.takenCid t) c ⟨.immediate, c.arg, []⟩) := by
  have hf : groupEndDef.fails (s.taken t 0x0205 c) c ⟨.immediate, c.arg, []⟩ = [] := by simp [groupEndDef, hg]
  have hr := runHost_ignored (d := groupEndDef) h rfl rfl (Nat.zero_le _) rfl inRange_nil ((Cmd.padded_zero c).symm ▸ hf)
  exact congrArg Host.Outcome.next (hr.trans (by rw [show groupEndDef.need c = 0 from rfl, Cmd.padded_zero]; rfl))

theorem groupEndDef_run_discards {v : State} {cid : Nat} {ctx : Ctx} {f : Nat × Nat} (hg : v.groupOn c.ring = some g)
    (hv : g.verdict = some f) : groupEndDef.run v cid c ctx = (v.discardGroup g).reply cid f.1 f.2 := by
  simp only [groupEndDef, hg, hv]

/-- GROUP_END of a group that stands and commits at another point than POSITION (R61). -/
theorem groupEndDef_run_arrives {v : State} {cid : Nat} {ctx : Ctx} (hg : v.groupOn c.ring = some g) (hv : g.verdict = none)
    (hp : g.point ≠ .position) : groupEndDef.run v cid c ctx =
      ((v.updSeq (fun q => { q with groups := q.groups.map (fun x => if x.gid = g.gid then { g with ended := some cid } else x) })).accept
        cid).groupArrives { g with ended := some cid } := by
  simp only [groupEndDef, hg, hv, if_neg (fun h => hp h.1 : ¬(g.point = .position ∧ _))]

/-- The uploads that a JOB_ARM starts (R252) write no parameter. -/
theorem foldl_startUpload_par : ∀ (bars : List Nat) (v : State),
    (bars.foldl (fun (u : State) b => if u.native b then u.startUpload b else u) v).par = v.par
  | [], _ => rfl
  | b :: bars, v => by
    rw [List.foldl_cons, foldl_startUpload_par bars]
    split <;> rfl

/-- A job armed outside groups on no member: no ARM frame can have come before it (R556), and no group holds it back (R61). -/
theorem State.armJob_alone {v : State} {cid : Nat} (alone : v.groupOn c.ring = none) (hm : v.member = false)
    (hp : ptOf c.commit = some p) : v.armJob cid c =
      ((maskList 4 (if natBit (c.f 1 4 0) 3 then c.f 3 3 0 else 0)).foldl
        (fun (u : State) b => if u.native b then u.startUpload b else u) (v.accept cid)).armArrives
        ⟨cid, c.w 0, c.f 1 4 0, c.f 1 13 8, c.b 1 16, c.f 1 23 20 + 1, if natBit (c.f 1 4 0) 2 then c.f 2 15 0 else 0,
          if natBit (c.f 1 4 0) 3 then c.f 3 3 0 else 0, p, c.arg, v.now, 0, none, none, false⟩ := by
  have hm' (bars : List Nat) :
      (bars.foldl (fun (u : State) b => if u.native b then u.startUpload b else u) (v.accept cid)).member = false := by
    rw [← hm]
    simp only [State.member, State.p, foldl_startUpload_par, State.accept_par]
  have harm : v.armPoint c = some p := by simp only [State.armPoint, alone, hp]
  simp [State.armJob, alone, harm, hm']

theorem State.armFails_padded (v : State) (n : Nat) : v.armFails (c.padded n) = v.armFails c := by
  simp [State.armFails, State.armPoint]

theorem State.armJob_padded (v : State) (cid n : Nat) : v.armJob cid (c.padded n) = v.armJob cid c := by
  simp [State.armJob, State.armPoint]

/-- JOB_ARM outside groups on no member. -/
theorem exec_jobArm (h : Sent 0x0503 [0] s t c) (hf : (s.taken t 0x0503 c).armFails c = []) :
    exec (.jobArm t c) s = .next ((s.taken t 0x0503 c).armJob (s.takenCid t) c) := by
  have hr := runHost_ignored (d := jobArmDef) h.toFit h.alone rfl (show 4 ≤ 248 by decide) rfl inRange_nil
    ((State.armFails_padded _ 4).trans hf)
  exact congrArg Host.Outcome.next (hr.trans (State.armJob_padded _ _ 4))

/-- JOB_DISARM with a job armed. -/
theorem exec_jobDisarm (h : Sent 0x0504 [0] s t c) (ha : s.cap.arm.isSome = true) : exec (.jobDisarm t c) s =
    .next (((s.taken t 0x0504 c).disarm.groupsDone s.seq.lineIndex).done (s.takenCid t)) := by
  have hf : s.cap.arm.isNone = false := by simpa using ha
  exact congrArg Host.Outcome.next
    (runHost_plain (d := jobDisarmDef) h (p := .immediate) rfl (Nat.zero_le _) rfl (failIf_eq_nil.2 hf))

end

/-- Settles O20: GROUP_END goes by the verdict on its group, JOB_ARM by the arming of a job outside groups on no member. -/
theorem groupsAndJobs : Obligations.GroupsAndJobs := by
  unfold Obligations.GroupsAndJobs
  intro s t c p g
  refine ⟨exec_groupBegin, fun h hg => ⟨fun hf => ?_, fun hf hi hm hp => ?_⟩, fun h hm hp hf => ?_, exec_jobDisarm⟩
  · have hv : g.verdict = some (0x13, g.failed) := if_pos hf
    exact (exec_groupEnd h hg).trans (congrArg _ (groupEndDef_run_discards (v := s.taken t 0x0205 c) hg hv))
  · have hv : g.verdict = none := by simp [Group.verdict, hf, hi, hm]
    exact (exec_groupEnd h hg).trans (congrArg _ (groupEndDef_run_arrives (v := s.taken t 0x0205 c) hg hv hp))
  · exact (exec_jobArm h hf).trans (congrArg _ (State.armJob_alone (v := s.taken t 0x0503 c) h.alone hm hp))

end Sys2Proof.Machine
end

section
/-! PROOFS. Set commands whose parameters take effect on their write (R58, R59): the writes are made at once, and the command is DONE. -/

namespace Sys2Proof.Machine

/-- The outcome of a set command whose parameters take effect on their write (R58, R59): they are set, and it is DONE. -/
def State.setOnce (s : State) (t op : Nat) (c : Cmd) (ws : List (Nat × ParWrite)) : Host.Outcome State Fault Refusal :=
  .next ((({ s.taken t op c with par := parSets s.par (ws.map (fun w => w.2)) } : State).doneNow (s.takenCid t)).imgSettle)

section
variable {s : State} {t : Nat} {c : Cmd} {ws : List (Nat × ParWrite)}

/-- Whether every write is of a parameter that takes effect on its write. -/
def OnceOnly (ws : List (Nat × ParWrite)) : Prop := ∀ w ∈ ws, w.2.atOnce = true

theorem setWrites_onceOnly {fs : List SetField} {m : Nat → Bool} (h : ∀ f ∈ fs, f.par.row.commit = [.immediate]) :
    OnceOnly (setWrites c fs m) := by
  intro w hw
  obtain ⟨f, hf, rfl⟩ := List.mem_map.1 hw
  simp [ParWrite.atOnce, h f (List.mem_filter.1 hf).1]

theorem submitted_once {op arg : Nat} (alone : s.groupOn c.ring = none) (ho : OnceOnly ws) :
    s.submitted t op c .immediate arg ws [] = s.setOnce t op c ws := by
  refine congrArg Host.Outcome.next (submit_once alone fun w hw => ?_)
  obtain ⟨x, hx, rfl⟩ := List.mem_map.1 hw
  exact ho x hx

/-- A set command of parameters that take effect on their write. -/
theorem next_setOnce {op hi : Nat} {written : Cmd → Nat → Bool} {fields : Cmd → List SetField} {fails : State → Cmd → Ctx → List (Nat × Nat)}
    (e : setWrites c (fields c) (written c) = ws) (h : Sent op [0] s t c) (hn : hi < 248) (ef : ∀ n, fields (c.padded n) = fields c)
    (em : ∀ n, written (c.padded n) = written c) (ho : ∀ f ∈ fields c, f.par.row.commit = [.immediate])
    (w : Writable (s.taken t op c) .immediate c.arg ws)
    (hf : ∀ n, fails (s.taken t op c) (c.padded n) ⟨.immediate, c.arg, ws.map (fun w => w.2)⟩ = []) :
    Host.Outcome.next (runHost (setDef op hi [0] .immediate written fields fails noActs) t c s) = s.setOnce t op c ws := by
  rw [next_set e h (show PointsTo s c .immediate .immediate from rfl) hn ef em w hf (fun _ _ => rfl)]
  exact submitted_once h.alone (e ▸ setWrites_onceOnly ho)

theorem exec_sysSet (e : setWrites c (sysSetFields c) (maskAt c) = ws) (h : Sent 0x0103 [0] s t c)
    (w : Writable (s.taken t 0x0103 c) .immediate c.arg ws) : exec (.sysSet t c) s = s.setOnce t 0x0103 c ws :=
  next_setOnce e h (by decide) (fun _ => rfl) (maskAt_padded c) (by rw [sysSetFields]; decide) w (fun _ => rfl)

theorem exec_hqSet (e : setWrites c [⟨0, 0, .HQ_WAIT_LIMIT, 0⟩] (fun n => n == 0) = ws) (h : Sent 0x0706 [0] s t c)
    (w : Writable (s.taken t 0x0706 c) .immediate c.arg ws) : exec (.hqSet t c) s = s.setOnce t 0x0706 c ws :=
  next_setOnce e h (by decide) (fun _ => rfl) (fun _ => rfl) (by decide) w (fun _ => rfl)

theorem exec_bar2Map (e : setWrites c [⟨0, 0, .HIS_BAR2_BASE, 0⟩] (fun n => n == 0) = ws) (h : Sent 0x070B [0] s t c)
    (w : Writable (s.taken t 0x070B c) .immediate c.arg ws)
    (hb : c.f 0 7 0 < s.pwr.channels * s.pwr.gib) : exec (.bar2Map t c) s = s.setOnce t 0x070B c ws :=
  next_setOnce e h (by decide) (fun _ => rfl) (fun _ => rfl) (by decide) w (fun n => by simpa using hb)

theorem exec_hltSet (e : setWrites c (hltSetFields c) (maskAt c) = ws) (h : Sent 0x0D04 [0] s t c)
    (w : Writable (s.taken t 0x0D04 c) .immediate c.arg ws) : exec (.hltSet t c) s = s.setOnce t 0x0D04 c ws :=
  next_setOnce e h (by decide) (fun _ => rfl) (maskAt_padded c) (by rw [hltSetFields]; decide) w (fun _ => rfl)

/-- EVT_ROUTE and HLT_CLASS_SET, which set parameters of a range of sources. -/
theorem next_sources {d : CmdDef} (h : Sent d.op d.levels s t c) (hp : d.points = .immediate)
    (hneed : d.need = fun _ => 1) (hfails : d.fails = evtRouteDef.fails) (hrun : d.run = evtRouteDef.run)
    (e : d.writes (s.taken t d.op c) (c.padded 1) = ws) (ho : OnceOnly ws)
    (hw : InRange (ws.map (fun w => w.2))) (h0 : c.f 0 25 16 ≠ 0) (h247 : c.f 0 25 16 ≤ 247) (h600 : c.f 0 9 0 + c.f 0 25 16 ≤ 600)
    (hl : c.words.length = 1 + c.f 0 25 16) : Host.Outcome.next (runHost d t c s) = s.setOnce t d.op c ws := by
  have en : d.need c = 1 := by rw [hneed]
  have hlen : (c.padded 1).words.length = 1 + c.f 0 25 16 := by rw [Cmd.padded_length]; omega
  have hf (ctx : Ctx) : d.fails (s.taken t d.op c) (c.padded 1) ctx = [] := by
    rw [hfails]
    simp [evtRouteDef, hlen, h0, h247, h600]
  have hr := runHost_point h (show PointsTo s c d.points .immediate by rw [hp]; rfl) (by rw [en]; decide) (by rw [en]; exact e) hw
    (fun w hw => Bool.or_eq_true_iff.2 (Or.inl (ho w hw))) (by rw [en]; exact hf _)
  rw [hr, hrun]
  exact submitted_once h.alone ho

theorem exec_evtRoute (h : Sent 0x0104 [0] s t c)
    (hws : ws = (List.range (c.f 0 25 16)).flatMap (fun i =>
      [(1 + i, (⟨.EVT_VEC, c.f 0 9 0 + i, c.f (1 + i) 5 0⟩ : ParWrite)), (1 + i, ⟨.EVT_EN, c.f 0 9 0 + i, c.f (1 + i) 8 8⟩)]))
    (hw : InRange (ws.map (fun w => w.2))) (h0 : c.f 0 25 16 ≠ 0) (h247 : c.f 0 25 16 ≤ 247) (h600 : c.f 0 9 0 + c.f 0 25 16 ≤ 600)
    (hl : c.words.length = 1 + c.f 0 25 16) : exec (.evtRoute t c) s = s.setOnce t 0x0104 c ws := by
  refine next_sources (d := evtRouteDef) h rfl rfl rfl rfl ?_ ?_ hw h0 h247 h600 hl
  · simp [evtRouteDef, hws, Nat.min_eq_left h247]
  · intro w hw
    obtain ⟨i, -, hi⟩ := List.mem_flatMap.1 (hws ▸ hw)
    simp only [List.mem_cons, List.not_mem_nil, or_false] at hi
    rcases hi with rfl | rfl <;> rfl

theorem exec_hltClassSet (h : Sent 0x0D05 [0] s t c)
    (hws : ws = (List.range (c.f 0 25 16)).map (fun i => (1 + i, (⟨.HLT_CLASS, c.f 0 9 0 + i, c.f (1 + i) 2 0⟩ : ParWrite))))
    (hw : InRange (ws.map (fun w => w.2))) (h0 : c.f 0 25 16 ≠ 0) (h247 : c.f 0 25 16 ≤ 247) (h600 : c.f 0 9 0 + c.f 0 25 16 ≤ 600)
    (hl : c.words.length = 1 + c.f 0 25 16) : exec (.hltClassSet t c) s = s.setOnce t 0x0D05 c ws := by
  refine next_sources (d := hltClassSetDef) h rfl rfl rfl rfl ?_ ?_ hw h0 h247 h600 hl
  · simp [hltClassSetDef, hws, Nat.min_eq_left h247]
  · intro w hw
    obtain ⟨i, -, rfl⟩ := List.mem_map.1 (hws ▸ hw)
    rfl

end

/-- Settles O12: every field of these commands is of a parameter that takes effect on its write, so that nothing waits. -/
theorem immediateSets : Obligations.ImmediateSets := by
  unfold Obligations.ImmediateSets
  intro s t c
  exact ⟨exec_sysSet rfl, exec_hqSet rfl, exec_bar2Map rfl, exec_hltSet rfl, fun h => exec_evtRoute h rfl, fun h => exec_hltClassSet h rfl⟩

end Sys2Proof.Machine
end

section
/-! PROOFS. Set commands at the commit point of their header or their own (R58, R59): each passes the checks of its definition, and its
fields go to `submit`. -/

namespace Sys2Proof.Machine

section
variable {s : State} {t : Nat} {c : Cmd} {p : Pt} {ws : List (Nat × ParWrite)}

/-! ### The sequencer, the encoders, the timing inputs, the channels and the time base -/

theorem exec_seqSet (e : setWrites c (seqSetFields c) (maskAt c) = ws) (h : Sent 0x0201 [0] s t c) (hp : Pointed s c allPoints p)
    (w : Writable (s.taken t 0x0201 c) p c.arg ws) : exec (.seqSet t c) s = s.submitted t 0x0201 c p c.arg ws [] :=
  next_set_plain e h hp (by decide) (fun _ => rfl) (maskAt_padded c) w

theorem exec_posSet (e : setWrites c (posSetFields c) (maskFrom7 c) = ws) (h : Sent 0x0A01 [0] s t c) (hp : Pointed s c allPoints p)
    (w : Writable (s.taken t 0x0A01 c) p c.arg ws)
    (hr : (s.taken t 0x0A01 c).rearmFails (cmdEnc c) (ws.map (fun w => w.2)) = false) :
    exec (.posSet t c) s = s.submitted t 0x0A01 c p c.arg ws [] :=
  next_set e h hp (by decide) (fun n => by simp [posSetFields, cmdEnc]) (maskFrom7_padded c) w
    (fun n => by simpa [cmdEnc] using hr) (fun _ _ => rfl)

theorem exec_tdcInputSet (e : setWrites c (tdcInputFields c) (fun n => n == 1) = ws)
    (h : Sent 0x0A03 [0] s t c) (hp : Pointed s c allPoints p)
    (w : Writable (s.taken t 0x0A03 c) p c.arg ws) (hi : c.f 0 3 0 ≤ 9) :
    exec (.tdcInputSet t c) s = s.submitted t 0x0A03 c p c.arg ws [] :=
  next_set e h hp (by decide) (fun n => by simp [tdcInputFields]) (fun _ => rfl) w (fun n => by simpa using hi) (fun _ _ => rfl)

theorem exec_tdcChannelSet (e : setWrites c (tdcChannelFields c) (fun n => n == 1 || n == 2 || (n == 3 && c.b 3 16)) = ws)
    (h : Sent 0x0A04 [0] s t c) (hp : Pointed s c allPoints p)
    (w : Writable (s.taken t 0x0A04 c) p c.arg ws) : exec (.tdcChannelSet t c) s = s.submitted t 0x0A04 c p c.arg ws [] :=
  next_set_plain (written := fun c n => n == 1 || n == 2 || (n == 3 && c.b 3 16)) e h hp (by decide)
    (fun n => by simp [tdcChannelFields]) (fun n => by simp) w

@[simp] theorem timeMask_padded (n : Nat) : timeMask (c.padded n) = timeMask c := by
  funext k
  simp only [timeMask, Cmd.padded_b]

/-- What TIME_SET's own checks ask, where it loads no seconds and where it does (R99, R103, R543). -/
theorem timeFails_eq_nil {v : State} {n : Nat} {ctx : Ctx} (hm : c.b 0 0 = true → v.p .TDC_PPS_MODE = 0)
    (ha : c.b 0 1 = true → c.f 2 19 18 ≠ 0 → v.member = false)
    (hl : c.b 0 5 = true → c.w 6 ≤ 360287970 ∧ v.cap.run = .closed ∧ v.pos.tb.load = none ∧ v.openWaits = false) :
    timeFails v (c.padded n) ctx = [] := by
  cases h5 : c.b 0 5 with
  | false => simpa [timeFails, timeMask, h5] using ⟨hm, ha⟩
  | true =>
    obtain ⟨hsecs, hrun, hload, hopen⟩ := hl h5
    simpa [timeFails, timeMask, h5, hsecs, hrun, hload, hopen] using ⟨hm, ha⟩

/-- TIME_SET passes its checks. -/
theorem exec_timeSet (e : setWrites c (timeFields c) (timeMask c) = ws) (h : Sent 0x0A06 [0] s t c) (hp : Pointed s c [.tick, .idle] p)
    (w : Writable (s.taken t 0x0A06 c) p c.arg ws)
    (hm : c.b 0 0 = true → s.p .TDC_PPS_MODE = 0) (ha : c.b 0 1 = true → c.f 2 19 18 ≠ 0 → s.member = false)
    (hl : c.b 0 5 = true → c.w 6 ≤ 360287970 ∧ s.cap.run = .closed ∧ s.pos.tb.load = none ∧ s.openWaits = false) :
    exec (.timeSet t c) s = .next ((s.taken t 0x0A06 c).timeSet (s.takenCid t) c ⟨p, c.arg, ws.map (fun w => w.2)⟩) := by
  obtain ⟨n, hr⟩ := runHost_setRun e (points := .among [.tick, .idle]) (fails := timeFails) (acts := noActs)
    (run := fun s cid c ctx => s.timeSet cid c ctx) h hp (show 6 < 248 by decide) (fun _ => rfl) (fun n => timeMask_padded n) w
    (fun n => timeFails_eq_nil hm ha hl)
  exact congrArg Host.Outcome.next (hr.trans (by simp [State.timeSet]))

end

/-- Settles O13: each command submits the fields its mask names; TIME_SET with word 6 has its load pending first (R99). -/
theorem sequencerAndTimeSets : Obligations.SequencerAndTimeSets := by
  unfold Obligations.SequencerAndTimeSets
  intro s t c p
  refine ⟨exec_seqSet rfl, exec_posSet rfl, exec_tdcInputSet rfl, exec_tdcChannelSet rfl, fun h hp w h5 hm ha => ?_,
    fun h hp w h5 hs hr hl ho hm ha => ?_⟩
  · have h6 : timeMask c 6 = false := h5
    refine (exec_timeSet rfl h hp w hm ha (fun h => by simp [h5] at h)).trans ?_
    rw [State.timeSet, if_neg (by simp [h6])]
    rfl
  · have h6 : timeMask c 6 = true := h5
    refine (exec_timeSet rfl h hp w hm ha (fun _ => ⟨hs, hr, hl, ho⟩)).trans ?_
    rw [State.timeSet, if_pos h6]
    rfl

section
variable {s : State} {t : Nat} {c : Cmd} {p : Pt} {ws : List (Nat × ParWrite)}

/-! ### The generators, the lanes, the correction and the lamps -/

theorem spareFails_eq_nil {n : Nat} (hl : c.level = 2 → c.lane ≠ 8) : spareFails (c.padded n) = [] := by
  simpa [spareFails] using hl

theorem exec_senGenSet (e : setWrites c (senGenSetFields c) (maskFrom7 c) = ws) (h : Sent 0x0301 [1] s t c) (hp : Pointed s c allPoints p)
    (w : Writable (s.taken t 0x0301 c) p c.arg ws) : exec (.senGenSet t c) s = s.submitted t 0x0301 c p c.arg ws [] :=
  next_set_plain e h hp (by decide) (fun n => by simp [senGenSetFields]) (maskFrom7_padded c) w

theorem exec_senLaneSet (e : setWrites c (senLaneSetFields c) (maskAt c) = ws) (h : Sent 0x0303 [2] s t c) (hp : Pointed s c allPoints p)
    (w : Writable (s.taken t 0x0303 c) p c.arg ws) (hl : c.lane ≠ 8) : exec (.senLaneSet t c) s = s.submitted t 0x0303 c p c.arg ws [] :=
  next_set e h hp (by decide) (fun _ => rfl) (maskAt_padded c) w (fun _ => spareFails_eq_nil fun _ => hl)
    (fun _ _ => rfl)

theorem exec_senGainSet (e : setWrites c (senGainSetFields c) (fun n => c.b 0 (n - 1)) = ws)
    (h : Sent 0x0304 [1, 2] s t c) (hp : Pointed s c allPoints p)
    (w : Writable (s.taken t 0x0304 c) p c.arg ws)
    (hl : c.level = 2 → c.lane ≠ 8) : exec (.senGainSet t c) s = s.submitted t 0x0304 c p c.arg ws [] :=
  next_set (written := fun c n => c.b 0 (n - 1)) e h hp (by decide) (fun _ => rfl) (fun n => by simp) w
    (fun _ => spareFails_eq_nil hl) (fun _ _ => rfl)

theorem exec_corSet (e : setWrites c (corSetFields c) (maskAt c) = ws) (h : Sent 0x0401 [0] s t c) (hp : Pointed s c allPoints p)
    (w : Writable (s.taken t 0x0401 c) p c.arg ws) : exec (.corSet t c) s = s.submitted t 0x0401 c p c.arg ws [] :=
  next_set_plain e h hp (by decide) (fun _ => rfl) (maskAt_padded c) w

theorem exec_lmpPhaseSet (e : setWrites c (lmpPhaseSetFields c) (phaseWritten c) = ws)
    (h : Sent 0x0802 [0] s t c) (hp : Pointed s c allPoints p)
    (w : Writable (s.taken t 0x0802 c) p c.arg ws) : exec (.lmpPhaseSet t c) s = s.submitted t 0x0802 c p c.arg ws [] :=
  next_set_plain e h hp (by decide) (fun n => by simp [lmpPhaseSetFields]) (fun n => by funext k; simp [phaseWritten]) w

/-- LMP_BAR_SET passes its checks. -/
theorem exec_lmpBarSet (e : setWrites c (lmpBarSetFields c) (maskFrom7 c) = ws) (h : Sent 0x0801 [0] s t c)
    (w : Writable (s.taken t 0x0801 c) .idle c.arg ws) : exec (.lmpBarSet t c) s = .next ((s.taken t 0x0801 c).barSet (s.takenCid t) c
      ⟨.idle, c.arg, ws.map (fun w => w.2)⟩) := by
  obtain ⟨n, hr⟩ := runHost_setRun e (points := .fixed .idle) (fields := lmpBarSetFields) (fails := noFails) (acts := noActs)
    (run := fun s cid c ctx => s.barSet cid c ctx) h ⟨rfl, by decide, by decide⟩ (show 7 < 248 by decide)
    (fun n => by simp [lmpBarSetFields]) (maskFrom7_padded c) w (fun _ => rfl)
  exact congrArg Host.Outcome.next (hr.trans (by rw [State.barSet, cmdBar_padded, State.barSet]))

/-- When a LMP_BAR_SET leads to a discovery (R127). -/
theorem State.discovers_iff {v : State} {b : Nat} {qs : List ParWrite} : v.discovers b qs = true ↔
    parGet (parSets v.shadow qs) .LMP_MODE b = 1 ∧ ¬(v.native b = true ∧ (v.bar b).known = true) := by
  rw [State.discovers, Bool.and_eq_true, beq_iff_eq, Bool.not_eq_true', ← Bool.not_eq_true, Bool.and_eq_true]

end

/-- Settles O14: each command submits the fields its mask names; LMP_BAR_SET's writes go by whether it leads to a discovery. -/
theorem laneCorrectionAndLampSets : Obligations.LaneCorrectionAndLampSets := by
  unfold Obligations.LaneCorrectionAndLampSets
  intro s t c p
  refine ⟨exec_senGenSet rfl, exec_senLaneSet rfl, exec_senGainSet rfl, exec_corSet rfl, exec_lmpPhaseSet rfl, fun h w => ?_⟩
  refine (exec_lmpBarSet rfl h w).trans ?_
  by_cases hd : (s.taken t 0x0801 c).discovers (cmdBar c) ((setWrites c (lmpBarSetFields c) (maskFrom7 c)).map (fun w => w.2)) = true
  · rw [State.barSet, if_pos hd]
    exact (if_pos (State.discovers_iff.1 hd)).symm
  · rw [State.barSet, if_neg hd]
    exact (if_neg (mt State.discovers_iff.2 hd)).symm

section
variable {s : State} {t : Nat} {c : Cmd} {p : Pt} {ws : List (Nat × ParWrite)}

/-! ### The capture, the comparison, the streams and the arena -/

theorem exec_capSet (e : setWrites c (capSetFields c) (maskAt c) = ws) (h : Sent 0x0505 [0] s t c) (hp : Pointed s c allPoints p)
    (w : Writable (s.taken t 0x0505 c) p c.arg ws) : exec (.capSet t c) s = s.submitted t 0x0505 c p c.arg ws [] :=
  next_set_plain e h hp (by decide) (fun _ => rfl) (maskAt_padded c) w

theorem State.colFails_padded (v : State) (n : Nat) : v.colFails (c.padded n) = v.colFails c := by
  rw [State.colFails, maskFrom7_padded, Cmd.padded_f, State.colFails]

theorem exec_streamSet (e : setWrites c (streamSetFields c) (maskFrom7 c) = ws)
    (h : Sent 0x0705 [0] s t c) (hp : Pointed s c [.tick, .rept, .position, .idle] p)
    (w : Writable (s.taken t 0x0705 c) p c.arg ws)
    (hf : (s.taken t 0x0705 c).colFails c = []) : exec (.streamSet t c) s = s.submitted t 0x0705 c p c.arg ws [.streamNeed (c.f 0 5 0)] :=
  next_set e h hp (by decide) (fun n => by simp [streamSetFields]) (maskFrom7_padded c) w (fun n => (State.colFails_padded _ n).trans hf)
    (fun n _ => by simp)

theorem exec_arenaSet (e : setWrites c (arenaSetFields c) (maskAt c) = ws)
    (h : Sent 0x0707 [0] s t c) (w : Writable (s.taken t 0x0707 c) .idle c.arg ws)
    (hf : (s.taken t 0x0707 c).arenaFails ⟨.idle, c.arg, ws.map (fun w => w.2)⟩ = []) :
    exec (.arenaSet t c) s = s.submitted t 0x0707 c .idle c.arg ws [] :=
  next_set e h ⟨rfl, by decide, by decide⟩ (by decide) (fun _ => rfl) (maskAt_padded c) w (fun _ => hf) (fun _ _ => rfl)

theorem State.cmpFails_of_staged {v : State} {ctx : Ctx} (h31 : c.b 0 31 = true)
    (hr : repeatFits (parSets (parSets v.shadow v.cmp.staged) ctx.writes) v.member = true) : v.cmpFails c ctx = [] := by
  simp [State.cmpFails, h31, hr]

theorem State.cmpFails_of_pointed {v : State} {ctx : Ctx} (alone : v.groupOn c.ring = none) (h31 : c.b 0 31 = false)
    (hp : Pointed v c [.rept, .position, .idle] p) (hr : repeatFits (parSets v.shadow ctx.writes) v.member = true) :
    v.cmpFails c ctx = [] := by
  obtain ⟨hpt, hmem, hrept, hpos⟩ := hp
  have ha : v.armPoint c = some p := by simp [State.armPoint, alone, hpt]
  simp only [List.mem_cons, List.not_mem_nil, or_false] at hmem
  rcases hmem with rfl | rfl | rfl
  · simp [State.cmpFails, h31, ha, hr, hrept]
  · simp [State.cmpFails, h31, ha, hr, hpos]
  · simp [State.cmpFails, h31, ha, hr]

/-- CMP_SET passes its checks, whatever its header's point: STAGE ignores it, and otherwise it is judged with the repeat mode. -/
theorem exec_cmpSet (e : setWrites c (cmpSetFields c) (maskAt c) = ws) (h : Sent 0x0601 [0] s t c) (hw : InRange (ws.map (fun w => w.2)))
    (hf : (s.taken t 0x0601 c).cmpFails c ⟨.immediate, c.arg, ws.map (fun w => w.2)⟩ = []) :
    exec (.cmpSet t c) s = .next ((s.taken t 0x0601 c).cmpSet (s.takenCid t) c
      ⟨.immediate, c.arg, ws.map (fun w => w.2)⟩) := by
  have hn : cmpSetDef.need c ≤ 248 := Nat.le_trans (Nat.succ_le_succ (topWord_le (maskAt c) 16)) (by decide)
  have ew : cmpSetDef.writes (s.taken t 0x0601 c) (c.padded (cmpSetDef.need c)) = ws := by
    simp only [cmpSetDef, maskAt_padded, setWrites_padded]
    exact e
  refine congrArg Host.Outcome.next ((runHost_ignored (d := cmpSetDef) h.toFit h.alone rfl hn ew hw ?_).trans ?_)
  · simpa [cmpSetDef, State.cmpFails, State.armPoint] using hf
  · simp [cmpSetDef, State.cmpSet, State.armPoint]

end

/-- Settles O15: each command submits the fields its mask names; CMP_SET goes by its STAGE bit. -/
theorem captureCompareAndQueueSets : Obligations.CaptureCompareAndQueueSets := by
  unfold Obligations.CaptureCompareAndQueueSets
  intro s t c p
  refine ⟨exec_capSet rfl, fun h hw h31 hr => ?_, fun h hw h31 hp hr => ?_, exec_streamSet rfl, exec_arenaSet rfl⟩
  · refine (exec_cmpSet rfl h hw (State.cmpFails_of_staged h31 hr)).trans ?_
    rw [State.cmpSet, if_pos h31]
    rfl
  · have ha : (s.taken t 0x0601 c).armPoint c = some p := by simp [State.armPoint, h.alone, hp.1]
    refine (exec_cmpSet rfl h hw (State.cmpFails_of_pointed h.alone h31 hp hr)).trans ?_
    rw [State.cmpSet, if_neg (by simp [h31]), ha]
    rfl

section
variable {s : State} {t : Nat} {c : Cmd} {p : Pt} {ws : List (Nat × ParWrite)}

/-! ### Motion, auxiliary channels, loops and the cascade -/

theorem exec_motAxisSet (e : setWrites c (motAxisFields c) (maskFrom7 c) = ws) (h : Sent 0x0901 [0] s t c) (hp : Pointed s c allPoints p)
    (w : Writable (s.taken t 0x0901 c) p c.arg ws) (hh : s.axisHeld (c.f 0 2 0) = false)
    (hg : c.b 0 8 = true → c.f 1 7 4 ≠ s.p .MOT_USTEP (c.f 0 2 0) → (s.axis (c.f 0 2 0)).moves = false) :
    exec (.motAxisSet t c) s = s.submitted t 0x0901 c p c.arg ws [] :=
  next_set e h hp (by decide) (fun n => by simp [motAxisFields, cmdAxis]) (maskFrom7_padded c) w
    (fun n => by simpa [cmdAxis, maskFrom7] using ⟨fun h8 hne => hg h8 hne, hh⟩) (fun _ _ => rfl)

theorem exec_motProfileSet (e : setWrites c (motProfileFields c) (maskFrom7 c) = ws)
    (h : Sent 0x0902 [0] s t c) (hp : Pointed s c allPoints p)
    (w : Writable (s.taken t 0x0902 c) p c.arg ws) (hh : s.axisHeld (c.f 0 2 0) = false) :
    exec (.motProfileSet t c) s = s.submitted t 0x0902 c p c.arg ws [] :=
  next_set e h hp (by decide) (fun n => by simp [motProfileFields, cmdAxis]) (maskFrom7_padded c) w
    (fun n => by simpa [cmdAxis] using hh) (fun _ _ => rfl)

theorem exec_motPaceSet (e : setWrites c (motPaceFields c) (maskAt c) = ws) (h : Sent 0x090A [0] s t c) (hp : Pointed s c allPoints p)
    (w : Writable (s.taken t 0x090A c) p c.arg ws) : exec (.motPaceSet t c) s = s.submitted t 0x090A c p c.arg ws [] :=
  next_set_plain e h hp (by decide) (fun _ => rfl) (maskAt_padded c) w

theorem exec_auxSet (e : setWrites c (auxSetFields c) (maskAt c) = ws) (h : Sent 0x0B01 [0] s t c) (hp : Pointed s c allPoints p)
    (w : Writable (s.taken t 0x0B01 c) p c.arg ws) : exec (.auxSet t c) s = s.submitted t 0x0B01 c p c.arg ws [] :=
  next_set_plain e h hp (by decide) (fun _ => rfl) (maskAt_padded c) w

theorem auxChFails_padded (v : State) (n : Nat) : auxChFails v (c.padded n) = auxChFails v c := by
  rw [auxChFails, cmdAuxCh_padded, auxChFails]

theorem auxChSetFails_padded (v : State) (n : Nat) (ctx : Ctx) : auxChSetFails v (c.padded n) ctx = auxChSetFails v c ctx := by
  rw [auxChSetFails, auxChFails_padded, cmdAuxCh_padded, maskFrom7_padded, auxChSetFails]

theorem exec_auxChSet (e : setWrites c (auxChSetFields c) (maskFrom7 c) = ws) (h : Sent 0x0B02 [0] s t c) (hp : Pointed s c allPoints p)
    (w : Writable (s.taken t 0x0B02 c) p c.arg ws)
    (hf : auxChSetFails (s.taken t 0x0B02 c) c ⟨p, c.arg, ws.map (fun w => w.2)⟩ = []) :
    exec (.auxChSet t c) s = s.submitted t 0x0B02 c p c.arg ws [] :=
  next_set e h hp (by decide) (fun n => by simp [auxChSetFields, cmdAuxCh]) (maskFrom7_padded c) w
    (fun n => (auxChSetFails_padded _ n _).trans hf) (fun _ _ => rfl)

theorem exec_auxLoopCfg (e : setWrites c (auxLoopFields c) (maskFrom7 c) = ws) (h : Sent 0x0B06 [0] s t c) (hp : Pointed s c allPoints p)
    (w : Writable (s.taken t 0x0B06 c) p c.arg ws)
    (hl : c.b 0 9 = true → s.p .MOT_PACE_LOOP ≠ c.f 0 1 0) : exec (.auxLoopCfg t c) s = s.submitted t 0x0B06 c p c.arg ws [] :=
  next_set e h hp (by decide) (fun n => by simp [auxLoopFields, cmdLoop]) (maskFrom7_padded c) w
    (fun n => by simpa [cmdLoop, maskFrom7] using hl) (fun _ _ => rfl)

theorem exec_askSet (e : setWrites c (askSetFields c) (fun _ => true) = ws) (h : Sent 0x0E01 [0] s t c)
    (w : Writable (s.taken t 0x0E01 c) .idle c.arg ws) (hd : s.devId < c.f 0 11 8)
    (hr : s.roleOk (c.f 0 1 0) = true) (hc : s.cap.run = .closed) :
    exec (.askSet t c) s = s.submitted t 0x0E01 c .idle c.arg ws [.askSet] :=
  next_set e h ⟨rfl, by decide, by decide⟩ (by decide) (fun _ => rfl) (fun _ => rfl) w
    (fun n => by simpa [State.runOn, hc] using ⟨hd, hr⟩) (fun _ _ => rfl)

end

/-- Settles O16: each command submits the fields its mask names. -/
theorem motionAuxAndCascadeSets : Obligations.MotionAuxAndCascadeSets := by
  unfold Obligations.MotionAuxAndCascadeSets
  intro s t c p
  exact ⟨exec_motAxisSet rfl, exec_motProfileSet rfl, exec_motPaceSet rfl, exec_auxSet rfl, exec_auxChSet rfl, exec_auxLoopCfg rfl,
    exec_askSet rfl⟩

end Sys2Proof.Machine
end

section
/-! PROOFS. Acts (R58): each passes the checks of its definition, and its act goes to `submit` with no parameter writes. -/

namespace Sys2Proof.Machine

section
variable {s : State} {t : Nat} {c : Cmd} {p : Pt}

/-- No IDLE commit while a capture runs (R214). -/
theorem idle_free {b : Bool} (h : p = .idle → b = false) : (b && p == .idle) = false := by
  by_cases hp : p = .idle
  · rw [h hp, Bool.false_and]
  · simp [hp]

/-! ### Waveforms, lanes, swaps, channels -/

theorem exec_senWaveLoad (h : Sent 0x0302 [1] s t c) (hp : Pointed s c [.tick, .rept, .position, .idle] p)
    (hc : p = .idle → s.calRuns = false) (he : ∀ i < 16, edgeWordOk (c.w (i + 1)) = true) (hs : c.f 0 10 8 < 6) :
    exec (.senWaveLoad t c) s = s.submitted t 0x0302 c p c.arg [] [.waveLoad (2 * c.tile + c.f 0 0 0) (c.f 0 10 8) (c.f 0 13 12)
      ((List.range 16).map (fun i => c.w (i + 1)))] := by
  refine next_act h hp (by decide) ?_ (by simp)
  simpa [idle_free hc, hs] using he

theorem substEntries_padded (n : Nat) : substEntries (c.padded n) = substEntries c := by
  simp [substEntries]

theorem exec_senSubstLoad (h : Sent 0x0305 [2] s t c) (hp : Pointed s c [.tick, .rept, .position, .idle] p) (hl : c.lane ≠ 8)
    (hc : p = .idle → s.calRuns = false) (hn : c.f 0 6 0 ≤ 64)
    (hs : substFails (parGet s.shadow .SEN_ACTIVE (cmdPlace c)) (substEntries c) = []) :
    exec (.senSubstLoad t c) s = s.submitted t 0x0305 c p c.arg [] [.substLoad (8 * c.tile + c.lane) (substEntries c)] := by
  have hneed : senSubstLoadDef.need c ≤ 248 := by
    simp only [senSubstLoadDef, ceilDiv]
    omega
  refine congrArg Host.Outcome.next ((runHost_plain (d := senSubstLoadDef) h hp hneed rfl ?_).trans ?_)
  · simpa [senSubstLoadDef, spareFails, idle_free hc, hl, hn, substEntries_padded] using hs
  · simp only [senSubstLoadDef, substEntries_padded]
    rfl

theorem exec_senLaneRestore (h : Sent 0x0306 [2] s t c) (hr : (s.lane (9 * c.tile + c.lane)).st.restorable = true) :
    exec (.senLaneRestore t c) s = s.submitted t 0x0306 c .idle c.arg [] [.laneRestore (9 * c.tile + c.lane)] :=
  next_act h ⟨rfl, by decide, by decide⟩ (by decide) (by simpa [cmdConv] using hr) rfl

theorem exec_senSpareForce (h : Sent 0x0307 [2] s t c) (hp : Pointed s c [.tick, .idle] p) (hl : c.lane ≠ 8)
    (hf : s.forceOk (8 * c.tile + c.lane) (c.b 0 0) = true) :
    exec (.senSpareForce t c) s = s.submitted t 0x0307 c p c.arg [] [.spareForce (8 * c.tile + c.lane) (c.b 0 0)] :=
  next_act h hp (by decide) (by simpa [spareFails, cmdPlace, hl] using hf) (by simp [cmdPlace])

/-- COR_SET_SWAP of halves that are ready or being loaded: it waits for the loads of its tiles. -/
theorem exec_corSetSwap (h : Sent 0x0403 [0] s t c) (hp : Pointed s c [.tick, .rept, .position, .idle] p) (h0 : c.f 0 15 0 ≠ 0)
    (hr : ∀ x ∈ maskList 16 (c.f 0 15 0), s.halfReady x = true ∨ s.loadRuns (2 ^ x) = true) (hc : s.calRuns = false) :
    exec (.corSetSwap t c) s =
      .next ((s.taken t 0x0403 c).submit (s.takenCid t) ⟨p, c.arg, []⟩ [.corSwap (c.f 0 15 0)] (!s.loadRuns (c.f 0 15 0))) := by
  refine congrArg Host.Outcome.next ((runHost_plain (d := corSetSwapDef) h hp (show 1 ≤ 248 by decide) rfl ?_).trans ?_)
  · simpa [corSetSwapDef, h0, hc, or_iff_not_imp_left] using hr
  · simp [corSetSwapDef]

theorem exec_tdcArm (h : Sent 0x0A05 [0] s t c) (hp : Pointed s c [.tick, .idle] p) (h0 : c.f 0 15 0 ≠ 0)
    (hd : c.f 0 7 0 &&& c.f 0 15 8 = 0) :
    exec (.tdcArm t c) s = s.submitted t 0x0A05 c p c.arg [] [.tdcArm (c.f 0 7 0) (c.f 0 15 8)] :=
  next_act h hp (by decide) (by simp [h0, hd]) (by simp)

end

/-- Settles O17: each act passes its checks and is submitted; a swap whose tiles a load still fills is not ready. -/
theorem sensorCorrectionAndTimingActs : Obligations.SensorCorrectionAndTimingActs := by
  unfold Obligations.SensorCorrectionAndTimingActs
  intro s t c p
  refine ⟨exec_senWaveLoad, exec_senSubstLoad, exec_senLaneRestore, exec_senSpareForce, fun h hp h0 hr hc hl => ?_,
    fun h hp h0 hr hc hl => ?_, exec_tdcArm⟩
  · rw [exec_corSetSwap h hp h0 hr hc, hl]
    rfl
  · rw [exec_corSetSwap h hp h0 hr hc, hl]
    rfl

section
variable {s : State} {t : Nat} {c : Cmd} {p : Pt}

/-! ### Runs, lamps, power domains, auxiliary channels -/

theorem exec_runOpen (h : Sent 0x0501 [0] s t c) (hg : parGet s.shadow .SEQ_TICK_SRC 0 = 0 → parGet s.shadow .CAP_GRID_PITCH 0 ≠ 0)
    (hr : s.cap.run = .closed) (hs : s.pwr.st = .ready) (hm : ¬(s.member = true ∧ (s.taken t 0x0501 c).masterOpen = true))
    (hl : s.pos.tb.load = none) (hc : s.calRuns = false) (hv : (s.taken t 0x0501 c).covFits = true) :
    exec (.runOpen t c) s = s.submitted t 0x0501 c .idle c.arg [] [.runOpen (c.w 0)] :=
  next_act h ⟨rfl, by decide, by decide⟩ (by decide) (by simpa [hr, hs, hl, hc, hv] using ⟨hg, by simpa using hm⟩) (by simp)

theorem exec_runClose (h : Sent 0x0502 [0] s t c) (hp : Pointed s c [.tick, .idle] p) (hr : s.cap.run = .open_) :
    exec (.runClose t c) s = s.submitted t 0x0502 c p c.arg [] [.runClose] :=
  next_act h hp (by decide) (by simp [hr]) rfl

theorem exec_lmpPatternApply (h : Sent 0x0804 [0] s t c) (hp : Pointed s c [.idle, .rept, .position] p) (h0 : maskList 4 (c.f 0 3 0) ≠ [])
    (h64 : p ≠ .idle → ∀ b ∈ maskList 4 (c.f 0 3 0), s.p64 b = false) (hm : ∀ b ∈ maskList 4 (c.f 0 3 0), s.p .LMP_MODE b ≠ 0)
    (ha : ∀ b ∈ maskList 4 (c.f 0 3 0), s.applyPending b = false) :
    exec (.lmpPatternApply t c) s =
      .next ((((maskList 4 (c.f 0 3 0)).filter (fun b => s.native b)).foldl (fun (u : State) b => u.startUpload b)
        (s.taken t 0x0804 c)).submit (s.takenCid t) ⟨p, c.arg, []⟩ [.patternApply (c.f 0 3 0)]
          ((maskList 4 (c.f 0 3 0)).filter (fun b => s.native b)).isEmpty) := by
  refine congrArg Host.Outcome.next ((runHost_plain (d := lmpPatternApplyDef) h hp (show 1 ≤ 248 by decide) rfl ?_).trans ?_)
  · simpa [lmpPatternApplyDef, h0] using ⟨h64, hm, ha⟩
  · simp only [lmpPatternApplyDef, Cmd.padded_f]
    rfl

theorem exec_lmpDiagRun (h : Sent 0x0806 [0] s t c) (h64 : s.p64 (c.f 0 1 0) = false) (hd : (s.bar (c.f 0 1 0)).diag = none) :
    exec (.lmpDiagRun t c) s = s.submitted t 0x0806 c .idle c.arg [] [.diagRun (c.f 0 1 0) (c.w 0)] :=
  next_act h ⟨rfl, by decide, by decide⟩ (by decide) (by simp [cmdBar, h64, hd]) (by simp [cmdBar])

theorem exec_lmpFaultClear (h : Sent 0x0808 [0] s t c) (hp : Pointed s c [.tick, .idle] p) (h0 : c.w64 1 ≠ 0) :
    exec (.lmpFaultClear t c) s = s.submitted t 0x0808 c p c.arg [] [.faultClear (c.f 0 1 0) (c.w64 1)] :=
  next_act h hp (by decide) (by simp [h0]) (by simp [cmdBar])

theorem exec_pwrDomainSet (h : Sent 0x0F02 [0] s t c) (hp : Pointed s c [.rept, .idle] p) (h0 : c.w 0 % 2 ^ 24 ≠ 0)
    (hr : p = .rept → c.f 0 15 0 = 0 ∧ c.f 0 23 20 = 0)
    (hw : ∀ i ∈ maskList 24 (c.w 0 % 2 ^ 24), natBit (c.w 1) i = true ∨ domainWork s.par i = false) :
    exec (.pwrDomainSet t c) s = s.submitted t 0x0F02 c p c.arg [] [.domains (c.w 0 % 2 ^ 24) (c.w 1 % 2 ^ 24)] := by
  have hs : (p == .rept && (c.f 0 15 0 != 0 || c.f 0 23 20 != 0)) = false := by
    by_cases hp' : p = .rept
    · simp [hr hp']
    · simp [hp']
  refine next_act h hp (by decide) ?_ (by simp)
  simpa [hs, or_iff_not_imp_left] using And.intro h0 hw

theorem exec_auxLinLoad (h : Sent 0x0B03 [0] s t c) (hp : Pointed s c [.tick, .idle] p)
    (hc : 16 ≤ c.f 0 5 0 → parGet s.shadow .AUX_CONFIG 0 ≠ 0) (hw : ∀ i < 18, c.f (1 + i) 30 23 ≠ 255) :
    exec (.auxLinLoad t c) s = s.submitted t 0x0B03 c p c.arg [] [.auxLin (c.f 0 5 0) ((List.range 18).map (fun i => c.w (1 + i)))] :=
  next_act h hp (by decide) (by simpa [auxChFails, cmdAuxCh] using ⟨hc, hw⟩) (by simp [cmdAuxCh])

theorem exec_auxCal (h : Sent 0x0B05 [0] s t c) (hp : Pointed s c [.rept, .idle] p)
    (hc : 16 ≤ c.f 0 5 0 → parGet s.shadow .AUX_CONFIG 0 ≠ 0) (hn : s.aux.cal = none) :
    exec (.auxCal t c) s = .next ((s.taken t 0x0B05 c).auxCal (s.takenCid t) c ⟨p, c.arg, []⟩) := by
  refine congrArg Host.Outcome.next ((runHost_plain (d := auxCalDef) h hp (show 1 ≤ 248 by decide) rfl ?_).trans ?_)
  · simpa [auxCalDef, auxChFails, cmdAuxCh, hn] using hc
  · simp [auxCalDef, State.auxCal]

end

/-- Settles O18: each act passes its checks and is submitted. -/
theorem runLampAndPowerActs : Obligations.RunLampAndPowerActs := by
  unfold Obligations.RunLampAndPowerActs
  intro s t c p
  exact ⟨exec_runOpen, exec_runClose, exec_lmpPatternApply, exec_lmpDiagRun, exec_lmpFaultClear, exec_pwrDomainSet, exec_auxLinLoad,
    exec_auxCal⟩

section
variable {s : State} {t : Nat} {c : Cmd} {p : Pt}

/-! ### Motion -/

@[simp] theorem moveAxes_padded (n : Nat) : moveAxes (c.padded n) = moveAxes c := by
  simp [moveAxes]

@[simp] theorem moveTargets_padded (n : Nat) : moveTargets (c.padded n) = moveTargets c := by
  simp [moveTargets]

/-- MOT_MOVE reads no word past the target of the last of its eight axes. -/
theorem motMoveDef_need_le (c : Cmd) : motMoveDef.need c ≤ 248 := by
  have hax : ∀ a ∈ moveAxes c, 2 + a ≤ 248 := fun a ha => by
    have := List.mem_range.1 (List.mem_filter.1 ha).1
    omega
  exact List.foldlRecOn (motive := fun m => m ≤ 248) (moveAxes c) _ (by decide) fun _ hm a ha => Nat.max_le.2 ⟨hm, hax a ha⟩

theorem exec_motMove (h : Sent 0x0903 [0] s t c) (hp : Pointed s c [.tick, .position, .idle] p) (h0 : moveAxes c ≠ [])
    (hg : ∀ a ∈ moveAxes c, s.wholeGrain a (c.w (1 + a)) = true)
    (hm : (s.taken t 0x0903 c).moveFails (moveAxes c) (moveTargets c) (c.b 0 8) = 0) :
    exec (.motMove t c) s = s.submitted t 0x0903 c p c.arg [] [.motMove (moveAxes c) (moveTargets c) (c.b 0 8)] := by
  refine congrArg Host.Outcome.next ((runHost_plain (d := motMoveDef) h hp (motMoveDef_need_le c) rfl ?_).trans ?_)
  · simpa [motMoveDef, h0, hm] using hg
  · simp [motMoveDef]

theorem exec_motJog (h : Sent 0x0904 [0] s t c) (hp : Pointed s c [.tick, .position, .idle] p)
    (hv : (toSigned 32 (c.w 1)).natAbs ≤ s.p .MOT_VMAX (c.f 0 2 0))
    (hs : toSigned 32 (c.w 1) ≠ 0 → s.p .MOT_VSTART (c.f 0 2 0) ≤ (toSigned 32 (c.w 1)).natAbs)
    (hj : s.jogFails (c.f 0 2 0) (toSigned 32 (c.w 1)) = false) (hh : s.axisHeld (c.f 0 2 0) = false) :
    exec (.motJog t c) s = s.submitted t 0x0904 c p c.arg [] [.motJog (c.f 0 2 0) (toSigned 32 (c.w 1))] :=
  next_act h hp (by decide) (by simpa [cmdAxis, hj, hh] using ⟨hv, hs⟩) (by simp [cmdAxis])

theorem exec_motStop (h : Sent 0x0905 [0] s t c) (hp : Pointed s c [.tick, .idle] p) (h0 : c.f 0 7 0 ≠ 0) :
    exec (.motStop t c) s = s.submitted t 0x0905 c p c.arg [] [.motStop (c.f 0 7 0) (c.b 0 8)] :=
  next_act h hp (by decide) (by simp [h0]) (by simp)

theorem exec_motGear (h : Sent 0x0906 [0] s t c) (hp : Pointed s c [.tick, .idle] p) (h3 : c.f 0 9 8 ≠ 3)
    (hg : s.gearFails (c.f 0 2 0) (c.f 0 9 8) = false) (hh : s.axisHeld (c.f 0 2 0) = false) :
    exec (.motGear t c) s = s.submitted t 0x0906 c p c.arg []
      [.motGear (c.f 0 2 0) (c.f 0 5 4) (c.f 0 9 8) (c.w 2) (c.w 1) (c.w 3)] := by
  have hn : motGearDef.need c ≤ 248 := by
    simp only [motGearDef]
    split_ifs <;> decide
  refine congrArg Host.Outcome.next ((runHost_plain (d := motGearDef) h hp hn rfl ?_).trans ?_)
  · simp [motGearDef, cmdAxis, h3, hg, hh]
  · simp [motGearDef, cmdAxis]

theorem exec_motHome (h : Sent 0x0907 [0] s t c) (hp : Pointed s c [.tick, .idle] p) (hl : s.p .MOT_VSTART (c.f 0 2 0) ≤ c.w 1)
    (hv : c.w 1 ≤ s.p .MOT_VMAX (c.f 0 2 0)) (hg : s.wholeGrain (c.f 0 2 0) (c.w 2) = true)
    (hf : s.homeFails (c.f 0 2 0) (c.b 0 8) = false) (hh : s.axisHeld (c.f 0 2 0) = false) :
    exec (.motHome t c) s = s.submitted t 0x0907 c p c.arg [] [.motHome (c.f 0 2 0) (c.b 0 8) [c.w 1, c.w 2, c.w 3, c.w 4]] :=
  next_act h hp (by decide) (by simp [cmdAxis, hl, hv, hg, hf, hh]) (by simp [cmdAxis])

theorem exec_motAck (h : Sent 0x0908 [0] s t c) (hp : Pointed s c [.tick, .idle] p) (h0 : c.f 0 7 0 ≠ 0) :
    exec (.motAck t c) s = s.submitted t 0x0908 c p c.arg [] [.motAck (c.w 0)] :=
  next_act h hp (by decide) (by simp [h0]) (by simp)

theorem exec_motPosSet (h : Sent 0x0909 [0] s t c) (hp : Pointed s c [.tick, .idle] p) (hg : s.wholeGrain (c.f 0 2 0) (c.w 1) = true)
    (hf : s.posSetFails (c.f 0 2 0) = false) :
    exec (.motPosSet t c) s = s.submitted t 0x0909 c p c.arg [] [.motPosSet (c.f 0 2 0) (c.w 1)] :=
  next_act h hp (by decide) (by simp [cmdAxis, hg, hf]) (by simp [cmdAxis])

end

/-- Settles O19: each act passes its checks and is submitted. -/
theorem motionActs : Obligations.MotionActs := by
  unfold Obligations.MotionActs
  intro s t c p
  exact ⟨exec_motMove, exec_motJog, exec_motStop, exec_motGear, exec_motHome, exec_motAck, exec_motPosSet⟩

end Sys2Proof.Machine
end

section
/-! PROOFS. The tick sources (R32, R33, R51, R246, R548, R550): what each row does in the state w of its instant, by the conditions of
its own. -/

namespace Sys2Proof.Machine

section
variable {s w : State} {t d : Nat} {falling : Bool} {h : HeldTick} (e : s.advance t = w)
include e

/-! ### The grid (R246) -/

theorem exec_gridTick_of_not_open (hr : w.cap.run ≠ .open_) : exec (.gridTick t) s = .next w := by
  show execGridTick t s = _
  rw [execGridTick, nextAt, e]
  simp [hr]

/-- The highest target reached: floor((extended position − origin) / pitch). -/
theorem exec_gridTick {k : Int} (hr : w.cap.run = .open_) (h0 : w.p .SEQ_TICK_SRC = 0) (hm : w.member = false)
    (hp : w.p .CAP_GRID_PITCH ≠ 0) (hs : w.p .SEQ_POS_SRC ≠ 4) (hk : k = (w.extNow - w.cap.g0) / (w.p .CAP_GRID_PITCH : Int)) :
    exec (.gridTick t) s = .next (if w.cap.high < k then w.raiseTick k.toNat else w) := by
  have hreached : w.reachedIndex = some k := by simp [State.reachedIndex, hp, hs, hk]
  show execGridTick t s = _
  rw [execGridTick, nextAt, e]
  simp [hr, h0, hm, hreached]

/-! ### The period (R33) -/

theorem exec_periodTick_of_not_open (hr : w.cap.run ≠ .open_) : exec (.periodTick t) s = .next w := by
  show execPeriodTick t s = _
  rw [execPeriodTick, nextAt, e]
  cases w.seq.periodDue <;> simp [hr]

theorem exec_periodTick_early (hd : w.seq.periodDue = some d) (hn : w.now < d) : exec (.periodTick t) s = .next w := by
  show execPeriodTick t s = _
  rw [execPeriodTick, nextAt, e]
  simp [hd, hn]

theorem exec_periodTick_due {u : State} (hr : w.cap.run = .open_) (h1 : w.p .SEQ_TICK_SRC = 1) (hd : w.seq.periodDue = some d)
    (hn : d ≤ w.now) (hu : u = w.raiseTick w.seq.lineIndex) : exec (.periodTick t) s =
      .next (u.updSeq (fun q => { q with
        periodDue := if u.cap.run = .open_ then some (u.now + ns (u.p .SEQ_PERIOD)) else none })) := by
  show execPeriodTick t s = _
  rw [execPeriodTick, nextAt, e]
  simp [hr, h1, hd, hu, Nat.not_lt.2 hn]

/-! ### The trigger (R32) -/

theorem exec_trigTick_off (hr : w.cap.run ≠ .open_ ∨ w.p .SEQ_TRIG_EDGE ≠ bitNat falling) : exec (.trigTick t falling) s = .next w := by
  show execTrigTick t falling s = _
  rw [execTrigTick, nextAt, e]
  rcases hr with hr | hr <;> simp [hr]

theorem exec_trigTick_edge (hr : w.cap.run = .open_) (h2 : w.p .SEQ_TICK_SRC = 2) (he : w.p .SEQ_TRIG_EDGE = bitNat falling) :
    exec (.trigTick t falling) s = .next (w.raiseTick w.seq.lineIndex) := by
  show execTrigTick t falling s = _
  rw [execTrigTick, nextAt, e]
  simp [hr, h2, he]

/-! ### The cascade's pulse (R548, R550, R558) -/

theorem exec_askuriTick_ignored (hm : w.member = true) (hc : w.ask.calibrated = false ∨ w.ask.lost = true) :
    exec (.askuriTick t) s = .next (w.count .ASK_TICKS_IGNORED) := by
  show execAskuriTick t s = _
  rw [execAskuriTick, nextAt, e]
  rcases hc with hc | hc <;> simp [hm, hc]

/-- The pulse of a tick, on a member that waits for no other: it is noted, with the instant at which its tick is due. -/
theorem exec_askuriTick_noted {due : Nat} (hm : w.member = true) (hc : w.ask.calibrated = true) (hl : w.ask.lost = false)
    (hr : w.cap.run = .open_) (h3 : w.p .SEQ_TICK_SRC = 3) (hw : w.ask.runWait = false) (hn : w.resolveTick = none)
    (hdue : due = w.now + ns w.ask.align - 15 * w.ask.path) : exec (.askuriTick t) s =
      .next (w.updAsk (fun a => { a with tick := some ⟨due, w.streamAt (w.glintAt due)⟩, tickBad := 0 })) := by
  have hguess : w.memberGuess = w := by simp [State.memberGuess, hn]
  show execAskuriTick t s = _
  rw [execAskuriTick, nextAt, e]
  simp [hm, hc, hl, hr, h3, hw, hguess, hdue]

/-! ### The tick held for a flush read (R51) -/

theorem exec_deferredTickServe (hd : w.seq.deferred = some h) (hf : w.seq.flushUntil = some d) :
    exec (.deferredTickServe t) s = .next (if w.now < d then w
      else (w.updSeq (fun q => { q with deferred := none, flushUntil := none })).startSlot h d true) := by
  show execDeferredTickServe t s = _
  rw [execDeferredTickServe, nextAt, e, State.serveDeferred, hd, hf]

theorem exec_deferredTickServe_of_none (hd : w.seq.deferred = none) : exec (.deferredTickServe t) s = .next w := by
  show execDeferredTickServe t s = _
  rw [execDeferredTickServe, nextAt, e, State.serveDeferred, hd]

end

/-- Settles O36: each row is the branch of its source that the run, the source's selection and the instants decide. -/
theorem tickSources : Obligations.TickSources := by
  unfold Obligations.TickSources
  intro s t d falling h
  refine ⟨fun hr => ⟨exec_gridTick_of_not_open rfl hr, exec_periodTick_of_not_open rfl hr, exec_trigTick_off rfl (.inl hr)⟩,
    fun hr h0 hm hp hs => ?_, fun hr h1 hd => ⟨exec_periodTick_early rfl hd, fun hn => exec_periodTick_due rfl hr h1 hd hn rfl⟩,
    fun hr h2 => ⟨exec_trigTick_edge rfl hr h2, fun he => exec_trigTick_off rfl (.inr he)⟩, exec_askuriTick_ignored rfl,
    fun hm hc hl hr h3 hw _ hn => exec_askuriTick_noted rfl hm hc hl hr h3 hw hn rfl, fun hd hf => ?_,
    exec_deferredTickServe_of_none rfl⟩
  · have he := exec_gridTick rfl hr h0 hm hp hs rfl
    exact ⟨fun hk => he.trans (congrArg _ (if_pos hk)), fun hk => he.trans (congrArg _ (if_neg (Int.not_lt.2 hk)))⟩
  · have he := exec_deferredTickServe rfl hd hf
    exact ⟨fun hn => he.trans (congrArg _ (if_pos hn)), fun hn => he.trans (congrArg _ (if_neg (Nat.not_lt.2 hn)))⟩

/-! ### The hypotheses of O36 are met, each clause at its boundary -/

/-- A state with a run open at instant 768, and parameters of one's own. -/
def tickState (ws : List ParWrite) : State :=
  { State.reset with now := 768, par := parSets State.reset.par ws, cap := { State.reset.cap with run := .open_, g0 := -512 } }

theorem witness_TickSources_closed : (State.reset.advance 0).cap.run ≠ .open_ := by decide

theorem witness_TickSources_grid :
    let s := tickState [⟨.SEQ_TICK_SRC, 0, 0⟩, ⟨.CAP_GRID_PITCH, 0, 256⟩]
    let w := fun high => ({ s with cap := { s.cap with high := high } } : State).advance 0
    let k := ((w 0).extNow - (w 0).cap.g0) / ((w 0).p .CAP_GRID_PITCH : Int)
    (w 0).cap.run = .open_ ∧ (w 0).p .SEQ_TICK_SRC = 0 ∧ (w 0).member = false ∧ (w 0).p .CAP_GRID_PITCH ≠ 0 ∧ (w 0).p .SEQ_POS_SRC ≠ 4 ∧
    k = 2 ∧ (w 1).cap.high < k ∧ k ≤ (w 2).cap.high := by decide

theorem witness_TickSources_period :
    let s := tickState [⟨.SEQ_TICK_SRC, 0, 1⟩]
    let w := fun d => ({ s with seq := { s.seq with periodDue := some d } } : State).advance 0
    (w 768).cap.run = .open_ ∧ (w 768).p .SEQ_TICK_SRC = 1 ∧ (w 768).seq.periodDue = some 768 ∧ (w 768).now = 768 ∧
    (w 769).seq.periodDue = some 769 ∧ (w 769).now < 769 := by decide

theorem witness_TickSources_trigger : let w := (tickState [⟨.SEQ_TICK_SRC, 0, 2⟩, ⟨.SEQ_TRIG_EDGE, 0, 1⟩]).advance 0
    w.cap.run = .open_ ∧ w.p .SEQ_TICK_SRC = 2 ∧ w.p .SEQ_TRIG_EDGE = bitNat true ∧ w.p .SEQ_TRIG_EDGE ≠ bitNat false := by decide

theorem witness_TickSources_cascade :
    let s := tickState [⟨.SEQ_TICK_SRC, 0, 3⟩, ⟨.ASK_ROLE, 0, 2⟩]
    let w := fun c => ({ s with ask := { s.ask with calibrated := c } } : State).advance 0
    (w true).member = true ∧ (w false).ask.calibrated = false ∧ (w true).ask.calibrated = true ∧ (w true).ask.lost = false ∧
    (w true).cap.run = .open_ ∧ (w true).p .SEQ_TICK_SRC = 3 ∧ (w true).ask.runWait = false ∧ (w true).ask.tick = none ∧
    (w true).resolveTick = none := by decide

theorem witness_TickSources_deferred :
    let s := tickState []
    let w := fun d => ({ s with seq := { s.seq with deferred := some ⟨0, 0, 0⟩, flushUntil := some d } } : State).advance 0
    (w 768).seq.deferred = some ⟨0, 0, 0⟩ ∧ (w 768).seq.flushUntil = some 768 ∧ (w 768).now = 768 ∧ (w 769).now < 769 ∧
    (s.advance 0).seq.deferred = none := by decide

end Sys2Proof.Machine
end

section
/-! PROOFS. What no row does, host command or event: the model is total (no row answers a fault or a refusal), and every row leaves the
queue alone, keeps the clock from running back and takes free values in order (log entries 1, 3 and 10). -/

namespace Sys2Proof.Machine

/-- Settles O4: every row answers a next state, and every row's next state keeps the queue, the clock and the free values. -/
theorem commandsLeaveQueueAndClock : Obligations.CommandsLeaveQueueAndClock := by
  unfold Obligations.CommandsLeaveQueueAndClock
  intro i s
  obtain ⟨u, hu⟩ := exec_next i s
  have keeps : Keeps s u := exec_keeps hu
  exact ⟨u, hu, keeps.pending, keeps.now, keeps.free⟩

end Sys2Proof.Machine
end

section
/-! PROOFS. Commands that only read: the lamps, the lanes and the correction (chapters 4 to 6; log entries 86, 87 and 92 for what the spec
leaves open in their words). The fetch changes nothing that their words show. -/

namespace Sys2Proof.Machine

/-! ### What the words read of the state before the fetch -/

section
variable (s : State) (t op : Nat) (c : Cmd)

@[simp] theorem taken_chainLen (b : Nat) : (s.taken t op c).chainLen b = s.chainLen b := rfl
@[simp] theorem taken_barState (b : Nat) : (s.taken t op c).barState b = s.barState b := rfl
@[simp] theorem taken_laneWord (tile i : Nat) : (s.taken t op c).laneWord tile i = s.laneWord tile i := rfl
@[simp] theorem taken_slotFails (slot : Nat) : (s.taken t op c).slotFails slot = s.slotFails slot := rfl
@[simp] theorem taken_librarySlot (slot : Nat) : (s.taken t op c).librarySlot slot = s.librarySlot slot := rfl
@[simp] theorem taken_corState (tile : Nat) : (s.taken t op c).corState tile = s.corState tile := rfl
@[simp] theorem taken_tileCor (tile : Nat) : (s.taken t op c).tileCor tile = s.tileCor tile := rfl
@[simp] theorem taken_hasSource (p : Nat) : (s.taken t op c).hasSource p = s.hasSource p := rfl
@[simp] theorem taken_halfTemp (h : Half) (p : Nat) : (s.taken t op c).halfTemp h p = s.halfTemp h p := rfl

end

/-- A library slot with a good header fails no command (R204). -/
theorem State.headerFails_of_headerOk {s : State} {slot : Nat} (h : headerOk (s.librarySlot slot) = true) : s.headerFails slot = [] := by
  simp [State.headerFails, h]

section
variable {s : State} {t : Nat} {c : Cmd}

/-- A command that only reads and passes its checks is answered DONE with its words. -/
theorem next_status {op need : Nat} {levels : List Nat} {fails : State → Cmd → Ctx → List (Nat × Nat)} {words : State → Cmd → List Word}
    {ws : List Word} (h : Sent op levels s t c) (hn : need ≤ 248) (hf : ∀ ctx, fails (s.taken t op c) (c.padded need) ctx = [])
    (e : words (s.taken t op c) (c.padded need) = ws) :
    Host.Outcome.next (runHost (statusDef op levels need fails words) t c s) = s.answered t op c ws :=
  congrArg Host.Outcome.next ((runHost_status h hn hf).trans (by rw [e]))

theorem exec_lmpFaults (h : Sent 0x0807 [0] s t c) (h0 : c.f 0 21 16 ≠ 0) (h61 : c.f 0 21 16 ≤ 61) (h64 : c.f 0 13 8 + c.f 0 21 16 ≤ 64) :
    exec (.lmpFaults t c) s = s.answered t 0x0807 c (s.faultWords (c.f 0 1 0) (c.f 0 13 8) (c.f 0 21 16)) :=
  next_status h (by decide) (fun _ => by simp [h0, h61, h64]) (by simp [cmdBar, State.faultWords])

theorem exec_lmpStatus (h : Sent 0x0809 [0] s t c) : exec (.lmpStatus t c) s = s.answered t 0x0809 c s.lampWords :=
  next_status h (by decide) (fun _ => rfl) (by simp [State.lampWords])

theorem exec_senStatus (h : Sent 0x0308 [1] s t c) :
    exec (.senStatus t c) s = s.answered t 0x0308 c ((List.range 9).map (fun i => s.laneWord c.tile i)) :=
  next_status h (by decide) (fun _ => rfl) (by simp)

theorem exec_corSetCheck (h : Sent 0x0404 [0] s t c) (hs : s.slotFails (c.f 0 7 0) = []) (hh : headerOk (s.librarySlot (c.f 0 7 0)) = true) :
    let m := s.librarySlot (c.f 0 7 0)
    exec (.corSetCheck t c) s = s.answered t 0x0404 c
      [w32 (setRecords m).length, w32 ((setRecords m).filter (fun r => !r.good)).length, w32 (setLe m 12 4), w32 (setLe m 8 4)] :=
  next_status h (by decide) (fun _ => by simp [hs, State.headerFails_of_headerOk (s := s.taken t 0x0404 c) hh]) (by simp)

theorem exec_corCalStatus (h : Sent 0x0409 [0] s t c) : exec (.corCalStatus t c) s = s.answered t 0x0409 c s.calWords :=
  next_status h (by decide) (fun _ => rfl) (by simp [State.calWords])

theorem exec_corStatus (h : Sent 0x040A [1] s t c) : exec (.corStatus t c) s = s.answered t 0x040A c (s.corWords c.tile) :=
  next_status h (by decide) (fun _ => rfl) (by simp [State.corWords])

end

/-- Settles O8: each command passes its checks, and its words are those of the state before the fetch. -/
theorem lampLaneAndCorrectionReads : Obligations.LampLaneAndCorrectionReads := by
  unfold Obligations.LampLaneAndCorrectionReads
  intro s t c
  exact ⟨exec_lmpFaults, exec_lmpStatus, exec_senStatus, exec_corSetCheck, exec_corCalStatus, exec_corStatus⟩

end Sys2Proof.Machine
end

section
/-! PROOFS. Pattern loads and reads, injections, trim stores, calibration, resets and power commands (chapters 4, 11, 12, 14 to 16): each
passes the checks of its definition, and its effect is the one that the definition states (log entries 81, 96, 99 and 100 for what the
spec leaves open in replies and in deferred work). -/

namespace Sys2Proof.Machine

/-! ### What the checks read of the state before the fetch -/

section
variable (s : State) (t op : Nat) (c : Cmd)

@[simp] theorem taken_stringLimit (b : Nat) : (s.taken t op c).stringLimit b = s.stringLimit b := rfl
@[simp] theorem taken_isMaster : (s.taken t op c).isMaster = s.isMaster := rfl

end

/-! ### What absent words do not change -/

section
variable (c : Cmd) (n : Nat)

@[simp] theorem halfAt_padded (w i : Nat) : halfAt (c.padded n) w i = halfAt c w i := Cmd.padded_f ..
@[simp] theorem injectChans_padded : injectChans (c.padded n) = injectChans c := by simp [injectChans]
theorem State.inject_padded (v : State) (cid : Nat) : v.inject cid (c.padded n) = v.inject cid c := by simp [State.inject]

end

@[simp] theorem State.updBar_reads (s : State) (b : Nat) (f : Bar → Bar) : (s.updBar b f).lamp.reads = s.lamp.reads := rfl

theorem State.runOn_of_closed {s : State} (h : s.cap.run = .closed) : s.runOn = false := by simp [State.runOn, h]

/-- A command outside groups is no member of one. -/
theorem taken_inGroup {s : State} {t op : Nat} {c : Cmd} (alone : s.groupOn c.ring = none) :
    (s.taken t op c).inGroup (s.takenCid t) = false := by
  rw [State.inGroup, taken_outOf]
  exact congrArg Option.isSome alone

/-- A command that writes no parameter and passes its checks has its definition's effect. -/
theorem next_plain {d : CmdDef} {s u : State} {t : Nat} {c : Cmd} {p : Pt} (h : Sent d.op d.levels s t c) (hp : PointsTo s c d.points p)
    (hn : d.need c ≤ 248) (e : d.writes (s.taken t d.op c) (c.padded (d.need c)) = [])
    (hf : d.fails (s.taken t d.op c) (c.padded (d.need c)) ⟨p, c.arg, []⟩ = [])
    (hr : d.run (s.taken t d.op c) (s.takenCid t) (c.padded (d.need c)) ⟨p, c.arg, []⟩ = u) :
    (.next (runHost d t c s) : Host.Outcome State Fault Refusal) = .next u :=
  congrArg Host.Outcome.next ((runHost_plain h hp hn e hf).trans hr)

/-! ### What an injection does at its acceptance (R419, R420) -/

section
variable {v : State} {cid : Nat} {c : Cmd}

theorem State.inject_of_full (h : 4 ≤ v.aux.inject.length) : v.inject cid c = (v.count .AUX_INJECT_REFUSED).reply cid 0x14 0 := by
  rw [State.inject, if_pos h]

theorem State.inject_of_held (h : v.aux.inject.length < 4) (hq : v.auxLocked = true ∨ v.aux.cal.isSome = true ∨ v.aux.inject ≠ []) :
    v.inject cid c = (v.updAux (fun a => { a with
      inject := a.inject ++ [⟨cid, injectChans c, v.auxLocked || v.aux.cal.isSome⟩] })).defer cid := by
  rw [State.inject, if_neg (Nat.not_le.2 h), if_pos (by simpa [or_assoc] using hq)]

theorem State.inject_of_free (hi : v.aux.inject = []) (hl : v.auxLocked = false) (hc : v.aux.cal = none) :
    v.inject cid c = v.injectNow ⟨cid, injectChans c, false⟩ := by
  simp [State.inject, hi, hl, hc]

end

section
variable {s : State} {t : Nat} {c : Cmd}

/-! ### The lamps -/

theorem exec_lmpPatternLoad (h : Sent 0x0803 [0] s t c) (hb : c.f 0 4 2 ≤ 5) (h0 : c.f 1 24 16 ≠ 0) (h492 : c.f 1 24 16 ≤ 492)
    (hl : c.f 1 11 0 + c.f 1 24 16 ≤ s.stringLimit (c.f 0 1 0)) (hz : ∀ i < c.f 1 24 16, natField (halfAt c 2 i) 14 12 = 0)
    (ha : s.applyPending (c.f 0 1 0) = false) :
    exec (.lmpPatternLoad t c) s = .next (((s.taken t 0x0803 c).updBar (c.f 0 1 0) (fun x => { x with
      staged := (List.range (c.f 1 24 16)).foldl (fun (m : Sparse Nat) i =>
        Sparse.set m 0 (4096 * c.f 0 4 2 + c.f 1 11 0 + i) (halfAt c 2 i)) x.staged })).done (s.takenCid t)) := by
  have hn : lmpPatternLoadDef.need c ≤ 248 := by
    simp only [lmpPatternLoadDef, ceilDiv]
    omega
  refine next_plain (d := lmpPatternLoadDef) h (p := .immediate) rfl hn rfl ?_ ?_
  · simpa [lmpPatternLoadDef, cmdBar, hb, h0, h492, hl, ha] using hz
  · simp [lmpPatternLoadDef, cmdBar]

theorem exec_lmpPatternRead (h : Sent 0x0805 [0] s t c) (h7 : c.f 0 4 2 ≠ 7) (h0 : c.f 1 24 16 ≠ 0) (h490 : c.f 1 24 16 ≤ 490)
    (hl : c.f 1 11 0 + c.f 1 24 16 ≤ s.stringLimit (c.f 0 1 0)) (hn : s.native (c.f 0 1 0) = true) (hb : (s.bar (c.f 0 1 0)).lost = false)
    (hk : (s.bar (c.f 0 1 0)).known = true) :
    let frames := readFrames (if c.b 0 5 then 1 - (s.bar (c.f 0 1 0)).setIdx else (s.bar (c.f 0 1 0)).setIdx) (c.f 0 4 2) (c.f 1 11 0)
      (c.f 1 24 16)
    let w := ((s.taken t 0x0805 c).defer (s.takenCid t)).updBar (c.f 0 1 0) (fun y => { y with work := y.work ++ frames })
    exec (.lmpPatternRead t c) s = .next { w with lamp := { w.lamp with
      reads := s.lamp.reads ++ [(c.f 0 1 0, ⟨s.takenCid t, c.f 0 4 2, c.f 0 5 5, c.f 1 11 0, c.f 1 24 16, []⟩)] } } := by
  refine next_plain (d := lmpPatternReadDef) h (p := .immediate) rfl (show 2 ≤ 248 by decide) rfl ?_ ?_
  · simp [lmpPatternReadDef, cmdBar, h7, h0, h490, hl, hn, hb, hk]
  · simp [lmpPatternReadDef, cmdBar]

/-! ### Injections -/

/-- AUX_INJECT passes its checks: its channels are of their converters, and in MUX of one multiplexer position. -/
theorem exec_auxInject (h : Sent 0x0B04 [0] s t c) (h0 : injectChans c ≠ [])
    (hc : ∀ x ∈ injectChans c, x.2 < (if s.auxMux then 64 else 16) ∧ s.auxConv x.2 = x.1)
    (hm : s.auxMux = true → ∀ x ∈ injectChans c, x.2 % 16 = ((injectChans c).headD (0, 0)).2 % 16) :
    exec (.auxInject t c) s = .next ((s.taken t 0x0B04 c).inject (s.takenCid t) c) := by
  refine next_plain (d := auxInjectDef) h (p := .immediate) rfl (show 1 ≤ 248 by decide) rfl ?_ (State.inject_padded ..)
  have hsome : (injectChans c).isEmpty = false := List.isEmpty_eq_false_iff.2 h0
  have hconv : (injectChans c).any (fun x => decide ((if s.auxMux then 64 else 16) ≤ x.2) || s.auxConv x.2 != x.1) = false :=
    List.any_eq_false.2 fun x hx => by simp [Nat.not_le.2 (hc x hx).1, (hc x hx).2]
  have hmux : (s.auxMux && (injectChans c).any (fun x => x.2 % 16 != ((injectChans c).headD (0, 0)).2 % 16)) = false := by
    cases hs : s.auxMux with
    | false => rfl
    | true => exact List.any_eq_false.2 fun x hx => by simp [hm hs x hx]
  simp only [auxInjectDef, injectChans_padded, failIf_eq_nil]
  exact Bool.or_eq_false_iff.2 ⟨Bool.or_eq_false_iff.2 ⟨hsome, hconv⟩, hmux⟩

/-! ### Work in the background -/

theorem exec_hltTrimStore (h : Sent 0x0D08 [0] s t c) (hb : (s.taken t 0x0D08 c).flashBusy = false) :
    exec (.hltTrimStore t c) s = .next ((s.taken t 0x0D08 c).defer (s.takenCid t)) :=
  next_plain (d := hltTrimStoreDef) h (p := .immediate) rfl (Nat.zero_le _) rfl (failIf_eq_nil.2 hb) rfl

theorem exec_askCal (h : Sent 0x0E02 [0] s t c) (hm : s.isMaster = true) (hu : s.ask.up = true) :
    exec (.askCal t c) s = .next (((s.taken t 0x0E02 c).defer (s.takenCid t)).lateCommit (s.takenCid t) .idle 0 [.askCal]) := by
  refine next_plain (d := askCalDef) h (p := .idle) ⟨rfl, by decide, by decide⟩ (Nat.zero_le _) rfl ?_ ?_
  · simp [askCalDef, hm, hu]
  · simp [askCalDef, taken_inGroup h.alone]

theorem exec_pwrKeepAlive (h : Sent 0x0F04 [0] s t c) (hr : s.cap.run = .closed) :
    exec (.pwrKeepAlive t c) s = .next ((s.taken t 0x0F04 c).defer (s.takenCid t)) :=
  next_plain (d := pwrKeepAliveDef) h (p := .immediate) rfl (Nat.zero_le _) rfl (failIf_eq_nil.2 (State.runOn_of_closed hr)) rfl

/-! ### Resets, faults and SAFE -/

theorem exec_sysCoreReset (h : Sent 0x0107 [0] s t c) :
    exec (.sysCoreReset t c) s = .next ((s.taken t 0x0107 c).coresReset 0 (some (s.takenCid t))) :=
  next_plain (d := sysCoreResetDef) h (p := .immediate) rfl (Nat.zero_le _) rfl rfl rfl

theorem exec_hltFaultAck (h : Sent 0x0D03 [0] s t c) : exec (.hltFaultAck t c) s =
    .next (((s.taken t 0x0D03 c).ackFaults (c.w64 0)).2.done (s.takenCid t) [w32 ((s.taken t 0x0D03 c).ackFaults (c.w64 0)).1]) :=
  next_plain (d := hltFaultAckDef) h (p := .immediate) rfl (show 2 ≤ 248 by decide) rfl rfl (by simp [hltFaultAckDef])

theorem exec_pwrSafeExit (h : Sent 0x0F03 [0] s t c) (hs : s.pwr.st = .safe) (hc : s.pwr.cleared = true) :
    exec (.pwrSafeExit t c) s = .next ((s.taken t 0x0F03 c).safeExit.done (s.takenCid t)) :=
  next_plain (d := pwrSafeExitDef) h (p := .immediate) rfl (Nat.zero_le _) rfl (by simp [pwrSafeExitDef, hs, hc])
    (by simp [pwrSafeExitDef])

theorem exec_pwrReset (h : Sent 0x0F05 [0] s t c) (hr : s.cap.run = .closed) :
    exec (.pwrReset t c) s = .next (({ s.taken t 0x0F05 c with
      pwr := { s.pwr with resetAt := some ((s.taken t 0x0F05 c).now + ms 1) } } : State).done (s.takenCid t)) :=
  next_plain (d := pwrResetDef) h (p := .immediate) rfl (Nat.zero_le _) rfl (failIf_eq_nil.2 (State.runOn_of_closed hr))
    (by simp [pwrResetDef, State.updPwr])

end

/-- Settles O22: each command passes its checks; AUX_INJECT goes by what waits and what holds it back. -/
theorem lampHealthAndPowerWork : Obligations.LampHealthAndPowerWork := by
  unfold Obligations.LampHealthAndPowerWork
  intro s t c
  refine ⟨exec_lmpPatternLoad, exec_lmpPatternRead, fun h h0 hc hm => ?_, exec_hltTrimStore, exec_askCal, exec_pwrKeepAlive,
    exec_sysCoreReset, exec_hltFaultAck, exec_pwrSafeExit, exec_pwrReset⟩
  have he := exec_auxInject h h0 hc hm
  exact ⟨fun hfull => he.trans (congrArg _ (State.inject_of_full (v := s.taken t 0x0B04 c) hfull)),
    fun hroom hq => he.trans (congrArg _ (State.inject_of_held (v := s.taken t 0x0B04 c) hroom hq)),
    fun hi hl hcal => he.trans (congrArg _ (State.inject_of_free (v := s.taken t 0x0B04 c) hi hl hcal))⟩

end Sys2Proof.Machine
end

section
/-! PROOFS. Commands that only read: the capture, the comparison, a queue and the arena (chapters 7 to 9). The fetch changes nothing that
their words show. -/

namespace Sys2Proof.Machine

/-! ### What the words read of the state before the fetch -/

section
variable (s : State) (t op : Nat) (c : Cmd)

@[simp] theorem taken_target (k : Int) : (s.taken t op c).target k = s.target k := rfl
@[simp] theorem taken_cmpState : (s.taken t op c).cmpState = s.cmpState := rfl
@[simp] theorem taken_queue (q : Nat) : (s.taken t op c).queue q = s.queue q := rfl
@[simp] theorem taken_arenaBase (i : Nat) : (s.taken t op c).arenaBase i = s.arenaBase i := rfl
@[simp] theorem taken_arenaSizes : (s.taken t op c).arenaSizes = s.arenaSizes := rfl
@[simp] theorem taken_histEnds : (s.taken t op c).histEnds = s.histEnds := rfl

end

section
variable {s : State} {t : Nat} {c : Cmd}

theorem exec_capStatus (h : Sent 0x0506 [0] s t c) : exec (.capStatus t c) s = s.answered t 0x0506 c s.capWords :=
  next_status h (by decide) (fun _ => rfl) (by simp [State.capWords])

theorem exec_cmpStatus (h : Sent 0x0604 [0] s t c) : exec (.cmpStatus t c) s = s.answered t 0x0604 c s.cmpWords :=
  next_status h (by decide) (fun _ => rfl) (by simp [State.cmpWords])

theorem exec_queueStatus (h : Sent 0x0704 [0] s t c) :
    exec (.queueStatus t c) s = s.answered t 0x0704 c (s.queue (c.f 0 15 0)).words :=
  next_status h (by decide) (fun _ => rfl) (by simp)

theorem exec_arenaStatus (h : Sent 0x0708 [0] s t c) : exec (.arenaStatus t c) s = s.answered t 0x0708 c s.arenaWords :=
  next_status h (by decide) (fun _ => rfl) (by simp [State.arenaWords])

end

/-- Settles O9: each command passes its checks, and its words are those of the state before the fetch. -/
theorem captureQueueAndArenaReads : Obligations.CaptureQueueAndArenaReads := by
  unfold Obligations.CaptureQueueAndArenaReads
  intro s t c
  exact ⟨exec_capStatus, exec_cmpStatus, exec_queueStatus, exec_arenaStatus⟩

end Sys2Proof.Machine
end

section
/-! PROOFS. Queues are set up, flushed and disabled, replays start and are released (R325, R348, R349, R362 to R366): each command passes
the checks of its definition, and its effect is the one that the definition states (log entry 90 for what a setup keeps of its queue,
which R325 leaves open). -/

namespace Sys2Proof.Machine

section
variable (s : State) (t op : Nat) (c : Cmd) (n : Nat)

/-! ### What the replay commands read of the state before the fetch -/

@[simp] theorem taken_exposed (k : Nat) : (s.taken t op c).exposed k = s.exposed k := rfl

/-! ### What absent words do not change -/

@[simp] theorem State.replaySpan_padded : s.replaySpan (c.padded n) = s.replaySpan c := by simp [State.replaySpan]
@[simp] theorem State.replayRange_padded : s.replayRange (c.padded n) = s.replayRange c := by simp [State.replayRange]
@[simp] theorem State.replayFails_padded : s.replayFails (c.padded n) = s.replayFails c := by simp [State.replayFails]
@[simp] theorem State.replayStart_padded (cid : Nat) : s.replayStart cid (c.padded n) = s.replayStart cid c := by
  simp [State.replayStart]
@[simp] theorem State.queueSetup_padded : s.queueSetup (c.padded n) = s.queueSetup c := by simp [State.queueSetup]

end

section
variable {s v : State} {t cid : Nat} {c : Cmd} {r : Replay}

/-! ### Queues -/

theorem exec_queueSetup (h : Sent 0x0701 [0] s t c) (hbase : c.w64 1 % 4096 = 0) (hsize : 4 ≤ c.f 3 3 0)
    (hstale : c.f 4 19 0 = 0 ∨ 10 ≤ c.f 4 19 0 ∧ c.f 4 19 0 ≤ 1000000) (hst : (s.queue (c.f 0 15 0)).st = .disabled) :
    exec (.queueSetup t c) s = .next (((s.taken t 0x0701 c).queueSetup c).doneNow (s.takenCid t)) := by
  refine next_plain (d := queueSetupDef) h (p := .immediate) rfl (show 5 ≤ 248 by decide) rfl ?_ (by simp [queueSetupDef])
  have hrange : (c.f 4 19 0 != 0 && (decide (c.f 4 19 0 < 10) || decide (1000000 < c.f 4 19 0))) = false := by
    rcases hstale with h0 | ⟨hlo, hhi⟩
    · simp [h0]
    · simp [Nat.not_lt.2 hlo, Nat.not_lt.2 hhi]
  simp [queueSetupDef, hbase, hsize, hrange, hst]

theorem exec_queueDisable (h : Sent 0x0702 [0] s t c) (hst : (s.queue (c.f 0 15 0)).st ≠ .disabled) :
    let f := (s.taken t 0x0702 c).flushQueue (c.f 0 15 0)
    exec (.queueDisable t c) s =
      .next ((f.2.updQueue (c.f 0 15 0) (fun x => { x with st := .disabled })).doneNow (s.takenCid t) [w32 f.1]) :=
  next_plain (d := queueDisableDef) h (p := .immediate) rfl (show 1 ≤ 248 by decide) rfl (by simp [queueDisableDef, hst])
    (by simp [queueDisableDef])

theorem exec_queueFlush (h : Sent 0x0703 [0] s t c) (hd : (s.queue (c.f 0 15 0)).st ≠ .disabled)
    (hf : (s.queue (c.f 0 15 0)).st ≠ .faulted) :
    let f := (s.taken t 0x0703 c).flushQueue (c.f 0 15 0)
    exec (.queueFlush t c) s = .next (f.2.doneNow (s.takenCid t) [w32 f.1]) :=
  next_plain (d := queueFlushDef) h (p := .immediate) rfl (show 1 ≤ 248 by decide) rfl (by simp [queueFlushDef, hd, hf])
    (by simp [queueFlushDef])

/-! ### Replays -/

theorem exec_histReplay (h : Sent 0x0709 [0] s t c) (hf : (s.taken t 0x0709 c).replayFails c = []) :
    exec (.histReplay t c) s = .next ((s.taken t 0x0709 c).replayStart (s.takenCid t) c) := by
  have hn : histReplayDef.need c ≤ 248 := by
    simp only [histReplayDef]
    split <;> decide
  exact next_plain (d := histReplayDef) h (p := .immediate) rfl hn rfl (by simpa [histReplayDef] using hf) (State.replayStart_padded ..)

/-- A replay that is to be copied is deferred. -/
theorem State.replayStart_of_copy (hc : c.b 0 0 = false) :
    let g := v.replayRange c
    let x : Replay := ⟨cid, g.2.2.hq.nextHandle, false, c.f 0 2 2, (g.1.filter (fun h => !h.hole)).map (fun h => h.line),
      g.2.2.cap.runCount, g.2.1, (g.1.filter (fun h => h.hole)).length, c.f 5 19 0, c.f 6 19 0, c.w64 7, c.w 9⟩
    v.replayStart cid c = ({ g.2.2 with hq := { g.2.2.hq with
      replays := g.2.2.hq.replays ++ [x], nextHandle := (g.2.2.hq.nextHandle + 1) % 2 ^ 32 } } : State).defer cid := by
  simp [State.replayStart, State.updHq, hc]

theorem exec_histRelease (h : Sent 0x070A [0] s t c) (hr : s.exposed (c.w 0) = some r) :
    exec (.histRelease t c) s = .next (({ s.taken t 0x070A c with hq := { s.hq with
      replays := s.hq.replays.filter (fun x => x.handle != r.handle) } } : State).reply (s.takenCid t) (if r.lost = 0 then 0 else 3) 0
        [w32 r.lost]) :=
  next_plain (d := histReleaseDef) h (p := .immediate) rfl (show 1 ≤ 248 by decide) rfl (by simp [histReleaseDef, hr])
    (by simp [histReleaseDef, hr, State.updHq])

end

/-- Settles O23: each command passes its checks; a replay that is to be copied is registered and deferred. -/
theorem queuesAndHistory : Obligations.QueuesAndHistory := by
  unfold Obligations.QueuesAndHistory
  intro s t c r
  exact ⟨exec_queueSetup, exec_queueDisable, exec_queueFlush,
    fun h hf hc => (exec_histReplay h hf).trans (congrArg _ (State.replayStart_of_copy hc)),
    fun h hf _ => exec_histReplay h hf, exec_histRelease⟩

end Sys2Proof.Machine
end

section
/-! PROOFS. A queue's consumer index, its credit and its wait window (R336, R337, R345, R346), where its two index copies agree (R350). -/

namespace Sys2Proof.Machine

/-! ### What the reports and the rules of a queue leave alone -/

@[simp] theorem State.barOk_advance (s : State) (t : Nat) : (s.advance t).barOk = s.barOk := rfl
@[simp] theorem State.queue_advance (s : State) (t q : Nat) : (s.advance t).queue q = s.queue q := rfl

@[simp] theorem State.queue_count (s : State) (x : Ctr) (i n q : Nat) : (s.count x i n).queue q = s.queue q := by
  rw [State.queue, State.count_hq, State.queue]

@[simp] theorem State.queue_raise (s : State) (e : Ev) (d q : Nat) : (s.raise e d).queue q = s.queue q := by
  rw [State.queue, State.raise_hq, State.queue]

section
variable {s w : State} {t q v n : Nat}

theorem State.checkQueue_of_agree (h : (w.queue q).split = false) : w.checkQueue q = w := by
  simp [State.checkQueue, h]

theorem State.clampCredit_of_le (h : (w.queue q).credit ≤ (w.queue q).free) : w.clampCredit q = w := if_pos h

theorem State.clampCredit_of_gt (h : (w.queue q).free < (w.queue q).credit) : w.clampCredit q =
    ((w.updQueue q (fun x => { x with credit := x.free })).count .HQ_CREDIT_OVER).raise .HQ_CREDIT_OVER q :=
  if_neg (Nat.not_le.2 h)

theorem State.clampCredit_cons : ((w.clampCredit q).queue q).cons = (w.queue q).cons := by
  rcases Nat.lt_or_ge (w.queue q).free (w.queue q).credit with h | h
  · simp [State.clampCredit_of_gt h]
  · rw [State.clampCredit_of_le h]

/-! ### The consumer index (R337) -/

/-- An index that the rule accepts becomes the consumer index. -/
theorem State.consWrite_cons (hs : (w.queue q).split = false) (hv : v < 65536) (hc : (w.queue q).cons < 65536)
    (h : (v + 65536 - (w.queue q).cons) % 65536 ≤ ((w.queue q).pub + 65536 - (w.queue q).cons) % 65536) :
    ((w.consWrite q v).queue q).cons = v := by
  simp only [State.consWrite, State.checkQueue_of_agree hs, if_neg (Nat.not_lt.2 h)]
  split
  next hstay => omega
  next =>
    split
    · simp [State.clampCredit_cons]
    · simp

theorem State.consWrite_of_beyond (hs : (w.queue q).split = false)
    (h : ((w.queue q).pub + 65536 - (w.queue q).cons) % 65536 < (v + 65536 - (w.queue q).cons) % 65536) :
    w.consWrite q v = w.count .HQ_CONS_BAD := by
  simp only [State.consWrite, State.checkQueue_of_agree hs, if_pos h]

theorem exec_hqConsWrite (hb : s.barOk = true) (hq : q < 65536) :
    exec (.hqConsWrite t q v) s = .next ((s.advance t).consWrite q (v % 65536)) := by
  show execHqConsWrite t q v s = _
  simp [execHqConsWrite, nextAt, hb, hq]

/-! ### Credit grants (R336) -/

/-- The free blocks go by the indices alone. -/
@[simp] theorem Queue.free_credit (x : Queue) (k : Nat) : ({ x with credit := k } : Queue).free = x.free := rfl

theorem State.grantWrite_of_fits (hs : (w.queue q).split = false) (h : (w.queue q).credit + n ≤ (w.queue q).free) :
    w.grantWrite q n = w.updQueue q (fun y => { y with credit := y.credit + n }) := by
  simp only [State.grantWrite, State.checkQueue_of_agree hs]
  exact State.clampCredit_of_le (by simpa using h)

theorem State.grantWrite_of_over (hs : (w.queue q).split = false) (h : (w.queue q).free < (w.queue q).credit + n) :
    w.grantWrite q n = (((w.updQueue q (fun y => { y with credit := y.credit + n })).updQueue q
      (fun x => { x with credit := x.free })).count .HQ_CREDIT_OVER).raise .HQ_CREDIT_OVER q := by
  simp only [State.grantWrite, State.checkQueue_of_agree hs]
  exact State.clampCredit_of_gt (by simpa using h)

theorem exec_hqGrantWrite (hb : s.barOk = true) (hq : q < 65536) (hn : n < 65536) :
    exec (.hqGrantWrite t q n) s = .next ((s.advance t).grantWrite q n) := by
  show execHqGrantWrite t q n s = _
  simp [execHqGrantWrite, nextAt, hb, hq, Nat.mod_eq_of_lt hn]

/-! ### Wait windows (R345, R346) -/

theorem Queue.isEmpty_iff {x : Queue} : x.isEmpty = true ↔ x.pub = x.cons := by simp [Queue.isEmpty]

theorem State.waitAnswer_host (busy : Bool) : (w.waitAnswer q busy).host =
    { w.host with lastRead := ⟨0x500000 + 4 * q, leBytes 4 ((w.queue q).waitWord busy), false⟩ } := rfl

theorem State.waitAnswer_queue (busy : Bool) :
    (w.waitAnswer q busy).queue q = { w.queue q with flushed := false, fault := false } :=
  w.queue_updQueue q (fun x => { x with flushed := false, fault := false })

theorem State.waitRead_of_data (hs : (w.queue q).split = false) (h : (w.queue q).pub ≠ (w.queue q).cons) :
    w.waitRead q = w.waitAnswer q false := by
  simp [State.waitRead, State.checkQueue_of_agree hs, Queue.isEmpty, h]

theorem State.waitRead_of_busy (hs : (w.queue q).split = false) (h : (w.queue q).pub = (w.queue q).cons)
    (hw : 256 ≤ w.host.waits.length) : w.waitRead q = w.waitAnswer q true := by
  simp [State.waitRead, State.checkQueue_of_agree hs, Queue.isEmpty, h, hw]

theorem State.waitRead_of_stall (hs : (w.queue q).split = false) (h : (w.queue q).pub = (w.queue q).cons)
    (hw : w.host.waits.length < 256) : w.waitRead q =
      w.updHost (fun h => { h with waits := h.waits ++ [⟨q, w.now, false⟩], lastRead := ⟨0x500000 + 4 * q, [], false⟩ }) := by
  simp [State.waitRead, State.checkQueue_of_agree hs, Queue.isEmpty, h, Nat.not_le.2 hw]

theorem exec_waitWindowRead (hb : s.barOk = true) (hq : q < 65536) :
    exec (.waitWindowRead t q) s = .next ((s.advance t).waitRead q) := by
  show execWaitWindowRead t q s = _
  simp [execWaitWindowRead, nextAt, hb, hq]

/-- Answers count nothing, and the reads that stall stay. -/
theorem foldl_waitAnswer_frame (q : Nat) : ∀ (ys : List WaitRead) (w : State),
    (ys.foldl (fun (u : State) _ => u.waitAnswer q false) w).cnt = w.cnt ∧
    (ys.foldl (fun (u : State) _ => u.waitAnswer q false) w).host.waits = w.host.waits
  | [], _ => ⟨rfl, rfl⟩
  | _ :: ys, w => foldl_waitAnswer_frame q ys (w.waitAnswer q false)

theorem State.waitRelease_cnt : (w.waitRelease q).cnt = w.cnt := (foldl_waitAnswer_frame q _ _).1

/-- A read of the queue that still stalls after a release is not due, and finds the queue empty. -/
theorem State.mem_waitRelease {y : WaitRead} (h : y ∈ (w.waitRelease q).host.waits) :
    y ∈ w.host.waits ∧ (y.q = q → y.due = false ∧ (w.queue q).pub = (w.queue q).cons) := by
  rw [State.waitRelease, (foldl_waitAnswer_frame q _ _).2, State.updHost_host] at h
  obtain ⟨hmem, hstay⟩ := List.mem_filter.1 h
  refine ⟨hmem, fun hy => ?_⟩
  have hout : (y.due || !(w.queue q).isEmpty) = false := by simpa [hmem, hy] using hstay
  obtain ⟨hdue, hempty⟩ := Bool.or_eq_false_iff.1 hout
  exact ⟨hdue, Queue.isEmpty_iff.1 (by simpa using hempty)⟩

/-- The read whose limit has passed leaves, counted. -/
theorem State.waitExpire_of_late {y : WaitRead}
    (h : w.host.waits.find? (fun (y : WaitRead) => y.q == q && decide (y.at_ + us (w.p .HQ_WAIT_LIMIT) ≤ w.now)) = some y) :
    w.waitExpire q =
      ((w.updHost (fun h => { h with waits := h.waits.erase y })).count .HQ_WAIT_TIMEOUTS).waitAnswer q false := by
  rw [State.waitExpire, h]

end

/-- Settles O28: an index that the rule accepts is taken, any other is counted. -/
theorem consumerIndexRule : Obligations.ConsumerIndexRule := by
  unfold Obligations.ConsumerIndexRule
  intro s t q v hb hq hs
  have he := exec_hqConsWrite (t := t) (v := v) hb hq
  exact ⟨fun h hc => ⟨_, he, State.consWrite_cons (w := s.advance t) hs (Nat.mod_lt _ (by decide)) hc h⟩,
    fun h => he.trans (congrArg _ (State.consWrite_of_beyond (w := s.advance t) hs (Nat.lt_of_not_le h)))⟩

/-- Settles O29: a grant goes by the clamp, a read by what the queue holds and how many reads stall, a release by what keeps a read
stalled, an expiry by the read whose limit has passed. -/
theorem creditsAndWaitWindows : Obligations.CreditsAndWaitWindows := by
  unfold Obligations.CreditsAndWaitWindows
  intro s t q n hb hq hs
  have hread := exec_waitWindowRead (t := t) hb hq
  have hs' : ((s.advance t).queue q).split = false := hs
  exact ⟨fun hn h => (exec_hqGrantWrite hb hq hn).trans (congrArg _ (State.grantWrite_of_fits hs' h)),
    fun hn h => ⟨_, (exec_hqGrantWrite hb hq hn).trans (congrArg _ (State.grantWrite_of_over hs' h)), by simp, rfl⟩,
    fun h => ⟨_, hread.trans (congrArg _ (State.waitRead_of_data hs' h)), State.waitAnswer_host _, State.waitAnswer_queue _⟩,
    fun h hw => ⟨_, hread.trans (congrArg _ (State.waitRead_of_busy hs' h hw)), State.waitAnswer_host _, State.waitAnswer_queue _⟩,
    fun h hw => ⟨_, hread.trans (congrArg _ (State.waitRead_of_stall hs' h hw)), rfl, rfl, rfl⟩,
    ⟨_, rfl, State.waitRelease_cnt, fun _ => State.mem_waitRelease⟩,
    fun y hy => ⟨_, congrArg Host.Outcome.next (State.waitExpire_of_late hy), by simp [State.waitAnswer_host], rfl⟩⟩

end Sys2Proof.Machine
end

section
/-! PROOFS. The BAR2 window (R368, R284): what a read answers, and which writes are discarded and which reach DRAM (log entry 84 for a write
that is judged whole and for the slots in use, which the rules leave open). -/

namespace Sys2Proof.Machine

section
variable {s w : State} {t off n i : Nat} {data : List Byte}

/-! ### Reads -/

theorem exec_bar2Read (hb : s.barOk = true) : exec (.bar2Read t off n) s = .next ((s.advance t).bar2Read off n) := by
  show execBar2Read t off n s = _
  simp [execBar2Read, nextAt, hb]

/-- A read that the memory answers without error. -/
theorem State.bar2Read_of_good {a k : Nat} (ha : w.bar2Addr off = a) (hk : min n (w.installed - a) = k) (hc : w.clockOk 4 = true)
    (hu : ∀ u ∈ w.cmp.refUe, ¬(a < u + 64 ∧ u < a + k)) : w.bar2Read off n = w.updHost (fun h => { h with
      lastRead := ⟨off, Sparse.bytes w.dram a k ++ List.replicate (n - k) 0, false⟩ }) := by
  have hbad : (w.cmp.refUe.any fun u => decide (a < u + 64) && decide (u < a + k)) = false :=
    List.any_eq_false.2 fun u hmem => by simpa using hu u hmem
  simp [State.bar2Read, ha, hk, hc, hbad]

/-! ### Writes -/

theorem exec_bar2Write (hb : s.barOk = true) : exec (.bar2Write t off data) s = .next ((s.advance t).bar2Write off data) := by
  show execBar2Write t off data s = _
  simp [execBar2Write, nextAt, hb]

/-- A write beyond the installed memory. -/
theorem State.bar2Write_of_beyond (h : w.installed < w.bar2Addr off + data.length) : w.bar2Write off data = w := if_pos (.inr h)

section
variable {a : Nat} (ha : w.bar2Addr off = a) (h0 : data.length ≠ 0) (hin : a + data.length ≤ w.installed)
include ha h0 hin

/-- A write past the libraries. -/
theorem State.bar2Write_of_blocked (h : w.arenaByte 2 < a + data.length) :
    w.bar2Write off data = (w.count .HIS_BAR2_BLOCKED).raise .HIS_BAR2_BLOCKED := by
  simp [State.bar2Write, ha, h0, Nat.not_lt.2 hin, h]

theorem State.bar2Write_of_held (hlib : a + data.length ≤ w.arenaByte 2)
    (h : ∃ i ∈ w.slotsAt a data.length, w.slotHeld i = true) : w.bar2Write off data = w.count .CMP_REF_WRITES_BLOCKED := by
  simp [State.bar2Write, ha, h0, Nat.not_lt.2 hin, Nat.not_lt.2 hlib, h]

/-- A write into slots that nothing holds: their bytes are stored, and what was known of the slots is dropped. -/
theorem State.bar2Write_of_free (hlib : a + data.length ≤ w.arenaByte 2)
    (h : ∀ i ∈ w.slotsAt a data.length, w.slotHeld i = false) : w.bar2Write off data =
      (w.updCmp (fun c => { c with
        resident := c.resident.filter (fun i => !(w.slotsAt a data.length).contains i),
        ready := c.ready.filter (fun i => !(w.slotsAt a data.length).contains i),
        refUe := c.refUe.filter (fun x => !(decide (a ≤ x) && decide (x < a + data.length))) })).dramWrite a data := by
  have hfree : ((w.slotsAt a data.length).any fun i => w.slotHeld i) = false := List.any_eq_false.2 fun i hi => by simp [h i hi]
  simp [State.bar2Write, ha, h0, Nat.not_lt.2 hin, Nat.not_lt.2 hlib, hfree]

end

end

theorem mem_filter_not_contains {i : Nat} {l slots : List Nat} :
    i ∈ l.filter (fun i => !slots.contains i) ↔ i ∈ l ∧ i ∉ slots := by
  simp

/-- Settles O30: a read is DRAM's bytes where the memory answers, a write goes by the first bound that it passes or by the slots that it
touches, and one into slots that nothing holds stores its bytes and drops what was known of them. -/
theorem bar2Window : Obligations.Bar2Window := by
  unfold Obligations.Bar2Window
  intro s t off n data hb
  have hw := exec_bar2Write (t := t) (off := off) (data := data) hb
  exact ⟨fun hc hu => (exec_bar2Read hb).trans (congrArg _ (State.bar2Read_of_good rfl rfl hc hu)),
    fun h => hw.trans (congrArg _ (State.bar2Write_of_beyond h)),
    fun h0 hin h => hw.trans (congrArg _ (State.bar2Write_of_blocked rfl h0 hin h)),
    fun h0 hin hlib h => hw.trans (congrArg _ (State.bar2Write_of_held rfl h0 hin hlib h)),
    fun h0 hin hlib h => ⟨_, hw.trans (congrArg _ (State.bar2Write_of_free rfl h0 hin hlib h)),
      fun b => Sparse.get_write_outside data _ _ b, fun i hi => Sparse.get_write_inside data _ _ i hi,
      fun i hi => ⟨fun k => (mem_filter_not_contains.1 k).2 hi, fun k => (mem_filter_not_contains.1 k).2 hi⟩,
      fun i hi => ⟨mem_filter_not_contains.trans (and_iff_left hi), mem_filter_not_contains.trans (and_iff_left hi)⟩, rfl⟩⟩

end Sys2Proof.Machine
end

section
/-! PROOFS. Host commands that are not carried out: those that cannot be fetched (R448 to R451, R457, R465; log entries 2 and 18 for what
a row stands for and which ring goes first), and those that the checks shared by every command refuse (R450, R455, R480, R493). -/

namespace Sys2Proof.Machine

/-- A failure of a bare command that its header, its ring or the want of an envelope gives. -/
def SharedFail (d : CmdDef) (v : State) (c : Cmd) (g : Nat × Nat) : Prop :=
  g ∈ v.commonFails d (c.padded (d.need c)) (d.writes v (c.padded (d.need c))) ∨ (d.op / 256 = 0x0C ∧ c.ring ≠ 3 ∧ g = (0x13, 0)) ∨
    (v.needsEnvelope d.op c.words = true ∧ g = (0x20, 0))

section
variable {d : CmdDef} {s v : State} {t cid : Nat} {c : Cmd} {g : Nat × Nat}

theorem runHost_of_unfetched (h : (s.advance t).fetchable c = false) : runHost d t c s = s.advance t := by
  simp [runHost, h]

/-- A bare command that is fetched is judged in the state that its fetch leaves. -/
theorem runHost_of_bare (hf : (s.advance t).fetchable c = true) (hb : c.envelope = false) :
    runHost d t c s = (s.taken t d.op c).judge d (s.takenCid t) c false := by
  simp [runHost, hf, hb, State.taken, State.takenCid]

/-- A header with another device's number fails the check of the target. -/
theorem sharedFail_of_device (h : c.dev ≠ natField v.pwr.straps 3 1) : SharedFail d v c (0x12, 0) :=
  .inl (List.mem_append_right _ (by simp [h]))

/-- The answer's status is no greater than that of any shared failure, and only a status beyond 0x14 gives way to that of a full audit
buffer (R493). -/
theorem judge_of_sharedFail (alone : v.groupOn c.ring = none) (ok : ∀ s c ctx, Refusals (d.fails s c ctx)) (m : SharedFail d v c g) :
    ∃ f : Nat × Nat, 0x11 ≤ f.1 ∧ f.1 ≤ g.1 ∧ (v.judge d cid c false = v.reply cid f.1 f.2 ∨
      f.1 = 0x14 ∧ 0x14 < g.1 ∧ v.judge d cid c false = ((v.count .SEC_AUDIT_REFUSED).raise .SEC_AUDIT_FULL).reply cid f.1 f.2) := by
  refine judge_refused alone ok ?_
  rcases m with hc | ⟨hop, hr, rfl⟩ | ⟨he, rfl⟩
  · exact List.mem_append_left _ (List.mem_append_left _ hc)
  · exact List.mem_append_left _ (List.mem_append_right _ (by simp [hop, hr]))
  · exact List.mem_append_right _ (by simp [needsEnvelope_padded, he])

/-- A shared failure of a status up to 0x14 leads to a reply and nothing else. -/
theorem judge_of_early_sharedFail (alone : v.groupOn c.ring = none) (ok : ∀ s c ctx, Refusals (d.fails s c ctx)) (h14 : g.1 ≤ 0x14)
    (m : SharedFail d v c g) : ∃ st k, 0x11 ≤ st ∧ st ≤ g.1 ∧ v.judge d cid c false = v.reply cid st k := by
  obtain ⟨f, hlo, hhi, hj | ⟨-, hlt, -⟩⟩ := judge_of_sharedFail alone ok m
  · exact ⟨f.1, f.2, hlo, hhi, hj⟩
  · exact absurd hlt (Nat.not_lt.2 h14)

end

/-- Settles O5: every host command runs by a definition, and one that cannot be fetched leaves the state of its instant. -/
theorem unfetchedCommandsWait : Obligations.UnfetchedCommandsWait := by
  unfold Obligations.UnfetchedCommandsWait
  intro i s t c hp hf
  obtain ⟨d, -, -, hrun⟩ := exec_runHost hp
  rw [hrun, runHost_of_unfetched hf]

/-- Settles O6: every host command runs by a definition whose failures are error statuses, and the first that applies is the answer. -/
theorem refusedCommandsOnlyReply : Obligations.RefusedCommandsOnlyReply := by
  unfold Obligations.RefusedCommandsOnlyReply
  intro i s t c hp hf hb alone
  obtain ⟨d, hop, ok, hrun⟩ := exec_runHost hp
  simp only [hrun, runHost_of_bare hf hb, hop, Host.Outcome.next.injEq]
  have alone' : (s.taken t i.opcode c).groupOn c.ring = none := alone
  exact ⟨judge_count alone' ok, fun hd => judge_of_early_sharedFail alone' ok (by decide) (sharedFail_of_device hd),
    fun hg hr => judge_of_early_sharedFail alone' ok (by decide) (.inr (.inl ⟨hop ▸ hg, hr, rfl⟩)), fun he => by
      obtain ⟨f, hlo, hhi, hj⟩ := judge_of_sharedFail alone' ok (cid := s.takenCid t) (.inr (.inr ⟨hop ▸ he, rfl⟩))
      exact ⟨f.1, f.2, hlo, hhi, hj.imp_right fun ⟨h14, _, h⟩ => ⟨h14, h⟩⟩⟩

end Sys2Proof.Machine
end

section
/-! PROOFS. The Function Level Reset (R470; log entry 8 for what the MSI-X table holds after it): what it ends and empties, and that the
run and the parameters it does not name go on. -/

namespace Sys2Proof.Machine

/-! ### Rings -/

theorem State.ring_st_ringDisable_self (s : State) (r : Nat) : ((s.ringDisable r).ring r).st = .disabled := by
  by_cases h : r < s.host.rings.length
  · rw [State.ring, State.ringDisable, State.updRing, getD_upd_self _ _ _ _ h]
  · have hl : (upd s.host.rings r (fun x => { x with st := .disabled })).length ≤ r := by simpa using h
    rw [State.ring, State.ringDisable, State.updRing, List.getD_eq_default _ _ hl]
    rfl

theorem State.ring_ringDisable_ne (s : State) {r k : Nat} (h : k ≠ r) : (s.ringDisable r).ring k = s.ring k :=
  getD_upd_ne _ _ _ _ _ h

/-- A ring that is disabled, or is among those being disabled, is disabled in the end. -/
theorem foldl_ringDisable_st {k : Nat} : ∀ (l : List Nat) (s : State), k ∈ l ∨ (s.ring k).st = .disabled →
    ((l.foldl (fun (s : State) r => s.ringDisable r) s).ring k).st = .disabled
  | [], _, h => h.resolve_left List.not_mem_nil
  | r :: l, s, h => by
    refine foldl_ringDisable_st l (s.ringDisable r) ?_
    by_cases e : k = r
    · exact .inr (e ▸ s.ring_st_ringDisable_self r)
    · rw [s.ring_ringDisable_ne e]
      exact h.imp_left fun m => (List.mem_cons.1 m).resolve_left e

/-- Disabling rings changes the rings only. -/
theorem foldl_ringDisable_eq : ∀ (l : List Nat) (s : State),
    ∃ x, l.foldl (fun (s : State) r => s.ringDisable r) s = s.updHost (fun h => { h with rings := x })
  | [], s => ⟨s.host.rings, rfl⟩
  | r :: l, s => by
    obtain ⟨x, hx⟩ := foldl_ringDisable_eq l (s.ringDisable r)
    exact ⟨x, hx⟩

/-! ### Parameters -/

theorem Par.ctorIdx_inj {p q : Par} (h : p.ctorIdx = q.ctorIdx) : p = q := by
  rw [← Par.ofNat_ctorIdx p, h, Par.ofNat_ctorIdx]

theorem Par.ctorIdx_lt (p : Par) : p.ctorIdx < 512 := by cases p <;> decide

theorem Par.key_mod (p : Par) (i : Nat) : p.key i % 512 = p.ctorIdx := by
  rw [Par.key, Nat.add_mul_mod_self_left, Nat.mod_eq_of_lt p.ctorIdx_lt]

/-- A map whose entries at a key are all kept reads there as before. -/
theorem Sparse.get_filter_of_kept {α : Type} {p : Nat × α → Bool} {d : α} {k : Nat} (h : ∀ x, p (k, x) = true) :
    ∀ m : Sparse α, Sparse.get (m.filter p) d k = Sparse.get m d k
  | [] => rfl
  | (j, v) :: m => by
    have ih := Sparse.get_filter_of_kept (d := d) h m
    by_cases hj : j = k
    · subst hj
      simp [Sparse.get, h]
    · cases hp : p (j, v) <;> simp [Sparse.get, hp, hj, ih]

/-- A map whose entries at a key are all dropped reads there as an unlisted key. -/
theorem Sparse.get_filter_of_dropped {α : Type} {p : Nat × α → Bool} {d : α} {k : Nat} (h : ∀ x, p (k, x) = false) :
    ∀ m : Sparse α, Sparse.get (m.filter p) d k = d
  | [] => rfl
  | (j, v) :: m => by
    have ih := Sparse.get_filter_of_dropped (d := d) h m
    by_cases hj : j = k
    · subst hj
      simp [h, ih]
    · cases hp : p (j, v) <;> simp [Sparse.get, hp, hj, ih]

/-- The store with the parameters of a Function Level Reset dropped. -/
def flrStore (m : Sparse Nat) : Sparse Nat := m.filter (fun e => !flrPars.any (fun p => p.ctorIdx == e.1 % 512))

theorem flrPars_any_key (p : Par) (i : Nat) : (flrPars.any fun q => q.ctorIdx == p.key i % 512) = true ↔ p ∈ flrPars := by
  simp only [Par.key_mod, List.any_eq_true, beq_iff_eq]
  exact ⟨fun ⟨q, hq, e⟩ => Par.ctorIdx_inj e ▸ hq, fun h => ⟨p, h, rfl⟩⟩

theorem parGet_flrStore_of_mem {p : Par} (h : p ∈ flrPars) (m : Sparse Nat) (i : Nat) : parGet (flrStore m) p i = p.resetOf i :=
  Sparse.get_filter_of_dropped (fun _ => by simp [(flrPars_any_key p i).2 h]) m

theorem parGet_flrStore_of_not_mem {p : Par} (h : p ∉ flrPars) (m : Sparse Nat) (i : Nat) : parGet (flrStore m) p i = parGet m p i :=
  Sparse.get_filter_of_kept (fun _ => by simpa using fun e => h ((flrPars_any_key p i).1 e)) m

/-! ### The parts of a Function Level Reset -/

/-- The rings disabled and the completion store emptied. -/
def State.flrRings (s : State) : State :=
  let s := (List.range 6).foldl (fun (s : State) r => s.ringDisable r) s
  let dead := s.host.store.filter (fun c => c.final)
  s.updHost (fun h => { h with store := [], outst := h.outst.filter (fun o => !dead.any (fun c => c.cid == o.cid)) })

/-- Every queue that takes packets flushed and disabled. -/
def State.flrQueues (s : State) : State :=
  ((s.hq.queues.filter (fun q => q.2.st == .enabled || q.2.st == .flushing)).map (fun q => q.1)).foldl
    (fun (s : State) q => (s.flushQueue q).2.updQueue q (fun x => { x with st := .disabled })) s

/-- The spill area, the stalled reads and the replays gone. -/
def State.flrStores (s : State) : State :=
  let s := s.updHost (fun h => { h with spill := [], spillUsed := 0, waits := [] })
  { s with hq := { s.hq with replays := [], draining := false, spillRaised := false, spillFullRaised := false } }

/-- What waits ended with its commands, and the MSI-X table and the parameters reset. -/
def State.flrWork (s : State) : State :=
  let shadows := s.seq.pends.map (fun p => p.cid) ++ (match s.cap.arm with
    | some a => [a.cid]
    | none => [])
  let copies := s.host.outst.filter (fun o => o.opcode == 0x0709)
  let gone := shadows ++ copies.map (fun o => o.cid) ++ s.seq.groups.flatMap (fun g => g.ended.toList)
  let s := s.dropShadows.cutArm
  let s := s.updHost (fun h => { h with
    outst := h.outst.filter (fun o => !gone.contains o.cid), vecs := h.vecs.map (fun _ => MsixVec.reset) })
  { s with par := flrStore s.par }

theorem State.flr_eq (s : State) : s.flr = s.flrRings.flrQueues.flrStores.flrWork.count .SYS_FLRS := rfl

theorem State.flrRings_ring (s : State) {r : Nat} (h : r < 6) : (s.flrRings.ring r).st = .disabled :=
  foldl_ringDisable_st (List.range 6) s (.inl (List.mem_range.2 h))

theorem State.flrRings_eq (s : State) : ∃ x y, s.flrRings = s.updHost (fun h => { h with rings := x, store := [], outst := y }) := by
  obtain ⟨x, hx⟩ := foldl_ringDisable_eq (List.range 6) s
  exact ⟨x, _, by rw [State.flrRings, hx]; rfl⟩

theorem State.flrQueues_mild (s : State) : Mild s s.flrQueues :=
  Mild.foldl (fun s q => ((Mild.refl s).flushQueue q).updQueue q _) _ s

/-- After the last part only the lamps' uploads, the outstanding commands, what waited, the vectors and the parameters may differ. -/
theorem State.flrWork_eq (s : State) : ∃ x y, s.flrWork = { s with
    seq := { s.seq with pends := [], groups := [] }, cap := { s.cap with arm := none }, lamp := x, par := flrStore s.par,
    host := { s.host with outst := y, vecs := s.host.vecs.map (fun _ => MsixVec.reset) } } := by
  obtain ⟨x, hx⟩ := s.dropShadows.cutArm_eq
  exact ⟨x, _, by rw [State.flrWork, hx]; rfl⟩

theorem exec_functionLevelReset {s : State} {t : Nat} (hb : s.barOk = true) :
    exec (.functionLevelReset t) s = .next (s.advance t).flr := by
  show execFunctionLevelReset t s = _
  simp [execFunctionLevelReset, nextAt, hb]

/-- Settles O35: each part of the reset ends what it names, and the flush of the queues leaves the run and the configuration alone. -/
theorem functionLevelReset : Obligations.FunctionLevelReset := by
  unfold Obligations.FunctionLevelReset
  intro s t hb
  have hmild := (s.advance t).flrRings.flrQueues_mild
  obtain ⟨x, y, hrings⟩ := (s.advance t).flrRings_eq
  have hpar : (s.advance t).flrRings.flrQueues.par = s.par := by rw [hmild.par, hrings]; rfl
  have hrun : (s.advance t).flrRings.flrQueues.cap.run = s.cap.run := by rw [hmild.run, hrings]; rfl
  have hstore : (s.advance t).flrRings.flrQueues.host.store = [] := by rw [hmild.store, hrings]; rfl
  have hring (r : Nat) (hr : r < 6) : ((s.advance t).flrRings.flrQueues.ring r).st = .disabled :=
    (hmild.rings r).trans (State.flrRings_ring _ hr)
  refine ⟨_, (exec_functionLevelReset hb).trans (congrArg _ (State.flr_eq _)), ?_⟩
  generalize (s.advance t).flrRings.flrQueues = v at hpar hrun hstore hring
  obtain ⟨x, y, hwork⟩ := v.flrStores.flrWork_eq
  rw [hwork]
  refine ⟨hring, hstore, rfl, rfl, rfl, rfl, rfl, rfl, rfl, fun m hm => ?_, fun p hp i => ?_, fun p hp i => ?_, hrun⟩
  · obtain ⟨_, -, rfl⟩ := List.mem_map.1 hm
    rfl
  · exact parGet_flrStore_of_mem hp v.par i
  · exact (parGet_flrStore_of_not_mem hp v.par i).trans (by rw [hpar]; rfl)

end Sys2Proof.Machine
end

section
/-! PROOFS. Commands that only read: the system, the sequencer, the encoders and the time base (chapters 2, 3 and 12; log entries 3 and 37
for the busy figures, which are free values). The fetch changes nothing that their words show. -/

namespace Sys2Proof.Machine

/-! ### What the words read of the state before the fetch -/

section
variable (s : State) (t op : Nat) (c : Cmd)

@[simp] theorem taken_evSrc (x : Nat) : (s.taken t op c).evSrc x = s.evSrc x := rfl
@[simp] theorem taken_infoWords : (s.taken t op c).infoWords = s.infoWords := rfl
@[simp] theorem taken_counterWords (g : Nat) : (s.taken t op c).counterWords g = s.counterWords g := rfl
@[simp] theorem taken_shadowConfig : (s.taken t op c).shadowConfig = s.shadowConfig := rfl

end

section
variable {s : State} {t : Nat} {c : Cmd}

/-! ### The system -/

theorem exec_sysNop (h : Sent 0x0101 [0] s t c) : exec (.sysNop t c) s = s.answered t 0x0101 c c.words :=
  next_plain (d := sysNopDef) h (p := .immediate) rfl (Nat.zero_le _) rfl rfl (by simp [sysNopDef])

theorem exec_sysInfo (h : Sent 0x0102 [0] s t c) : exec (.sysInfo t c) s = s.answered t 0x0102 c s.infoWords :=
  next_status h (by decide) (fun _ => rfl) (by simp)

theorem exec_sysStatus (h : Sent 0x0106 [0] s t c) : exec (.sysStatus t c) s =
    .next ((s.taken t 0x0106 c).takeLoad.2.done (s.takenCid t)
      (Word.ofNat64 (s.taken t 0x0106 c).takeLoad.1 ++ (s.taken t 0x0106 c).takeLoad.2.statusWords)) :=
  next_plain (d := sysStatusDef) h (p := .immediate) rfl (Nat.zero_le _) rfl rfl rfl

/-- EVT_READ answers the counts of its sources, and clears them where bit 31 asks for it. -/
theorem exec_evtRead (h : Sent 0x0105 [0] s t c) (h0 : c.f 0 25 16 ≠ 0) (h248 : c.f 0 25 16 ≤ 248) (h600 : c.f 0 9 0 + c.f 0 25 16 ≤ 600) :
    let srcs := (List.range (c.f 0 25 16)).map (fun i => c.f 0 9 0 + i)
    let v := s.taken t 0x0105 c
    let u := if c.b 0 31 then srcs.foldl (fun (u : State) x => u.updEv x (fun e => { e with count := 0 })) v else v
    exec (.evtRead t c) s = .next (u.done (s.takenCid t) (srcs.map (fun x => w32 (s.evSrc x).count))) := by
  refine next_plain (d := evtReadDef) h (p := .immediate) rfl (show 1 ≤ 248 by decide) rfl ?_ ?_
  · simp [evtReadDef, h0, h248, h600]
  · simp [evtReadDef]

/-! ### The sequencer, the encoders and the time base -/

theorem exec_seqStatus (h : Sent 0x0202 [0] s t c) : exec (.seqStatus t c) s = s.answered t 0x0202 c
    (Word.ofNat64 s.seq.lineIndex ++ [w32 (s.taken t 0x0202 c).seqState, w32 s.seq.slotMin, w32 s.seq.darkMax] ++ s.counterWords 2) :=
  next_status h (by decide) (fun _ => rfl) (by simp)

theorem exec_seqBudget (h : Sent 0x0203 [0] s t c) : exec (.seqBudget t c) s = s.answered t 0x0203 c (budgetWords s.shadowConfig) :=
  next_status h (by decide) (fun _ => rfl) (by simp)

theorem exec_posStatus (h : Sent 0x0A02 [0] s t c) :
    exec (.posStatus t c) s = s.answered t 0x0A02 c (s.taken t 0x0A02 c).posWords :=
  next_status h (by decide) (fun _ => rfl) rfl

theorem exec_timeStatus (h : Sent 0x0A07 [0] s t c) :
    exec (.timeStatus t c) s = s.answered t 0x0A07 c (s.taken t 0x0A07 c).timeWords :=
  next_status h (by decide) (fun _ => rfl) rfl

end

/-- Settles O7: each command passes its checks, and its words are those of the state before the fetch, or of its instant. -/
theorem systemAndTimeReads : Obligations.SystemAndTimeReads := by
  unfold Obligations.SystemAndTimeReads
  intro s t c
  exact ⟨exec_sysNop, exec_sysInfo, exec_sysStatus, exec_evtRead, exec_seqStatus, exec_seqBudget, exec_posStatus, exec_timeStatus⟩

end Sys2Proof.Machine
end

section
/-! PROOFS. Commands of the correction, the comparison, the lanes, the trims and the coverage map that leave work in the background (R456):
each passes the checks of its definition, is answered DEFERRED, and registers its work with its operands (log entry 81 for the words of
an abort's DONE, 86 and 99 for what the spec leaves open in trim runs). -/

namespace Sys2Proof.Machine

/-! ### What the checks read of the state before the fetch -/

section
variable (s : State) (t op : Nat) (c : Cmd)

@[simp] theorem taken_headerFails (slot : Nat) : (s.taken t op c).headerFails slot = s.headerFails slot := rfl
@[simp] theorem taken_swapWaits (tiles : Nat) : (s.taken t op c).swapWaits tiles = s.swapWaits tiles := rfl
@[simp] theorem taken_setFlashBusy : (s.taken t op c).setFlashBusy = s.setFlashBusy := rfl
@[simp] theorem taken_dirEntry (f : Nat) : (s.taken t op c).dirEntry f = s.dirEntry f := rfl
@[simp] theorem taken_calReady (kind slot tiles : Nat) : (s.taken t op c).calReady kind slot tiles = s.calReady kind slot tiles := rfl
@[simp] theorem taken_slotHeld (slot : Nat) : (s.taken t op c).slotHeld slot = s.slotHeld slot := rfl
@[simp] theorem taken_hatchHeld : (s.taken t op c).hatchHeld = s.hatchHeld := rfl
@[simp] theorem senTrims_padded (n : Nat) : senTrims (c.padded n) = senTrims c := rfl
@[simp] theorem spareFails_padded (n : Nat) : spareFails (c.padded n) = spareFails c := rfl

end

section
variable {s : State} {t : Nat} {c : Cmd} {p : Pt}

/-! ### The correction (chapter 6) -/

theorem exec_corSetLoad (h : Sent 0x0402 [0] s t c) (hs : s.slotFails (c.f 0 7 0) = []) (hm : c.f 1 15 0 ≠ 0 ∨ s.p .HIS_SHD_SLOTS = 0)
    (hh : s.headerFails (c.f 0 7 0) = []) (hw : s.swapWaits (c.f 1 15 0) = false) (hl : s.loadRuns (c.f 1 15 0) = false)
    (hc : s.calRuns = false) :
    let u := (s.taken t 0x0402 c).defer (s.takenCid t)
    exec (.corSetLoad t c) s = .next { u with cor := { u.cor with
      loads := s.cor.loads ++ [⟨s.takenCid t, c.f 0 7 0, c.f 1 15 0, u.now⟩] } } := by
  refine next_plain (d := corSetLoadDef) h (p := .immediate) rfl (show 2 ≤ 248 by decide) rfl ?_ ?_
  · simpa [corSetLoadDef, hs, hh, hw, hl, hc, or_iff_not_imp_left] using hm
  · simp [corSetLoadDef, State.updCor]

theorem exec_corSetStore (h : Sent 0x0405 [0] s t c) (hs : s.slotFails (c.f 0 7 0) = []) (hf : c.f 0 11 8 ≤ 5)
    (hh : s.headerFails (c.f 0 7 0) = []) (hb : s.setFlashBusy = false) :
    let u := (s.taken t 0x0405 c).defer (s.takenCid t)
    exec (.corSetStore t c) s = .next { u with cor := { u.cor with store := some ⟨s.takenCid t, c.f 0 7 0, c.f 0 11 8, false⟩ } } := by
  refine next_plain (d := corSetStoreDef) h (p := .immediate) rfl (show 1 ≤ 248 by decide) rfl ?_ ?_
  · simp [corSetStoreDef, hs, hf, hh, hb]
  · simp [corSetStoreDef, State.updCor]

theorem exec_corSetRestore (h : Sent 0x0406 [0] s t c) (hs : s.slotFails (c.f 0 7 0) = []) (hf : c.f 0 11 8 ≤ 5)
    (hd : (s.dirEntry (c.f 0 11 8)).getD 3 0 = 1) (hb : s.setFlashBusy = false) :
    let u := (s.taken t 0x0406 c).defer (s.takenCid t)
    exec (.corSetRestore t c) s = .next { u with cor := { u.cor with store := some ⟨s.takenCid t, c.f 0 7 0, c.f 0 11 8, true⟩ } } := by
  refine next_plain (d := corSetRestoreDef) h (p := .immediate) rfl (show 1 ≤ 248 by decide) rfl ?_ ?_
  · simpa [corSetRestoreDef, hs, hf, hb] using hd
  · simp [corSetRestoreDef, State.updCor]

theorem exec_corCalRun (h : Sent 0x0407 [0] s t c) (h3 : c.f 0 1 0 = 3 → c.w 2 % 64 = 0)
    (hs : c.f 0 1 0 ≠ 3 → s.slotFails (c.f 0 15 8) = []) (hf : c.f 0 19 16 ≤ 5 ∨ c.f 0 19 16 = 15) (ht : c.f 1 15 0 ≠ 0)
    (hp : s.seq.slotMin ≤ s.p .COR_CAL_PERIOD) (hr : s.calReady (c.f 0 1 0) (c.f 0 15 8) (c.f 1 15 0) = true) (hc : s.calRuns = false) :
    exec (.corCalRun t c) s = .next (((s.taken t 0x0407 c).defer (s.takenCid t)).calStart (s.takenCid t) (c.f 0 1 0) (c.f 0 15 8)
      (c.f 0 19 16) (c.b 0 20) (c.f 1 15 0) (c.w64 2)) := by
  have hn : corCalRunDef.need c ≤ 248 := by
    simp only [corCalRunDef]
    split <;> decide
  have hkind : (if c.f 0 1 0 = 3 then failIf (c.w 2 % 64 != 0) 0x11 2 else s.slotFails (c.f 0 15 8)) = [] := by
    split
    next hk => simp [h3 hk]
    next hk => exact hs hk
  have hflash : (decide (5 < c.f 0 19 16) && c.f 0 19 16 != 15) = false := by
    rcases hf with hle | he
    · simp [Nat.not_lt.2 hle]
    · simp [he]
  have hperiod : decide ((s.taken t 0x0407 c).p .COR_CAL_PERIOD < (s.taken t 0x0407 c).seq.slotMin) = false :=
    decide_eq_false (Nat.not_lt.2 hp)
  refine next_plain (d := corCalRunDef) h (p := .immediate) rfl hn rfl ?_ (by simp [corCalRunDef])
  simp [corCalRunDef, hkind, hflash, ht, ↓hperiod, hr, hc]

theorem exec_corCalAbort (h : Sent 0x0408 [0] s t c) (hc : s.calRuns = true) :
    exec (.corCalAbort t c) s = .next (((s.taken t 0x0408 c).calFail 1).done (s.takenCid t)) :=
  next_plain (d := corCalAbortDef) h (p := .immediate) rfl (Nat.zero_le _) rfl (by simp [corCalAbortDef, hc]) rfl

/-! ### The comparison (chapter 8) -/

theorem exec_cmpRefCheck (h : Sent 0x0602 [0] s t c) (hs : c.f 0 5 0 < s.p .HIS_REF_SLOTS) (hh : s.slotHeld (c.f 0 5 0) = false) :
    let u := (s.taken t 0x0602 c).defer (s.takenCid t)
    exec (.cmpRefCheck t c) s = .next { u with cmp := { u.cmp with checks := s.cmp.checks ++ [⟨s.takenCid t, c.f 0 5 0, c.b 0 8⟩] } } := by
  refine next_plain (d := cmpRefCheckDef) h (p := .immediate) rfl (show 1 ≤ 248 by decide) rfl ?_ ?_
  · simp [cmpRefCheckDef, hs, hh]
  · simp [cmpRefCheckDef, State.updCmp]

theorem exec_cmpHatchLoad (h : Sent 0x0603 [0] s t c) (ha : c.w64 0 % 64 = 0) (hh : s.hatchHeld = false) (hl : s.cmp.hatchLoad = none) :
    let u := (s.taken t 0x0603 c).defer (s.takenCid t)
    exec (.cmpHatchLoad t c) s = .next { u with cmp := { u.cmp with hatchLoad := some ⟨s.takenCid t, c.w64 0⟩ } } := by
  refine next_plain (d := cmpHatchLoadDef) h (p := .immediate) rfl (show 2 ≤ 248 by decide) rfl ?_ ?_
  · simp [cmpHatchLoadDef, ha, hh, hl]
  · simp [cmpHatchLoadDef, State.updCmp]

/-! ### The lanes and the trims (chapters 5 and 14) -/

theorem exec_senSnapshot (h : Sent 0x0309 [2] s t c) (h8 : c.lane ≠ 8) (ha : c.w64 0 % 64 = 0) (hp : c.f 2 2 0 < s.p .SEQ_NUM_PHASES)
    (ho : (s.lane (9 * c.tile + c.lane)).st ≠ .off) (hb : (s.lane (9 * c.tile + c.lane)).st ≠ .blind) :
    let u := (s.taken t 0x0309 c).defer (s.takenCid t)
    exec (.senSnapshot t c) s = .next { u with sen := { u.sen with
      snaps := s.sen.snaps ++ [⟨s.takenCid t, c.tile, c.lane, c.f 2 2 0, c.w64 0⟩] } } := by
  refine next_plain (d := senSnapshotDef) h (p := .immediate) rfl (show 3 ≤ 248 by decide) rfl ?_ ?_
  · simp [senSnapshotDef, spareFails, cmdConv, h8, ha, hp, ho, hb]
  · simp [senSnapshotDef]

theorem exec_senTrimRun (h : Sent 0x030A [0, 1] s t c) (hr : s.hlt.trimRun = none) (hm : c.b 0 0 = true → s.p .CMP_REPEAT_MODE ≠ 0) :
    let u := (s.taken t 0x030A c).defer (s.takenCid t)
    exec (.senTrimRun t c) s = .next { u with hlt := { u.hlt with
      trimRun := some ⟨s.takenCid t, senTrims c, true, c.b 0 0, if c.b 0 0 then .rept else .idle, u.idleNow, 0⟩ } } := by
  refine next_plain (d := senTrimRunDef) h (p := .idle) ⟨rfl, by decide, by decide⟩ (show 1 ≤ 248 by decide) rfl ?_ ?_
  · simpa [senTrimRunDef, hr] using hm
  · simp [senTrimRunDef, State.updHlt]

theorem exec_hltTrimRun (h : Sent 0x0D07 [0] s t c) (hp : Pointed s c [.rept, .idle] p)
    (hk : ∀ n ∈ maskList 32 (c.w 0), n = 4 ∨ n = 5 ∨ n = 8) (hr : s.hlt.trimRun = none) :
    let u := (s.taken t 0x0D07 c).defer (s.takenCid t)
    exec (.hltTrimRun t c) s = .next { u with hlt := { u.hlt with
      trimRun := some ⟨s.takenCid t, hltTrims (c.w 0), false, p == .rept, p, true, 0⟩ } } := by
  refine next_plain (d := hltTrimRunDef) h (p := p) hp (show 1 ≤ 248 by decide) rfl ?_ ?_
  · have hkinds : ((maskList 32 (c.w 0)).any fun n => n != 4 && n != 5 && n != 8) = false :=
      List.any_eq_false.2 fun n hn => by rcases hk n hn with rfl | rfl | rfl <;> decide
    simp [hltTrimRunDef, hkinds, hr]
  · simp [hltTrimRunDef, State.updHlt]

/-! ### The coverage map (chapter 7) -/

theorem exec_capCovRead (h : Sent 0x0507 [0] s t c) (ha : c.w64 1 % 64 = 0) (hs : c.b 0 0 = true → s.cap.cov.sealedMap.isSome = true)
    (hl : c.b 0 0 = false → s.cap.cov.present = true) :
    exec (.capCovRead t c) s = .next ((s.taken t 0x0507 c).defer (s.takenCid t)) := by
  refine next_plain (d := capCovReadDef) h (p := .immediate) rfl (show 4 ≤ 248 by decide) rfl ?_ rfl
  cases hb : c.b 0 0 with
  | true => simpa [capCovReadDef, ha, hb, Option.isSome_iff_ne_none] using hs hb
  | false => simp [capCovReadDef, ha, hb, hl hb]

end

/-- Settles O21: each command passes its checks, and its work is registered with its operands. -/
theorem correctionAndSensorWork : Obligations.CorrectionAndSensorWork := by
  unfold Obligations.CorrectionAndSensorWork
  intro s t c p
  exact ⟨exec_corSetLoad, exec_corSetStore, exec_corSetRestore, exec_corCalRun, exec_corCalAbort, exec_cmpRefCheck, exec_cmpHatchLoad,
    exec_senSnapshot, exec_senTrimRun, exec_hltTrimRun, exec_capCovRead⟩

end Sys2Proof.Machine
end

section
/-! PROOFS. What the host writes to a ring's registers (R438, R441, R444 to R446; log entry 39 for the low bits of a base, the error code
at ENABLE and the read that BAR0 does not take): its index, its enable bit and its base, and accesses of a wrong size or alignment. -/

namespace Sys2Proof.Machine

section
variable {s w : State} {t r v off size n : Nat}

/-! ### The host's index (R445) -/

theorem Ring.accepts_iff (x : Ring) (v : Nat) : x.accepts (decide (r < 4)) v = true ↔
    if r < 4 then (v + 65536 - x.dev) % 65536 ≤ 2 ^ x.size else (v + 65536 - x.host) % 65536 ≤ (x.dev + 65536 - x.host) % 65536 := by
  by_cases h : r < 4 <;> simp [Ring.accepts, h]

theorem State.hostIndex_of_disabled (h : (w.ring r).st = .disabled) : w.hostIndex r v = w := if_pos h

theorem State.hostIndex_of_accepts (h : (w.ring r).st ≠ .disabled) (ha : (w.ring r).accepts (decide (r < 4)) v = true) :
    w.hostIndex r v = w.updRing r (fun y => { y with host := v }) := by
  simp [State.hostIndex, h, ha]

theorem State.hostIndex_of_refuses (h : (w.ring r).st ≠ .disabled) (ha : (w.ring r).accepts (decide (r < 4)) v = false) :
    w.hostIndex r v = (w.count .SYS_DOORBELL_BAD).raise .SYS_DOORBELL_BAD r := by
  simp [State.hostIndex, h, ha]

theorem exec_submissionDoorbell (hb : s.barOk = true) (hr : r < 4) :
    exec (.submissionDoorbell t r v []) s = .next ((s.advance t).hostIndex r (v % 65536)) := by
  show execSubmissionDoorbell t r v [] s = _
  simp [execSubmissionDoorbell, nextAt, hb, Nat.not_le.2 hr]

theorem exec_consumerIndexWrite (hb : s.barOk = true) (hr : r = 4 ∨ r = 5) :
    exec (.consumerIndexWrite t r v) s = .next ((s.advance t).hostIndex r (v % 65536)) := by
  show execConsumerIndexWrite t r v s = _
  simp [execConsumerIndexWrite, nextAt, hb, hr]

/-! ### Register writes (R438, R439, R441) -/

theorem exec_registerWrite (hb : s.barOk = true) : exec (.registerWrite t off size v) s = .next ((s.advance t).regWrite off size v) := by
  show execRegisterWrite t off size v s = _
  simp [execRegisterWrite, nextAt, hb]

theorem State.regWrite_of_bad (h : (size ≠ 4 ∧ size ≠ 8) ∨ off % size ≠ 0) : w.regWrite off size v = w.count .SYS_BAR_BAD := if_pos h

theorem State.regWrite_word (h : off % 4 = 0) : w.regWrite off 4 v = w.reg4 off (v % 2 ^ 32) := by
  simp [State.regWrite, h]

theorem State.regWrite_double (h : off % 8 = 0) :
    w.regWrite off 8 v = (w.reg4 off (v % 2 ^ 32)).reg4 (off + 4) (v / 2 ^ 32 % 2 ^ 32) := by
  simp [State.regWrite, h]

/-- A word of a ring's registers: its base, ENABLE with the size, and the host's index (R441). -/
theorem State.reg4_ring {o : Nat} (hr : r < 6) (ho : o < 64) : w.reg4 (0x1000 + 64 * r + o) v =
    if o = 0 ∨ o = 4 then
      if (w.ring r).st = .disabled then w.updRing r (fun y => { y with base := putWord y.base (decide (o = 4)) v / 4096 * 4096 }) else w
    else if o = 8 then
      if v.testBit 8 then w.ringEnable r (v % 16)
      else if (w.ring r).st = .disabled then (w.ringDisable r).updRing r (fun y => { y with size := v % 16 }) else w.ringDisable r
    else if o = 16 then w.hostIndex r (v % 65536)
    else w := by
  have hin : 0x1000 ≤ 0x1000 + 64 * r + o ∧ 0x1000 + 64 * r + o < 0x1180 := by omega
  have hring : (0x1000 + 64 * r + o - 0x1000) / 64 = r := by omega
  have hoff : (0x1000 + 64 * r + o) % 64 = o := by omega
  rw [State.reg4, if_pos hin]
  simp only [hring, hoff]

theorem State.reg4_index (hr : r < 6) : w.reg4 (0x1000 + 64 * r + 16) v = w.hostIndex r (v % 65536) := State.reg4_ring hr (by decide)

theorem exec_registerWrite_index (hb : s.barOk = true) (hr : r < 6) (hv : v < 65536) :
    exec (.registerWrite t (0x1000 + 64 * r + 16) 4 v) s = .next ((s.advance t).hostIndex r (v % 65536)) := by
  rw [exec_registerWrite hb, State.regWrite_word (by omega), State.reg4_index hr, Nat.mod_eq_of_lt (a := v) (b := 2 ^ 32) (by omega)]

/-! ### Ring bases (R441) -/

theorem State.reg4_baseLow (hr : r < 6) (h : (w.ring r).st = .disabled) :
    w.reg4 (0x1000 + 64 * r) v = w.updRing r (fun y => { y with base := putWord y.base false v / 4096 * 4096 }) :=
  (State.reg4_ring (o := 0) hr (by decide)).trans (if_pos h)

theorem State.reg4_baseHigh (hr : r < 6) (h : (w.ring r).st = .disabled) :
    w.reg4 (0x1000 + 64 * r + 4) v = w.updRing r (fun y => { y with base := putWord y.base true v / 4096 * 4096 }) :=
  (State.reg4_ring (o := 4) hr (by decide)).trans (if_pos h)

theorem State.reg4_base_of_enabled {o : Nat} (hr : r < 6) (ho : o = 0 ∨ o = 4) (h : (w.ring r).st ≠ .disabled) :
    w.reg4 (0x1000 + 64 * r + o) v = w := by
  rw [State.reg4_ring hr (by omega), if_pos ho, if_neg h]

/-- The two words of a 64-bit value written low word first, each with the base cut to 4 KiB, leave the value so cut. -/
theorem putWord_low_high (b : Nat) (hv : v < 2 ^ 64) :
    putWord (putWord b false (v % 2 ^ 32) / 4096 * 4096) true (v / 2 ^ 32 % 2 ^ 32) / 4096 * 4096 = v / 4096 * 4096 := by
  simp only [putWord, if_true, Bool.false_eq_true, if_false]
  omega

theorem State.regWrite_base (hr : r < 6) (hv : v < 2 ^ 64) (h : (w.ring r).st = .disabled) :
    w.regWrite (0x1000 + 64 * r) 8 v = w.updRing r (fun x => { x with base := v / 4096 * 4096 }) := by
  have hst : ((w.updRing r (fun y => { y with base := putWord y.base false (v % 2 ^ 32) / 4096 * 4096 })).ring r).st = .disabled := by
    rw [State.ring_st_updRing _ _ _ _ (fun _ => by rfl), h]
  rw [State.regWrite_double (by omega), State.reg4_baseLow hr h, State.reg4_baseHigh hr hst, updRing_updRing]
  simp only [putWord_low_high _ hv]

theorem State.regWrite_base_of_enabled (hr : r < 6) (h : (w.ring r).st ≠ .disabled) : w.regWrite (0x1000 + 64 * r) 8 v = w := by
  have hlow : w.reg4 (0x1000 + 64 * r) (v % 2 ^ 32) = w := State.reg4_base_of_enabled (o := 0) hr (.inl rfl) h
  rw [State.regWrite_double (by omega), hlow, State.reg4_base_of_enabled hr (.inr rfl) h]

/-! ### Enabling and disabling (R444, R446) -/

theorem State.ringEnable_of_disabled (h : (w.ring r).st = .disabled) (hlo : 4 ≤ n) (hhi : n ≤ 14) : w.ringEnable r n =
    w.updRing r (fun x => { x with size := n, st := .running, err := 0, host := 0, dev := 0, phase := true }) := by
  simp [State.ringEnable, h, Nat.not_lt.2 hlo, Nat.not_lt.2 hhi]

theorem exec_ringEnable (hb : s.barOk = true) (hr : r < 6) : exec (.ringEnable t r n) s = .next ((s.advance t).ringEnable r (n % 16)) := by
  show execRingEnable t r n s = _
  simp [execRingEnable, nextAt, hb, hr]

theorem exec_ringDisable (hb : s.barOk = true) (hr : r < 6) : exec (.ringDisable t r) s = .next ((s.advance t).ringDisable r) := by
  show execRingDisable t r s = _
  simp [execRingDisable, nextAt, hb, hr]

/-! ### Accesses that BAR0 does not take (R438) -/

theorem exec_barBadAccess (write : Bool) (hb : s.barOk = true) :
    exec (.barBadAccess t write) s = .next ((s.advance t).barBad write) := by
  show execBarBadAccess t write s = _
  simp [execBarBadAccess, nextAt, hb]

end

/-- Settles O26: a doorbell, a consumer index and a register write are one operation, and each of its branches is one clause. -/
theorem hostIndexWrites : Obligations.HostIndexWrites := by
  unfold Obligations.HostIndexWrites
  intro s t r v hb w x new bad good rule i hi
  have hexec : exec i s = .next (w.hostIndex r new) := by
    rcases hi with ⟨hr, rfl⟩ | ⟨hr, rfl⟩ | ⟨hr, hv, rfl⟩
    · exact exec_submissionDoorbell hb hr
    · exact exec_consumerIndexWrite hb hr
    · exact exec_registerWrite_index hb hr hv
  refine ⟨fun hd => ?_, fun hd hrule => ?_, fun hd hrule => ?_⟩
  · rw [hexec, State.hostIndex_of_disabled hd]
  · rw [hexec, State.hostIndex_of_accepts hd ((Ring.accepts_iff x new).2 hrule)]
  · rw [hexec, State.hostIndex_of_refuses hd (Bool.eq_false_iff.2 fun ha => hrule ((Ring.accepts_iff x new).1 ha))]

/-- Settles O27: each write is the branch of its register that the ring's state decides. -/
theorem ringRegisters : Obligations.RingRegisters := by
  unfold Obligations.RingRegisters
  intro s t r n v off size hb hr
  refine ⟨fun hlo hhi hd => ?_, exec_ringDisable hb hr, fun hv hd => ?_, fun _ hd => ?_, fun hbad => ?_, exec_barBadAccess true hb,
    _, exec_barBadAccess false hb, rfl, rfl⟩
  · rw [exec_ringEnable hb hr, Nat.mod_eq_of_lt (by omega), State.ringEnable_of_disabled hd hlo hhi]
  · rw [exec_registerWrite hb, State.regWrite_base hr hv hd]
  · rw [exec_registerWrite hb, State.regWrite_base_of_enabled hr hd]
  · rw [exec_registerWrite hb, State.regWrite_of_bad hbad]

end Sys2Proof.Machine
end

section
/-! PROOFS. The ends of hold-offs and the events that waited for a slot (R460, R462, R463; log entry 31 for when SYS_EVT_DELAYED itself is
raised). -/

namespace Sys2Proof.Machine

/-! ### Two writes at one key -/

theorem Sparse.put_put {α : Type} (k : Nat) (a b : α) : ∀ m : Sparse α, Sparse.put (Sparse.put m k a) k b = Sparse.put m k b
  | [] => by simp [Sparse.put]
  | (j, v) :: m => by
    rcases Nat.lt_trichotomy j k with h | rfl | h
    · simp [Sparse.put, h.ne, Nat.not_lt.2 h.le, Sparse.put_put k a b m]
    · simp [Sparse.put]
    · simp [Sparse.put, h, h.ne']

theorem Sparse.drop_put {α : Type} (k : Nat) (a : α) : ∀ m : Sparse α, Sparse.drop (Sparse.put m k a) k = Sparse.drop m k
  | [] => by simp [Sparse.put, Sparse.drop]
  | (j, v) :: m => by
    rcases Nat.lt_trichotomy j k with h | rfl | h
    · simp [Sparse.put, Sparse.drop, h.ne, Nat.not_lt.2 h.le, Sparse.drop_put k a m]
    · simp [Sparse.put, Sparse.drop]
    · simp [Sparse.put, Sparse.drop, h, h.ne']

/-- The later of two writes at a key stands, where the first leaves an entry there. -/
theorem Sparse.set_set {α : Type} [DecidableEq α] (m : Sparse α) {d a : α} (k : Nat) (b : α) (h : a ≠ d) :
    Sparse.set (Sparse.set m d k a) d k b = Sparse.set m d k b := by
  rw [Sparse.set, Sparse.set, Sparse.set, if_neg h, Sparse.put_put, Sparse.drop_put]

section
variable {s w : State} {t x v : Nat}

theorem State.updEv_updEv {f g : EvSrc → EvSrc} (h : f (w.evSrc x) ≠ EvSrc.idle) :
    (w.updEv x f).updEv x g = w.updEv x (fun e => g (f e)) := by
  rw [State.updEv, State.evSrc_updEv]
  simp only [State.updEv, Sparse.set_set _ _ _ h]

/-! ### The end of a source's hold-off (R460) -/

theorem State.evtHoldEnd_of_early (h : (w.evSrc x).holding = false ∨ w.now < (w.evSrc x).until_) : w.evtHoldEnd x = w := by
  rw [State.evtHoldEnd, if_pos (by simpa using h)]

section
variable (hh : (w.evSrc x).holding = true) (hu : (w.evSrc x).until_ ≤ w.now)
include hh hu

/-- A hold-off that is over ends, and what was raised in it is dropped or ready. -/
theorem State.evtHoldEnd_of_over : w.evtHoldEnd x =
    if (w.evSrc x).batch = 0 then w.updEv x (fun e => { e with holding := false })
    else if w.p .EVT_EN x = 0 then (w.updEv x (fun e => { e with holding := false })).updEv x (fun e => { e with batch := 0 })
    else (w.updEv x (fun e => { e with holding := false })).readyEvent x :=
  if_neg (by simp [hh, hu])

theorem State.evtHoldEnd_of_empty (hb : (w.evSrc x).batch = 0) : w.evtHoldEnd x = w.updEv x (fun e => { e with holding := false }) := by
  rw [State.evtHoldEnd_of_over hh hu, if_pos hb]

/-- Where the source is not enabled its batch is dropped with the end of the hold-off. -/
theorem State.evtHoldEnd_of_disabled (hb : (w.evSrc x).batch ≠ 0) (he : w.p .EVT_EN x = 0) :
    w.evtHoldEnd x = w.updEv x (fun e => { e with holding := false, batch := 0 }) := by
  have hidle : ({ w.evSrc x with holding := false } : EvSrc) ≠ EvSrc.idle := fun h => hb (congrArg EvSrc.batch h)
  rw [State.evtHoldEnd_of_over hh hu, if_neg hb, if_pos he, State.updEv_updEv hidle]

theorem State.evtHoldEnd_of_room (hb : (w.evSrc x).batch ≠ 0) (he : w.p .EVT_EN x ≠ 0) (hr : w.eventRoom = true)
    (hw : w.host.evWait = []) : w.evtHoldEnd x = (w.updEv x (fun e => { e with holding := false })).writeEvent x false := by
  have hready : ((w.updEv x (fun e => { e with holding := false })).eventRoom &&
      (w.updEv x (fun e => { e with holding := false })).host.evWait.isEmpty) = true :=
    Bool.and_eq_true_iff.2 ⟨hr, List.isEmpty_iff.2 hw⟩
  rw [State.evtHoldEnd_of_over hh hu, if_neg hb, if_neg he, State.readyEvent, if_pos hready]

end

theorem exec_eventHoldoffExpiry : exec (.eventHoldoffExpiry t x) s = .next ((s.advance t).evtHoldEnd x) := rfl

/-! ### The end of a vector's hold-off (R463) -/

theorem State.irqHoldEnd_of_early (h : (w.host.vecs.getD v MsixVec.reset).holding = false ∨
    w.now < (w.host.vecs.getD v MsixVec.reset).until_) : w.irqHoldEnd v = w := by
  rw [State.irqHoldEnd, if_pos (by simpa using h)]

/-- The vector out of its hold-off. -/
def State.vecFreed (w : State) (v : Nat) : State :=
  w.updHost (fun h => { h with vecs := upd h.vecs v (fun y => { y with holding := false }) })

theorem State.entriesSpill_of_linkUp (hl : w.linkUp = true) (hs : w.host.spill = []) : w.entriesSpill = false := by
  simp [State.entriesSpill, hl, hs]

section
variable (hh : (w.host.vecs.getD v MsixVec.reset).holding = true) (hu : (w.host.vecs.getD v MsixVec.reset).until_ ≤ w.now)
include hh hu

theorem State.irqHoldEnd_of_over : w.irqHoldEnd v =
    if (w.host.vecs.getD v MsixVec.reset).dirty && !w.entriesSpill && w.host.link.msixEnable then (w.vecFreed v).sendMsix v
    else w.vecFreed v :=
  if_neg (by rw [hh]; simpa using hu)

theorem State.irqHoldEnd_of_clean (hd : (w.host.vecs.getD v MsixVec.reset).dirty = false) : w.irqHoldEnd v = w.vecFreed v := by
  rw [State.irqHoldEnd_of_over hh hu, hd]
  rfl

theorem State.irqHoldEnd_of_dirty (hd : (w.host.vecs.getD v MsixVec.reset).dirty = true) (hl : w.linkUp = true)
    (hs : w.host.spill = []) (hm : w.host.link.msixEnable = true) : w.irqHoldEnd v = (w.vecFreed v).sendMsix v := by
  rw [State.irqHoldEnd_of_over hh hu, hd, State.entriesSpill_of_linkUp hl hs, hm]
  rfl

end

theorem exec_irqHoldoffExpiry : exec (.irqHoldoffExpiry t v) s = .next ((s.advance t).irqHoldEnd v) := rfl

/-! ### Events that waited (R462) -/

theorem State.eventsDrain_of_none (n : Nat) (h : w.host.evWait = []) : w.eventsDrain n = w := by
  cases n with
  | zero => rfl
  | succ n => simp [State.eventsDrain, State.firstWaiting, h]

theorem State.eventsDrain_of_full (n : Nat) (h : w.eventRoom = false) : w.eventsDrain n = w := by
  cases n with
  | zero => rfl
  | succ n =>
    rw [State.eventsDrain]
    cases w.firstWaiting with
    | none => rfl
    | some src => simp [h]

/-- The one batch that waits written with DELAYED set, and counted. -/
def State.delayedWrite (w : State) (x : Nat) : State :=
  (({ w with host := { w.host with evWait := [] } } : State).writeEvent x true).count .SYS_EVT_DELAYED

theorem State.eventsDrain_one (h : w.host.evWait = [x]) (hr : w.eventRoom = true) : w.eventsDrain 1 =
    if (w.delayedWrite x).host.evFull && (w.delayedWrite x).host.evWait.isEmpty then
      ((w.delayedWrite x).updHost (fun h => { h with evFull := false })).raise .SYS_EVT_DELAYED
    else w.delayedWrite x := by
  have hz : ((w.updHost (fun h => { h with evWait := h.evWait.erase x })).writeEvent x true).count .SYS_EVT_DELAYED = w.delayedWrite x := by
    simp only [State.updHost, h, List.erase_cons_head]
    rfl
  simp only [State.eventsDrain, State.firstWaiting, h, List.foldl_nil, hr, hz]
  rfl

/-- While the episode of a full ring goes on, or where the ring has not been full, its event does not follow. -/
theorem State.eventsDrain_one_of_stays (h : w.host.evWait = [x]) (hr : w.eventRoom = true)
    (hq : (w.delayedWrite x).host.evFull = false ∨ (w.delayedWrite x).host.evWait ≠ []) : w.eventsDrain 1 = w.delayedWrite x := by
  rw [State.eventsDrain_one h hr, if_neg]
  rcases hq with hq | hq <;> simp [hq]

/-- The end of the episode is raised. -/
theorem State.eventsDrain_one_of_ends (h : w.host.evWait = [x]) (hr : w.eventRoom = true) (hf : (w.delayedWrite x).host.evFull = true)
    (hq : (w.delayedWrite x).host.evWait = []) :
    w.eventsDrain 1 = ((w.delayedWrite x).updHost (fun h => { h with evFull := false })).raise .SYS_EVT_DELAYED := by
  rw [State.eventsDrain_one h hr, if_pos (by simp [hf, hq])]

theorem exec_sysEvtDelayed : exec (.sysEvtDelayed t) s = .next ((s.advance t).eventsDrain (s.advance t).host.evWait.length) := rfl

end

/-- Settles O33: each row is the branch of its end that the source, the vector or the waiting batch decides. -/
theorem holdoffsAndDelayedEvents : Obligations.HoldoffsAndDelayedEvents := by
  unfold Obligations.HoldoffsAndDelayedEvents
  intro s t x v
  have hsrc := exec_eventHoldoffExpiry (s := s) (t := t) (x := x)
  have hvec := exec_irqHoldoffExpiry (s := s) (t := t) (v := v)
  refine ⟨fun h => ?_, fun hh hu hb => ?_, fun hh hu hb he => ?_, fun hh hu hb he hr hw => ?_, fun h => ?_, fun hh hu hd => ?_,
    fun hh hu hd hl hs hm => ?_, fun h => ?_, fun h hr => ?_⟩
  · rw [hsrc, State.evtHoldEnd_of_early h]
  · rw [hsrc, State.evtHoldEnd_of_empty hh hu hb]
  · rw [hsrc, State.evtHoldEnd_of_disabled hh hu hb he]
  · rw [hsrc, State.evtHoldEnd_of_room hh hu hb he hr hw]
  · rw [hvec, State.irqHoldEnd_of_early h]
  · exact hvec.trans (congrArg _ (State.irqHoldEnd_of_clean hh hu hd))
  · exact hvec.trans (congrArg _ (State.irqHoldEnd_of_dirty hh hu hd hl hs hm))
  · rw [exec_sysEvtDelayed]
    rcases h with h | h
    · rw [State.eventsDrain_of_none _ h]
    · rw [State.eventsDrain_of_full _ h]
  · have hrow : exec (.sysEvtDelayed t) s = .next ((s.advance t).eventsDrain 1) := by
      rw [exec_sysEvtDelayed, h, List.length_singleton]
    exact ⟨(s.advance t).delayedWrite x, rfl, fun hq => hrow.trans (congrArg _ (State.eventsDrain_one_of_stays h hr hq)),
      fun hf hq => hrow.trans (congrArg _ (State.eventsDrain_one_of_ends h hr hf hq))⟩

end Sys2Proof.Machine
end

section
/-! PROOFS. The security module's commands (chapter 13): each passes the checks of its definition, bare or in a valid envelope, and its
effect is the one that the definition states (log entries 3 and 97 for the nonce of the identity's signature, log entry 66 for a
SEC_SELFTEST that joins the test that runs). -/

namespace Sys2Proof.Machine

/-! ### What the checks read of the state before the fetch -/

section
variable (s : State) (t op : Nat) (c : Cmd)

@[simp] theorem taken_secFailed : (s.taken t op c).secFailed = s.secFailed := rfl
@[simp] theorem taken_runOn : (s.taken t op c).runOn = s.runOn := rfl
@[simp] theorem taken_canSignMap : (s.taken t op c).canSignMap = s.canSignMap := rfl

@[simp] theorem unsealed_sec : (s.unsealed t op c).sec =
    { s.sec with envCounters := upd s.sec.envCounters (c.f 0 1 0 - 1) (fun _ => c.w64 1) } := rfl
@[simp] theorem unsealed_pwr : (s.unsealed t op c).pwr = s.pwr := rfl
@[simp] theorem unsealed_secFailed : (s.unsealed t op c).secFailed = s.secFailed := rfl
@[simp] theorem unsealed_runOn : (s.unsealed t op c).runOn = s.runOn := rfl
@[simp] theorem unsealed_fwCosigned (slot : Nat) (key : List Byte) :
    (s.unsealed t op c).fwCosigned slot key = s.fwCosigned slot key := rfl

@[simp] theorem secFails_eq_nil : secFails s = [] ↔ s.secFailed = false := failIf_eq_nil

end

/-! ### Shapes -/

section
variable {s u : State} {t : Nat} {c : Cmd}

/-- A bare security command that passes its checks has its definition's effect. -/
theorem next_sec {op need : Nat} {fails : State → Cmd → List (Nat × Nat)} {run : State → Nat → Cmd → State} (h : Sent op [0] s t c)
    (hn : need ≤ 248) (hf : fails (s.taken t op c) (c.padded need) = [])
    (hr : run (s.taken t op c) (s.takenCid t) (c.padded need) = u) :
    (.next (runHost (secDef op need fails run) t c s) : Host.Outcome State Fault Refusal) = .next u :=
  next_plain (d := secDef op need fails run) h (p := .immediate) rfl hn rfl hf hr

/-- A command in a valid envelope that names no commit point, writes no parameter and passes its checks has its definition's effect. -/
theorem next_signed {d : CmdDef} (h : Signed d.op d.levels s t c) (hp : d.points = .ignored) (hn : d.need c.opened ≤ 248)
    (hw : ∀ x, d.writes (s.unsealed t d.op c) x = [])
    (hf : ∀ ctx, d.fails (s.unsealed t d.op c) (c.opened.padded (d.need c.opened)) ctx = [])
    (hr : ∀ ctx, d.run (s.unsealed t d.op c) (s.takenCid t) (c.opened.padded (d.need c.opened)) ctx = u) :
    (.next (runHost d t c s) : Host.Outcome State Fault Refusal) = .next u := by
  obtain ⟨ctx, hrun⟩ := runHost_signed h hp hn hw hf
  exact congrArg Host.Outcome.next (hrun.trans (hr ctx))

/-- A security command in a valid envelope. -/
theorem next_secSigned {op need : Nat} {fails : State → Cmd → List (Nat × Nat)} {run : State → Nat → Cmd → State}
    (h : Signed op [0] s t c) (hn : need ≤ 248) (hf : fails (s.unsealed t op c) (c.opened.padded need) = [])
    (hr : run (s.unsealed t op c) (s.takenCid t) (c.opened.padded need) = u) :
    (.next (runHost (secDef op need fails run) t c s) : Host.Outcome State Fault Refusal) = .next u :=
  next_signed (d := secDef op need fails run) h rfl hn (fun _ => rfl) (fun _ => hf) (fun _ => hr)

end

/-! ### Effects by the fields of the command -/

section
variable {v : State} {cid : Nat} {c : Cmd}

/-- A key is removed or installed; an officer's installation uses up the one that needs no envelope (R504). -/
theorem State.roleKeySet_eq : v.roleKeySet c = { v with sec := { v.sec with
    roleKeys := Sparse.set v.sec.roleKeys [] (4 * c.f 0 1 0 + c.f 0 5 4) (if c.b 0 8 then [] else wordsAt c.words 1 24),
    coInstall := v.sec.coInstall && !(!c.b 0 8 && c.f 0 1 0 == 2) } } := by
  cases hb : c.b 0 8 <;> simp [State.roleKeySet, State.updSec, hb]

/-- The officer's first key. -/
theorem State.roleKeySet_of_officer (hrole : c.f 0 1 0 = 2) (hb : c.b 0 8 = false) : v.roleKeySet c = { v with sec := { v.sec with
    roleKeys := Sparse.set v.sec.roleKeys [] (8 + c.f 0 5 4) (wordsAt c.words 1 24), coInstall := false } } := by
  simp [State.roleKeySet_eq, hrole, hb]

theorem State.rmkRun_of_generate (h : c.f 0 1 0 = 0) : v.rmkRun cid c = (({ v with sec := { v.sec with
    rmk := (List.range 32).map (fun i => Config.drbgByte v.sec.draws i), draws := v.sec.draws + 1 } } : State).done cid) := by
  rw [State.rmkRun, h]
  rfl

theorem State.rmkRun_of_unwrap (h : c.f 0 1 0 = 1) :
    v.rmkRun cid c = if v.rmkOpens c.words then (v.rmkImport c.words).done cid else v.reply cid 0x21 6 := by
  rw [State.rmkRun, h]
  rfl

theorem State.rmkRun_of_wrap (h : c.f 0 1 0 = 2) : v.rmkRun cid c = (v.rmkExport c.words).2.done cid (v.rmkExport c.words).1 := by
  rw [State.rmkRun, h]
  rfl

/-- The words of SEC_RMK by its operation (R483). -/
theorem secRmkDef_need : secRmkDef.need c = if c.f 0 1 0 = 1 then 40 else if c.f 0 1 0 = 2 then 25 else 1 := by
  simp only [secRmkDef]
  split <;> simp_all

/-- An entry of SEC_POLICY_SET that R480 takes: a known group that is not the module's own, some role, and no opcode named before. -/
theorem policyEntry_taken {es : List (Nat × Nat)} {x : (Nat × Nat) × Nat}
    (h : 1 ≤ x.1.1 / 256 ∧ x.1.1 / 256 ≤ 0x0F ∧ x.1.1 / 256 ≠ 0x0C ∧ x.1.2 ≠ 0 ∧ ∀ e ∈ es.take x.2, e.1 ≠ x.1.1) :
    (x.1.1 / 256 == 0x0C || x.1.1 / 256 == 0 || decide (0x0F < x.1.1 / 256) || x.1.2 == 0 ||
      (es.take x.2).any (fun e => e.1 == x.1.1)) = false := by
  obtain ⟨hlo, hhi, hgroup, hroles, hnew⟩ := h
  have hany : (es.take x.2).any (fun e => e.1 == x.1.1) = false := List.any_eq_false.2 fun e he => by simp [hnew e he]
  simp only [hany, Bool.or_false, Bool.or_eq_false_iff, beq_eq_false_iff_ne, decide_eq_false_iff_not]
  omega

end

section
variable {s : State} {t : Nat} {c : Cmd}

/-! ### Keys and policy, in an envelope -/

theorem exec_secRoleKey_signed (h : Signed 0x0C03 [0] s t c) :
    let k := c.opened.padded (if c.opened.b 0 8 then 1 else 25)
    k.f 0 1 0 ≠ 0 → (k.b 0 8 = false → Config.onCurve (wordsAt k.words 1 24) = true) → s.secFailed = false →
    exec (.secRoleKey t c) s = .next (((s.unsealed t 0x0C03 c).roleKeySet k).done (s.takenCid t)) := by
  intro k hrole hcurve hok
  have hn : secRoleKeyDef.need c.opened ≤ 248 := by
    simp only [secRoleKeyDef]
    split <;> decide
  have hkey : (!k.b 0 8 && !Config.onCurve (wordsAt k.words 1 24)) = false := by
    cases hb : k.b 0 8 with
    | true => rfl
    | false => simp [hcurve hb]
  refine next_signed (d := secRoleKeyDef) h rfl hn (fun _ => rfl) (fun _ => ?_) (fun _ => rfl)
  simp only [secRoleKeyDef, List.append_eq_nil_iff, failIf_eq_nil, secFails_eq_nil]
  exact ⟨⟨beq_false_of_ne hrole, hkey⟩, hok⟩

/-- The first key of the crypto officer needs no envelope (R504). -/
theorem exec_secRoleKey_first (h : Sent 0x0C03 [0] s t c) (hrole : (c.padded 25).f 0 1 0 = 2) (hb : (c.padded 25).b 0 8 = false)
    (hcurve : Config.onCurve (wordsAt (c.padded 25).words 1 24) = true) (hok : s.secFailed = false) :
    exec (.secRoleKey t c) s = .next (((s.taken t 0x0C03 c).roleKeySet (c.padded 25)).done (s.takenCid t)) := by
  have hneed : secRoleKeyDef.need c = 25 := by simpa [secRoleKeyDef] using hb
  refine next_plain (d := secRoleKeyDef) h (p := .immediate) rfl (by rw [hneed]; decide) rfl ?_ (by rw [hneed]; rfl)
  rw [hneed]
  simp [secRoleKeyDef, hrole, hcurve, hok]

theorem exec_secRmk (h : Signed 0x0C04 [0] s t c) (hok : s.secFailed = false) (hr : s.cap.run = .closed) (h3 : c.opened.f 0 1 0 ≠ 3) :
    exec (.secRmk t c) s = .next ((s.unsealed t 0x0C04 c).rmkRun (s.takenCid t)
      (c.opened.padded (if c.opened.f 0 1 0 = 1 then 40 else if c.opened.f 0 1 0 = 2 then 25 else 1))) := by
  have hn : secRmkDef.need c.opened ≤ 248 := by
    rw [secRmkDef_need]
    split_ifs <;> decide
  refine next_signed (d := secRmkDef) h rfl hn (fun _ => rfl) (fun _ => ?_) (fun _ => by rw [secRmkDef_need]; rfl)
  simp [secRmkDef, h3, hok, State.runOn_of_closed hr]

theorem exec_secPolicySet (h : Signed 0x0C05 [0] s t c) (hok : s.secFailed = false) :
    let k := c.opened.padded (1 + c.opened.f 0 6 0)
    k.f 0 6 0 ≤ 64 →
    (∀ x ∈ (policyEntries k).zipIdx, 1 ≤ x.1.1 / 256 ∧ x.1.1 / 256 ≤ 0x0F ∧ x.1.1 / 256 ≠ 0x0C ∧ x.1.2 ≠ 0 ∧
      ∀ e ∈ (policyEntries k).take x.2, e.1 ≠ x.1.1) →
    exec (.secPolicySet t c) s = .next (((s.unsealed t 0x0C05 c).updSec (fun x => { x with policy := policyEntries k })).done
      (s.takenCid t)) := by
  intro k h64 hes
  have hlen : c.opened.f 0 6 0 ≤ 64 := by simpa [k] using h64
  have hbad : (policyEntries k).zipIdx.filter (fun x => x.1.1 / 256 == 0x0C || x.1.1 / 256 == 0 || decide (0x0F < x.1.1 / 256) ||
      x.1.2 == 0 || ((policyEntries k).take x.2).any (fun e => e.1 == x.1.1)) = [] :=
    List.filter_eq_nil_iff.2 fun x hx => Bool.eq_false_iff.1 (policyEntry_taken (hes x hx))
  refine next_signed (d := secPolicySetDef) h rfl (show 1 + c.opened.f 0 6 0 ≤ 248 by omega) (fun _ => rfl) (fun _ => ?_) (fun _ => rfl)
  have hnone := congrArg (List.map (fun x : (Nat × Nat) × Nat => (0x11, 1 + x.2))) hbad
  simp only [secPolicySetDef, List.append_eq_nil_iff, failIf_eq_nil, secFails_eq_nil]
  exact ⟨⟨decide_eq_false (Nat.not_lt.2 h64), hnone⟩, hok⟩

theorem exec_secCosignKey (h : Signed 0x0C10 [0] s t c) (hok : s.secFailed = false) (hnone : s.sec.customer = none)
    (hsig : s.fwCosigned s.sec.bootSlot (wordsAt (c.opened.padded 24).words 0 24) = true) :
    exec (.secCosignKey t c) s = .next (((s.unsealed t 0x0C10 c).updSec (fun x => { x with
      customer := some (wordsAt (c.opened.padded 24).words 0 24) })).done (s.takenCid t)) :=
  next_secSigned h (by decide) (by simp [hok, hnone, hsig]) rfl

/-! ### Firmware, zeroisation and the debug port, in an envelope -/

theorem exec_secFwActivate (h : Signed 0x0C0B [0] s t c) (hok : s.secFailed = false)
    (hv : s.sec.verified.getD (c.opened.f 0 0 0) false = true) :
    exec (.secFwActivate t c) s = .next (((s.unsealed t 0x0C0B c).updSec (fun x => { x with nextSlot := c.opened.f 0 0 0 })).done
      (s.takenCid t)) :=
  next_secSigned h (by decide) (by simpa [hok] using hv) (by simp)

theorem exec_secSvnCommit (h : Signed 0x0C0C [0] s t c) (hok : s.secFailed = false) (hfb : s.sec.fallback = false)
    (h64 : s.sec.svnRun ≤ 64) :
    let n := max s.sec.svnOtp s.sec.svnRun
    exec (.secSvnCommit t c) s = .next (((s.unsealed t 0x0C0C c).updSec (fun x => { x with svnOtp := n })).done (s.takenCid t) [w32 n]) :=
  next_secSigned h (by decide) (by simp [hok, hfb, h64]) rfl

theorem exec_secZeroise (h : Signed 0x0C0E [0] s t c) (hok : s.secFailed = false) (hr : s.cap.run = .closed) :
    exec (.secZeroise t c) s = .next (((s.unsealed t 0x0C0E c).zeroise (c.opened.b 0 0)).done (s.takenCid t)) :=
  next_secSigned h (by decide) (by simp [hok, State.runOn_of_closed hr]) (by simp)

theorem exec_secDebug_unlock (h : Signed 0x0C0F [0] s t c) (hb : c.opened.b 0 0 = true) (hok : s.secFailed = false)
    (hr : s.cap.run = .closed) (hp : s.pwr.st = .ready) :
    exec (.secDebug t c) s = .next (((s.unsealed t 0x0C0F c).debugSet true).done (s.takenCid t)) :=
  next_secSigned h (by decide) (by simp [hok, State.runOn_of_closed hr, hp]) (by simp [hb])

/-! ### Bare commands: the identity, the audit log and the maps -/

theorem exec_secIdentity (h : Sent 0x0C01 [0] s t c) :
    exec (.secIdentity t c) s = .next ((s.taken t 0x0C01 c).identity (s.takenCid t)) :=
  next_sec h (Nat.zero_le _) rfl rfl

theorem exec_secCertRead (h : Sent 0x0C02 [0] s t c) (ha : c.w64 0 % 64 = 0) (hok : s.secFailed = false) :
    exec (.secCertRead t c) s = .next ((s.taken t 0x0C02 c).defer (s.takenCid t)) :=
  next_sec h (by decide) (by simp [ha, hok]) rfl

theorem exec_secAuditRead (h : Sent 0x0C06 [0] s t c) (ha : c.w64 2 % 64 = 0) :
    exec (.secAuditRead t c) s = .next ((s.taken t 0x0C06 c).defer (s.takenCid t)) :=
  next_sec h (by decide) (by simp [ha]) rfl

theorem exec_secAuditSign (h : Sent 0x0C07 [0] s t c) (hok : s.secFailed = false) :
    let r := (s.taken t 0x0C07 c).auditHead
    exec (.secAuditSign t c) s = .next (r.2.done (s.takenCid t) r.1) :=
  next_sec h (Nat.zero_le _) ((secFails_eq_nil _).2 hok) rfl

theorem exec_secMapSign (h : Sent 0x0C08 [0] s t c) (hok : s.secFailed = false) (hm : s.canSignMap = true) :
    exec (.secMapSign t c) s = .next ((s.taken t 0x0C08 c).signMap.done (s.takenCid t)) :=
  next_sec h (Nat.zero_le _) (by simp [hok, hm]) rfl

/-! ### Bare commands: firmware, self-tests and the debug port -/

theorem exec_secFwWrite (h : Sent 0x0C09 [0] s t c) :
    let k := c.padded 3
    k.w 1 % 4 = 0 → k.w 1 + 4 * (k.words.length - 2) ≤ fwSize → s.secFailed = false → k.f 0 0 0 ≠ s.sec.bootSlot →
    (s.taken t 0x0C09 c).flashBusy = false →
    exec (.secFwWrite t c) s = .next (((s.taken t 0x0C09 c).fwWrite (k.f 0 0 0) (k.w 1) (k.words.drop 2)).done (s.takenCid t)) := by
  intro k hword hend hok hslot hflash
  have hrange : (k.w 1 % 4 != 0 || decide (fwSize < k.w 1 + 4 * (k.words.length - 2))) = false := by simp [hword, hend]
  have hother : (k.f 0 0 0 == s.sec.bootSlot) = false := beq_false_of_ne hslot
  refine next_sec h (by decide) ?_ rfl
  simp only [List.append_eq_nil_iff, failIf_eq_nil, secFails_eq_nil]
  exact ⟨⟨⟨hrange, hok⟩, hother⟩, hflash⟩

theorem exec_secFwVerify (h : Sent 0x0C0A [0] s t c) (hok : s.secFailed = false) :
    exec (.secFwVerify t c) s = .next ((s.taken t 0x0C0A c).defer (s.takenCid t)) :=
  next_sec h (by decide) ((secFails_eq_nil _).2 hok) rfl

/-- An operational module tests itself outside runs, a failed one while it may still recover (R503). -/
theorem exec_secSelftest (h : Sent 0x0C0D [0] s t c) (hrun : s.secFailed = false → s.cap.run = .closed)
    (hrec : s.secFailed = true → s.sec.permanent = false ∧ s.sec.recoveries < 3) :
    let u := (s.taken t 0x0C0D c).defer (s.takenCid t)
    exec (.secSelftest t c) s = .next (if u.sec.test.isSome then u else u.testStart (.command (s.takenCid t))) := by
  refine next_sec h (Nat.zero_le _) ?_ rfl
  cases hs : s.secFailed with
  | false => simp [hs, State.runOn_of_closed (hrun hs)]
  | true =>
    obtain ⟨hperm, hleft⟩ := hrec hs
    simp [hs, hperm, Nat.not_le.2 hleft]

theorem exec_secDebug_lock (h : Sent 0x0C0F [0] s t c) (hb : c.b 0 0 = false) (hok : s.secFailed = false) :
    exec (.secDebug t c) s = .next (((s.taken t 0x0C0F c).debugSet false).done (s.takenCid t)) :=
  next_sec h (by decide) (by simp [hok, hb]) (by simp [hb])

end

/-- Settles O24: each command passes its checks in its envelope; SEC_RMK goes by its operation, and by whether the wrapped key opens. -/
theorem signedSecurityCommands : Obligations.SignedSecurityCommands := by
  unfold Obligations.SignedSecurityCommands
  intro s t c
  refine ⟨fun h hrole hcurve hok => ?_, fun h hrole hb hcurve hok => ?_, fun h hok hr => ?_, exec_secPolicySet,
    exec_secFwActivate, exec_secSvnCommit, exec_secZeroise, exec_secDebug_unlock, exec_secCosignKey⟩
  · exact (exec_secRoleKey_signed h hrole hcurve hok).trans (by rw [State.roleKeySet_eq]; rfl)
  · exact (exec_secRoleKey_first h hrole hb hcurve hok).trans (by rw [State.roleKeySet_of_officer hrole hb]; rfl)
  · have he := exec_secRmk h hok hr
    simp only [Cmd.padded_f]
    refine ⟨fun h0 => ?_, fun h1 ho => ?_, fun h1 ho => ?_, fun h2 => ?_⟩
    · exact (he (by omega)).trans (congrArg _ (State.rmkRun_of_generate (by rwa [Cmd.padded_f])))
    · rw [he (by omega), State.rmkRun_of_unwrap (by rwa [Cmd.padded_f]), if_pos ho]
    · rw [he (by omega), State.rmkRun_of_unwrap (by rwa [Cmd.padded_f]), ho]
      rfl
    · rw [he (by omega), State.rmkRun_of_wrap (by rwa [Cmd.padded_f])]

/-- Settles O25: each command passes its checks with no envelope. -/
theorem otherSecurityCommands : Obligations.OtherSecurityCommands := by
  unfold Obligations.OtherSecurityCommands
  intro s t c
  exact ⟨exec_secIdentity, exec_secCertRead, exec_secAuditRead, exec_secAuditSign, exec_secMapSign, exec_secFwWrite, exec_secFwVerify,
    exec_secSelftest, exec_secDebug_lock⟩

end Sys2Proof.Machine
end

section
/-! PROOFS. The invariant of every step (R515, R518, R537): a step is the front command run on the rest of the queue, and every row keeps
soundness. That slots 56 to 63 hold critical faults only is the model's choice (log entry 22). -/

namespace Sys2Proof.Machine

theorem step_of_nil {s : State} (h : s.pending = []) : step s = .next s := by
  simp only [step, h]

theorem step_of_cons {s : State} {i : Instr} {rest : List Instr} (h : s.pending = i :: rest) :
    step s = exec i { s with pending := rest } := by
  simp only [step, h]

/-- The queue of commands is no part of soundness. -/
theorem sound_pending {s : State} (h : sound s) (rest : List Instr) : sound { s with pending := rest } := h

/-- Settles O3: a step on an empty queue changes nothing, and any other is a row, which keeps soundness whatever the row. -/
theorem everyStepKeepsSoundness : Obligations.EveryStepKeepsSoundness := by
  unfold Obligations.EveryStepKeepsSoundness
  intro s t hs hstep
  cases hq : s.pending with
  | nil =>
    obtain rfl : s = t := Host.Outcome.next.inj ((step_of_nil hq).symm.trans hstep)
    exact hs
  | cons i rest =>
    have keeps : Keeps { s with pending := rest } t := exec_keeps ((step_of_cons hq).symm.trans hstep)
    exact keeps.sound (sound_pending hs rest)

end Sys2Proof.Machine
end

section
/-! PROOFS. Counter clears (R537, R539, R371): a clear drops the keys of the counters that its mask names, at every index of theirs, from
the counter store, and replies DONE without words (log entry 81). -/

namespace Sys2Proof.Machine

/-! ### What a clear drops -/

/-- The keys of the counters of group g that a mask names, at every index of theirs. -/
def clearedKeys (g mask : Nat) : List Nat :=
  ((groupCtrs g).zipIdx.filter (fun x => mask.testBit x.2)).flatMap (fun x => (List.range x.1.insts).map x.1.key)

theorem mem_clearedKeys {g mask k : Nat} : k ∈ clearedKeys g mask ↔
    ∃ x ∈ (groupCtrs g).zipIdx, mask.testBit x.2 = true ∧ ∃ i < x.1.insts, k = x.1.key i := by
  simp only [clearedKeys, List.mem_flatMap, List.mem_filter, List.mem_map, List.mem_range, and_assoc, eq_comm (b := k)]

theorem State.clearCounters_eq (s : State) (g mask : Nat) :
    s.clearCounters g mask = { s with cnt := (clearedKeys g mask).foldl Sparse.drop s.cnt } := by
  simp only [State.clearCounters, clearedKeys, List.foldl_flatMap, List.foldl_map]

theorem Sparse.get_dropAll {α : Type} (d : α) (k : Nat) : ∀ (ks : List Nat) (m : Sparse α),
    Sparse.get (ks.foldl Sparse.drop m) d k = if k ∈ ks then d else Sparse.get m d k
  | [], _ => by simp
  | j :: ks, m => by
    rw [List.foldl_cons, Sparse.get_dropAll d k ks]
    by_cases h : k = j
    · simp [h, Sparse.get_drop_self]
    · simp [h, Sparse.get_drop_ne]

/-- In the counter store m, the counters of group g that a mask names are 0 at every index, and every other counter is as in the store
    m₀ (R537). -/
def Clears (g mask : Nat) (m₀ m : Sparse Nat) : Prop :=
  (∀ x ∈ (groupCtrs g).zipIdx, mask.testBit x.2 = true → ∀ i < x.1.insts, Sparse.get m 0 (x.1.key i) = 0) ∧
  (∀ k, (∀ x ∈ (groupCtrs g).zipIdx, mask.testBit x.2 = true → ∀ i < x.1.insts, k ≠ x.1.key i) →
    Sparse.get m 0 k = Sparse.get m₀ 0 k)

theorem clears_dropAll (g mask : Nat) (m : Sparse Nat) : Clears g mask m ((clearedKeys g mask).foldl Sparse.drop m) := by
  refine ⟨fun x hx hbit i hi => ?_, fun k hk => ?_⟩
  · rw [Sparse.get_dropAll, if_pos (mem_clearedKeys.2 ⟨x, hx, hbit, i, hi, rfl⟩)]
  · rw [Sparse.get_dropAll, if_neg]
    intro hmem
    obtain ⟨x, hx, hbit, i, hi, e⟩ := mem_clearedKeys.1 hmem
    exact hk x hx hbit i hi e

/-! ### The drops of the queues (R371) -/

/-- A queue with its count of drops at 0. -/
def Queue.noDrops (x : Queue) : Queue := { x with drops := 0 }

theorem Queue.noDrops_reset : Queue.reset.noDrops = Queue.reset := rfl

theorem queue_foldl_noDrops (q : Nat) : ∀ (l : List Nat) (s : State),
    (l.foldl (fun (s : State) k => s.updQueue k Queue.noDrops) s).queue q = if q ∈ l then (s.queue q).noDrops else s.queue q
  | [], _ => by simp
  | k :: l, s => by
    rw [List.foldl_cons, queue_foldl_noDrops q l]
    by_cases h : q = k
    · subst h
      simp [Queue.noDrops]
    · simp [h, State.queue_updQueue_ne]

/-- Updates of queues change nothing but the queues. -/
theorem foldl_updQueue_eq (f : Queue → Queue) : ∀ (l : List Nat) (s : State),
    l.foldl (fun (s : State) k => s.updQueue k f) s =
      { s with hq := { s.hq with queues := (l.foldl (fun (s : State) k => s.updQueue k f) s).hq.queues } }
  | [], _ => rfl
  | k :: l, s => by
    rw [List.foldl_cons, foldl_updQueue_eq f l]
    rfl

theorem Sparse.get_of_not_mem {α : Type} {d : α} {k : Nat} : ∀ {m : Sparse α}, k ∉ m.map (fun e => e.1) → Sparse.get m d k = d
  | [], _ => rfl
  | (j, v) :: m, h => by
    obtain ⟨hj, hm⟩ := not_or.1 (mt List.mem_cons.2 h)
    rw [Sparse.get, if_neg (Ne.symm hj), Sparse.get_of_not_mem hm]

/-- A clear of the queue counters drops the counters its mask names, and with bit 31 sets the drops of every queue to 0: a queue that the
    store does not list is as after reset, with none. -/
theorem State.clearQueueCounters_eq (s : State) (mask : Nat) : ∃ qs,
    s.clearQueueCounters mask = { s.clearCounters 7 mask with hq := { s.hq with queues := qs } } ∧
    ∀ q, Sparse.get qs Queue.reset q = if mask.testBit 31 then { s.queue q with drops := 0 } else s.queue q := by
  cases hb : mask.testBit 31 with
  | false =>
    refine ⟨s.hq.queues, ?_, fun _ => rfl⟩
    simp only [State.clearQueueCounters, natBit, hb]
    rfl
  | true =>
    have hrun : s.clearQueueCounters mask =
        (s.hq.queues.map (fun e => e.1)).foldl (fun (s : State) k => s.updQueue k Queue.noDrops) (s.clearCounters 7 mask) := by
      simp only [State.clearQueueCounters, natBit, hb, if_true]
      rfl
    refine ⟨_, hrun.trans (foldl_updQueue_eq _ _ _), fun q => ?_⟩
    refine (queue_foldl_noDrops q _ (s.clearCounters 7 mask)).trans ?_
    split
    · rfl
    · next hq =>
      have hreset : s.queue q = Queue.reset := Sparse.get_of_not_mem hq
      calc s.queue q = Queue.reset := hreset
        _ = Queue.reset.noDrops := Queue.noDrops_reset.symm
        _ = (s.queue q).noDrops := by rw [hreset]

/-! ### The commands -/

section
variable {s : State} {t : Nat} {c : Cmd}

theorem next_clear {op g : Nat} (h : Sent op [0] s t c) : ∃ m,
    (.next (runHost (clearDef op g) t c s) : Host.Outcome State Fault Refusal) =
      .next (({ s.taken t op c with cnt := m } : State).done (s.takenCid t)) ∧ Clears g (c.w 0) s.cnt m :=
  ⟨_, congrArg Host.Outcome.next ((runHost_clear h).trans (by rw [State.clearCounters_eq]; rfl)), clears_dropAll g (c.w 0) s.cnt⟩

theorem exec_hqCountersClear (h : Sent 0x070C [0] s t c) : exec (.hqCountersClear t c) s =
    .next (((s.taken t 0x070C c).clearQueueCounters (c.w 0)).done (s.takenCid t)) :=
  next_plain (d := hqCountersClearDef) h (p := .immediate) rfl (show 1 ≤ 248 by decide) rfl rfl (by simp [hqCountersClearDef])

end

/-- Settles O11: each clear drops what its mask names; HQ_COUNTERS_CLEAR goes by bit 31 for the drops of the queues. -/
theorem counterClears : Obligations.CounterClears := by
  unfold Obligations.CounterClears
  intro s t c
  refine ⟨next_clear, next_clear, next_clear, next_clear, next_clear, next_clear, next_clear, next_clear, next_clear, next_clear,
    next_clear, next_clear, next_clear, next_clear, fun h => ?_⟩
  obtain ⟨qs, he, hqs⟩ := (s.taken t 0x070C c).clearQueueCounters_eq (c.w 0)
  refine ⟨_, qs, (exec_hqCountersClear h).trans ?_, clears_dropAll 7 (c.w 0) s.cnt, hqs⟩
  rw [he, State.clearCounters_eq]
  rfl

end Sys2Proof.Machine
end

section
/-! PROOFS. Commands that only read: motion, auxiliary channels, health, trims, counters, the cascade and power (chapters 10, 11 and 14 to
16; log entries 99 and 108 for the factory records of trims, which are opaque, zeros where none is valid). The fetch changes nothing that
their words show. -/

namespace Sys2Proof.Machine

/-! ### What the words read of the state before the fetch -/

section
variable (s : State) (t op : Nat) (c : Cmd)

@[simp] theorem taken_axisWords (a : Nat) : (s.taken t op c).axisWords a = s.axisWords a := rfl
@[simp] theorem taken_slotWords (i : Nat) : (s.taken t op c).slotWords i = s.slotWords i := rfl
@[simp] theorem taken_trimRecord (fac : Bool) (kind i : Nat) : (s.taken t op c).trimRecord fac kind i = s.trimRecord fac kind i := rfl

end

section
variable {s : State} {t : Nat} {c : Cmd}

/-! ### Motion and auxiliary channels -/

theorem exec_motStatus (h : Sent 0x090B [0] s t c) : exec (.motStatus t c) s = s.answered t 0x090B c (s.axisWords (c.f 0 2 0)) :=
  next_status h (by decide) (fun _ => rfl) (by simp [cmdAxis])

theorem exec_auxStatus (h : Sent 0x0B07 [0] s t c) : exec (.auxStatus t c) s = s.answered t 0x0B07 c (s.taken t 0x0B07 c).auxWords :=
  next_status h (by decide) (fun _ => rfl) rfl

/-! ### Health, faults, trims and counters -/

theorem exec_hltStatus (h : Sent 0x0D01 [0] s t c) : exec (.hltStatus t c) s = s.answered t 0x0D01 c s.hltWords :=
  next_status h (by decide) (fun _ => rfl) rfl

theorem exec_hltFaultRead (h : Sent 0x0D02 [0] s t c) (h0 : c.f 0 12 8 ≠ 0) (h64 : c.f 0 5 0 + c.f 0 12 8 ≤ 64) :
    exec (.hltFaultRead t c) s =
      s.answered t 0x0D02 c ((List.range (c.f 0 12 8)).flatMap (fun i => s.slotWords (c.f 0 5 0 + i))) :=
  next_status h (by decide) (fun _ => by simp [h0, h64]) (by simp)

theorem exec_hltMonitorRead (h : Sent 0x0D06 [0] s t c) : exec (.hltMonitorRead t c) s = s.answered t 0x0D06 c s.monitorWords :=
  next_status h (by decide) (fun _ => rfl) rfl

theorem exec_hltTrimRead (h : Sent 0x0D09 [0] s t c) (hkind : kindCount (c.f 0 7 0) ≠ 0) (hfirst : c.f 0 23 8 < kindCount (c.f 0 7 0))
    (h0 : c.f 1 5 0 ≠ 0) (h63 : c.f 1 5 0 ≠ 63) (hlast : c.f 0 23 8 + c.f 1 5 0 ≤ kindCount (c.f 0 7 0)) :
    exec (.hltTrimRead t c) s = s.answered t 0x0D09 c
      ((List.range (c.f 1 5 0)).flatMap (fun i => s.trimRecord (c.b 0 24) (c.f 0 7 0) (c.f 0 23 8 + i))) :=
  next_status h (by decide) (fun _ => by simp [hkind, hfirst, h0, h63, hlast]) (by simp)

theorem exec_hltCountersRead (h : Sent 0x0D0A [0] s t c) (h0 : c.f 0 27 20 ≠ 0) (h248 : c.f 0 27 20 ≤ 248)
    (hend : c.f 0 19 8 + c.f 0 27 20 ≤ (groupIndex (c.f 0 7 0)).length) :
    exec (.hltCountersRead t c) s =
      s.answered t 0x0D0A c (((s.counterWords (c.f 0 7 0)).drop (c.f 0 19 8)).take (c.f 0 27 20)) :=
  next_status h (by decide) (fun _ => by simp [h0, h248, hend]) (by simp)

/-! ### The cascade and power -/

theorem exec_askStatus (h : Sent 0x0E03 [0] s t c) : exec (.askStatus t c) s = s.answered t 0x0E03 c (s.taken t 0x0E03 c).askWords :=
  next_status h (by decide) (fun _ => rfl) rfl

theorem exec_pwrStatus (h : Sent 0x0F01 [0] s t c) : exec (.pwrStatus t c) s = s.answered t 0x0F01 c s.pwrWords :=
  next_status h (by decide) (fun _ => rfl) rfl

end

/-- Word 1 of HLT_STATUS holds the number of live faults of each class in a byte of its own (chapter 14). -/
theorem State.hltWords_eq (s : State) : s.hltWords =
    [w32 (s.hlt.therm + 65536 * ofSigned 16 s.hlt.tempMax),
      w32 (((List.range 4).map (fun k => 2 ^ (8 * k) * min 255 (s.hlt.faults.filter (fun f => f.cls == k)).length)).foldl
        (fun (a b : Nat) => a + b) 0),
      w32 (s.cntOf .HLT_FAULT_OVERFLOWS),
      w32 (s.exhausted 1 + 2 ^ 8 * s.exhausted 2 + 2 ^ 16 * s.exhausted 4 + 2 ^ 24 * s.exhausted 5), w32 s.hlt.trimRuns] ++
      Word.ofNat64 s.hlt.trimTime := by
  simp [State.hltWords, List.range_succ]

/-- Settles O10: each command passes its checks, and its words are those of the state before the fetch, or of its instant. -/
theorem motionHealthAndPowerReads : Obligations.MotionHealthAndPowerReads := by
  unfold Obligations.MotionHealthAndPowerReads
  intro s t c
  exact ⟨exec_motStatus, exec_auxStatus, fun h => (exec_hltStatus h).trans (by rw [State.hltWords_eq]), exec_hltFaultRead,
    exec_hltMonitorRead, exec_hltTrimRead, exec_hltCountersRead, exec_askStatus, exec_pwrStatus⟩

end Sys2Proof.Machine
end

section
/-! PROOFS. The state after reset (R515, R537, R571, R577; log entries 4 and 5 for the contents that the spec leaves open): it is sound, and
it holds no work. -/

namespace Sys2Proof.Machine

theorem memoriesCanonical_reset : memoriesCanonical State.reset = true := rfl

theorem countersBounded_of_nil {s : State} (h : s.cnt = []) : countersBounded s := by
  simp [countersBounded, h, Sparse.wf, Sparse.wfFrom]

theorem faultQueueOk_nil : faultQueueOk [] :=
  ⟨List.forall_mem_nil _, List.nodup_nil, List.nodup_nil⟩

theorem shaped_reset : shaped State.reset := rfl

theorem sound_reset : sound State.reset :=
  ⟨memoriesCanonical_reset, countersBounded_of_nil rfl, faultQueueOk_nil, shaped_reset⟩

/-- The six rings of R441 are alike after reset. -/
theorem ring_reset {r : Nat} (h : r < 6) : State.reset.ring r = Ring.reset := List.getD_replicate _ h

theorem cntOf_reset (x : Ctr) (i : Nat) : State.reset.cntOf x i = 0 := Sparse.get_nil 0 (x.key i)

/-- No command waits, runs or has a reply to write, no fault is live and no event source waits for a slot. The last is part of the words
of O2 and of no clause of its statement. -/
theorem reset_holdsNoWork : State.reset.pending = [] ∧ State.reset.hlt.faults = [] ∧ State.reset.host.outst = [] ∧
    State.reset.host.store = [] ∧ State.reset.host.evWait = [] :=
  ⟨rfl, rfl, rfl, rfl, rfl⟩

/-- Settles O2: the empty memories, counters and fault queue are sound, the hardware's numbers are those of reset itself, and what reads a
list that reset empties or fills alike finds the value after reset. -/
theorem resetIsSound : Obligations.ResetIsSound := by
  unfold Obligations.ResetIsSound
  obtain ⟨hpending, hfaults, houtst, hstore, -⟩ := reset_holdsNoWork
  refine ⟨sound_reset, hpending, rfl, rfl, fun r hr => ?_, cntOf_reset, fun a => ?_, hfaults, houtst, hstore⟩
  · rw [ring_reset hr]; rfl
  · exact ⟨Sparse.get_nil 0 a, Sparse.get_nil 0 a, Sparse.get_nil 0 a⟩

end Sys2Proof.Machine
end

section
/-! PROOFS. What a step is (log entry 10: the queue of commands is the model's own form, no rule of the spec): with a command at the front
of the queue, that command's row on the rest of the queue; with nothing waiting, no change. -/

namespace Sys2Proof.Machine

/-- Settles O1: the two equations of `step`, one for each form of the queue. -/
theorem stepRunsFrontCommand : Obligations.StepRunsFrontCommand := by
  unfold Obligations.StepRunsFrontCommand
  intro s
  exact ⟨fun i rest hq => step_of_cons hq, fun hq => step_of_nil hq⟩

end Sys2Proof.Machine
end
